-- ==== Sys2Proof/Word.lean ====
section
/-! DEFINITION. The word types of the GL-7264 model. -/
namespace Sys2Proof

/-- One byte of memory. -/
abbrev Byte := BitVec 8

/-- A 32-bit word: a vector lane, an accumulator element, a register word of a page. -/
abbrev W32 := BitVec 32

/-- A 64-bit word: a scalar register of a tile, an instruction word, a rack address. -/
abbrev W64 := BitVec 64

end Sys2Proof
end

