-- ==== Sys2Proof/Payload.lean ====
section
/-! DEFINITION. What commands carry: the packets, ordered sets, control messages, fault reports and requests that reach
the package from outside, with the fields the spec gives them. -/
namespace Sys2Proof

/-- A Score entry (R157, R158): its five words.
Log entry 79 (DESIGN CHOICE, unsafe). -/
structure ScoreEntry where
  launch : Nat
  action : Nat
  target : Nat
  desc : Nat
  barw : Nat
deriving DecidableEq, Repr

/-- A fabric packet (R348): the header fields and the payload bytes. -/
structure Packet where
  type : Nat
  vc : Nat
  rkind : Nat
  rslot : Nat
  src : Nat
  gen : Nat
  dst : Nat
  via : Nat
  priv : Bool
  last : Bool
  status : Nat
  acode : Nat
  tenant : Nat
  part : Nat
  addr : Nat
  len : Nat
  tag : Nat
  fence : Nat
  lease : Nat
  injTick : Nat
  payload : List Byte
deriving DecidableEq, Repr

/-- How a control message arrived (R370): the quad, its source and destination slot and its INJ_TICK. -/
structure CtrlIn where
  quad : Fin 36
  src : Fin 64
  dst : Fin 64
  injTick : Nat
deriving DecidableEq, Repr

/-- A timestamp ordered set (R150). -/
structure TsSet where
  srcSlot : Nat
  masterSlot : Nat
  tbmEn : Bool
  isMaster : Bool
  sync : Nat
  stratum : Nat
  partEn : Nat
  partActive : Nat
  txTime : Nat
  echoTx : Nat
  echoRx : Nat
deriving DecidableEq, Repr

/-- What a LINK unit acknowledges and gives back (R345): ACK_SEQ, and CRED0 to CRED4. -/
structure LinkAck where
  ack : Nat
  cred : List Nat
deriving DecidableEq, Repr

/-- An IDENT set (R340). -/
structure IdentSet where
  slot : Nat
  linkNo : Nat
  lane : Nat
  good : Nat
  safe : Bool
  refuse : Bool
  serial : Nat
deriving DecidableEq, Repr

/-- An IDENT set and the lane of this end that received it (R340). -/
structure IdentRx where
  lane : Fin 8
  set : IdentSet
deriving DecidableEq, Repr

/-- The reader of a crossing, and the tick since which that crossing has been full with no entry read (R42). -/
structure FullCrossing where
  reader : Fin 401
  since : BitVec 64
deriving DecidableEq, Repr

/-- A channel group whose training is looked at, the temperature that its controller reads and the refresh-rate code of MR4 (R221, R226). -/
structure GroupReading where
  group : Fin 32
  temp : BitVec 8
  mr4 : BitVec 3
deriving DecidableEq, Repr

/-- What memory training found: the groups that failed, by bit, and the temperature that the controllers read (R221, R475). -/
structure MemTrained where
  failed : BitVec 32
  temp : BitVec 8
deriving DecidableEq, Repr

/-- A fault report as it reaches FCOL: page, code, island, detail and partition. -/
structure Report where
  page : Nat
  code : Nat
  island : Nat
  detail : Nat
  part : Option Nat
deriving DecidableEq, Repr

/-- Where an atomic comes from: the DATOM instruction of a tile, with its code in OFFSET[3:0] and OFFSET[31:4] zero (R114), or an ATOM packet that
a fabric quad received (R349). -/
inductive AtomSrc where
  | datom (tile : Fin 288) (sa sb : BitVec 5) (tag : BitVec 4) (off : BitVec 32)
  | packet (quad : Fin 36) (p : Packet)
deriving DecidableEq, Repr

/-- Who acknowledges an invalidation (R203): a slice of this package for a running thaw, another package for it, or a slice
of this package for the thaw of another package's frames. -/
inductive ThawAck where
  | slice (run : Fin 16) (s : Fin 32)
  | peer (run : Fin 16) (slot : Fin 64)
  | foreign (slot : Fin 64) (first count : Nat) (s : Fin 32)
deriving DecidableEq, Repr

/-- What hardware finds wrong in itself: a fault of a block as it reports it; a double-bit error in the bytes of tile SRAM that TDMA reads
next (R92); a link ECC correction of a channel (R226); in a slice, a data error that is corrected, and one that is not or a tag parity error,
which costs the line or its whole set (R212). -/
inductive HwFind where
  | fault (r : Report)
  | tdmaUe (t : Fin 288)
  | linkCe (ch : Fin 256)
  | sliceCe (s : Fin 32)
  | sliceLost (s : Fin 32) (line : BitVec 40) (whole : Bool)
deriving DecidableEq, Repr

/-- What the fuses of a part hold (R482), with the values that are fused per part: the core voltages VNOM and VBOOST in mV
(R421) and the power calibration P_IDLE and P_FULL (R408). -/
structure Fuses where
  keyValid : Nat
  keyRevoke : Nat
  svn : Nat
  test : Bool
  serial : Nat
  keyHash : List (List Byte)
  vnom : Nat
  vboost : Nat
  pIdle : Nat
  pFull : Nat
deriving DecidableEq, Repr

/-- The agents that write and read registers (R20, R498, R515). -/
inductive Agent where
  | host | mgmt | i3c | pldm
deriving DecidableEq, Repr

end Sys2Proof
end

