-- ==== Sys2Proof/Syntax.lean ====
section
/-! DEFINITION. The commands of the package: one constructor per row of the spec's table of commands, in the table's order. -/
namespace Sys2Proof

/-- A command. Units are numbered as the spec numbers them: tiles, partitions and memory controllers, slices, quads, links, clusters,
islands, pages, slots; registers of a tile by their 5-bit number, immediates and offsets by their fields of R98.
Log entry 77 (DESIGN CHOICE, safe). -/
inductive Instr where
  /-- REGISTER_WRITE (R27). -/
  | registerWrite (p : Fin 4096) (w : Fin 1024) (v : BitVec 32) (a : Agent)
  /-- KEY_WRITE (R21). -/
  | keyWrite (p : Fin 4096) (v : BitVec 32) (a : Agent)
  /-- ENABLE_SET (R32). -/
  | enableSet (p : Fin 4096) (a : Agent)
  /-- ENABLE_CLEAR (R32). -/
  | enableClear (p : Fin 4096) (a : Agent)
  /-- QUIESCE (R32). -/
  | quiesce (p : Fin 4096) (a : Agent)
  /-- RESUME (R32). -/
  | resume (p : Fin 4096) (a : Agent)
  /-- EXPERT_SET (R22). -/
  | expertSet (p : Fin 4096) (a : Agent)
  /-- EXPERT_CLEAR (R25). -/
  | expertClear (p : Fin 4096) (a : Agent)
  /-- ISR_CLEAR (R17). -/
  | isrClear (p : Fin 4096) (v : BitVec 32) (a : Agent)
  /-- QUIESCE_DRAINED (R32). -/
  | quiesceDrained (p : Fin 4096)
  /-- QUIESCE_TIMEOUT (R30). -/
  | quiesceTimeout (p : Fin 4096)
  /-- IDLE_COMMIT (R31). -/
  | idleCommit (p : Fin 4096)
  /-- ISLAND_HUNG (R42). -/
  | islandHung (writer : Fin 401) (full : FullCrossing)
  /-- STEP_START_TICK (R49). -/
  | stepStartTick (k : Fin 16) (toks : List (Nat × List Nat))
  /-- IDLE_POLL (R300). -/
  | idlePoll (k : Fin 16)
  /-- DELIVER (R321). -/
  | deliver (k : Fin 16) (toks : List (Nat × List Nat))
  /-- ADD (R99). -/
  | add (t : Fin 288) (sd sa sb : BitVec 5)
  /-- SUB (R99). -/
  | sub (t : Fin 288) (sd sa sb : BitVec 5)
  /-- AND (R99). -/
  | andW (t : Fin 288) (sd sa sb : BitVec 5)
  /-- OR (R99). -/
  | orW (t : Fin 288) (sd sa sb : BitVec 5)
  /-- XOR (R99). -/
  | xorW (t : Fin 288) (sd sa sb : BitVec 5)
  /-- SHL (R99). -/
  | shl (t : Fin 288) (sd sa sb : BitVec 5)
  /-- SHR (R99). -/
  | shr (t : Fin 288) (sd sa sb : BitVec 5)
  /-- SRA (R99). -/
  | sra (t : Fin 288) (sd sa sb : BitVec 5)
  /-- MUL (R99). -/
  | mul (t : Fin 288) (sd sa sb : BitVec 5)
  /-- SLT (R99). -/
  | slt (t : Fin 288) (sd sa sb : BitVec 5)
  /-- SLTU (R99). -/
  | sltu (t : Fin 288) (sd sa sb : BitVec 5)
  /-- MIN (R99). -/
  | min (t : Fin 288) (sd sa sb : BitVec 5)
  /-- MAX (R99). -/
  | max (t : Fin 288) (sd sa sb : BitVec 5)
  /-- ADDI (R99). -/
  | addi (t : Fin 288) (sd sa : BitVec 5) (imm : BitVec 32)
  /-- ANDI (R99). -/
  | andi (t : Fin 288) (sd sa : BitVec 5) (imm : BitVec 32)
  /-- ORI (R99). -/
  | ori (t : Fin 288) (sd sa : BitVec 5) (imm : BitVec 32)
  /-- XORI (R99). -/
  | xori (t : Fin 288) (sd sa : BitVec 5) (imm : BitVec 32)
  /-- SHLI (R99). -/
  | shli (t : Fin 288) (sd sa : BitVec 5) (imm : BitVec 32)
  /-- SHRI (R99). -/
  | shri (t : Fin 288) (sd sa : BitVec 5) (imm : BitVec 32)
  /-- SRAI (R99). -/
  | srai (t : Fin 288) (sd sa : BitVec 5) (imm : BitVec 32)
  /-- LUI (R99). -/
  | lui (t : Fin 288) (sd sa : BitVec 5) (imm : BitVec 32)
  /-- LD (R99). -/
  | ld (t : Fin 288) (sd sa : BitVec 5) (imm : BitVec 32)
  /-- ST (R99). -/
  | st (t : Fin 288) (sa sb : BitVec 5) (imm : BitVec 32)
  /-- LW (R99). -/
  | lw (t : Fin 288) (sd sa : BitVec 5) (imm : BitVec 32)
  /-- SW (R99). -/
  | sw (t : Fin 288) (sa sb : BitVec 5) (imm : BitVec 32)
  /-- BEQ (R99). -/
  | beq (t : Fin 288) (sa sb : BitVec 5) (imm : BitVec 32)
  /-- BNE (R99). -/
  | bne (t : Fin 288) (sa sb : BitVec 5) (imm : BitVec 32)
  /-- BLT (R99). -/
  | blt (t : Fin 288) (sa sb : BitVec 5) (imm : BitVec 32)
  /-- BGE (R99). -/
  | bge (t : Fin 288) (sa sb : BitVec 5) (imm : BitVec 32)
  /-- JAL (R99). -/
  | jal (t : Fin 288) (sd : BitVec 5) (imm : BitVec 32)
  /-- JR (R99). -/
  | jr (t : Fin 288) (sa : BitVec 5)
  /-- CSRR (R100). -/
  | csrr (t : Fin 288) (sd : BitVec 5) (w : BitVec 8)
  /-- MLW (R101). -/
  | mlw (t : Fin 288) (sa fmt : BitVec 5) (buf : Bool) (off : BitVec 32)
  /-- MMA (R101). -/
  | mma (t : Fin 288) (sa sm fmt : BitVec 5) (acc : BitVec 3) (start buf : Bool) (off : BitVec 32)
  /-- MZP (R101). -/
  | mzp (t : Fin 288) (sa sz : BitVec 5) (opnd rowwise : Bool) (off : BitVec 32)
  /-- MSPILL (R101). -/
  | mspill (t : Fin 288) (sa : BitVec 5) (acc : BitVec 3) (off : BitVec 32)
  /-- MFILL (R101). -/
  | mfill (t : Fin 288) (sa : BitVec 5) (acc : BitVec 3) (off : BitVec 32)
  /-- MZERO (R101). -/
  | mzero (t : Fin 288) (acc : BitVec 3)
  /-- VADD (R104). -/
  | vadd (t : Fin 288) (vd va vb : BitVec 5) (bs : Bool) (sb : BitVec 5)
  /-- VSUB (R104). -/
  | vsub (t : Fin 288) (vd va vb : BitVec 5) (bs : Bool) (sb : BitVec 5)
  /-- VMUL (R104). -/
  | vmul (t : Fin 288) (vd va vb : BitVec 5) (bs : Bool) (sb : BitVec 5)
  /-- VFMA (R104). -/
  | vfma (t : Fin 288) (vd va vb vc : BitVec 5) (bs : Bool) (sb : BitVec 5)
  /-- VMAX (R104). -/
  | vmax (t : Fin 288) (vd va vb : BitVec 5) (bs : Bool) (sb : BitVec 5)
  /-- VMIN (R104). -/
  | vmin (t : Fin 288) (vd va vb : BitVec 5) (bs : Bool) (sb : BitVec 5)
  /-- VABS (R104). -/
  | vabs (t : Fin 288) (vd va : BitVec 5)
  /-- VNEG (R104). -/
  | vneg (t : Fin 288) (vd va : BitVec 5)
  /-- VCMPLT (R104). -/
  | vcmplt (t : Fin 288) (vd va vb : BitVec 5) (bs : Bool) (sb : BitVec 5)
  /-- VCMPEQ (R104). -/
  | vcmpeq (t : Fin 288) (vd va vb : BitVec 5) (bs : Bool) (sb : BitVec 5)
  /-- VSEL (R104). -/
  | vsel (t : Fin 288) (vd va vb vc : BitVec 5) (bs : Bool) (sb : BitVec 5)
  /-- VMOV (R104). -/
  | vmov (t : Fin 288) (vd va : BitVec 5)
  /-- VRSUM (R104). -/
  | vrsum (t : Fin 288) (vd va : BitVec 5)
  /-- VRMAX (R104). -/
  | vrmax (t : Fin 288) (vd va : BitVec 5)
  /-- VIOTA (R104). -/
  | viota (t : Fin 288) (vd : BitVec 5)
  /-- VBCAST (R104). -/
  | vbcast (t : Fin 288) (vd sb : BitVec 5)
  /-- VFN (R107). -/
  | vfn (t : Fin 288) (vd va fn : BitVec 5)
  /-- VLD (R105). -/
  | vld (t : Fin 288) (vd sa fmt : BitVec 5) (j : BitVec 6)
  /-- VST (R105). -/
  | vst (t : Fin 288) (vd sa fmt : BitVec 5) (rnd : BitVec 3) (sat : Bool) (j : BitVec 6)
  /-- VLDA (R104). -/
  | vlda (t : Fin 288) (vd : BitVec 5) (acc : BitVec 3) (j : BitVec 6)
  /-- VSTA (R104). -/
  | vsta (t : Fin 288) (vd : BitVec 5) (acc : BitVec 3) (j : BitVec 6)
  /-- VLDL (R104). -/
  | vldl (t : Fin 288) (vd sa : BitVec 5) (imm : BitVec 14)
  /-- VSTL (R104). -/
  | vstl (t : Fin 288) (vd sa : BitVec 5) (imm : BitVec 14)
  /-- VSRCTX (R106). -/
  | vsrctx (t : Fin 288) (sa sb : BitVec 5)
  /-- VEXT (R104). -/
  | vext (t : Fin 288) (sd va : BitVec 5) (i : BitVec 8)
  /-- XTOPK (R109). -/
  | xtopk (t : Fin 288) (sd sa : BitVec 5)
  /-- XSORT (R110). -/
  | xsort (t : Fin 288) (sd sa : BitVec 5)
  /-- XSAMPLE (R112). -/
  | xsample (t : Fin 288) (sd sa : BitVec 5)
  /-- XPHILOX (R111). -/
  | xphilox (t : Fin 288) (sd sa : BitVec 5)
  /-- DRD (R114). -/
  | drd (t : Fin 288) (sa sb sl : BitVec 5) (tag : BitVec 4) (off : BitVec 32)
  /-- DWR (R114). -/
  | dwr (t : Fin 288) (sa sb sl : BitVec 5) (tag : BitVec 4) (off : BitVec 32)
  /-- DGATHER (R114). -/
  | dgather (t : Fin 288) (sa sb sl : BitVec 5) (tag : BitVec 4) (off : BitVec 32)
  /-- DSCATTER (R114). -/
  | dscatter (t : Fin 288) (sa sb sl : BitVec 5) (tag : BitVec 4) (off : BitVec 32)
  /-- DWALK (R239). -/
  | dwalk (t : Fin 288) (sa sb sl : BitVec 5) (tag : BitVec 4) (off : BitVec 32)
  /-- DTEN (R114). -/
  | dten (t : Fin 288) (sa : BitVec 5)
  /-- TRANSFER_DONE (R116). -/
  | transferDone (t : Fin 288) (tag : BitVec 4)
  /-- UFENCE (R118). -/
  | ufence (t : Fin 288) (imm : BitVec 32)
  /-- WAITT (R118). -/
  | waitt (t : Fin 288) (sd : BitVec 5) (imm : BitVec 32)
  /-- BARA (R118). -/
  | bara (t : Fin 288) (sa : BitVec 5) (imm : BitVec 32)
  /-- BARW (R118). -/
  | barw (t : Fin 288) (sd sa : BitVec 5) (imm : BitVec 32)
  /-- FFENCE (R366). -/
  | ffence (t : Fin 288) (sd : BitVec 5)
  /-- END (R118). -/
  | endP (t : Fin 288)
  /-- SCWAIT (R119). -/
  | scwait (t : Fin 288) (sa : BitVec 5) (imm : BitVec 32)
  /-- SCPUSH (R119). -/
  | scpush (t : Fin 288) (sd sa : BitVec 5) (imm : BitVec 32) (answer : Fin 4)
  /-- SCCNT (R119). -/
  | sccnt (t : Fin 288) (sd : BitVec 5)
  /-- SCORE_ENTRY_ACCEPT (R159). -/
  | scoreEntryAccept (i : Fin 401) (e : Option ScoreEntry)
  /-- SCORE_OVERFLOW (R120). -/
  | scoreOverflow (i : Fin 401)
  /-- SCORE_FIRE (R163). -/
  | scoreFire (i : Fin 401)
  /-- PROG_START (R94). -/
  | progStart (t : Fin 288)
  /-- IDLE_WIN (R161). -/
  | idleWin (t : Fin 288)
  /-- XFER (R162). -/
  | xfer (t : Fin 288)
  /-- ARRIVE (R160). -/
  | arrive (i : Fin 401)
  /-- SEG_SEND (R369). -/
  | segSend (q : Fin 36) (toks : List (Nat × List Nat))
  /-- SEG_EXPECT (R369). -/
  | segExpect (q : Fin 36)
  /-- PROOF (R208). -/
  | proof (k : Fin 16)
  /-- KVPF (R243). -/
  | kvpf (k : Fin 16)
  /-- RISE_STEP (R182). -/
  | riseStep (t : Fin 288)
  /-- TILE_RETIRE (R129). -/
  | tileRetire (t : Fin 288)
  /-- RETIRE_REQ (R129). -/
  | retireReq (t : Fin 288) (a : Agent)
  /-- PERF_CLEAR (R128). -/
  | perfClear (t : Fin 288) (a : Agent)
  /-- KNOCK_START (R458). -/
  | knockStart (t : Fin 288)
  /-- KNOCK_COMPLETE (R460). -/
  | knockComplete (t : Fin 288) (pass : Bool)
  /-- KNOCK_OVERDUE (R457). -/
  | knockOverdue (t : Fin 288)
  /-- TIME_WORD (R149). -/
  | timeWord
  /-- NOW_LO_READ (R149). -/
  | nowLoRead (a : Agent)
  /-- TS_SEND (R150). -/
  | tsSend (n : Fin 63)
  /-- TS_SET (R151). -/
  | tsSet (n : Fin 63) (set : TsSet) (frac : BitVec 8)
  /-- ELECTION (R152). -/
  | election
  /-- MASTER_LOSS (R153). -/
  | masterLoss
  /-- HOLDOVER_TIMEOUT (R154). -/
  | holdoverTimeout
  /-- PPS_EDGE (R156). -/
  | ppsEdge
  /-- PPS_MISS (R156). -/
  | ppsMiss
  /-- REF_LOSS (R156). -/
  | refLoss
  /-- ANNOUNCE_NEXT_START (R176). -/
  | announceNextStart (k : Fin 16)
  /-- STEP_ANNOUNCE (R177). -/
  | stepAnnounce (h : CtrlIn) (k : Fin 16) (bakeNo start : BitVec 64)
  /-- BAR_DONE (R167). -/
  | barDone (h : CtrlIn) (k : Fin 16) (tag : BitVec 8) (id : BitVec 12) (failed : Bool)
  /-- BAR_RELEASE (R168). -/
  | barRelease (k : Fin 16) (id : BitVec 12)
  /-- BAR_TIMEOUT (R169). -/
  | barTimeout (k : Fin 16) (id : BitVec 12)
  /-- PLAN_PUSH (R174). -/
  | planPush (k : Fin 16)
  /-- VOTE_SEND (R179). -/
  | voteSend (k : Fin 16) (layer : Fin 256)
  /-- VOTE (R179). -/
  | vote (h : CtrlIn) (k : Fin 16) (bakeNo : BitVec 64) (layer : Fin 256) (rounds : BitVec 8)
  /-- VOTE_CLOSE (R180). -/
  | voteClose (k : Fin 16) (layer : Fin 256)
  /-- SHIFT_CMD (R180). -/
  | shiftCmd (i : Fin 401)
  /-- LEASE_RETRY (R197). -/
  | leaseRetry (id : Nat)
  /-- FREEZE_DOORBELL (R200). -/
  | freezeDoorbell (priv : Bool) (bytes : List Byte)
  /-- FREEZE_NOP (R200). -/
  | freezeNop
  /-- FREEZE_OP (R203). -/
  | freezeOp
  /-- THAW_OP (R203). -/
  | thawOp
  /-- FREEZE_DRAINED (R203). -/
  | freezeDrained (run : Fin 16)
  /-- THAW_ACK (R203). -/
  | thawAck (ack : ThawAck)
  /-- FREEZE_SLOW (R202). -/
  | freezeSlow (run : Fin 16)
  /-- SLICE_FILL (R204). -/
  | sliceFill (slice : Fin 32)
  /-- SLC_UNPIN (R211). -/
  | slcUnpin (slice : Fin 32) (mask : BitVec 16) (a : Agent)
  /-- STARVE (R215). -/
  | starve (p : Fin 4096) (arb : Fin 16)
  /-- SCRUB (R219). -/
  | scrub (off : BitVec 41) (bad : Fin 137)
  /-- MEM_RETRAIN_REQ (R221). -/
  | memRetrainReq (k : Fin 16) (mask : BitVec 2) (a : Agent)
  /-- RETRAIN_START (R221). -/
  | retrainStart (g : GroupReading)
  /-- RETRAIN_DONE (R221). -/
  | retrainDone (g : Fin 32) (ok : Bool)
  /-- CH_RETIRE_REQ (R222). -/
  | chRetireReq (k : Fin 16) (mask : BitVec 16) (a : Agent)
  /-- GROUP_RETIRE (R222). -/
  | groupRetire (g : Fin 32)
  /-- POOL_INIT_DONE (R231). -/
  | poolInitDone (pool : Fin 16)
  /-- PAGE_THAW_DONE (R236). -/
  | pageThawDone (pool : Fin 16) (page : BitVec 32)
  /-- KV_FREEZE_DONE (R245). -/
  | kvFreezeDone (seq : Fin 16384) (i : BitVec 16) (page : BitVec 32)
  /-- PFX_CLEAR (R251). -/
  | pfxClear (k : Fin 16) (a : Agent)
  /-- ARM (R264). -/
  | arm (k : Fin 16) (v : Bool) (a : Agent)
  /-- PLC_CHECK_DONE (R264). -/
  | plcCheckDone (k : Fin 16)
  /-- MOE_PLAN (R276). -/
  | moePlan (k : Fin 16) (layer : Fin 256)
  /-- TEN_UPD (R308). -/
  | tenUpd (k : Fin 16) (tenant : BitVec 12) (a : Agent)
  /-- DRAINED (R297). -/
  | drained (k : Fin 16)
  /-- BB_CHECK (R314). -/
  | bbCheck (k : Fin 16) (i : Fin 256) (a : Agent)
  /-- BB_CHECK_DONE (R313). -/
  | bbCheckDone (i : Fin 256)
  /-- PROMOTE (R314). -/
  | promote (k : Fin 16) (i : Fin 256) (a : Agent)
  /-- PROMOTE_DONE (R314). -/
  | promoteDone (i : Fin 256)
  /-- DEMOTE (R314). -/
  | demote (k : Fin 16) (i : Fin 256) (a : Agent)
  /-- DEMOTE_DONE (R314). -/
  | demoteDone (i : Fin 256)
  /-- BB_FREE (R314). -/
  | bbFree (k : Fin 16) (i : Fin 256) (a : Agent)
  /-- FREE_DONE (R314). -/
  | freeDone (i : Fin 256)
  /-- DRAFT_REQ (R326). -/
  | draftReq (h : CtrlIn) (seq : Fin 16384) (tenant : BitVec 12) (model : BitVec 8) (pool : Fin 16) (lused : BitVec 4) (len : BitVec 32)
  /-- LANE_SIGNAL_DETECT (R339). -/
  | laneSignalDetect (n : Fin 63)
  /-- DETECT_TIMEOUT (R339). -/
  | detectTimeout (n : Fin 63)
  /-- TRAIN_DONE (R339). -/
  | trainDone (n : Fin 63) (lanes pol : BitVec 8)
  /-- ALIGN_LOCK (R339). -/
  | alignLock (n : Fin 63)
  /-- IDENT_SET (R341). -/
  | identSet (n : Fin 63) (rx : IdentRx)
  /-- IDENT_DONE (R342). -/
  | identDone (n : Fin 63) (asym : BitVec 16)
  /-- LANE_RETIRE (R343). -/
  | laneRetire (n : Fin 63) (lane : Fin 8)
  /-- NARROW_SET (R343). -/
  | narrowSet (n : Fin 63) (mask : BitVec 8)
  /-- LINK_LOSS (R339). -/
  | linkLoss (n : Fin 63)
  /-- LINK_RETRAIN_REQ (R339). -/
  | linkRetrainReq (n : Fin 63) (a : Agent)
  /-- DOWN_RETRY (R339). -/
  | downRetry (n : Fin 63)
  /-- FLIT_RX (R347). -/
  | flitRx (n : Fin 63) (kind : BitVec 4) (fseq : BitVec 16) (fec : BitVec 8) (crcOk : Bool)
  /-- LINK_UNIT (R345). -/
  | linkUnit (n : Fin 63) (u : LinkAck) (nak : Bool)
  /-- LINK_UNIT_SEND (R345). -/
  | linkUnitSend (n : Fin 63)
  /-- REPLAY_EXHAUST (R347). -/
  | replayExhaust (n : Fin 63)
  /-- RD_REQ (R349). -/
  | rdReq (q : Fin 36) (p : Packet)
  /-- RD_CPL (R349). -/
  | rdCpl (q : Fin 36) (p : Packet) (cacheable : Bool)
  /-- WR (R349). -/
  | wr (q : Fin 36) (p : Packet)
  /-- WR_ACK (R364). -/
  | wrAck (q : Fin 36) (p : Packet)
  /-- ATOM_ADD (R353). -/
  | atomAdd (src : AtomSrc)
  /-- ATOM_AND (R353). -/
  | atomAnd (src : AtomSrc)
  /-- ATOM_OR (R353). -/
  | atomOr (src : AtomSrc)
  /-- ATOM_XOR (R353). -/
  | atomXor (src : AtomSrc)
  /-- ATOM_SWAP (R353). -/
  | atomSwap (src : AtomSrc)
  /-- ATOM_CAS (R353). -/
  | atomCas (src : AtomSrc)
  /-- ATOM_MAXU (R353). -/
  | atomMaxu (src : AtomSrc)
  /-- ATOM_MINU (R353). -/
  | atomMinu (src : AtomSrc)
  /-- ATOM_MAXS (R353). -/
  | atomMaxs (src : AtomSrc)
  /-- ATOM_MINS (R353). -/
  | atomMins (src : AtomSrc)
  /-- ATOM_CPL (R349). -/
  | atomCpl (q : Fin 36) (p : Packet)
  /-- LEASE_REQ (R352). -/
  | leaseReq (q : Fin 36) (p : Packet)
  /-- LEASE_RSP (R352). -/
  | leaseRsp (q : Fin 36) (p : Packet)
  /-- LEASE_REL (R352). -/
  | leaseRel (q : Fin 36) (p : Packet)
  /-- PFLUSH (R366). -/
  | pflush (q : Fin 36) (p : Packet)
  /-- PFLUSH_ECHO (R366). -/
  | pflushEcho (q : Fin 36) (p : Packet)
  /-- SEG (R369). -/
  | seg (q : Fin 36) (p : Packet)
  /-- SEG_ACK (R369). -/
  | segAck (q : Fin 36) (p : Packet)
  /-- SEG_RESEND (R369). -/
  | segResend (q : Fin 36)
  /-- LINK_STATE (R363). -/
  | linkState (h : CtrlIn) (widths : List Nat) (safe : Bool)
  /-- LINK_STATE_SEND (R363). -/
  | linkStateSend
  /-- ROUTE_REFILL (R361). -/
  | routeRefill (d : Fin 64)
  /-- PATH_DEAD (R366). -/
  | pathDead (d : Fin 64) (rslot : Fin 8) (gen : Fin 4)
  /-- UNREACHABLE (R363). -/
  | unreachable (d : Fin 64)
  /-- FAB_KEY_WRITE (R358). -/
  | fabKeyWrite (v : BitVec 32) (a : Agent)
  /-- TAG_GO (R358). -/
  | tagGo (a : Agent)
  /-- TAG_DONE (R358). -/
  | tagDone
  /-- LOAD_START (R387). -/
  | loadStart (ld : Fin 4) (a : Agent)
  /-- LOAD_CHECK_DONE (R386). -/
  | loadCheckDone (ld : Fin 4)
  /-- LOAD_ABORT (R387). -/
  | loadAbort (ld : Fin 4) (a : Agent)
  /-- NVME_READ_CPL (R378). -/
  | nvmeReadCpl (ld : Fin 4) (shard : BitVec 16) (off : BitVec 32) (ok : Bool) (bytes : List Byte)
  /-- PIECE_LANDED (R391). -/
  | pieceLanded (ld : Fin 4) (shard : BitVec 16)
  /-- HASH_DONE (R390). -/
  | hashDone (ld : Fin 4) (shard : BitVec 16)
  /-- SHARD_FREEZE_DONE (R390). -/
  | shardFreezeDone (ld : Fin 4) (shard : BitVec 16)
  /-- SHARD_TIMEOUT (R388). -/
  | shardTimeout (ld : Fin 4) (shard : BitVec 16)
  /-- MEMBER_RECORD (R396). -/
  | memberRecord (ld : Fin 4) (m : Fin 64)
  /-- REPORT_TIMEOUT (R396). -/
  | reportTimeout (ld : Fin 4)
  /-- LOAD_FINAL (R397). -/
  | loadFinal (ld : Fin 4)
  /-- CNP (R377). -/
  | cnp (port : Fin 2) (q : Fin 256)
  /-- MKEY_LOCK (R404). -/
  | mkeyLock (mask : BitVec 4) (a : Agent)
  /-- GOV_PERIOD (R406). -/
  | govPeriod (est i0 i1 i2 i3 : BitVec 12)
  /-- G_RISE_STEP (R406). -/
  | gRiseStep (c : Fin 24)
  /-- CAP_LOOP (R411). -/
  | capLoop
  /-- CAP_WRITE (R410). -/
  | capWrite (v : BitVec 12) (a : Agent)
  /-- EDC_TIMEOUT (R414). -/
  | edcTimeout
  /-- POWER_RECAL (R409). -/
  | powerRecal (w : BitVec 12)
  /-- CAP_STEP_ASSERT (R413). -/
  | capStepAssert
  /-- CAP_STEP_DEASSERT (R413). -/
  | capStepDeassert
  /-- ALERT_ASSERT (R425). -/
  | alertAssert (i : Fin 2)
  /-- ALERT_DEASSERT (R425). -/
  | alertDeassert (i : Fin 2)
  /-- ALERT_RELEASE (R425). -/
  | alertRelease
  /-- HEARTBEAT (R426). -/
  | heartbeat (v : BitVec 32) (a : Agent)
  /-- ORPHAN_TIMEOUT (R426). -/
  | orphanTimeout
  /-- THERMAL_LOOP (R427). -/
  | thermalLoop (c : Fin 24) (temp : Int)
  /-- THERMTRIP (R428). -/
  | thermtrip (c : Fin 24)
  /-- DROOP_ASSERT (R419). -/
  | droopAssert (c : Fin 24)
  /-- DROOP_RELEASE (R419). -/
  | droopRelease (c : Fin 24)
  /-- BOOST_ENTRY (R421). -/
  | boostEntry
  /-- VOLT_SETTLE (R421). -/
  | voltSettle
  /-- BOOST_EXIT (R422). -/
  | boostExit
  /-- FREQ_ABORT (R423). -/
  | freqAbort
  /-- FREQ_ABORT_CLEAR (R423). -/
  | freqAbortClear
  /-- AVS_TIMEOUT (R424). -/
  | avsTimeout
  /-- FIXED_FREQ_WRITE (R422). -/
  | fixedFreqWrite (v : Bool) (a : Agent)
  /-- REST_REQ (R431). -/
  | restReq (a : Agent)
  /-- REST_ENTRY_DONE (R432). -/
  | restEntryDone
  /-- WAKE (R432). -/
  | wake (a : Agent)
  /-- WAKE_DONE (R434). -/
  | wakeDone
  /-- FAULT_REPORT (R443). -/
  | faultReport (hw : Option HwFind)
  /-- PARITY_SCRUB (R448). -/
  | parityScrub (bad slotOk : Bool)
  /-- SAFE_REQ (R449). -/
  | safeReq (a : Agent)
  /-- RELEASE (R451). -/
  | release (a : Agent)
  /-- QUIET_EXPIRE (R452). -/
  | quietExpire
  /-- UNFREEZE (R447). -/
  | unfreeze (a : Agent)
  /-- HIST_CLEAR (R447). -/
  | histClear (a : Agent)
  /-- SUMCLR_PAGE (R442). -/
  | sumclrPage (p : Fin 4096) (a : Agent)
  /-- SUMCLR_ALL (R442). -/
  | sumclrAll (a : Agent)
  /-- INJECT_GO (R456). -/
  | injectGo (a : Agent)
  /-- TEL_POLL (R462). -/
  | telPoll
  /-- STORM_CLEAR (R467). -/
  | stormClear
  /-- PWROK_LOW (R471). -/
  | pwrokLow
  /-- RESET_N_LOW (R471). -/
  | resetNLow
  /-- PACKAGE_RESET_EXIT (R472). -/
  | packageResetExit (slot : Fin 64) (tbm test : Bool)
  /-- PERST_N_LOW (R473). -/
  | perstNLow
  /-- PERST_N_HIGH (R473). -/
  | perstNHigh
  /-- BOOT_RESET (R471). -/
  | bootReset (v : BitVec 16) (a : Agent)
  /-- POR_DONE (R475). -/
  | porDone (f : Fuses) (ok : Bool)
  /-- ROM_LOAD_DONE (R478). -/
  | romLoadDone (image : Option (List Byte))
  /-- ROM_VERIFY (R480). -/
  | romVerify
  /-- PUSH_GO (R479). -/
  | pushGo (a : Agent)
  /-- FW_START_DONE (R475). -/
  | fwStartDone
  /-- MEM_TRAIN_DONE (R475). -/
  | memTrainDone (found : MemTrained)
  /-- FABRIC_TRAINED (R475). -/
  | fabricTrained
  /-- MEM_INIT_DONE (R220). -/
  | memInitDone
  /-- BOOT_FINAL (R475). -/
  | bootFinal
  /-- BOOT_LATE (R476). -/
  | bootLate
  /-- REVOKE_BURN (R483). -/
  | revokeBurn (mask : BitVec 4) (a : Agent)
  /-- SVN_BURN (R483). -/
  | svnBurn (v : BitVec 7) (a : Agent)
  /-- UPD_VERIFY (R487). -/
  | updVerify (a : Agent)
  /-- UPD_VERIFY_DONE (R487). -/
  | updVerifyDone
  /-- UPD_ACTIVATE (R488). -/
  | updActivate (mask : BitVec 8) (a : Agent)
  /-- COMPONENT_COMMITTED (R492). -/
  | componentCommitted
  /-- ACTIVATE_LIMIT (R490). -/
  | activateLimit
  /-- MGMT_FW_HANDOVER (R491). -/
  | mgmtFwHandover
  /-- BOOT_ALIVE (R491). -/
  | bootAlive (v : BitVec 32) (a : Agent)
  /-- ALIVE_TIMEOUT (R491). -/
  | aliveTimeout
  /-- FLASH_WRITE (R493). -/
  | flashWrite (a : Agent)
  /-- FLASH_WRITE_DONE (R493). -/
  | flashWriteDone (ok : Bool)
  /-- UPD_ABORT (R487). -/
  | updAbort (a : Agent)
  /-- GET_VERSION (R485). -/
  | getVersion
  /-- GET_CAPABILITIES (R485). -/
  | getCapabilities
  /-- NEGOTIATE_ALGORITHMS (R485). -/
  | negotiateAlgorithms (meas : BitVec 8) (asym hash : BitVec 32)
  /-- GET_DIGESTS (R485). -/
  | getDigests
  /-- GET_CERTIFICATE (R484). -/
  | getCertificate (slot : BitVec 4) (off len : BitVec 16)
  /-- CHALLENGE (R485). -/
  | challenge (slot : BitVec 4) (nonce : List Byte)
  /-- GET_MEASUREMENTS (R486). -/
  | getMeasurements (i : BitVec 8) (signed : Bool) (slot : BitVec 4)
  /-- BAR2_READ (R504). -/
  | bar2Read (off : BitVec 30) (len : BitVec 12)
  /-- BAR2_WRITE (R504). -/
  | bar2Write (off : BitVec 30) (bytes : List Byte)
  /-- BAR0_BAD_ACCESS (R502). -/
  | bar0BadAccess (isRead : Bool) (words : BitVec 10)
  /-- FENCE_GO (R505). -/
  | fenceGo (a : Agent)
  /-- PCIE_LINK_DOWN (R507). -/
  | pcieLinkDown
  /-- MSIX_PENDING_SEND (R509). -/
  | msixPendingSend (v : Fin 2048) (en mask master masked : Bool)
  /-- REG_READ (R512). -/
  | regRead (p off : BitVec 16) (count : BitVec 8)
  /-- REG_WRITE (R512). -/
  | regWrite (p off : BitVec 16) (ws : List (BitVec 32))
  /-- SET_ENDPOINT_ID (R511). -/
  | setEndpointId (transport : Fin 2) (eid : BitVec 8)
  /-- ENTDAA (R510). -/
  | entdaa (addr : BitVec 7)
  /-- SETDASA (R510). -/
  | setdasa (static addr : BitVec 7)
  /-- HOT_JOIN (R510). -/
  | hotJoin
  /-- GET_TID (R513). -/
  | getTid
  /-- SET_TID (R513). -/
  | setTid (tid : BitVec 8)
  /-- GET_PLDM_VERSION (R513). -/
  | getPldmVersion (type : BitVec 6)
  /-- GET_PLDM_TYPES (R513). -/
  | getPldmTypes
  /-- GET_PLDM_COMMANDS (R513). -/
  | getPldmCommands (type : BitVec 6)
  /-- GET_PDR (R513). -/
  | getPdr (handle : BitVec 32)
  /-- GET_SENSOR_READING (R513). -/
  | getSensorReading (sensor : BitVec 16)
  /-- GET_STATE_SENSOR_READINGS (R513). -/
  | getStateSensorReadings (sensor : BitVec 16)
  /-- EVENT_MESSAGE_SUPPORTED (R513). -/
  | eventMessageSupported
  /-- POLL_FOR_PLATFORM_EVENT (R514). -/
  | pollForPlatformEvent (ack : Bool)
  /-- REQUEST_UPDATE (R515). -/
  | requestUpdate
  /-- REQUEST_FIRMWARE_DATA (R515). -/
  | requestFirmwareData (off : BitVec 32) (bytes : List Byte)
  /-- TRANSFER_COMPLETE (R515). -/
  | transferComplete
  /-- VERIFY_COMPLETE (R515). -/
  | verifyComplete
  /-- ACTIVATE_FIRMWARE (R515). -/
  | activateFirmware
  /-- CANCEL_UPDATE (R515). -/
  | cancelUpdate
  /-- QP_OPEN (R517). -/
  | qpOpen (i : Fin 1024) (a : Agent)
  /-- QP_CLOSE (R517). -/
  | qpClose (i : Fin 1024) (a : Agent)
  /-- RDMA_WRITE (R518). -/
  | rdmaWrite (i : Fin 1024) (psn : BitVec 24) (rkey : BitVec 32) (va : BitVec 64) (bytes : List Byte)
  /-- RDMA_READ (R518). -/
  | rdmaRead (i : Fin 1024) (psn : BitVec 24) (rkey : BitVec 32) (va : BitVec 64) (len : BitVec 32)
  /-- ARP_REQUEST (R516). -/
  | arpRequest (port : Fin 2) (ip : BitVec 32)
  /-- NEIGHBOR_SOLICIT (R516). -/
  | neighborSolicit (port : Fin 2) (ip : BitVec 128)
  /-- ETH_LINK_DOWN (R516). -/
  | ethLinkDown (port : Fin 2)
  /-- RAIL_UV (R528). -/
  | railUv (r : Fin 12)
  /-- SB_CHATTER (R535). -/
  | sbChatter (i : Fin 4)
  /-- CHATTER_CLEAR (R535). -/
  | chatterClear (i : Fin 4)
  /-- SB_STUCK (R536). -/
  | sbStuck (i : Fin 4)
  /-- OUT_STUCK (R537). -/
  | outStuck (j : Fin 2)
  /-- ILLEGAL_INSN (R98). -/
  | illegalInsn (t : Fin 288)
  /-- BAD_PACKET (R349). -/
  | badPacket (q : Fin 36) (p : Packet)
  /-- ETH_LINK_UP (R516). -/
  | ethLinkUp (port : Fin 2)
  /-- PCIE_LINK_UP (R507). -/
  | pcieLinkUp (speed : BitVec 4) (width : BitVec 6)
  /-- I3C_BUS_ERROR (R538). -/
  | i3cBusError
  /-- REF_OK (R156). -/
  | refOk
  /-- AVS_RESEND (R530). -/
  | avsResend (lost : Bool)
  /-- KEEP_ALIVE (R377). -/
  | keepAlive (target : Fin 256)
  /-- RATE_RECOVER (R404). -/
  | rateRecover (q : Fin 256)
  /-- ACK_COALESCE_EXPIRE (R364). -/
  | ackCoalesceExpire (path : Nat)
  /-- COMPONENT_LOADED (R488). -/
  | componentLoaded (p : Fin 4096)
  /-- ETH_DISCARD (R516). -/
  | ethDiscard (port : Fin 2)
deriving DecidableEq, Repr

end Sys2Proof
end

