-- ==== Sys2Proof/Decode.lean ====
section
/-! DEFINITION. The 64-bit instruction words of a tile: their encoding and their decoding (R98 to R119); and the commands that words spell by the
table of commands, which gives no row any bits. -/
namespace Sys2Proof

/-- The command that a word spells by the table's bits.
Log entry 4 (DESIGN CHOICE, unsafe). -/
def decodeTableWord (_nbits _w : Nat) : Option Instr := none

/-- A field of an instruction word: `n` bits from bit `lo` on. -/
def insnField (w : W64) (lo n : Nat) : BitVec n := w.extractLsb' lo n

/-- Bits of a word that lie outside CLASS, OP and the fields of a form are zero (R98). -/
def reservedZero (w : W64) (fields : List (Nat × Nat)) : Bool :=
  decide (w.toNat % 2 ^ 52 = (fields.map (fun f => (insnField w f.1 f.2).toNat * 2 ^ f.1)).sum)

/-- An instruction of a form, or none where a reserved bit is set. -/
def form (w : W64) (fields : List (Nat × Nat)) (i : Instr) : Option Instr := if reservedZero w fields then some i else none

/-- The fields of the instruction words, as (lowest bit, width): registers, then those of the matrix, the vector and the DMA class. -/
def fR1 : Nat × Nat := (47, 5)
def fR2 : Nat × Nat := (42, 5)
def fR3 : Nat × Nat := (37, 5)
def fR4 : Nat × Nat := (32, 5)
def fImm : Nat × Nat := (0, 32)
def fMacc : Nat × Nat := (34, 3)
def fFn : Nat × Nat := (27, 5)
def fRnd : Nat × Nat := (24, 3)
def fBs : Nat × Nat := (22, 1)
def fVsb : Nat × Nat := (17, 5)
def fVacc : Nat × Nat := (14, 3)
def fVimm : Nat × Nat := (0, 14)
def fTag : Nat × Nat := (33, 4)

/-- Scalar class (R99, R100). A form has the fields that its effect reads or writes; a field is of the form whole, so that bits of IMM that an
effect does not read are ignored.
Log entry 89 (DEDUCED, unsafe). -/
def decodeScalar (t : Fin 288) (op : Nat) (w : W64) : Option Instr :=
  let sd := insnField w 47 5
  let sa := insnField w 42 5
  let sb := insnField w 37 5
  let imm := insnField w 0 32
  let reg := form w [fR1, fR2, fR3]
  let im := form w [fR1, fR2, fImm]
  let two := form w [fR2, fR3, fImm]
  match op with
  | 0x00 => reg (.add t sd sa sb)
  | 0x01 => reg (.sub t sd sa sb)
  | 0x02 => reg (.andW t sd sa sb)
  | 0x03 => reg (.orW t sd sa sb)
  | 0x04 => reg (.xorW t sd sa sb)
  | 0x05 => reg (.shl t sd sa sb)
  | 0x06 => reg (.shr t sd sa sb)
  | 0x07 => reg (.sra t sd sa sb)
  | 0x08 => reg (.mul t sd sa sb)
  | 0x09 => reg (.slt t sd sa sb)
  | 0x0A => reg (.sltu t sd sa sb)
  | 0x0B => reg (.min t sd sa sb)
  | 0x0C => reg (.max t sd sa sb)
  | 0x10 => im (.addi t sd sa imm)
  | 0x11 => im (.andi t sd sa imm)
  | 0x12 => im (.ori t sd sa imm)
  | 0x13 => im (.xori t sd sa imm)
  | 0x14 => im (.shli t sd sa imm)
  | 0x15 => im (.shri t sd sa imm)
  | 0x16 => im (.srai t sd sa imm)
  | 0x17 => im (.lui t sd sa imm)
  | 0x20 => im (.ld t sd sa imm)
  | 0x21 => two (.st t sa sb imm)
  | 0x22 => im (.lw t sd sa imm)
  | 0x23 => two (.sw t sa sb imm)
  | 0x30 => two (.beq t sa sb imm)
  | 0x31 => two (.bne t sa sb imm)
  | 0x32 => two (.blt t sa sb imm)
  | 0x33 => two (.bge t sa sb imm)
  | 0x34 => form w [fR1, fImm] (.jal t sd imm)
  | 0x35 => form w [fR2] (.jr t sa)
  | 0x38 => form w [fR1, fImm] (.csrr t sd (insnField w 0 8))
  | _ => none

/-- Vector class (R104 to R107). BS and the scalar it names are fields of every form with a second source VB.
Log entry 89 (DEDUCED, unsafe). -/
def decodeVector (t : Fin 288) (op : Nat) (w : W64) : Option Instr :=
  let vd := insnField w 47 5
  let va := insnField w 42 5
  let vb := insnField w 37 5
  let vc := insnField w 32 5
  let fn := insnField w 27 5
  let sb := insnField w 17 5
  let acc := insnField w 14 3
  let j := insnField w 0 6
  let bs := w.getLsbD 22
  let two := form w [fR1, fR2, fR3, fBs, fVsb]
  let three := form w [fR1, fR2, fR3, fR4, fBs, fVsb]
  let one := form w [fR1, fR2]
  match op with
  | 0x00 => two (.vadd t vd va vb bs sb)
  | 0x01 => two (.vsub t vd va vb bs sb)
  | 0x02 => two (.vmul t vd va vb bs sb)
  | 0x03 => three (.vfma t vd va vb vc bs sb)
  | 0x04 => two (.vmax t vd va vb bs sb)
  | 0x05 => two (.vmin t vd va vb bs sb)
  | 0x06 => one (.vabs t vd va)
  | 0x07 => one (.vneg t vd va)
  | 0x08 => two (.vcmplt t vd va vb bs sb)
  | 0x09 => two (.vcmpeq t vd va vb bs sb)
  | 0x0A => three (.vsel t vd va vb vc bs sb)
  | 0x0B => one (.vmov t vd va)
  | 0x0C => one (.vrsum t vd va)
  | 0x0D => one (.vrmax t vd va)
  | 0x0E => form w [fR1] (.viota t vd)
  | 0x0F => form w [fR1, fVsb] (.vbcast t vd sb)
  | 0x10 => form w [fR1, fR2, fFn] (.vfn t vd va fn)
  | 0x20 => form w [fR1, fR2, fFn, fVimm] (.vld t vd va fn j)
  | 0x21 => form w [fR1, fR2, fFn, fRnd, (23, 1), fVimm] (.vst t vd va fn (insnField w 24 3) (w.getLsbD 23) j)
  | 0x22 => form w [fR1, fVacc, fVimm] (.vlda t vd acc j)
  | 0x23 => form w [fR1, fVacc, fVimm] (.vsta t vd acc j)
  | 0x24 => form w [fR1, fR2, fVimm] (.vldl t vd va (insnField w 0 14))
  | 0x25 => form w [fR1, fR2, fVimm] (.vstl t vd va (insnField w 0 14))
  | 0x28 => form w [fR2, fR3] (.vsrctx t va vb)
  | 0x29 => form w [fR1, fR2, fVimm] (.vext t vd va (insnField w 0 8))
  | 0x30 => one (.xtopk t vd va)
  | 0x31 => one (.xsort t vd va)
  | 0x32 => one (.xsample t vd va)
  | 0x33 => one (.xphilox t vd va)
  | _ => none

/-- Matrix class (R101). -/
def decodeMatrix (t : Fin 288) (op : Nat) (w : W64) : Option Instr :=
  let sa := insnField w 47 5
  let x := insnField w 42 5
  let acc := insnField w 34 3
  let off := insnField w 0 32
  match op with
  | 0x01 => form w [fR1, fR2, (41, 1), fImm] (.mlw t sa x (w.getLsbD 41) off)
  | 0x02 => form w [fR1, fR2, fR3, fMacc, (33, 1), (32, 1), fImm] (.mma t sa x (insnField w 37 5) acc (w.getLsbD 33) (w.getLsbD 32) off)
  | 0x03 => form w [fR1, fR2, (41, 1), (40, 1), fImm] (.mzp t sa x (w.getLsbD 41) (w.getLsbD 40) off)
  | 0x04 => form w [fR1, fMacc, fImm] (.mspill t sa acc off)
  | 0x05 => form w [fR1, fMacc, fImm] (.mfill t sa acc off)
  | 0x06 => form w [fMacc] (.mzero t acc)
  | _ => none

/-- The DATOM of an atomic code; a code that R353 does not list goes by the row of code 0, which refuses it. -/
def atomOf (code : Nat) (src : AtomSrc) : Instr :=
  match code with
  | 1 => .atomAnd src
  | 2 => .atomOr src
  | 3 => .atomXor src
  | 4 => .atomSwap src
  | 5 => .atomCas src
  | 6 => .atomMaxu src
  | 7 => .atomMinu src
  | 8 => .atomMaxs src
  | 9 => .atomMins src
  | _ => .atomAdd src

/-- DMA class (R114). DATOM has no length and DTEN names one register. -/
def decodeDma (t : Fin 288) (op : Nat) (w : W64) : Option Instr :=
  let sa := insnField w 47 5
  let sb := insnField w 42 5
  let sl := insnField w 37 5
  let tag := insnField w 33 4
  let off := insnField w 0 32
  let full := form w [fR1, fR2, fR3, fTag, fImm]
  match op with
  | 0x01 => full (.drd t sa sb sl tag off)
  | 0x02 => full (.dwr t sa sb sl tag off)
  | 0x03 => full (.dgather t sa sb sl tag off)
  | 0x04 => full (.dscatter t sa sb sl tag off)
  | 0x05 => full (.dwalk t sa sb sl tag off)
  | 0x06 => form w [fR1, fR2, fTag, fImm] (atomOf (off.toNat % 16) (.datom t sa sb tag off))
  | 0x07 => form w [fR1] (.dten t sa)
  | _ => none

/-- Synchronisation class (R118). -/
def decodeSync (t : Fin 288) (op : Nat) (w : W64) : Option Instr :=
  let sd := insnField w 47 5
  let sa := insnField w 42 5
  let imm := insnField w 0 32
  match op with
  | 0x01 => form w [fImm] (.ufence t imm)
  | 0x02 => form w [fR1, fImm] (.waitt t sd imm)
  | 0x03 => form w [fR2, fImm] (.bara t sa imm)
  | 0x04 => form w [fR1, fR2, fImm] (.barw t sd sa imm)
  | 0x05 => form w [fR1] (.ffence t sd)
  | 0x0F => form w [] (.endP t)
  | _ => none

/-- Score class (R119). What the target of a SCPUSH on another package answers is no part of the word. -/
def decodeScore (t : Fin 288) (op : Nat) (w : W64) : Option Instr :=
  let sd := insnField w 47 5
  let sa := insnField w 42 5
  let imm := insnField w 0 32
  match op with
  | 0x01 => form w [fR2, fImm] (.scwait t sa imm)
  | 0x02 => form w [fR1, fR2, fImm] (.scpush t sd sa imm 0)
  | 0x03 => form w [fR1] (.sccnt t sd)
  | _ => none

/-- The instruction that a word of tile `t` spells, or none: an unlisted CLASS or OP, or a nonzero reserved bit (R98). -/
def decodeInsn (t : Fin 288) (w : W64) : Option Instr :=
  let op := (insnField w 52 8).toNat
  match (insnField w 60 4).toNat with
  | 0 => decodeScalar t op w
  | 1 => decodeVector t op w
  | 2 => decodeMatrix t op w
  | 3 => decodeDma t op w
  | 4 => decodeSync t op w
  | 5 => decodeScore t op w
  | _ => none

/-- A word from its CLASS, its OP and its other fields, each as (lowest bit, value). -/
def insnWord (cls op : Nat) (fields : List (Nat × Nat)) : W64 :=
  BitVec.ofNat 64 (cls * 2 ^ 60 + op * 2 ^ 52 + (fields.map (fun f => f.2 * 2 ^ f.1)).sum)

/-- Words by class: the registers in the places of the class, then the other fields. -/
def wScalar (op : Nat) (sd sa sb : BitVec 5) (imm : BitVec 32) : W64 :=
  insnWord 0 op [(47, sd.toNat), (42, sa.toNat), (37, sb.toNat), (0, imm.toNat)]
def wVector (op : Nat) (vd va vb : BitVec 5) (rest : List (Nat × Nat)) : W64 :=
  insnWord 1 op ([(47, vd.toNat), (42, va.toNat), (37, vb.toNat)] ++ rest)
def wTwo (op : Nat) (vd va vb : BitVec 5) (bs : Bool) (sb : BitVec 5) : W64 := wVector op vd va vb [(22, bs.toNat), (17, sb.toNat)]
def wThree (op : Nat) (vd va vb vc : BitVec 5) (bs : Bool) (sb : BitVec 5) : W64 :=
  wVector op vd va vb [(32, vc.toNat), (22, bs.toNat), (17, sb.toNat)]
def wMatrix (op : Nat) (sa x : BitVec 5) (rest : List (Nat × Nat)) (off : BitVec 32) : W64 :=
  insnWord 2 op ([(47, sa.toNat), (42, x.toNat)] ++ rest ++ [(0, off.toNat)])
def wDma (op : Nat) (sa sb sl : BitVec 5) (tag : BitVec 4) (off : BitVec 32) : W64 :=
  insnWord 3 op [(47, sa.toNat), (42, sb.toNat), (37, sl.toNat), (33, tag.toNat), (0, off.toNat)]
def wSync (cls op : Nat) (sd sa : BitVec 5) (imm : BitVec 32) : W64 := insnWord cls op [(47, sd.toNat), (42, sa.toNat), (0, imm.toNat)]

/-- The word of a DATOM: its code stands in OFFSET (R114). -/
def atomWord : AtomSrc → Option W64
  | .datom _ sa sb tag off => some (wDma 0x06 sa sb 0 tag off)
  | .packet _ _ => none

/-- The word of a tile instruction, written from the encoding tables of R98 to R119; the other commands have none. -/
def insnCode : Instr → Option W64
  | .add _ sd sa sb => some (wScalar 0x00 sd sa sb 0)
  | .sub _ sd sa sb => some (wScalar 0x01 sd sa sb 0)
  | .andW _ sd sa sb => some (wScalar 0x02 sd sa sb 0)
  | .orW _ sd sa sb => some (wScalar 0x03 sd sa sb 0)
  | .xorW _ sd sa sb => some (wScalar 0x04 sd sa sb 0)
  | .shl _ sd sa sb => some (wScalar 0x05 sd sa sb 0)
  | .shr _ sd sa sb => some (wScalar 0x06 sd sa sb 0)
  | .sra _ sd sa sb => some (wScalar 0x07 sd sa sb 0)
  | .mul _ sd sa sb => some (wScalar 0x08 sd sa sb 0)
  | .slt _ sd sa sb => some (wScalar 0x09 sd sa sb 0)
  | .sltu _ sd sa sb => some (wScalar 0x0A sd sa sb 0)
  | .min _ sd sa sb => some (wScalar 0x0B sd sa sb 0)
  | .max _ sd sa sb => some (wScalar 0x0C sd sa sb 0)
  | .addi _ sd sa imm => some (wScalar 0x10 sd sa 0 imm)
  | .andi _ sd sa imm => some (wScalar 0x11 sd sa 0 imm)
  | .ori _ sd sa imm => some (wScalar 0x12 sd sa 0 imm)
  | .xori _ sd sa imm => some (wScalar 0x13 sd sa 0 imm)
  | .shli _ sd sa imm => some (wScalar 0x14 sd sa 0 imm)
  | .shri _ sd sa imm => some (wScalar 0x15 sd sa 0 imm)
  | .srai _ sd sa imm => some (wScalar 0x16 sd sa 0 imm)
  | .lui _ sd sa imm => some (wScalar 0x17 sd sa 0 imm)
  | .ld _ sd sa imm => some (wScalar 0x20 sd sa 0 imm)
  | .st _ sa sb imm => some (wScalar 0x21 0 sa sb imm)
  | .lw _ sd sa imm => some (wScalar 0x22 sd sa 0 imm)
  | .sw _ sa sb imm => some (wScalar 0x23 0 sa sb imm)
  | .beq _ sa sb imm => some (wScalar 0x30 0 sa sb imm)
  | .bne _ sa sb imm => some (wScalar 0x31 0 sa sb imm)
  | .blt _ sa sb imm => some (wScalar 0x32 0 sa sb imm)
  | .bge _ sa sb imm => some (wScalar 0x33 0 sa sb imm)
  | .jal _ sd imm => some (wScalar 0x34 sd 0 0 imm)
  | .jr _ sa => some (wScalar 0x35 0 sa 0 0)
  | .csrr _ sd word => some (wScalar 0x38 sd 0 0 (word.setWidth 32))
  | .mlw _ sa fmt buf off => some (wMatrix 0x01 sa fmt [(41, buf.toNat)] off)
  | .mma _ sa sm fmt acc start buf off =>
    some (wMatrix 0x02 sa sm [(37, fmt.toNat), (34, acc.toNat), (33, start.toNat), (32, buf.toNat)] off)
  | .mzp _ sa sz opnd rowwise off => some (wMatrix 0x03 sa sz [(41, opnd.toNat), (40, rowwise.toNat)] off)
  | .mspill _ sa acc off => some (wMatrix 0x04 sa 0 [(34, acc.toNat)] off)
  | .mfill _ sa acc off => some (wMatrix 0x05 sa 0 [(34, acc.toNat)] off)
  | .mzero _ acc => some (wMatrix 0x06 0 0 [(34, acc.toNat)] 0)
  | .vadd _ vd va vb bs sb => some (wTwo 0x00 vd va vb bs sb)
  | .vsub _ vd va vb bs sb => some (wTwo 0x01 vd va vb bs sb)
  | .vmul _ vd va vb bs sb => some (wTwo 0x02 vd va vb bs sb)
  | .vfma _ vd va vb vc bs sb => some (wThree 0x03 vd va vb vc bs sb)
  | .vmax _ vd va vb bs sb => some (wTwo 0x04 vd va vb bs sb)
  | .vmin _ vd va vb bs sb => some (wTwo 0x05 vd va vb bs sb)
  | .vabs _ vd va => some (wVector 0x06 vd va 0 [])
  | .vneg _ vd va => some (wVector 0x07 vd va 0 [])
  | .vcmplt _ vd va vb bs sb => some (wTwo 0x08 vd va vb bs sb)
  | .vcmpeq _ vd va vb bs sb => some (wTwo 0x09 vd va vb bs sb)
  | .vsel _ vd va vb vc bs sb => some (wThree 0x0A vd va vb vc bs sb)
  | .vmov _ vd va => some (wVector 0x0B vd va 0 [])
  | .vrsum _ vd va => some (wVector 0x0C vd va 0 [])
  | .vrmax _ vd va => some (wVector 0x0D vd va 0 [])
  | .viota _ vd => some (wVector 0x0E vd 0 0 [])
  | .vbcast _ vd sb => some (wVector 0x0F vd 0 0 [(17, sb.toNat)])
  | .vfn _ vd va fn => some (wVector 0x10 vd va 0 [(27, fn.toNat)])
  | .vld _ vd sa fmt j => some (wVector 0x20 vd sa 0 [(27, fmt.toNat), (0, j.toNat)])
  | .vst _ vd sa fmt rnd sat j => some (wVector 0x21 vd sa 0 [(27, fmt.toNat), (24, rnd.toNat), (23, sat.toNat), (0, j.toNat)])
  | .vlda _ vd acc j => some (wVector 0x22 vd 0 0 [(14, acc.toNat), (0, j.toNat)])
  | .vsta _ vd acc j => some (wVector 0x23 vd 0 0 [(14, acc.toNat), (0, j.toNat)])
  | .vldl _ vd sa imm => some (wVector 0x24 vd sa 0 [(0, imm.toNat)])
  | .vstl _ vd sa imm => some (wVector 0x25 vd sa 0 [(0, imm.toNat)])
  | .vsrctx _ sa sb => some (wVector 0x28 0 sa sb [])
  | .vext _ sd va i => some (wVector 0x29 sd va 0 [(0, i.toNat)])
  | .xtopk _ sd sa => some (wVector 0x30 sd sa 0 [])
  | .xsort _ sd sa => some (wVector 0x31 sd sa 0 [])
  | .xsample _ sd sa => some (wVector 0x32 sd sa 0 [])
  | .xphilox _ sd sa => some (wVector 0x33 sd sa 0 [])
  | .drd _ sa sb sl tag off => some (wDma 0x01 sa sb sl tag off)
  | .dwr _ sa sb sl tag off => some (wDma 0x02 sa sb sl tag off)
  | .dgather _ sa sb sl tag off => some (wDma 0x03 sa sb sl tag off)
  | .dscatter _ sa sb sl tag off => some (wDma 0x04 sa sb sl tag off)
  | .dwalk _ sa sb sl tag off => some (wDma 0x05 sa sb sl tag off)
  | .atomAdd src => atomWord src
  | .atomAnd src => atomWord src
  | .atomOr src => atomWord src
  | .atomXor src => atomWord src
  | .atomSwap src => atomWord src
  | .atomCas src => atomWord src
  | .atomMaxu src => atomWord src
  | .atomMinu src => atomWord src
  | .atomMaxs src => atomWord src
  | .atomMins src => atomWord src
  | .dten _ sa => some (wDma 0x07 sa 0 0 0 0)
  | .ufence _ imm => some (wSync 4 0x01 0 0 imm)
  | .waitt _ sd imm => some (wSync 4 0x02 sd 0 imm)
  | .bara _ sa imm => some (wSync 4 0x03 0 sa imm)
  | .barw _ sd sa imm => some (wSync 4 0x04 sd sa imm)
  | .ffence _ sd => some (wSync 4 0x05 sd 0 0)
  | .endP _ => some (wSync 4 0x0F 0 0 0)
  | .scwait _ sa imm => some (wSync 5 0x01 0 sa imm)
  | .scpush _ sd sa imm _ => some (wSync 5 0x02 sd sa imm)
  | .sccnt _ sd => some (wSync 5 0x03 sd 0 0)
  | _ => none

end Sys2Proof
end

