-- ==== Sys2Proof/Machine/Store.lean ====
section
/-! DEFINITION. Sparse maps as plain data: a list of (key, value) pairs in strictly rising key order,
the byte memory in its canonical form, and little-endian helpers. -/
namespace Sys2Proof.Machine

/-- A sparse map: entries in strictly rising key order; a key that is not listed reads as the map's default. -/
abbrev SMap (α : Type) := List (Nat × α)

/-- The value at key `k`, `d` when it is not listed. -/
def SMap.get {α : Type} (d : α) : SMap α → Nat → α
  | [], _ => d
  | (a, v) :: m, k => if k < a then d else if k = a then v else SMap.get d m k

/-- The value at key `k`, if it is listed. -/
def SMap.find {α : Type} : SMap α → Nat → Option α
  | [], _ => none
  | (a, v) :: m, k => if k < a then none else if k = a then some v else SMap.find m k

/-- List `v` at key `k`. -/
def SMap.set {α : Type} : SMap α → Nat → α → SMap α
  | [], k, v => [(k, v)]
  | (a, w) :: m, k, v =>
    if k < a then (k, v) :: (a, w) :: m
    else if k = a then (k, v) :: m
    else (a, w) :: SMap.set m k v

/-- Take key `k` off the list. -/
def SMap.erase {α : Type} : SMap α → Nat → SMap α
  | [], _ => []
  | (a, w) :: m, k =>
    if k < a then (a, w) :: m else if k = a then m else (a, w) :: SMap.erase m k

/-- Store `v` at key `k` in canonical form: a value equal to the default is not listed. -/
def SMap.put {α : Type} [DecidableEq α] (d : α) (m : SMap α) (k : Nat) (v : α) : SMap α :=
  if v = d then SMap.erase m k else SMap.set m k v

/-- Every listed key is above `b`, in strictly rising order. -/
def SMap.sortedFrom {α : Type} : Option Nat → SMap α → Bool
  | _, [] => true
  | none, (a, _) :: m => SMap.sortedFrom (some a) m
  | some b, (a, _) :: m => decide (b < a) && SMap.sortedFrom (some a) m

/-- The keys are strictly rising. -/
def SMap.sorted {α : Type} (m : SMap α) : Bool := SMap.sortedFrom none m

/-- The canonical form: strictly rising keys and no entry equal to the default. -/
def SMap.canon {α : Type} [DecidableEq α] (d : α) (m : SMap α) : Bool :=
  SMap.sorted m && m.all (fun e => decide (e.2 ≠ d))

/-- Drop every entry whose key satisfies `p`. -/
def SMap.dropKeys {α : Type} (p : Nat → Bool) (m : SMap α) : SMap α := m.filter (fun e => !p e.1)

/-- Update the value at `k`. -/
def SMap.modify {α : Type} (d : α) (m : SMap α) (k : Nat) (f : α → α) : SMap α :=
  SMap.set m k (f (SMap.get d m k))

/-- Apply `f` to every listed value. -/
def SMap.mapVals {α : Type} (f : Nat → α → α) (m : SMap α) : SMap α := m.map (fun e => (e.1, f e.1 e.2))

/-- Bits `[lo + w − 1 : lo]` of `n`. -/
def bits (n lo w : Nat) : Nat := n / 2 ^ lo % 2 ^ w

/-- Bit `i` of `n`. -/
def bit (n i : Nat) : Bool := n.testBit i

/-- `n` with bits `[lo + w − 1 : lo]` replaced by `v`. -/
def setBits (n lo w v : Nat) : Nat :=
  n % 2 ^ lo + (v % 2 ^ w) * 2 ^ lo + n / 2 ^ (lo + w) * 2 ^ (lo + w)

/-- 1 for true. -/
def b2n (b : Bool) : Nat := if b then 1 else 0

/-- The two's-complement reading of the low `w` bits of `n`. -/
def sext (w n : Nat) : Int :=
  let m := n % 2 ^ w
  if w = 0 then 0 else if m < 2 ^ (w - 1) then (m : Int) else (m : Int) - (2 ^ w : Nat)

/-- An integer reduced modulo `2 ^ w`. -/
def wrapInt (w : Nat) (i : Int) : Nat := (i % ((2 ^ w : Nat) : Int)).toNat

/-- A saturating increment by `n` of a counter of `w` bits. -/
def satAdd (w c n : Nat) : Nat := min (c + n) (2 ^ w - 1)

/-- The number of one bits among the low `w` bits. -/
def popcount : Nat → Nat → Nat
  | 0, _ => 0
  | w + 1, n => n % 2 + popcount w (n / 2)

/-- The floor of the base 2 logarithm, found by halving at most `fuel` times. -/
def log2 (n : Nat) : Nat := Nat.log2 n

/-- `a / b` rounded up. -/
def ceilDiv (a b : Nat) : Nat := (a + b - 1) / b

/-- A list of `n` bytes, least significant first. -/
def leBytes : Nat → Nat → List Byte
  | 0, _ => []
  | n + 1, v => BitVec.ofNat 8 v :: leBytes n (v / 256)

/-- The number that little-endian bytes spell. -/
def leNat : List Byte → Nat
  | [] => 0
  | b :: bs => b.toNat + 256 * leNat bs

/-- Replace element `i` of a list; the list is unchanged where it is shorter. -/
def setAt {α : Type} : List α → Nat → α → List α
  | [], _, _ => []
  | _ :: l, 0, v => v :: l
  | a :: l, i + 1, v => a :: setAt l i v

/-- Indices of the one bits among the low `w` bits, rising. -/
def bitIndices (w n : Nat) : List Nat := (List.range w).filter (fun i => n.testBit i)

/-- Bytes as a sparse map of addresses. -/
abbrev Bytes := SMap Byte

/-- The `n` bytes from address `a` on. -/
def Bytes.read (d : Byte) (m : Bytes) : Nat → Nat → List Byte
  | _, 0 => []
  | a, n + 1 => SMap.get d m a :: Bytes.read d m (a + 1) n

/-- Store bytes from address `a` on, keeping the canonical form. -/
def Bytes.write (d : Byte) (m : Bytes) (a : Nat) : List Byte → Bytes
  | [] => m
  | b :: bs => Bytes.write d (SMap.put d m a b) (a + 1) bs

end Sys2Proof.Machine
end

