-- ==== Sys2Proof/Machine/Crypto.lean ====
section
/-! DEFINITION. SHA-256 (FIPS 180-4) and the RSASSA-PKCS1-v1_5 check of RFC 8017 with a 3,072-bit modulus, over bytes. -/
namespace Sys2Proof.Machine

/-- The greatest `r` above the start, within the bits below `i`, with `r ^ k ≤ n`, found from the top bit down. -/
def rootFrom (k n : Nat) : Nat → Nat → Nat
  | 0, r => r
  | i + 1, r => rootFrom k n i (if (r + 2 ^ i) ^ k ≤ n then r + 2 ^ i else r)

/-- The first 32 fractional bits of the `k`-th root of `p`, for `p` below 2,048 (FIPS 180-4 takes its constants so). -/
def rootFraction (k p : Nat) : Nat := rootFrom k (p * 2 ^ (32 * k)) 38 0 % 2 ^ 32

/-- A number above 1 has no divisor between. -/
def isPrime (n : Nat) : Bool := decide (1 < n) && (List.range 18).all (fun d => decide (d < 2) || decide (n ≤ d) || decide (n % d ≠ 0))

/-- The first 64 prime numbers. -/
def shaPrimes : List Nat := (List.range 312).filter isPrime

/-- The round constants of SHA-256: cube roots of the first 64 primes. -/
def shaK : List Nat := shaPrimes.map (rootFraction 3)

/-- The working variables of SHA-256. -/
structure ShaVars where
  a : Nat
  b : Nat
  c : Nat
  d : Nat
  e : Nat
  f : Nat
  g : Nat
  h : Nat

/-- The working variables as words. -/
def ShaVars.words (v : ShaVars) : List Nat := [v.a, v.b, v.c, v.d, v.e, v.f, v.g, v.h]

/-- The working variables that hold given words. -/
def ShaVars.of (w : List Nat) : ShaVars :=
  let at_ (i : Nat) : Nat := w.getD i 0
  { a := at_ 0, b := at_ 1, c := at_ 2, d := at_ 3, e := at_ 4, f := at_ 5, g := at_ 6, h := at_ 7 }

/-- The initial hash value: square roots of the first 8 primes. -/
def shaInit : ShaVars := ShaVars.of ((shaPrimes.take 8).map (rootFraction 2))

/-- The exclusive or of a 32-bit word rotated to the right by each amount. -/
def rotSum (x : Nat) (amounts : List Nat) : Nat := amounts.foldl (fun y n => y ^^^ ((x * (2 ^ 32 + 1)) / 2 ^ n % 2 ^ 32)) 0

/-- Big-endian number of bytes, and back. -/
def beNat (bs : List Byte) : Nat := bs.foldl (fun n v => n * 256 + v.toNat) 0
def beBytes (n v : Nat) : List Byte := (leBytes n v).reverse

/-- The message schedule: the last 16 words, newest first, extended `n` times; words are produced oldest first. -/
def shaExtend : Nat → List Nat → List Nat
  | 0, _ => []
  | n + 1, w =>
    let old (i : Nat) : Nat := w.getD (i - 1) 0
    let v := (rotSum (old 2) [17, 19] ^^^ old 2 / 2 ^ 10) + old 7 + (rotSum (old 15) [7, 18] ^^^ old 15 / 2 ^ 3) + old 16
    v % 2 ^ 32 :: shaExtend n ((v % 2 ^ 32 :: w).take 16)

/-- One round, with the sum of its constant and its schedule word. -/
def ShaVars.round (v : ShaVars) (kw : Nat) : ShaVars :=
  let choose := v.g ^^^ (v.e &&& (v.f ^^^ v.g))
  let majority := (v.a &&& (v.b ||| v.c)) ||| (v.b &&& v.c)
  let t := v.h + rotSum v.e [6, 11, 25] + choose + kw
  { a := (t + rotSum v.a [2, 13, 22] + majority) % 2 ^ 32, b := v.a, c := v.b, d := v.c
    e := (v.d + t) % 2 ^ 32, f := v.e, g := v.f, h := v.g }

/-- One block of 64 bytes. -/
def ShaVars.block (v : ShaVars) (bytes : List Byte) : ShaVars :=
  let w := (List.range 16).map (fun i => beNat ((bytes.drop (4 * i)).take 4))
  let sums := List.zipWith (· + ·) shaK (w ++ shaExtend 48 w.reverse)
  ShaVars.of (List.zipWith (fun x y => (x + y) % 2 ^ 32) v.words (sums.foldl ShaVars.round v).words)

/-- The blocks of a padded message, at most `n`. -/
def ShaVars.blocks : Nat → ShaVars → List Byte → ShaVars
  | 0, v, _ => v
  | n + 1, v, bytes => if bytes.isEmpty then v else ShaVars.blocks n (v.block (bytes.take 64)) (bytes.drop 64)

/-- SHA-256 of a message: 32 bytes. -/
def sha256 (msg : List Byte) : List Byte :=
  let n := msg.length
  let pad := (119 - n % 64) % 64
  let full := msg ++ [0x80] ++ List.replicate pad 0 ++ beBytes 8 (8 * n)
  (ShaVars.blocks (n / 64 + 2) shaInit full).words.flatMap (beBytes 4)

/-- `a ^ (2 ^ n)` modulo `m`. -/
def squareN (m : Nat) : Nat → Nat → Nat
  | 0, a => a % m
  | n + 1, a => squareN m n (a * a % m)

/-- RSA with public exponent 65,537. -/
def rsaPub (m s : Nat) : Nat := squareN m 16 s * (s % m) % m

/-- The DER prefix of a SHA-256 DigestInfo (RFC 8017, section 9.2). -/
def derSha256 : List Byte :=
  [0x30, 0x31, 0x30, 0x0D, 0x06, 0x09, 0x60, 0x86, 0x48, 0x01, 0x65, 0x03, 0x04, 0x02, 0x01, 0x05, 0x00, 0x04, 0x20]

/-- RSASSA-PKCS1-v1_5 with SHA-256 over 384-byte values, big-endian: the signature `sig` of a message whose digest is `digest`. -/
def rsaVerify (modulus sig digest : List Byte) : Bool :=
  let m := beNat modulus
  let s := beNat sig
  decide (0 < m) && decide (s < m) &&
    decide (beBytes 384 (rsaPub m s) = [0x00, 0x01] ++ List.replicate 330 0xFF ++ [0x00] ++ derSha256 ++ digest)

end Sys2Proof.Machine
end

