-- ==== Sys2Proof/Config.lean ====
section
/-! DEFINITION. Free values: what the spec leaves open and no proof can see. None has a body. A value drawn afresh is
one of these constants applied to the counter `fresh` of the state. -/
namespace Sys2Proof

/-- A byte of a window whose contents are undefined after an ownership remap or a group retirement (R195, R222):
by the number drawn at the remap and the OFFSET.
Log entry 8 (DESIGN CHOICE, safe). -/
opaque Config.freeByte : Nat → Nat → Byte

/-- A 64-bit value that the spec leaves undefined or does not state, by a fresh number.
Log entries 9 (DESIGN CHOICE, safe), 20 (DESIGN CHOICE, safe). -/
opaque Config.freeWord : Nat → W64

/-- How many cycles of a tile's clock fall into a tick; the spec fixes the frequency within 50 ppm only (R37, R100).
Log entry 20 (DESIGN CHOICE, safe). -/
opaque Config.tickCycles : Nat → Nat → Nat

/-- The frequency correction after a step of the control loop: by PGAIN, IGAIN, the offset and the correction before; the spec gives the
gains and no formula (R154, R185).
Log entry 51 (DESIGN CHOICE, unsafe). -/
opaque Config.loopStep : Nat → Nat → Int → Nat → W32

/-- The frequency correction that the 25 MHz reference gives a master (R156), by a fresh number.
Log entry 51 (DESIGN CHOICE, unsafe). -/
opaque Config.refFreq : Nat → W32

/-- What the tick plan of a rack partition says to a step master that is not its member and holds no copy of it (R176): by the index, PLAN_LEN
at 0, LAYER_COUNT at 1, and from 2 on the words of the layer records.
Log entry 82 (DESIGN CHOICE, safe). -/
opaque Config.peerPlan : Nat → Nat → Nat

/-- The set of a slice that a line maps to; the spec does not state it.
Log entry 9 (DESIGN CHOICE, safe). -/
opaque Config.sliceSet : Nat → Nat

/-- The choice of the replacement rule among the candidate ways (R210), by a fresh number.
Log entries 9 (DESIGN CHOICE, safe), 40 (DESIGN CHOICE, unsafe). -/
opaque Config.victim : Nat → Nat

/-- Bytes that come from an external transcript format (SPDM signatures, certificates), by a fresh number.
Log entry 9 (DESIGN CHOICE, safe). -/
opaque Config.freeBytes : Nat → List Byte

/-- Where serving control puts the areas of a bake (descriptor, length table, count array, completion records, slot tables: 0
to 4), in lines of 128 bytes of the package's memory, by a fresh number; the spec leaves the place open (R132).
Log entries 9 (DESIGN CHOICE, safe), 33 (DESIGN CHOICE, safe). -/
opaque Config.bakeArea : Nat → Nat → Nat

/-- The order in which serving control hands out the slots of an operation to live tiles (R133), by a fresh number.
Log entries 9 (DESIGN CHOICE, safe), 33 (DESIGN CHOICE, safe). -/
opaque Config.slotKey : Nat → Nat → Nat

/-- DRAFT_MAX of a model descriptor of another package, 0 where it is unavailable (R325): a fact about that package.
Log entry 9 (DESIGN CHOICE, safe). -/
opaque Config.peerDraftMax : Nat → Nat → Nat

/-- Which operations of a compiled model apply a starter, by model index and OP_ID, and to which layer (R311): the spec leaves this to the
compiler.
Log entry 98 (DEDUCED, unsafe). -/
opaque Config.starterLayer : Nat → Nat → Option Nat

/-- The PCI-SIG vendor ID of the manufacturer (R500), which the spec does not state.
Log entry 68 (DESIGN CHOICE, unsafe). -/
opaque Config.vendorId : Nat

/-- The certificate chain of SPDM slot 0 (R484), fixed in the part.
Log entry 9 (DESIGN CHOICE, safe). -/
opaque Config.certChain : List Byte

/-- The digest of the boot ROM (R486), fixed in the part.
Log entry 9 (DESIGN CHOICE, safe). -/
opaque Config.romDigest : List Byte

/-- The digest over the summary of fuses and straps (R486), whose form the spec does not give: by KEY_VALID, REVOKE, SVN_FUSE, TEST_FUSE
and the straps.
Log entries 9 (DESIGN CHOICE, safe), 64 (DEDUCED, unsafe). -/
opaque Config.fuseDigest : Nat → Nat → Nat → Nat → Nat → List Byte

/-- The version that GetPLDMVersion answers for a type whose version the spec does not state (R513).
Log entry 9 (DESIGN CHOICE, safe). -/
opaque Config.pldmVersion : Nat → Nat

end Sys2Proof
end

