-- ==== Sys2Proof/Machine/Fields.lean ====
section
/-! DEFINITION. The register fields of the block pages, one definition per row of the spec's register tables:
offset, lowest bit, width, access code (R11), kind (staged R27, immediate, expert R21 to R24), reset value, the byte
stride and count of an array of registers, and the range outside which a write is discarded with CFG_REJECT. -/
namespace Sys2Proof.Machine

/-- Access codes of R11. -/
inductive Acc where
  | ro | rw | wo | w1c | w1s
deriving DecidableEq, Repr

/-- How a field takes a write: at once, by the pending set, or as an expert field. -/
inductive FKind where
  | imm | staged | expert
deriving DecidableEq, Repr

/-- One register field of a page.
Log entry 6 (DESIGN CHOICE, unsafe). -/
structure Field where
  off : Nat
  lo : Nat
  width : Nat
  acc : Acc
  kind : FKind
  reset : Nat
  stride : Nat
  count : Nat
  min : Nat
  max : Nat
deriving DecidableEq, Repr

/-- The place of instance `i` of a field within its page, in bits from the page's first byte: the field's key. -/
def Field.key (f : Field) (i : Nat) : Nat := (f.off + f.stride * i) * 8 + f.lo

/-- The kinds of block pages of R519. -/
inductive PageKind where
  | dev | boot | flt | pwr | tbs | mgt | pci | eth | srv | moe | kvm | wld | clu | slc | mem | fab | gfab | til | reserved
deriving DecidableEq, Repr

/-- R44 (01): bit b is island 32n + b: 1 when its clock is locked and its crossings are open; bits for islands 401–415 of DEV_ISL_UP12 are RSV. -/
def F.DEV_ISL_UP.UP : Field := ⟨0x200, 0, 32, .ro, .imm, 0, 4, 13, 0, 4294967295⟩

/-- R44 (01): bit b: island 32n + b was reported ISLAND_HUNG; same reserved bits. -/
def F.DEV_ISL_HUNG.HUNG : Field := ⟨0x240, 0, 32, .w1c, .imm, 0, 4, 13, 0, 4294967295⟩

/-- R44 (01): limit in µs for R42, range 0x000A to 0x2710 (10 µs to 10 ms); a write outside the range is discarded and sets CFG_REJECT. -/
def F.DEV_HS_STALL.HS_STALL_LIMIT : Field := ⟨0x280, 0, 16, .rw, .imm, 100, 0, 1, 10, 10000⟩

/-- R128 (03): owning partition 0–15. -/
def F.TIL_ASSIGN.PART : Field := ⟨0x40, 0, 4, .rw, .staged, 0, 0, 1, 0, 15⟩

/-- R128 (03): the owning partition is pinned. -/
def F.TIL_ASSIGN.PINNED : Field := ⟨0x40, 8, 1, .ro, .imm, 0, 0, 1, 0, 1⟩

/-- R128 (03): 0b00 prefill, 0b01 decode, 0b10 none; set by the ratio governor. -/
def F.TIL_ASSIGN.POOL : Field := ⟨0x40, 9, 2, .ro, .imm, 2, 0, 1, 0, 3⟩

/-- R128 (03): program region start, bits [21:3] of the address. -/
def F.TIL_PROG.PROG_BASE : Field := ⟨0x44, 3, 19, .rw, .staged, 0, 0, 1, 0, 524287⟩

/-- R128 (03): spill area start, in 64 KiB units. -/
def F.TIL_SPILL.SPILL_BASE : Field := ⟨0x48, 0, 6, .rw, .staged, 0, 0, 1, 0, 63⟩

/-- R128 (03): spill area size in accumulator tiles of 64 KiB, 0–64; a write with SPILL_BASE + SPILL_TILES > 64 is discarded and sets CFG_REJECT. -/
def F.TIL_SPILL.SPILL_TILES : Field := ⟨0x48, 8, 7, .rw, .staged, 0, 0, 1, 0, 64⟩

/-- R128 (03): current L of R122. -/
def F.TIL_ISSUE.ISSUE_LEVEL : Field := ⟨0x50, 0, 5, .ro, .imm, 16, 0, 1, 0, 31⟩

/-- R128 (03): current G. -/
def F.TIL_ISSUE.GOV_LEVEL : Field := ⟨0x50, 8, 5, .ro, .imm, 16, 0, 1, 0, 31⟩

/-- R128 (03): current P. -/
def F.TIL_ISSUE.RAMP_LEVEL : Field := ⟨0x50, 16, 5, .ro, .imm, 16, 0, 1, 0, 31⟩

/-- R128 (03): clamp asserted now. -/
def F.TIL_ISSUE.DROOP : Field := ⟨0x50, 24, 1, .ro, .imm, 0, 0, 1, 0, 1⟩

/-- R128 (03): vector issue gated. -/
def F.TIL_ISSUE.VEC_GOV : Field := ⟨0x50, 25, 1, .ro, .imm, 0, 0, 1, 0, 1⟩

/-- R128 (03): 0b000 IDLE, 0b001 RUN, 0b010 ERR, 0b011 KNOCK, 0b100 RETIRED. -/
def F.TIL_SEQ.SEQ_STATE : Field := ⟨0x60, 0, 3, .ro, .imm, 0, 0, 1, 0, 7⟩

/-- R128 (03): address bits [21:3] of the next instruction, in place; the address is TIL_SEQ and 0x003F_FFF8. -/
def F.TIL_SEQ.PC : Field := ⟨0x60, 3, 19, .ro, .imm, 0, 0, 1, 0, 524287⟩

/-- R128 (03): last stopping fault code. -/
def F.TIL_ERR.ERR_CODE : Field := ⟨0x64, 0, 16, .ro, .imm, 0, 0, 1, 0, 65535⟩

/-- R128 (03): address of the faulting instruction. -/
def F.TIL_ERR_PC.ERR_PC : Field := ⟨0x68, 0, 22, .ro, .imm, 0, 0, 1, 0, 4194303⟩

/-- R128 (03): numeric flags, per R87; immediate. -/
def F.TIL_NSTAT.NSTAT : Field := ⟨0x70, 0, 8, .w1c, .imm, 0, 0, 1, 0, 255⟩

/-- R128 (03): last nonzero DMA status. -/
def F.TIL_DMA_ERR.LAST_STATUS : Field := ⟨0x74, 0, 4, .ro, .imm, 0, 0, 1, 0, 15⟩

/-- R128 (03): its tag. -/
def F.TIL_DMA_ERR.LAST_TAG : Field := ⟨0x74, 4, 4, .ro, .imm, 0, 0, 1, 0, 15⟩

/-- R128 (03): saturating count. -/
def F.TIL_DMA_ERR.DMA_ERR_CNT : Field := ⟨0x74, 16, 16, .ro, .imm, 0, 0, 1, 0, 65535⟩

/-- R128 (03): the tile is retired. -/
def F.TIL_RETIRE.RETIRED : Field := ⟨0x78, 0, 1, .ro, .imm, 0, 0, 1, 0, 1⟩

/-- R128 (03): 0 none, 1 Knock, 2 host request, 3 repeated UE, 4 ISLAND_HUNG. -/
def F.TIL_RETIRE.CAUSE : Field := ⟨0x78, 1, 3, .ro, .imm, 0, 0, 1, 0, 7⟩

/-- R128 (03): request retirement; immediate. -/
def F.TIL_RETIRE.RETIRE_REQ : Field := ⟨0x78, 8, 1, .w1s, .imm, 0, 0, 1, 0, 1⟩

/-- R128 (03): saturating. -/
def F.TIL_KNOCK.PASS_CNT : Field := ⟨0x80, 0, 16, .ro, .imm, 0, 0, 1, 0, 65535⟩

/-- R128 (03): saturating. -/
def F.TIL_KNOCK.FAIL_CNT : Field := ⟨0x80, 16, 8, .ro, .imm, 0, 0, 1, 0, 255⟩

/-- R128 (03): Knock image version in use. -/
def F.TIL_KNOCK.PATTERN_VER : Field := ⟨0x80, 24, 8, .ro, .imm, 0, 0, 1, 0, 255⟩

/-- R128 (03): Hearth tick at which the last Knock run ended; low word at 0x084. -/
def F.TIL_KNOCK_TICK.LAST_TICK : Field := ⟨0x84, 0, 64, .ro, .imm, 0, 0, 1, 0, 18446744073709551615⟩

/-- R128 (03): saturating. -/
def F.TIL_LATE.LATE_CNT : Field := ⟨0x90, 0, 16, .ro, .imm, 0, 0, 1, 0, 65535⟩

/-- R128 (03): ticks, saturating at 0xFFFF. -/
def F.TIL_LATE.LATE_MAX : Field := ⟨0x90, 16, 16, .ro, .imm, 0, 0, 1, 0, 65535⟩

/-- R128 (03): wraps modulo 2^32. -/
def F.TIL_SPILL_CNT.SPILL_CNT : Field := ⟨0x94, 0, 32, .ro, .imm, 0, 0, 1, 0, 4294967295⟩

/-- R128 (03): cycle counts; low word first. -/
def F.TIL_PERF.MAT_BUSY : Field := ⟨0xA0, 0, 64, .ro, .imm, 0, 0, 1, 0, 18446744073709551615⟩

/-- R128 (03): cycle counts; low word first. -/
def F.TIL_PERF.VEC_BUSY : Field := ⟨0xA8, 0, 64, .ro, .imm, 0, 0, 1, 0, 18446744073709551615⟩

/-- R128 (03): cycle counts; low word first. -/
def F.TIL_PERF.STALL_ISSUE : Field := ⟨0xB0, 0, 64, .ro, .imm, 0, 0, 1, 0, 18446744073709551615⟩

/-- R128 (03): cycle counts; low word first. -/
def F.TIL_PERF.STALL_HAZ : Field := ⟨0xB8, 0, 64, .ro, .imm, 0, 0, 1, 0, 18446744073709551615⟩

/-- R128 (03): 1 clears TIL_PERF0–3; immediate. -/
def F.TIL_PERF_CTL.CLEAR : Field := ⟨0xC0, 0, 1, .wo, .imm, 0, 0, 1, 0, 1⟩

/-- R128 (03): 1 stops counting; immediate. -/
def F.TIL_PERF_CTL.FREEZE : Field := ⟨0xC0, 1, 1, .rw, .imm, 0, 0, 1, 0, 1⟩

/-- R128 (03): saturating. -/
def F.TIL_ECC.SRAM_CE_CNT : Field := ⟨0xD0, 0, 16, .ro, .imm, 0, 0, 1, 0, 65535⟩

/-- R128 (03): saturating. -/
def F.TIL_ECC.ACC_CE_CNT : Field := ⟨0xD0, 16, 8, .ro, .imm, 0, 0, 1, 0, 255⟩

/-- R128 (03): SRAM_UE, ACC_UE and REG_UE events, saturating. -/
def F.TIL_ECC.UE_CNT : Field := ⟨0xD0, 24, 8, .ro, .imm, 0, 0, 1, 0, 255⟩

/-- R128 (03): entries pending, 0–256. -/
def F.TIL_SCORE.SCORE_DEPTH : Field := ⟨0xE0, 0, 9, .ro, .imm, 0, 0, 1, 0, 511⟩

/-- R128 (03): saturating. -/
def F.TIL_SCORE.SCORE_OVFL_CNT : Field := ⟨0xE0, 16, 16, .ro, .imm, 0, 0, 1, 0, 65535⟩

/-- R128 (03): matrix queue depth, 1–8. -/
def F.TIL_X_QDEPTH.MAT_Q : Field := ⟨0x400, 0, 4, .rw, .expert, 8, 0, 1, 1, 8⟩

/-- R128 (03): vector queue depth, 1–16. -/
def F.TIL_X_QDEPTH.VEC_Q : Field := ⟨0x400, 8, 5, .rw, .expert, 16, 0, 1, 1, 16⟩

/-- R128 (03): DMA queue depth, 1–16. -/
def F.TIL_X_QDEPTH.DMA_Q : Field := ⟨0x400, 16, 5, .rw, .expert, 16, 0, 1, 1, 16⟩

/-- R128 (03): 128-byte reads outstanding, 1–64. -/
def F.TIL_X_DMAOUT.DMA_OUT : Field := ⟨0x404, 0, 7, .rw, .expert, 64, 0, 1, 1, 64⟩

/-- R128 (03): hazard granularity, R96. -/
def F.TIL_X_SRAM.HAZ_LINE : Field := ⟨0x408, 0, 1, .rw, .expert, 1, 0, 1, 0, 1⟩

/-- R128 (03): TDMA guaranteed 1 in 2^TDMA_SLOT cycles per bank, 1–7. -/
def F.TIL_X_SRAM.TDMA_SLOT : Field := ⟨0x408, 4, 3, .rw, .expert, 3, 0, 1, 1, 7⟩

/-- R128 (03): 0 fetches every instruction from SRAM. -/
def F.TIL_X_SRAM.LOOPBUF_EN : Field := ⟨0x408, 8, 1, .rw, .expert, 1, 0, 1, 0, 1⟩

/-- R185 (05): use TB_REF_P/N when master. -/
def F.TBS_CFG.EXT_REF_EN : Field := ⟨0x40, 0, 1, .rw, .staged, 0, 0, 1, 0, 1⟩

/-- R185 (05): use TB_PPS when master. -/
def F.TBS_CFG.PPS_EN : Field := ⟨0x40, 1, 1, .rw, .staged, 0, 0, 1, 0, 1⟩

/-- R185 (05): align to PPS in FREE (R156). -/
def F.TBS_CFG.PPS_ALIGN : Field := ⟨0x40, 2, 1, .rw, .staged, 0, 0, 1, 0, 1⟩

/-- R185 (05): µs, 2–100. -/
def F.TBS_CFG.MASTER_LOSS : Field := ⟨0x40, 8, 8, .rw, .staged, 5, 0, 1, 2, 100⟩

/-- R185 (05): ms, 1–1,000. -/
def F.TBS_CFG.HOLDOVER_MAX : Field := ⟨0x40, 16, 16, .rw, .staged, 10, 0, 1, 1, 1000⟩

/-- R185 (05): 0b000 FREE, 0b001 ACQUIRE, 0b010 LOCKED, 0b011 HOLDOVER, 0b100 MASTER, 0b101 LOST. -/
def F.TBS_STATUS.SYNC : Field := ⟨0x44, 0, 3, .ro, .imm, 0, 0, 1, 0, 7⟩

/-- R185 (05): reference in range. -/
def F.TBS_STATUS.REF_OK : Field := ⟨0x44, 3, 1, .ro, .imm, 0, 0, 1, 0, 1⟩

/-- R185 (05): PPS seen within 1.1 s. -/
def F.TBS_STATUS.PPS_OK : Field := ⟨0x44, 4, 1, .ro, .imm, 0, 0, 1, 0, 1⟩

/-- R185 (05): TBM_EN strap. -/
def F.TBS_STATUS.TBM_EN : Field := ⟨0x44, 5, 1, .ro, .imm, 0, 0, 1, 0, 1⟩

/-- R185 (05): as in the set. -/
def F.TBS_STATUS.STRATUM : Field := ⟨0x44, 6, 2, .ro, .imm, 3, 0, 1, 0, 3⟩

/-- R185 (05): SLOT_ID[5:0]. -/
def F.TBS_STATUS.SLOT : Field := ⟨0x44, 8, 6, .ro, .imm, 0, 0, 1, 0, 63⟩

/-- R185 (05): valid when MASTER_VALID = 1. -/
def F.TBS_STATUS.MASTER_SLOT : Field := ⟨0x44, 16, 6, .ro, .imm, 0, 0, 1, 0, 63⟩

/-- R185 (05): a master is known. -/
def F.TBS_STATUS.MASTER_VALID : Field := ⟨0x44, 22, 1, .ro, .imm, 0, 0, 1, 0, 1⟩

/-- R185 (05): Hearth time [31:0]; latches NOW_HI. -/
def F.TBS_NOW_LO.NOW_LO : Field := ⟨0x48, 0, 32, .ro, .imm, 0, 0, 1, 0, 4294967295⟩

/-- R185 (05): Hearth time [63:32]. -/
def F.TBS_NOW_HI.NOW_HI : Field := ⟨0x4C, 0, 32, .ro, .imm, 0, 0, 1, 0, 4294967295⟩

/-- R185 (05): signed offset to master, 1/256 ns. -/
def F.TBS_OFFSET.OFFSET : Field := ⟨0x50, 0, 16, .ro, .imm, 0, 0, 1, 0, 65535⟩

/-- R185 (05): signed frequency correction, ppb. -/
def F.TBS_FREQ.FREQ : Field := ⟨0x54, 0, 32, .ro, .imm, 0, 0, 1, 0, 4294967295⟩

/-- R185 (05): Hearth time of the last PPS edge; low word first. -/
def F.TBS_LAST_PPS.LAST_PPS : Field := ⟨0x58, 0, 64, .ro, .imm, 0, 0, 1, 0, 18446744073709551615⟩

/-- R185 (05): µs, 10–1,000. -/
def F.TBS_STEP.ANNOUNCE_LEAD : Field := ⟨0x60, 0, 16, .rw, .staged, 20, 0, 1, 10, 1000⟩

/-- R185 (05): µs, 2–100. -/
def F.TBS_PLAN.PUSH_LEAD : Field := ⟨0x64, 0, 8, .rw, .staged, 5, 0, 1, 2, 100⟩

/-- R185 (05): µs, 1–50. -/
def F.TBS_PLAN.VOTE_WINDOW : Field := ⟨0x64, 8, 8, .rw, .staged, 3, 0, 1, 1, 50⟩

/-- R185 (05): µs, 1–50. -/
def F.TBS_PLAN.SHIFT_LEAD : Field := ⟨0x64, 16, 8, .rw, .staged, 2, 0, 1, 1, 50⟩

/-- R185 (05): µs, 1–10,000. -/
def F.TBS_BAR.BAR_TIMEOUT : Field := ⟨0x68, 0, 16, .rw, .staged, 100, 0, 1, 1, 10000⟩

/-- R185 (05): ticks, 50–5,000. -/
def F.TBS_BAR.RELEASE_LEAD : Field := ⟨0x68, 16, 16, .rw, .staged, 200, 0, 1, 50, 5000⟩

/-- R185 (05): units of 0.5 µs, 1–100. -/
def F.TBS_RISE.RAMP_TIME : Field := ⟨0x6C, 0, 7, .rw, .staged, 4, 0, 1, 1, 100⟩

/-- R185 (05): units of 0.1 µs, 0–255. -/
def F.TBS_RISE.RISE_IDLE : Field := ⟨0x6C, 8, 8, .rw, .staged, 10, 0, 1, 0, 255⟩

/-- R185 (05): ticks, 0–65,535. -/
def F.TBS_RISE.PKG_OFFSET : Field := ⟨0x6C, 16, 16, .rw, .staged, 0, 0, 1, 0, 65535⟩

/-- R185 (05): entries to LOST. -/
def F.TBS_CNT0.LOCK_LOSS_CNT : Field := ⟨0x80, 0, 16, .ro, .imm, 0, 0, 1, 0, 65535⟩

/-- R185 (05): master changes seen. -/
def F.TBS_CNT0.MASTER_CHG_CNT : Field := ⟨0x80, 16, 16, .ro, .imm, 0, 0, 1, 0, 65535⟩

/-- R185 (05): missed PPS edges. -/
def F.TBS_CNT1.PPS_MISS_CNT : Field := ⟨0x84, 0, 16, .ro, .imm, 0, 0, 1, 0, 65535⟩

/-- R185 (05): R170, R175. -/
def F.TBS_CNT1.STALE_CNT : Field := ⟨0x84, 16, 16, .ro, .imm, 0, 0, 1, 0, 65535⟩

/-- R185 (05): R181. -/
def F.TBS_CNT2.SHIFT_LATE_CNT : Field := ⟨0x88, 0, 16, .ro, .imm, 0, 0, 1, 0, 65535⟩

/-- R185 (05): R179. -/
def F.TBS_CNT2.VOTE_MISS_CNT : Field := ⟨0x88, 16, 16, .ro, .imm, 0, 0, 1, 0, 65535⟩

/-- R185 (05): R169. -/
def F.TBS_CNT3.BAR_FAIL_CNT : Field := ⟨0x8C, 0, 16, .ro, .imm, 0, 0, 1, 0, 65535⟩

/-- R185 (05): R160. -/
def F.TBS_CNT3.BAD_ENTRY_CNT : Field := ⟨0x8C, 16, 16, .ro, .imm, 0, 0, 1, 0, 65535⟩

/-- R185 (05): last step start tick announced for index k; low word first. -/
def F.TBS_NEXT_START.NEXT_START : Field := ⟨0x100, 0, 64, .ro, .imm, 0, 8, 16, 0, 18446744073709551615⟩

/-- R185 (05): PLAN_END_TICK of the bake in progress for k, with shifts. -/
def F.TBS_PLAN_END.PLAN_END : Field := ⟨0x180, 0, 64, .ro, .imm, 0, 8, 16, 0, 18446744073709551615⟩

/-- R185 (05): proportional gain, 2^-PGAIN. -/
def F.TBS_X_LOOP.PGAIN : Field := ⟨0x400, 0, 4, .rw, .expert, 6, 0, 1, 0, 15⟩

/-- R185 (05): integral gain, 2^-IGAIN. -/
def F.TBS_X_LOOP.IGAIN : Field := ⟨0x400, 8, 4, .rw, .expert, 12, 0, 1, 0, 15⟩

/-- R185 (05): 1/16 ns, 1–16. -/
def F.TBS_X_LOCK.LOCK_THR : Field := ⟨0x404, 0, 8, .rw, .expert, 8, 0, 1, 1, 16⟩

/-- R185 (05): consecutive sets, 1–255. -/
def F.TBS_X_LOCK.LOCK_COUNT : Field := ⟨0x404, 8, 8, .rw, .expert, 64, 0, 1, 1, 255⟩

/-- R185 (05): signed cable delay of TB_PPS, 1/16 ns. -/
def F.TBS_X_PPS.PPS_DELAY : Field := ⟨0x408, 0, 16, .rw, .expert, 0, 0, 1, 0, 65535⟩

/-- R224 (06): records queued, 0–256. -/
def F.DEV_FRZ_STAT.PENDING : Field := ⟨0x300, 0, 9, .ro, .imm, 0, 0, 1, 0, 511⟩

/-- R224 (06): requests running, 0–16. -/
def F.DEV_FRZ_STAT.ACTIVE : Field := ⟨0x300, 16, 5, .ro, .imm, 0, 0, 1, 0, 31⟩

/-- R224 (06): freezes completed, wraps. -/
def F.DEV_FRZ_CNT.FREEZE_DONE : Field := ⟨0x304, 0, 16, .ro, .imm, 0, 0, 1, 0, 65535⟩

/-- R224 (06): thaws completed, wraps. -/
def F.DEV_FRZ_CNT.THAW_DONE : Field := ⟨0x304, 16, 16, .ro, .imm, 0, 0, 1, 0, 65535⟩

/-- R224 (06): writes refused WRITE_FROZEN, saturating. -/
def F.DEV_FRZ_REJ.WFROZEN_CNT : Field := ⟨0x308, 0, 16, .ro, .imm, 0, 0, 1, 0, 65535⟩

/-- R224 (06): requests ended with nonzero status. -/
def F.DEV_FRZ_REJ.REQ_ERR_CNT : Field := ⟨0x308, 16, 16, .ro, .imm, 0, 0, 1, 0, 65535⟩

/-- R224 (06): µs, 10–1,000 (R204). -/
def F.DEV_FRZ_CFG.FILL_MAX_AGE : Field := ⟨0x30C, 0, 16, .rw, .imm, 50, 0, 1, 10, 1000⟩

/-- R224 (06): µs, 10–10,000 (R202). -/
def F.DEV_FRZ_CFG.DRAIN_WARN : Field := ⟨0x30C, 16, 16, .rw, .imm, 100, 0, 1, 10, 10000⟩

/-- R224 (06): R197, saturating. -/
def F.DEV_FRZ_LEASE.LEASE_RETRY_CNT : Field := ⟨0x310, 0, 32, .ro, .imm, 0, 0, 1, 0, 4294967295⟩

/-- R225 (06): ways partition p allocates in. -/
def F.SLC_MASK.ALLOC_WAYS : Field := ⟨0x40, 0, 16, .rw, .staged, 0, 4, 16, 0, 65535⟩

/-- R225 (06): pin ways; not a subset of ALLOC_WAYS: CFG_REJECT. -/
def F.SLC_MASK.PIN_WAYS : Field := ⟨0x40, 16, 16, .rw, .staged, 0, 4, 16, 0, 65535⟩

/-- R225 (06): bit p unpins every line of partition p; immediate. -/
def F.SLC_UNPIN.UNPIN : Field := ⟨0x80, 0, 16, .w1s, .imm, 0, 0, 1, 0, 65535⟩

/-- R225 (06): slice cycles, 256–65,535. -/
def F.SLC_STARVE.STARVE_LIMIT : Field := ⟨0x84, 0, 16, .rw, .staged, 8192, 0, 1, 256, 65535⟩

/-- R225 (06): thaw filter entries in use. -/
def F.SLC_FILTER.FILTER_USED : Field := ⟨0x88, 0, 7, .ro, .imm, 0, 0, 1, 0, 127⟩

/-- R225 (06): saturating. -/
def F.SLC_FILTER.FILTER_OVF_CNT : Field := ⟨0x88, 16, 16, .ro, .imm, 0, 0, 1, 0, 65535⟩

/-- R225 (06): saturating. -/
def F.SLC_STARVE_CNT.STARVE_CNT : Field := ⟨0x8C, 0, 32, .ro, .imm, 0, 0, 1, 0, 4294967295⟩

/-- R225 (06): lines; low word first. -/
def F.SLC_PERF.HIT : Field := ⟨0xA0, 0, 64, .ro, .imm, 0, 0, 1, 0, 18446744073709551615⟩

/-- R225 (06): lines; low word first. -/
def F.SLC_PERF.MISS : Field := ⟨0xA8, 0, 64, .ro, .imm, 0, 0, 1, 0, 18446744073709551615⟩

/-- R225 (06): lines; low word first. -/
def F.SLC_PERF.BYPASS : Field := ⟨0xB0, 0, 64, .ro, .imm, 0, 0, 1, 0, 18446744073709551615⟩

/-- R225 (06): lines; low word first. -/
def F.SLC_PERF.NOFILL : Field := ⟨0xB8, 0, 64, .ro, .imm, 0, 0, 1, 0, 18446744073709551615⟩

/-- R225 (06): saturating. -/
def F.SLC_ECC.CE_CNT : Field := ⟨0xC0, 0, 16, .ro, .imm, 0, 0, 1, 0, 65535⟩

/-- R225 (06): saturating. -/
def F.SLC_ECC.REFETCH_CNT : Field := ⟨0xC0, 16, 16, .ro, .imm, 0, 0, 1, 0, 65535⟩

/-- R225 (06): 0b00 tree pseudo-LRU, 0b01 FIFO; others CFG_REJECT. -/
def F.SLC_X_REPL.REPL : Field := ⟨0x400, 0, 2, .rw, .expert, 0, 0, 1, 0, 1⟩

/-- R225 (06): misses outstanding, 1–64. -/
def F.SLC_X_MSHR.MSHR : Field := ⟨0x404, 0, 7, .rw, .expert, 64, 0, 1, 1, 64⟩

/-- R226 (06): controller cycles, 256–65,535. -/
def F.MEM_STARVE.STARVE_LIMIT : Field := ⟨0x40, 0, 16, .rw, .staged, 8192, 0, 1, 256, 65535⟩

/-- R226 (06): bit c: retire the group of channel 16k + c (R222); immediate. -/
def F.MEM_CH_RETIRE.CH_RETIRE_REQ : Field := ⟨0x44, 0, 16, .w1s, .imm, 0, 0, 1, 0, 65535⟩

/-- R226 (06): 1–15. -/
def F.MEM_UE_LIMIT.CH_UE_LIMIT : Field := ⟨0x48, 0, 4, .rw, .staged, 3, 0, 1, 1, 15⟩

/-- R226 (06): bit i: retrain group 2k + i; immediate. -/
def F.MEM_RETRAIN.RETRAIN_REQ : Field := ⟨0x4C, 0, 2, .w1s, .imm, 0, 0, 1, 0, 3⟩

/-- R226 (06): minutes, 1–255. -/
def F.MEM_RETRAIN.RETRAIN_PERIOD : Field := ⟨0x4C, 8, 8, .rw, .staged, 60, 0, 1, 1, 255⟩

/-- R226 (06): °C, 2–40. -/
def F.MEM_RETRAIN.RETRAIN_DTEMP : Field := ⟨0x4C, 16, 8, .rw, .staged, 10, 0, 1, 2, 40⟩

/-- R226 (06): channel trained and serving. -/
def F.MEM_CH_STATUS.CH_UP : Field := ⟨0x50, 0, 16, .ro, .imm, 0, 0, 1, 0, 65535⟩

/-- R226 (06): channel in a retired group. -/
def F.MEM_CH_STATUS.CH_RETIRED : Field := ⟨0x50, 16, 16, .ro, .imm, 0, 0, 1, 0, 65535⟩

/-- R226 (06): group 2k + i retraining now. -/
def F.MEM_GRP_STATUS.RETRAINING : Field := ⟨0x54, 0, 2, .ro, .imm, 0, 0, 1, 0, 3⟩

/-- R226 (06): group 2k + i retired. -/
def F.MEM_GRP_STATUS.GRP_RETIRED : Field := ⟨0x54, 2, 2, .ro, .imm, 0, 0, 1, 0, 3⟩

/-- R226 (06): hottest LPDDR5X die, °C. -/
def F.MEM_TEMP.TEMP : Field := ⟨0x58, 0, 8, .ro, .imm, 0, 0, 1, 0, 255⟩

/-- R226 (06): highest MR4 refresh-rate code read. -/
def F.MEM_TEMP.MR4_RATE : Field := ⟨0x58, 8, 3, .ro, .imm, 0, 0, 1, 0, 7⟩

/-- R226 (06): corrected lines, saturating. -/
def F.MEM_ECC.CE_CNT : Field := ⟨0x60, 0, 16, .ro, .imm, 0, 4, 16, 0, 65535⟩

/-- R226 (06): poisoned lines, saturating. -/
def F.MEM_ECC.UE_CNT : Field := ⟨0x60, 16, 8, .ro, .imm, 0, 4, 16, 0, 255⟩

/-- R226 (06): link ECC corrections, saturating. -/
def F.MEM_ECC.LINK_CE_CNT : Field := ⟨0x60, 24, 8, .ro, .imm, 0, 4, 16, 0, 255⟩

/-- R226 (06): bytes, bytes, cycles, cycles; low word first. -/
def F.MEM_PERF.RD_BYTES : Field := ⟨0xA0, 0, 64, .ro, .imm, 0, 0, 1, 0, 18446744073709551615⟩

/-- R226 (06): bytes, bytes, cycles, cycles; low word first. -/
def F.MEM_PERF.WR_BYTES : Field := ⟨0xA8, 0, 64, .ro, .imm, 0, 0, 1, 0, 18446744073709551615⟩

/-- R226 (06): bytes, bytes, cycles, cycles; low word first. -/
def F.MEM_PERF.LEASE_WAIT : Field := ⟨0xB0, 0, 64, .ro, .imm, 0, 0, 1, 0, 18446744073709551615⟩

/-- R226 (06): bytes, bytes, cycles, cycles; low word first. -/
def F.MEM_PERF.RETRAIN_STALL : Field := ⟨0xB8, 0, 64, .ro, .imm, 0, 0, 1, 0, 18446744073709551615⟩

/-- R226 (06): saturating. -/
def F.MEM_STARVE_CNT.STARVE_CNT : Field := ⟨0xC0, 0, 32, .ro, .imm, 0, 0, 1, 0, 4294967295⟩

/-- R226 (06): R186. -/
def F.MEM_SCORE.SCORE_DEPTH : Field := ⟨0xE0, 0, 10, .ro, .imm, 0, 0, 1, 0, 1023⟩

/-- R226 (06): R186. -/
def F.MEM_SCORE.SCORE_OVFL_CNT : Field := ⟨0xE0, 16, 16, .ro, .imm, 0, 0, 1, 0, 65535⟩

/-- R226 (06): saturating. -/
def F.MEM_PROOF.PROOF_SKIP_CNT : Field := ⟨0xE4, 0, 16, .ro, .imm, 0, 0, 1, 0, 65535⟩

/-- R226 (06): saturating. -/
def F.MEM_PROOF.PROOF_REJECT_CNT : Field := ⟨0xE4, 16, 16, .ro, .imm, 0, 0, 1, 0, 65535⟩

/-- R226 (06): partition 0x00–0x0F, or 0x10 unowned; others CFG_REJECT; page 0x0C0 only. -/
def F.MEM_MAP_GRP.OWNER : Field := ⟨0x100, 0, 5, .rw, .staged, 0, 4, 32, 0, 16⟩

/-- R226 (06): write queue entries that start a write drain, 8–64. -/
def F.MEM_X_SCHED.WR_HI : Field := ⟨0x400, 0, 8, .rw, .expert, 48, 0, 1, 8, 64⟩

/-- R226 (06): entries that end it, 0–WR_HI − 1. -/
def F.MEM_X_SCHED.WR_LO : Field := ⟨0x400, 8, 8, .rw, .expert, 16, 0, 1, 0, 255⟩

/-- R226 (06): refresh management. -/
def F.MEM_X_REF.RFM_EN : Field := ⟨0x404, 0, 1, .rw, .expert, 1, 0, 1, 0, 1⟩

/-- R226 (06): hours, 1–168. -/
def F.MEM_X_SCRUB.SCRUB_PERIOD : Field := ⟨0x408, 0, 8, .rw, .expert, 24, 0, 1, 1, 168⟩

/-- R254 (07): sequence table, 4 KiB aligned; low word first. -/
def F.KVM_SEQ_BASE.SEQ_BASE : Field := ⟨0x40, 0, 64, .rw, .staged, 0, 0, 1, 0, 18446744073709551615⟩

/-- R254 (07): page-list area, 4 KiB aligned. -/
def F.KVM_PL_BASE.PL_BASE : Field := ⟨0x48, 0, 64, .rw, .staged, 0, 0, 1, 0, 18446744073709551615⟩

/-- R254 (07): page-list lines per sequence, 1–2,048. -/
def F.KVM_PL.PL_LINES : Field := ⟨0x50, 0, 12, .rw, .staged, 128, 0, 1, 1, 2048⟩

/-- R254 (07): pool table, 1 KiB, 128-byte aligned. -/
def F.KVM_POOL_TAB.POOL_TAB : Field := ⟨0x58, 0, 64, .rw, .staged, 0, 0, 1, 0, 18446744073709551615⟩

/-- R254 (07): bit k enables pool k (R231). -/
def F.KVM_POOL_EN.POOL_EN : Field := ⟨0x60, 0, 16, .rw, .staged, 0, 0, 1, 0, 65535⟩

/-- R254 (07): bakes, 1–255. -/
def F.KVM_ADMIT.KV_WAIT_MAX : Field := ⟨0x64, 0, 8, .rw, .staged, 16, 0, 1, 1, 255⟩

/-- R254 (07): µs from T, 1–200. -/
def F.KVM_ADMIT.LOOKUP_DEADLINE : Field := ⟨0x64, 8, 8, .rw, .staged, 12, 0, 1, 1, 200⟩

/-- R254 (07): free pages of pool k. -/
def F.KVM_FREE.FREE : Field := ⟨0x80, 0, 32, .ro, .imm, 0, 4, 16, 0, 4294967295⟩

/-- R254 (07): 0b00 OFF, 0b01 INIT, 0b10 ON, 0b11 DRAINING. -/
def F.KVM_PSTAT.STATE : Field := ⟨0xC0, 0, 2, .ro, .imm, 0, 4, 16, 0, 3⟩

/-- R254 (07): last enable refused as invalid. -/
def F.KVM_PSTAT.ERR : Field := ⟨0xC0, 2, 1, .ro, .imm, 0, 4, 16, 0, 1⟩

/-- R254 (07): prefix table of partition p, 128 MiB, 4 KiB aligned. -/
def F.KVM_PFX_BASE.PFX_BASE : Field := ⟨0x100, 0, 64, .rw, .staged, 0, 8, 16, 0, 18446744073709551615⟩

/-- R254 (07): prefix reuse for partition p. -/
def F.KVM_PFX_CFG.PREFIX_EN : Field := ⟨0x180, 0, 1, .rw, .staged, 0, 4, 16, 0, 1⟩

/-- R254 (07): compare tokens on a match. -/
def F.KVM_PFX_CFG.VERIFY : Field := ⟨0x180, 1, 1, .rw, .staged, 1, 4, 16, 0, 1⟩

/-- R254 (07): 4–8. -/
def F.KVM_PFX_CFG.BLOCK_LOG2 : Field := ⟨0x180, 2, 4, .rw, .staged, 6, 4, 16, 4, 8⟩

/-- R254 (07): invalidate the table at commit (R251); reads 0 after commit. -/
def F.KVM_PFX_CFG.CLEAR : Field := ⟨0x180, 6, 1, .w1s, .staged, 0, 4, 16, 0, 1⟩

/-- R254 (07): KEY_p[31:0] at +0 to [127:96] at +12; reads zero. -/
def F.KVM_PFX_KEY.KEY : Field := ⟨0x200, 0, 128, .wo, .staged, 0, 16, 16, 0, 340282366920938463463374607431768211455⟩

/-- R254 (07): pages allocated, wraps. -/
def F.KVM_ALLOC_CNT.ALLOC_CNT : Field := ⟨0x300, 0, 32, .ro, .imm, 0, 0, 1, 0, 4294967295⟩

/-- R254 (07): pages returned to a stack, wraps. -/
def F.KVM_REL_CNT.REL_CNT : Field := ⟨0x304, 0, 32, .ro, .imm, 0, 0, 1, 0, 4294967295⟩

/-- R254 (07): pages taken by reference, wraps. -/
def F.KVM_PFX_HIT.PFX_HIT : Field := ⟨0x308, 0, 32, .ro, .imm, 0, 0, 1, 0, 4294967295⟩

/-- R254 (07): lookups ended by a miss, wraps. -/
def F.KVM_PFX_MISS.PFX_MISS : Field := ⟨0x30C, 0, 32, .ro, .imm, 0, 0, 1, 0, 4294967295⟩

/-- R254 (07): saturating. -/
def F.KVM_PFX_CNT.COLLIDE_CNT : Field := ⟨0x310, 0, 16, .ro, .imm, 0, 0, 1, 0, 65535⟩

/-- R254 (07): saturating. -/
def F.KVM_PFX_CNT.DEADLINE_CNT : Field := ⟨0x310, 16, 16, .ro, .imm, 0, 0, 1, 0, 65535⟩

/-- R254 (07): sequence-bakes sat out, saturating. -/
def F.KVM_WAIT_CNT.KV_WAIT_CNT : Field := ⟨0x314, 0, 16, .ro, .imm, 0, 0, 1, 0, 65535⟩

/-- R254 (07): saturating. -/
def F.KVM_WAIT_CNT.EXHAUST_CNT : Field := ⟨0x314, 16, 16, .ro, .imm, 0, 0, 1, 0, 65535⟩

/-- R254 (07): saturating. -/
def F.KVM_ERR_CNT.NO_COMMIT_CNT : Field := ⟨0x318, 0, 16, .ro, .imm, 0, 0, 1, 0, 65535⟩

/-- R254 (07): saturating. -/
def F.KVM_ERR_CNT.BAD_KEEP_CNT : Field := ⟨0x318, 16, 16, .ro, .imm, 0, 0, 1, 0, 65535⟩

/-- R254 (07): 1–16. -/
def F.KVM_X_HASH.HASH_LANES : Field := ⟨0x400, 0, 5, .rw, .expert, 16, 0, 1, 1, 16⟩

/-- R254 (07): 1–16. -/
def F.KVM_X_FRZ.FRZ_INFLIGHT : Field := ⟨0x404, 0, 5, .rw, .expert, 16, 0, 1, 1, 16⟩

/-- R290 (08): rows per bake per home package, 1–262,144 (R257). -/
def F.MOE_CFG.MAX_ROWS : Field := ⟨0x40, 0, 19, .rw, .staged, 262144, 0, 1, 1, 262144⟩

/-- R290 (08): next table, 4 KiB aligned; immediate; refused while ARM = 1. -/
def F.MOE_PLC_NEXT.PLC_NEXT : Field := ⟨0x100, 0, 64, .rw, .imm, 0, 32, 16, 0, 18446744073709551615⟩

/-- R290 (08): BAKE_NO of the swap boundary; immediate; refused while ARM = 1. -/
def F.MOE_SWAP_BAKE.SWAP_BAKE : Field := ⟨0x108, 0, 64, .rw, .imm, 0, 32, 16, 0, 18446744073709551615⟩

/-- R290 (08): table in force. -/
def F.MOE_PLC_ACTIVE.PLC_ACTIVE : Field := ⟨0x110, 0, 64, .ro, .imm, 0, 32, 16, 0, 18446744073709551615⟩

/-- R290 (08): epoch in force; 0 none. -/
def F.MOE_EPOCH.EPOCH : Field := ⟨0x118, 0, 32, .ro, .imm, 0, 32, 16, 0, 4294967295⟩

/-- R290 (08): 1 starts the check (R264); immediate; writing 0 abandons a staged swap. -/
def F.MOE_PCTL.ARM : Field := ⟨0x11C, 0, 1, .rw, .imm, 0, 32, 16, 0, 1⟩

/-- R290 (08): armed table passed its check. -/
def F.MOE_PCTL.CHECKED : Field := ⟨0x11C, 1, 1, .ro, .imm, 0, 32, 16, 0, 1⟩

/-- R290 (08): last arm or swap failed; clears when ARM is next set. -/
def F.MOE_PCTL.SWAP_ERR : Field := ⟨0x11C, 2, 1, .ro, .imm, 0, 32, 16, 0, 1⟩

/-- R290 (08): 0–8; staged. -/
def F.MOE_PCTL.OVERFLOW_ROUNDS_MAX : Field := ⟨0x11C, 8, 4, .rw, .staged, 4, 32, 16, 0, 8⟩

/-- R290 (08): load banks, 2 MiB, 4 KiB aligned; staged. -/
def F.MOE_LOAD_BASE.LOAD_BASE : Field := ⟨0x300, 0, 64, .rw, .staged, 0, 8, 16, 0, 18446744073709551615⟩

/-- R290 (08): rounds added, wraps. -/
def F.MOE_DEFER_CNT.DEFER_CNT : Field := ⟨0x380, 0, 32, .ro, .imm, 0, 0, 1, 0, 4294967295⟩

/-- R290 (08): copies in rounds 1 and later, wraps. -/
def F.MOE_DEFROW_CNT.DEFROW_CNT : Field := ⟨0x384, 0, 32, .ro, .imm, 0, 0, 1, 0, 4294967295⟩

/-- R290 (08): copies dropped under DROP, wraps. -/
def F.MOE_DROP_CNT.DROP_CNT : Field := ⟨0x388, 0, 32, .ro, .imm, 0, 0, 1, 0, 4294967295⟩

/-- R290 (08): copies dropped past RLIM, wraps. -/
def F.MOE_LIMIT_CNT.LIMIT_CNT : Field := ⟨0x38C, 0, 32, .ro, .imm, 0, 0, 1, 0, 4294967295⟩

/-- R290 (08): R283, saturating. -/
def F.MOE_ERR_CNT.SEG_ERR_CNT : Field := ⟨0x390, 0, 16, .ro, .imm, 0, 0, 1, 0, 65535⟩

/-- R290 (08): R275, saturating. -/
def F.MOE_ERR_CNT.COUNT_MISS_CNT : Field := ⟨0x390, 16, 16, .ro, .imm, 0, 0, 1, 0, 65535⟩

/-- R290 (08): tables brought into force, wraps. -/
def F.MOE_EPOCH_CNT.EPOCH_CNT : Field := ⟨0x394, 0, 32, .ro, .imm, 0, 0, 1, 0, 4294967295⟩

/-- R290 (08): lanes of the plan engine, 1–64. -/
def F.MOE_X_PLAN.PLAN_LANES : Field := ⟨0x400, 0, 7, .rw, .expert, 64, 0, 1, 1, 64⟩

/-- R290 (08): entries checked per 256 ns, 1–8. -/
def F.MOE_X_CHECK.CHECK_RATE : Field := ⟨0x404, 0, 4, .rw, .expert, 4, 0, 1, 1, 8⟩

/-- R333 (09): pinned partition (R296). -/
def F.SRV_CFG.PINNED : Field := ⟨0x40, 0, 1, .rw, .staged, 0, 0, 1, 0, 1⟩

/-- R333 (09): stop admission at item 4; immediate. -/
def F.SRV_CFG.ADMIT_STOP : Field := ⟨0x40, 1, 1, .rw, .imm, 0, 0, 1, 0, 1⟩

/-- R333 (09): 0–8. -/
def F.SRV_CFG.DRAFT_CAP : Field := ⟨0x40, 8, 4, .rw, .staged, 8, 0, 1, 0, 8⟩

/-- R333 (09): first SEQ_ID. -/
def F.SRV_SEQ.SEQ_FIRST : Field := ⟨0x44, 0, 14, .rw, .staged, 0, 0, 1, 0, 16383⟩

/-- R333 (09): 0–16,384; SEQ_FIRST + SEQ_COUNT ≤ 16,384. -/
def F.SRV_SEQ.SEQ_COUNT : Field := ⟨0x44, 16, 15, .rw, .staged, 0, 0, 1, 0, 16384⟩

/-- R333 (09): µs, 1–1,000. -/
def F.SRV_POLL.IDLE_POLL : Field := ⟨0x48, 0, 10, .rw, .staged, 2, 0, 1, 1, 1000⟩

/-- R333 (09): tokens, 16–65,536. -/
def F.SRV_PF0.PF_CHUNK : Field := ⟨0x4C, 0, 17, .rw, .staged, 2048, 0, 1, 16, 65536⟩

/-- R333 (09): prefill rows per bake, 16–262,144. -/
def F.SRV_PF1.PF_BUDGET : Field := ⟨0x50, 0, 19, .rw, .staged, 16384, 0, 1, 16, 262144⟩

/-- R333 (09): 0–288. -/
def F.SRV_RATIO0.PF_MIN : Field := ⟨0x54, 0, 9, .rw, .staged, 0, 0, 1, 0, 288⟩

/-- R333 (09): PF_MIN–288. -/
def F.SRV_RATIO0.PF_MAX : Field := ⟨0x54, 16, 9, .rw, .staged, 288, 0, 1, 0, 288⟩

/-- R333 (09): tiles, 0–255. -/
def F.SRV_RATIO1.HYST : Field := ⟨0x58, 0, 8, .rw, .staged, 8, 0, 1, 0, 255⟩

/-- R333 (09): tiles, 1–255. -/
def F.SRV_RATIO1.STEP_MAX : Field := ⟨0x58, 8, 8, .rw, .staged, 32, 0, 1, 1, 255⟩

/-- R333 (09): 1/16 units, 1–65,535. -/
def F.SRV_RATIO1.DEC_WEIGHT : Field := ⟨0x58, 16, 16, .rw, .staged, 256, 0, 1, 1, 65535⟩

/-- R333 (09): 1–255. -/
def F.SRV_SPEC.PROBE_BAKES : Field := ⟨0x5C, 0, 8, .rw, .staged, 32, 0, 1, 1, 255⟩

/-- R333 (09): 0–15; 0 never grows. -/
def F.SRV_SPEC.GROW_RUN : Field := ⟨0x5C, 8, 4, .rw, .staged, 4, 0, 1, 0, 15⟩

/-- R333 (09): main model to run (R315); 0xFF stages none. -/
def F.SRV_MODEL.MODEL : Field := ⟨0x60, 0, 8, .rw, .staged, 255, 0, 1, 0, 255⟩

/-- R333 (09): model in force; 0xFF none. -/
def F.SRV_MODEL.ACTIVE_MODEL : Field := ⟨0x60, 8, 8, .ro, .imm, 255, 0, 1, 0, 255⟩

/-- R333 (09): switch waiting for HOT. -/
def F.SRV_MODEL.SWITCHING : Field := ⟨0x60, 16, 1, .ro, .imm, 0, 0, 1, 0, 1⟩

/-- R333 (09): BAKE_NO of the switch. -/
def F.SRV_MODEL_BAKE.MODEL_BAKE : Field := ⟨0x68, 0, 64, .rw, .staged, 0, 0, 1, 0, 18446744073709551615⟩

/-- R333 (09): contexts, 4 KiB aligned. -/
def F.SRV_CTX_BASE.CTX_BASE : Field := ⟨0x70, 0, 64, .rw, .staged, 0, 0, 1, 0, 18446744073709551615⟩

/-- R333 (09): active tenant table, 256 KiB, 4 KiB aligned. -/
def F.SRV_TEN_ACT.TEN_ACT : Field := ⟨0x78, 0, 64, .rw, .staged, 0, 0, 1, 0, 18446744073709551615⟩

/-- R333 (09): pending tenant table, 256 KiB, 4 KiB aligned. -/
def F.SRV_TEN_PEND.TEN_PEND : Field := ⟨0x80, 0, 64, .rw, .staged, 0, 0, 1, 0, 18446744073709551615⟩

/-- R333 (09): queue an update (R308); immediate. -/
def F.SRV_TEN_UPD.TENANT : Field := ⟨0x88, 0, 12, .wo, .imm, 0, 0, 1, 0, 4095⟩

/-- R333 (09): updates queued, 0–256. -/
def F.SRV_TEN_Q.QUEUED : Field := ⟨0x8C, 0, 9, .ro, .imm, 0, 0, 1, 0, 511⟩

/-- R333 (09): descriptor index; immediate. -/
def F.SRV_BB_CMD.INDEX : Field := ⟨0x90, 0, 8, .wo, .imm, 0, 0, 1, 0, 255⟩

/-- R333 (09): 1 CHECK, 2 PROMOTE, 3 DEMOTE, 4 FREE; others BB_ERR_EV. -/
def F.SRV_BB_CMD.OP : Field := ⟨0x90, 8, 3, .wo, .imm, 0, 0, 1, 0, 7⟩

/-- R333 (09): descriptor address for CHECK, 128-byte aligned; immediate. -/
def F.SRV_BB_DESC.DESC : Field := ⟨0x98, 0, 64, .rw, .imm, 0, 0, 1, 0, 18446744073709551615⟩

/-- R333 (09): index shown in SRV_BB_INFO; immediate. -/
def F.SRV_BB_SEL.SEL : Field := ⟨0xA0, 0, 8, .rw, .imm, 0, 0, 1, 0, 255⟩

/-- R333 (09): 0 EMPTY, 1 CHECKING, 2 WARM, 3 PROMOTING, 4 HOT, 5 DEMOTING, 6 FREEING. -/
def F.SRV_BB_INFO.STATE : Field := ⟨0xA4, 0, 3, .ro, .imm, 0, 0, 1, 0, 7⟩

/-- R333 (09): 0 MAIN, 1 DRAFT. -/
def F.SRV_BB_INFO.KIND : Field := ⟨0xA4, 3, 1, .ro, .imm, 0, 0, 1, 0, 1⟩

/-- R333 (09): owning partition. -/
def F.SRV_BB_INFO.PART : Field := ⟨0xA4, 4, 4, .ro, .imm, 0, 0, 1, 0, 15⟩

/-- R333 (09): R314. -/
def F.SRV_BB_INFO.USERS : Field := ⟨0xA4, 8, 16, .ro, .imm, 0, 0, 1, 0, 65535⟩

/-- R333 (09): R313, R314. -/
def F.SRV_BB_INFO.CHK_ERR : Field := ⟨0xA4, 24, 8, .ro, .imm, 0, 0, 1, 0, 255⟩

/-- R333 (09): contexts not FREE. -/
def F.SRV_STAT.ACTIVE : Field := ⟨0xB0, 0, 15, .ro, .imm, 0, 0, 1, 0, 32767⟩

/-- R333 (09): prefill pool. -/
def F.SRV_POOLS.PF_TILES : Field := ⟨0xB4, 0, 9, .ro, .imm, 0, 0, 1, 0, 511⟩

/-- R333 (09): decode pool. -/
def F.SRV_POOLS.DEC_TILES : Field := ⟨0xB4, 16, 9, .ro, .imm, 0, 0, 1, 0, 511⟩

/-- R333 (09): bake in progress. -/
def F.SRV_BAKE_NO.BAKE_NO : Field := ⟨0xB8, 0, 64, .ro, .imm, 0, 0, 1, 0, 18446744073709551615⟩

/-- R333 (09): 4 KiB aligned. -/
def F.SRV_RING_BASE.RING_BASE : Field := ⟨0x100, 0, 64, .rw, .staged, 0, 16, 16, 0, 18446744073709551615⟩

/-- R333 (09): 4–16. -/
def F.SRV_RING_CFG.SIZE_LOG2 : Field := ⟨0x108, 0, 5, .rw, .staged, 4, 16, 16, 4, 16⟩

/-- R333 (09): ring read at item 4. -/
def F.SRV_RING_CFG.RING_EN : Field := ⟨0x108, 8, 1, .rw, .staged, 0, 16, 16, 0, 1⟩

/-- R333 (09): R302. -/
def F.SRV_RING_CFG.ERR : Field := ⟨0x108, 16, 1, .ro, .imm, 0, 16, 16, 0, 1⟩

/-- R333 (09): requests admitted. -/
def F.SRV_ADMIT_CNT.ADMIT_CNT : Field := ⟨0x200, 0, 32, .ro, .imm, 0, 0, 1, 0, 4294967295⟩

/-- R333 (09): final records written. -/
def F.SRV_DONE_CNT.DONE_CNT : Field := ⟨0x204, 0, 32, .ro, .imm, 0, 0, 1, 0, 4294967295⟩

/-- R333 (09): entries rejected at admission. -/
def F.SRV_REJECT_CNT.REJECT_CNT : Field := ⟨0x208, 0, 32, .ro, .imm, 0, 0, 1, 0, 4294967295⟩

/-- R333 (09): requests cancelled. -/
def F.SRV_CANCEL_CNT.CANCEL_CNT : Field := ⟨0x20C, 0, 32, .ro, .imm, 0, 0, 1, 0, 4294967295⟩

/-- R333 (09): saturating. -/
def F.SRV_ERR_CNT.CANCEL_MISS_CNT : Field := ⟨0x210, 0, 16, .ro, .imm, 0, 0, 1, 0, 65535⟩

/-- R333 (09): saturating. -/
def F.SRV_ERR_CNT.RING_ERR_CNT : Field := ⟨0x210, 16, 16, .ro, .imm, 0, 0, 1, 0, 65535⟩

/-- R333 (09): tokens delivered late. -/
def F.SRV_LATE_CNT.LATE_CNT : Field := ⟨0x214, 0, 32, .ro, .imm, 0, 0, 1, 0, 4294967295⟩

/-- R333 (09): tokens dropped late. -/
def F.SRV_LDROP_CNT.LATE_DROP_CNT : Field := ⟨0x218, 0, 32, .ro, .imm, 0, 0, 1, 0, 4294967295⟩

/-- R333 (09): R321, R323. -/
def F.SRV_FAIL_CNT.FAIL_REQ_CNT : Field := ⟨0x21C, 0, 32, .ro, .imm, 0, 0, 1, 0, 4294967295⟩

/-- R333 (09): R330. -/
def F.SRV_DRAFT_PROP.DRAFT_PROP : Field := ⟨0x220, 0, 32, .ro, .imm, 0, 0, 1, 0, 4294967295⟩

/-- R333 (09): R330. -/
def F.SRV_DRAFT_ACC.DRAFT_ACC : Field := ⟨0x224, 0, 32, .ro, .imm, 0, 0, 1, 0, 4294967295⟩

/-- R333 (09): saturating. -/
def F.SRV_MISC_CNT.DRAFT_SKIP_CNT : Field := ⟨0x228, 0, 16, .ro, .imm, 0, 0, 1, 0, 65535⟩

/-- R333 (09): saturating. -/
def F.SRV_MISC_CNT.TEN_ERR_CNT : Field := ⟨0x228, 16, 16, .ro, .imm, 0, 0, 1, 0, 65535⟩

/-- R333 (09): 1–256. -/
def F.SRV_X_ADMIT.TEN_UPD_MAX : Field := ⟨0x400, 0, 9, .rw, .expert, 256, 0, 1, 1, 256⟩

/-- R333 (09): boundaries, 0–4. -/
def F.SRV_X_ADMIT.CANCEL_HOLD : Field := ⟨0x400, 16, 4, .rw, .expert, 1, 0, 1, 0, 4⟩

/-- R333 (09): bakes, 1–255. -/
def F.SRV_X_DRAFT.DRAFT_IDLE : Field := ⟨0x404, 0, 8, .rw, .expert, 64, 0, 1, 1, 255⟩

/-- R373 (10): link trains. -/
def F.FAB_LCFG.LINK_EN : Field := ⟨0x40, 0, 1, .rw, .staged, 1, 64, 2, 0, 1⟩

/-- R373 (10): refuse a peer other than the expected (R341). -/
def F.FAB_LCFG.STRICT_SLOT : Field := ⟨0x40, 1, 1, .rw, .staged, 0, 64, 2, 0, 1⟩

/-- R373 (10): retrain from DOWN; immediate. -/
def F.FAB_LCFG.RETRAIN_REQ : Field := ⟨0x40, 8, 1, .w1s, .imm, 0, 64, 2, 0, 1⟩

/-- R373 (10): 0 OFF, 1 DETECT, 2 TRAIN, 3 ALIGN, 4 IDENT, 5 UP, 6 NARROW, 7 DOWN, 8 REFUSED. -/
def F.FAB_LSTAT.LSTATE : Field := ⟨0x44, 0, 4, .ro, .imm, 0, 64, 2, 0, 15⟩

/-- R373 (10): lanes in use: 0, 1, 2, 4, 8. -/
def F.FAB_LSTAT.WIDTH : Field := ⟨0x44, 4, 4, .ro, .imm, 0, 64, 2, 0, 15⟩

/-- R373 (10): actual peer. -/
def F.FAB_LSTAT.PEER_SLOT : Field := ⟨0x44, 8, 6, .ro, .imm, 0, 64, 2, 0, 63⟩

/-- R373 (10): IDENT completed. -/
def F.FAB_LSTAT.PEER_VALID : Field := ⟨0x44, 14, 1, .ro, .imm, 0, 64, 2, 0, 1⟩

/-- R373 (10): actual ≠ expected. -/
def F.FAB_LSTAT.PEER_MISMATCH : Field := ⟨0x44, 15, 1, .ro, .imm, 0, 64, 2, 0, 1⟩

/-- R373 (10): lanes permuted. -/
def F.FAB_LSTAT.LANE_PERM : Field := ⟨0x44, 16, 1, .ro, .imm, 0, 64, 2, 0, 1⟩

/-- R373 (10): R341. -/
def F.FAB_LSTAT.LOOPBACK : Field := ⟨0x44, 17, 1, .ro, .imm, 0, 64, 2, 0, 1⟩

/-- R373 (10): R341. -/
def F.FAB_LSTAT.SLOT_DUP : Field := ⟨0x44, 18, 1, .ro, .imm, 0, 64, 2, 0, 1⟩

/-- R373 (10): the peer refused this link (R341). -/
def F.FAB_LSTAT.REFUSED_BY_PEER : Field := ⟨0x44, 19, 1, .ro, .imm, 0, 64, 2, 0, 1⟩

/-- R373 (10): link number (R335). -/
def F.FAB_LSTAT.LINK_NO : Field := ⟨0x44, 24, 6, .ro, .imm, 0, 64, 2, 0, 63⟩

/-- R373 (10): expected peer. -/
def F.FAB_LEXP.EXP_SLOT : Field := ⟨0x48, 0, 6, .ro, .imm, 0, 64, 2, 0, 63⟩

/-- R373 (10): logical lanes in the chosen group. -/
def F.FAB_LEXP.LANE_MASK : Field := ⟨0x48, 8, 8, .ro, .imm, 0, 64, 2, 0, 255⟩

/-- R373 (10): logical lanes with corrected polarity. -/
def F.FAB_LEXP.POL_INV : Field := ⟨0x48, 16, 8, .ro, .imm, 0, 64, 2, 0, 255⟩

/-- R373 (10): actual peer's SERIAL. -/
def F.FAB_LPSER.PEER_SERIAL : Field := ⟨0x50, 0, 64, .ro, .imm, 0, 64, 2, 0, 18446744073709551615⟩

/-- R373 (10): corrected codewords, wraps. -/
def F.FAB_LERR0.FEC_CORR_CNT : Field := ⟨0x58, 0, 32, .ro, .imm, 0, 64, 2, 0, 4294967295⟩

/-- R373 (10): saturating. -/
def F.FAB_LERR1.FEC_UNCORR_CNT : Field := ⟨0x5C, 0, 16, .ro, .imm, 0, 64, 2, 0, 65535⟩

/-- R373 (10): replays, saturating. -/
def F.FAB_LERR1.REPLAY_CNT : Field := ⟨0x5C, 16, 16, .ro, .imm, 0, 64, 2, 0, 65535⟩

/-- R373 (10): saturating. -/
def F.FAB_LERR2.CRC_ERR_CNT : Field := ⟨0x60, 0, 16, .ro, .imm, 0, 64, 2, 0, 65535⟩

/-- R373 (10): entries to DOWN, saturating. -/
def F.FAB_LERR2.DOWN_CNT : Field := ⟨0x60, 16, 16, .ro, .imm, 0, 64, 2, 0, 65535⟩

/-- R373 (10): one-way delay, ticks (R151). -/
def F.FAB_LTIME.DELAY : Field := ⟨0x64, 0, 16, .ro, .imm, 0, 64, 2, 0, 65535⟩

/-- R373 (10): signed asymmetry, 1/16 ns. -/
def F.FAB_LTIME.ASYM : Field := ⟨0x64, 16, 16, .ro, .imm, 0, 64, 2, 0, 65535⟩

/-- R373 (10): units sent. -/
def F.FAB_LTX.TX_UNITS : Field := ⟨0x68, 0, 64, .ro, .imm, 0, 64, 2, 0, 18446744073709551615⟩

/-- R373 (10): units received. -/
def F.FAB_LRX.RX_UNITS : Field := ⟨0x70, 0, 64, .ro, .imm, 0, 64, 2, 0, 18446744073709551615⟩

/-- R373 (10): quad cycles, 256–65,535. -/
def F.FAB_QSTARVE.STARVE_LIMIT : Field := ⟨0xC0, 0, 16, .rw, .staged, 8192, 0, 1, 256, 65535⟩

/-- R373 (10): saturating. -/
def F.FAB_QSTARVE_CNT.STARVE_CNT : Field := ⟨0xC4, 0, 32, .ro, .imm, 0, 0, 1, 0, 4294967295⟩

/-- R373 (10): physical lanes c = 0–3 in use. -/
def F.FAB_QLANE.LANE_UP : Field := ⟨0xC8, 0, 4, .ro, .imm, 0, 0, 1, 0, 15⟩

/-- R373 (10): lanes disabled or retired. -/
def F.FAB_QLANE.LANE_DIS : Field := ⟨0xC8, 8, 4, .ro, .imm, 0, 0, 1, 0, 15⟩

/-- R373 (10): FEC symbol errors of lane c, wraps. -/
def F.FAB_LSER.SYM_ERR_CNT : Field := ⟨0xD0, 0, 32, .ro, .imm, 0, 4, 4, 0, 4294967295⟩

/-- R373 (10): R186. -/
def F.FAB_SCORE.SCORE_DEPTH : Field := ⟨0xE0, 0, 10, .ro, .imm, 0, 0, 1, 0, 1023⟩

/-- R373 (10): R186. -/
def F.FAB_SCORE.SCORE_OVFL_CNT : Field := ⟨0xE0, 16, 16, .ro, .imm, 0, 0, 1, 0, 65535⟩

/-- R373 (10): saturating. -/
def F.FAB_QCNT0.KEY_FAULT_CNT : Field := ⟨0xE4, 0, 16, .ro, .imm, 0, 0, 1, 0, 65535⟩

/-- R373 (10): saturating. -/
def F.FAB_QCNT0.BAD_PKT_CNT : Field := ⟨0xE4, 16, 16, .ro, .imm, 0, 0, 1, 0, 65535⟩

/-- R373 (10): saturating. -/
def F.FAB_QCNT1.STALE_PKT_CNT : Field := ⟨0xE8, 0, 16, .ro, .imm, 0, 0, 1, 0, 65535⟩

/-- R373 (10): saturating. -/
def F.FAB_QCNT1.RELAY_DROP_CNT : Field := ⟨0xE8, 16, 16, .ro, .imm, 0, 0, 1, 0, 65535⟩

/-- R373 (10): flits, 8–255. -/
def F.FAB_X_LINK.ACK_EVERY : Field := ⟨0x400, 0, 8, .rw, .expert, 64, 0, 1, 8, 255⟩

/-- R373 (10): 1–15. -/
def F.FAB_X_LINK.REPLAY_MAX : Field := ⟨0x400, 8, 4, .rw, .expert, 8, 0, 1, 1, 15⟩

/-- R373 (10): 8–20 (R343). -/
def F.FAB_X_LANE.SER_LOG2 : Field := ⟨0x404, 0, 5, .rw, .expert, 12, 0, 1, 8, 20⟩

/-- R373 (10): request precoding in training. -/
def F.FAB_X_TRAIN.PRECODE_REQ : Field := ⟨0x408, 0, 1, .rw, .expert, 1, 0, 1, 0, 1⟩

/-- R375 (10): relay slots while direct width ≥ 2, 0–4. -/
def F.FAB_GCFG.SPREAD : Field := ⟨0x40, 0, 3, .rw, .staged, 0, 0, 1, 0, 4⟩

/-- R375 (10): µs, 5–1,000. -/
def F.FAB_AGE.PKT_MAX_AGE : Field := ⟨0x44, 0, 16, .rw, .staged, 20, 0, 1, 5, 1000⟩

/-- R375 (10): µs, PKT_MAX_AGE + 1 to 10,000. -/
def F.FAB_AGE.FENCE_PATH_TIMEOUT : Field := ⟨0x44, 16, 16, .rw, .staged, 50, 0, 1, 0, 10000⟩

/-- R375 (10): µs, PKT_MAX_AGE + 1 to 65,535. -/
def F.FAB_UNREACH.UNREACH_TIMEOUT : Field := ⟨0x48, 0, 16, .rw, .staged, 1000, 0, 1, 0, 65535⟩

/-- R375 (10): µs, 1–100. -/
def F.FAB_SEG.SEG_RETRY : Field := ⟨0x4C, 0, 8, .rw, .staged, 1, 0, 1, 1, 100⟩

/-- R375 (10): key to write; immediate. -/
def F.FAB_KEY_IDX.TENANT : Field := ⟨0x50, 0, 12, .rw, .imm, 0, 0, 1, 0, 4095⟩

/-- R375 (10): key of TENANT; reads zero; immediate. -/
def F.FAB_KEY_VAL.KEY : Field := ⟨0x54, 0, 32, .wo, .imm, 0, 0, 1, 0, 4294967295⟩

/-- R375 (10): first region, 1 MiB aligned; immediate. -/
def F.FAB_TAG_BASE.BASE : Field := ⟨0x58, 0, 41, .rw, .imm, 0, 0, 1, 0, 2199023255551⟩

/-- R375 (10): regions, 1–1,966,080; immediate. -/
def F.FAB_TAG_CNT.COUNT : Field := ⟨0x60, 0, 21, .rw, .imm, 1, 0, 1, 1, 1966080⟩

/-- R375 (10): tag to write; immediate. -/
def F.FAB_TAG_VAL.VAL : Field := ⟨0x64, 0, 32, .rw, .imm, 0, 0, 1, 0, 4294967295⟩

/-- R375 (10): write the tags (R358); immediate. -/
def F.FAB_TAG_CMD.GO : Field := ⟨0x68, 0, 1, .w1s, .imm, 0, 0, 1, 0, 1⟩

/-- R375 (10): tag write in progress. -/
def F.FAB_TAG_CMD.BUSY : Field := ⟨0x68, 1, 1, .ro, .imm, 0, 0, 1, 0, 1⟩

/-- R375 (10): bit s: slot s reachable. -/
def F.FAB_REACH.REACH : Field := ⟨0x70, 0, 64, .ro, .imm, 0, 0, 1, 0, 18446744073709551615⟩

/-- R375 (10): bit s: slot s advertises SAFE. -/
def F.FAB_SAFE_SEEN.SAFE : Field := ⟨0x78, 0, 64, .ro, .imm, 0, 0, 1, 0, 18446744073709551615⟩

/-- R375 (10): route table view; immediate. -/
def F.FAB_RSEL.DST : Field := ⟨0x80, 0, 6, .rw, .imm, 0, 0, 1, 0, 63⟩

/-- R375 (10): route slot to view; immediate. -/
def F.FAB_RSEL.RSLOT : Field := ⟨0x80, 8, 3, .rw, .imm, 0, 0, 1, 0, 7⟩

/-- R375 (10): 0 DIRECT, 1 VIA_TRAY, 2 VIA_HASH, 3 LOOP, 4 NONE. -/
def F.FAB_RVIEW.RKIND : Field := ⟨0x84, 0, 3, .ro, .imm, 4, 0, 1, 0, 7⟩

/-- R375 (10): intermediate. -/
def F.FAB_RVIEW.VIA : Field := ⟨0x84, 8, 6, .ro, .imm, 0, 0, 1, 0, 63⟩

/-- R375 (10): direct link. -/
def F.FAB_RVIEW.LINK_NO : Field := ⟨0x84, 16, 6, .ro, .imm, 0, 0, 1, 0, 63⟩

/-- R375 (10): generation. -/
def F.FAB_RVIEW.GEN : Field := ⟨0x84, 24, 2, .ro, .imm, 0, 0, 1, 0, 3⟩

/-- R375 (10): an older generation is not SETTLED or DEAD. -/
def F.FAB_RVIEW.UNSETTLED : Field := ⟨0x84, 28, 1, .ro, .imm, 0, 0, 1, 0, 1⟩

/-- R375 (10): wraps. -/
def F.FAB_GCNT0.ROUTE_CHG_CNT : Field := ⟨0x90, 0, 32, .ro, .imm, 0, 0, 1, 0, 4294967295⟩

/-- R375 (10): saturating. -/
def F.FAB_GCNT1.FENCE_LOST_CNT : Field := ⟨0x94, 0, 16, .ro, .imm, 0, 0, 1, 0, 65535⟩

/-- R375 (10): saturating. -/
def F.FAB_GCNT1.UNREACH_CNT : Field := ⟨0x94, 16, 16, .ro, .imm, 0, 0, 1, 0, 65535⟩

/-- R375 (10): wraps. -/
def F.FAB_GCNT2.REISSUE_CNT : Field := ⟨0x98, 0, 32, .ro, .imm, 0, 0, 1, 0, 4294967295⟩

/-- R375 (10): package total, saturating. -/
def F.FAB_GCNT3.KEY_FAULT_CNT : Field := ⟨0x9C, 0, 16, .ro, .imm, 0, 0, 1, 0, 65535⟩

/-- R375 (10): saturating. -/
def F.FAB_GCNT3.ATOM_LOST_CNT : Field := ⟨0x9C, 16, 16, .ro, .imm, 0, 0, 1, 0, 65535⟩

/-- R375 (10): ns, 10–255. -/
def F.FAB_X_ACK.ACK_COALESCE : Field := ⟨0x400, 0, 8, .rw, .expert, 100, 0, 1, 10, 255⟩

/-- R404 (11): 0 MASK, 1 FAIL. -/
def F.WLD_CFG.MISSING_SHARD_POLICY : Field := ⟨0x40, 0, 1, .rw, .staged, 0, 0, 1, 0, 1⟩

/-- R404 (11): hash again after freeze (R390). -/
def F.WLD_CFG.RECHECK : Field := ⟨0x40, 1, 1, .rw, .staged, 0, 0, 1, 0, 1⟩

/-- R404 (11): 0–3. -/
def F.WLD_CFG.RETRY_MAX : Field := ⟨0x40, 2, 2, .rw, .staged, 3, 0, 1, 0, 3⟩

/-- R404 (11): units of 100 ms, 1–255. -/
def F.WLD_CFG.SHARD_TIMEOUT : Field := ⟨0x40, 8, 8, .rw, .staged, 20, 0, 1, 1, 255⟩

/-- R404 (11): units of 100 ms, 1–6,000. -/
def F.WLD_CFG.REPORT_TIMEOUT : Field := ⟨0x40, 16, 16, .rw, .staged, 100, 0, 1, 1, 6000⟩

/-- R404 (11): target table, 8 KiB, 4 KiB aligned. -/
def F.WLD_TGT_BASE.TGT_BASE : Field := ⟨0x48, 0, 64, .rw, .staged, 0, 0, 1, 0, 18446744073709551615⟩

/-- R404 (11): entries, 0–32. -/
def F.WLD_TGT_CNT.TGT_COUNT : Field := ⟨0x50, 0, 6, .rw, .staged, 0, 0, 1, 0, 32⟩

/-- R404 (11): descriptor address, 64-byte aligned; immediate; refused unless STATE is IDLE, DONE or FAILED. -/
def F.WLD_LDESC.LOAD_DESC : Field := ⟨0x100, 0, 64, .rw, .imm, 0, 32, 4, 0, 18446744073709551615⟩

/-- R404 (11): start the load; immediate. -/
def F.WLD_LCMD.START : Field := ⟨0x108, 0, 1, .w1s, .imm, 0, 32, 4, 0, 1⟩

/-- R404 (11): abort the load; immediate. -/
def F.WLD_LCMD.ABORT : Field := ⟨0x108, 1, 1, .w1s, .imm, 0, 32, 4, 0, 1⟩

/-- R404 (11): 0 IDLE, 1 CHECK, 2 FETCH, 3 REPORT, 4 FINAL, 5 DONE, 6 FAILED. -/
def F.WLD_LSTAT.STATE : Field := ⟨0x10C, 0, 3, .ro, .imm, 0, 32, 4, 0, 7⟩

/-- R404 (11): 0x00 OK, or a code of R386, R394, R396 or R399. -/
def F.WLD_LSTAT.STATUS : Field := ⟨0x10C, 8, 8, .ro, .imm, 0, 32, 4, 0, 255⟩

/-- R404 (11): member records received, 0–64. -/
def F.WLD_LSTAT.REPORTED : Field := ⟨0x10C, 16, 7, .ro, .imm, 0, 32, 4, 0, 127⟩

/-- R404 (11): shards VERIFIED here. -/
def F.WLD_LOK.SHARDS_OK : Field := ⟨0x110, 0, 32, .ro, .imm, 0, 32, 4, 0, 4294967295⟩

/-- R404 (11): shards missing here. -/
def F.WLD_LMISS.SHARDS_MISSING : Field := ⟨0x114, 0, 32, .ro, .imm, 0, 32, 4, 0, 4294967295⟩

/-- R404 (11): saturating. -/
def F.WLD_LRET.RETRY_CNT : Field := ⟨0x118, 0, 16, .ro, .imm, 0, 32, 4, 0, 65535⟩

/-- R404 (11): saturating. -/
def F.WLD_LRET.DIGEST_BAD_CNT : Field := ⟨0x118, 16, 16, .ro, .imm, 0, 32, 4, 0, 65535⟩

/-- R404 (11): experts masked (R397). -/
def F.WLD_LUNAV.UNAVAIL_CNT : Field := ⟨0x11C, 0, 32, .ro, .imm, 0, 32, 4, 0, 4294967295⟩

/-- R404 (11): SHA-256 of an accepted MODULUS, byte 4i in [7:0]; all zero: empty; immediate. -/
def F.WLD_MKEY.MKEY : Field := ⟨0x200, 0, 256, .rw, .imm, 0, 32, 4, 0, 115792089237316195423570985008687907853269984665640564039457584007913129639935⟩

/-- R404 (11): bit k: slot k read-only until reset; immediate. -/
def F.WLD_MKEY_LOCK.LOCK : Field := ⟨0x280, 0, 4, .w1s, .imm, 0, 0, 1, 0, 15⟩

/-- R404 (11): bytes landed from storage. -/
def F.WLD_ETH_BYTES.ETH_BYTES : Field := ⟨0x290, 0, 64, .ro, .imm, 0, 0, 1, 0, 18446744073709551615⟩

/-- R404 (11): bytes relayed (R391). -/
def F.WLD_RELAY_BYTES.RELAY_BYTES : Field := ⟨0x298, 0, 64, .ro, .imm, 0, 0, 1, 0, 18446744073709551615⟩

/-- R404 (11): saturating. -/
def F.WLD_ERR_CNT.SIG_FAIL_CNT : Field := ⟨0x2A0, 0, 16, .ro, .imm, 0, 0, 1, 0, 65535⟩

/-- R404 (11): saturating. -/
def F.WLD_ERR_CNT.NVME_ERR_CNT : Field := ⟨0x2A0, 16, 16, .ro, .imm, 0, 0, 1, 0, 65535⟩

/-- R404 (11): R378, saturating. -/
def F.WLD_REMOTE_REJ.REMOTE_REJ_CNT : Field := ⟨0x2A4, 0, 32, .ro, .imm, 0, 0, 1, 0, 4294967295⟩

/-- R404 (11): 1–256. -/
def F.WLD_X_HASH.HASH_LANES : Field := ⟨0x400, 0, 9, .rw, .expert, 256, 0, 1, 1, 256⟩

/-- R404 (11): 16–22. -/
def F.WLD_X_PIECE.PIECE_LOG2 : Field := ⟨0x404, 0, 5, .rw, .expert, 20, 0, 1, 16, 22⟩

/-- R404 (11): 1–255. -/
def F.WLD_X_RATE.CNP_CUT : Field := ⟨0x408, 0, 8, .rw, .expert, 32, 0, 1, 1, 255⟩

/-- R404 (11): µs per recovery step of 1/16 of the cut, 1–65,535. -/
def F.WLD_X_RATE.RATE_RECOVER : Field := ⟨0x408, 16, 16, .rw, .expert, 55, 0, 1, 1, 65535⟩

/-- R437 (12): W, 600–2,400; immediate. -/
def F.PWR_CAP.CAP : Field := ⟨0x40, 0, 12, .rw, .imm, 2400, 0, 1, 600, 2400⟩

/-- R437 (12): W, 600–2,400. -/
def F.PWR_EMERG.EMERG_CAP : Field := ⟨0x44, 0, 12, .rw, .staged, 1200, 0, 1, 600, 2400⟩

/-- R437 (12): W, 600–2,400. -/
def F.PWR_EMERG.ORPHAN_CAP : Field := ⟨0x44, 16, 12, .rw, .staged, 1200, 0, 1, 600, 2400⟩

/-- R437 (12): any value; immediate. -/
def F.PWR_HEARTBEAT.HEARTBEAT : Field := ⟨0x48, 0, 32, .wo, .imm, 0, 0, 1, 0, 4294967295⟩

/-- R437 (12): ms, 10–10,000. -/
def F.PWR_ORPHAN.ORPHAN_TIMEOUT : Field := ⟨0x4C, 0, 14, .rw, .staged, 500, 0, 1, 10, 10000⟩

/-- R437 (12): R426. -/
def F.PWR_ORPHAN.ORPHANED : Field := ⟨0x4C, 16, 1, .ro, .imm, 0, 0, 1, 0, 1⟩

/-- R437 (12): monitoring armed. -/
def F.PWR_ORPHAN.HB_SEEN : Field := ⟨0x4C, 17, 1, .ro, .imm, 0, 0, 1, 0, 1⟩

/-- R437 (12): R420; immediate. -/
def F.PWR_MODE.FIXED_FREQ : Field := ⟨0x50, 0, 1, .rw, .imm, 1, 0, 1, 0, 1⟩

/-- R437 (12): vector flag when G < 16. -/
def F.PWR_MODE.VEC_GATE : Field := ⟨0x50, 1, 1, .rw, .staged, 1, 0, 1, 0, 1⟩

/-- R437 (12): tiles at 1.25 GHz. -/
def F.PWR_MODE.BOOST_ACTIVE : Field := ⟨0x50, 8, 1, .ro, .imm, 0, 0, 1, 0, 1⟩

/-- R437 (12): entry or exit in progress. -/
def F.PWR_MODE.FREQ_BUSY : Field := ⟨0x50, 9, 1, .ro, .imm, 0, 0, 1, 0, 1⟩

/-- R437 (12): R416. -/
def F.PWR_RAMP.RAMP_AUTO : Field := ⟨0x54, 0, 1, .rw, .staged, 0, 0, 1, 0, 1⟩

/-- R437 (12): W/µs, 1,600–65,535. -/
def F.PWR_RAMP.RACK_RAMP : Field := ⟨0x54, 16, 16, .rw, .staged, 32000, 0, 1, 1600, 65535⟩

/-- R437 (12): W, 100–2,400. -/
def F.PWR_RAMP_STEP.RAMP_STEP_W : Field := ⟨0x58, 0, 12, .rw, .staged, 1650, 0, 1, 100, 2400⟩

/-- R437 (12): filtered PWR_ALERT_N asserted. -/
def F.PWR_ALERT.PWR_ALERT : Field := ⟨0x5C, 0, 1, .ro, .imm, 0, 0, 1, 0, 1⟩

/-- R437 (12): filtered COOL_ALERT_N asserted. -/
def F.PWR_ALERT.COOL_ALERT : Field := ⟨0x5C, 1, 1, .ro, .imm, 0, 0, 1, 0, 1⟩

/-- R437 (12): filtered CAP_STEP_N asserted. -/
def F.PWR_ALERT.CAP_STEP : Field := ⟨0x5C, 2, 1, .ro, .imm, 0, 0, 1, 0, 1⟩

/-- R437 (12): 0.1 ms units, 1–255. -/
def F.PWR_ALERT.ALERT_RELEASE : Field := ⟨0x5C, 8, 8, .rw, .staged, 10, 0, 1, 1, 255⟩

/-- R437 (12): °C, 85–104. -/
def F.PWR_THERM.THERM_TARGET : Field := ⟨0x60, 0, 8, .rw, .staged, 100, 0, 1, 85, 104⟩

/-- R437 (12): °C, 1–10. -/
def F.PWR_THERM.THERM_HYST : Field := ⟨0x60, 8, 4, .rw, .staged, 2, 0, 1, 1, 10⟩

/-- R437 (12): hottest sensor, °C. -/
def F.PWR_TEMP.TJ_NOW : Field := ⟨0x64, 0, 8, .ro, .imm, 0, 0, 1, 0, 255⟩

/-- R437 (12): highest since reset. -/
def F.PWR_TEMP.TJ_MAX_SEEN : Field := ⟨0x64, 8, 8, .ro, .imm, 0, 0, 1, 0, 255⟩

/-- R437 (12): cluster of TJ_NOW. -/
def F.PWR_TEMP.HOT_CLUSTER : Field := ⟨0x64, 16, 5, .ro, .imm, 0, 0, 1, 0, 31⟩

/-- R437 (12): P_10, W. -/
def F.PWR_NOW.P_FAST : Field := ⟨0x68, 0, 12, .ro, .imm, 0, 0, 1, 0, 4095⟩

/-- R437 (12): P_WIN, W. -/
def F.PWR_NOW.P_AVG : Field := ⟨0x68, 16, 12, .ro, .imm, 0, 0, 1, 0, 4095⟩

/-- R437 (12): lowest G[c]. -/
def F.PWR_LEVEL.G_MIN : Field := ⟨0x6C, 0, 5, .ro, .imm, 16, 0, 1, 0, 31⟩

/-- R437 (12): G_clamp. -/
def F.PWR_LEVEL.CLAMP_LEVEL : Field := ⟨0x6C, 8, 5, .ro, .imm, 16, 0, 1, 0, 31⟩

/-- R437 (12): R412. -/
def F.PWR_LEVEL.CLAMP_ON : Field := ⟨0x6C, 16, 1, .ro, .imm, 0, 0, 1, 0, 1⟩

/-- R437 (12): active reasons, R430. -/
def F.PWR_REASON.REASON : Field := ⟨0x70, 0, 10, .ro, .imm, 0, 0, 1, 0, 1023⟩

/-- R437 (12): reasons seen; immediate. -/
def F.PWR_REASON_STICKY.STICKY : Field := ⟨0x74, 0, 10, .w1c, .imm, 0, 0, 1, 0, 1023⟩

/-- R437 (12): R431; immediate. -/
def F.PWR_REST.REST_REQ : Field := ⟨0x78, 0, 1, .w1s, .imm, 0, 0, 1, 0, 1⟩

/-- R437 (12): R432; immediate. -/
def F.PWR_REST.WAKE : Field := ⟨0x78, 1, 1, .w1s, .imm, 0, 0, 1, 0, 1⟩

/-- R437 (12): 0b00 RUN, 0b01 ENTERING, 0b10 REST, 0b11 WAKING. -/
def F.PWR_REST.REST_STATE : Field := ⟨0x78, 4, 2, .ro, .imm, 0, 0, 1, 0, 3⟩

/-- R437 (12): µs of reason bit i; low word first. -/
def F.PWR_THR_US.DURATION : Field := ⟨0x80, 0, 64, .ro, .imm, 0, 8, 10, 0, 18446744073709551615⟩

/-- R437 (12): cluster c, °C. -/
def F.PWR_CTEMP.TEMP : Field := ⟨0x100, 0, 8, .ro, .imm, 0, 4, 24, 0, 255⟩

/-- R437 (12): G_therm[c]. -/
def F.PWR_CTEMP.G_THERM : Field := ⟨0x100, 8, 5, .ro, .imm, 16, 4, 24, 0, 31⟩

/-- R437 (12): droop events, wraps. -/
def F.PWR_DROOP_CNT.DROOP_CNT : Field := ⟨0x160, 0, 32, .ro, .imm, 0, 0, 1, 0, 4294967295⟩

/-- R437 (12): saturating. -/
def F.PWR_FREQ_CNT.BOOST_ENTRIES : Field := ⟨0x164, 0, 16, .ro, .imm, 0, 0, 1, 0, 65535⟩

/-- R437 (12): saturating. -/
def F.PWR_FREQ_CNT.FREQ_ABORTS : Field := ⟨0x164, 16, 16, .ro, .imm, 0, 0, 1, 0, 65535⟩

/-- R437 (12): R412, saturating. -/
def F.PWR_EV_CNT.OVERRUN_CNT : Field := ⟨0x168, 0, 16, .ro, .imm, 0, 0, 1, 0, 65535⟩

/-- R437 (12): R425, saturating. -/
def F.PWR_EV_CNT.ALERT_CNT : Field := ⟨0x168, 16, 16, .ro, .imm, 0, 0, 1, 0, 65535⟩

/-- R437 (12): rail q current, A. -/
def F.PWR_QCUR.I_Q : Field := ⟨0x170, 0, 10, .ro, .imm, 0, 4, 4, 0, 1023⟩

/-- R437 (12): W, 100–1,200. -/
def F.PWR_X_MODEL.P_IDLE : Field := ⟨0x400, 0, 12, .rw, .expert, 420, 0, 1, 100, 1200⟩

/-- R437 (12): W, P_IDLE + 100 to 3,200. -/
def F.PWR_X_MODEL.P_FULL : Field := ⟨0x400, 16, 12, .rw, .expert, 2400, 0, 1, 0, 3200⟩

/-- R437 (12): W, 2,400–3,200. -/
def F.PWR_X_EDC.EDC_W : Field := ⟨0x404, 0, 12, .rw, .expert, 3200, 0, 1, 2400, 3200⟩

/-- R437 (12): A, 400–850. -/
def F.PWR_X_EDC.IQ_MAX : Field := ⟨0x404, 16, 10, .rw, .expert, 850, 0, 1, 400, 850⟩

/-- R437 (12): 0.1 ms units, 1–100. -/
def F.PWR_X_WIN.CAP_WINDOW : Field := ⟨0x408, 0, 7, .rw, .expert, 10, 0, 1, 1, 100⟩

/-- R437 (12): mV, 20–100. -/
def F.PWR_X_DROOP.DROOP_MV : Field := ⟨0x40C, 0, 7, .rw, .expert, 40, 0, 1, 20, 100⟩

/-- R437 (12): 10 ns units, 1–255. -/
def F.PWR_X_DROOP.DROOP_HOLD : Field := ⟨0x40C, 8, 8, .rw, .expert, 20, 0, 1, 1, 255⟩

/-- R437 (12): W, 0–1,000. -/
def F.PWR_X_BOOST.BOOST_MARGIN : Field := ⟨0x410, 0, 12, .rw, .expert, 300, 0, 1, 0, 1000⟩

/-- R437 (12): 10 µs units, 1–255. -/
def F.PWR_X_BOOST.BOOST_DWELL : Field := ⟨0x410, 16, 8, .rw, .expert, 10, 0, 1, 1, 255⟩

/-- R437 (12): µs, 5–200. -/
def F.PWR_X_BOOST.VOLT_SETTLE : Field := ⟨0x410, 24, 8, .rw, .expert, 20, 0, 1, 5, 200⟩

/-- R470 (13): reaction of CORRECTED. -/
def F.FLT_REACT.R_CORR : Field := ⟨0x40, 0, 2, .rw, .staged, 0, 0, 1, 0, 3⟩

/-- R470 (13): reaction of DEFERRED. -/
def F.FLT_REACT.R_DEFER : Field := ⟨0x40, 2, 2, .rw, .staged, 1, 0, 1, 0, 3⟩

/-- R470 (13): reaction of UNCORRECTED. -/
def F.FLT_REACT.R_UNCORR : Field := ⟨0x40, 4, 2, .rw, .staged, 2, 0, 1, 0, 3⟩

/-- R470 (13): always SAFE. -/
def F.FLT_REACT.R_FATAL : Field := ⟨0x40, 6, 2, .ro, .imm, 3, 0, 1, 0, 3⟩

/-- R470 (13): 0b00 RUN, 0b01 SAFE, 0b10 LATCHED. -/
def F.FLT_SAFE.SAFE_STATE : Field := ⟨0x44, 0, 2, .ro, .imm, 0, 0, 1, 0, 3⟩

/-- R470 (13): automatic exit held. -/
def F.FLT_SAFE.HOLD : Field := ⟨0x44, 4, 1, .ro, .imm, 0, 0, 1, 0, 1⟩

/-- R470 (13): enter the safe state and set HOLD; immediate. -/
def F.FLT_SAFE.SAFE_REQ : Field := ⟨0x44, 8, 1, .w1s, .imm, 0, 0, 1, 0, 1⟩

/-- R470 (13): clear HOLD; immediate. -/
def F.FLT_SAFE.RELEASE : Field := ⟨0x44, 9, 1, .w1s, .imm, 0, 0, 1, 0, 1⟩

/-- R470 (13): 0 none, 1 reaction, 2 FATAL, 3 FCOL_PARITY, 4 software, 5 recovery limit. -/
def F.FLT_SAFE.LAST_CAUSE : Field := ⟨0x44, 12, 4, .ro, .imm, 0, 0, 1, 0, 15⟩

/-- R470 (13): ms, 10–10,000. -/
def F.FLT_QUIET.QUIET_PERIOD : Field := ⟨0x48, 0, 14, .rw, .staged, 1000, 0, 1, 10, 10000⟩

/-- R470 (13): ms left on the quiet timer. -/
def F.FLT_QUIET.QUIET_LEFT : Field := ⟨0x48, 16, 14, .ro, .imm, 0, 0, 1, 0, 16383⟩

/-- R470 (13): exits per hour, 1–16. -/
def F.FLT_RECOV.RECOVERY_LIMIT : Field := ⟨0x4C, 0, 5, .rw, .staged, 8, 0, 1, 1, 16⟩

/-- R470 (13): exits since reset, saturating. -/
def F.FLT_RECOV.RECOVERY_COUNT : Field := ⟨0x4C, 16, 16, .ro, .imm, 0, 0, 1, 0, 65535⟩

/-- R470 (13): tick of the last entry; low word first. -/
def F.FLT_SAFE_TICK.SAFE_TICK : Field := ⟨0x50, 0, 64, .ro, .imm, 0, 0, 1, 0, 18446744073709551615⟩

/-- R470 (13): bit k: partition k stopped (R444); immediate. -/
def F.FLT_STOPPED.STOPPED : Field := ⟨0x60, 0, 16, .w1c, .imm, 0, 0, 1, 0, 65535⟩

/-- R470 (13): clear BLK_FLTSUM of this page; immediate. -/
def F.FLT_SUMCLR.PAGE : Field := ⟨0x64, 0, 12, .wo, .imm, 0, 0, 1, 0, 4095⟩

/-- R470 (13): 1 clears every page's BLK_FLTSUM; immediate. -/
def F.FLT_SUMCLR.ALL : Field := ⟨0x64, 31, 1, .wo, .imm, 0, 0, 1, 0, 1⟩

/-- R470 (13): slot written next. -/
def F.FLT_HSTAT.NEXT : Field := ⟨0x70, 0, 5, .ro, .imm, 0, 0, 1, 0, 31⟩

/-- R470 (13): R447. -/
def F.FLT_HSTAT.WRAPPED : Field := ⟨0x70, 5, 1, .ro, .imm, 0, 0, 1, 0, 1⟩

/-- R470 (13): R447. -/
def F.FLT_HSTAT.FROZEN : Field := ⟨0x70, 8, 1, .ro, .imm, 0, 0, 1, 0, 1⟩

/-- R470 (13): slot of the freezing record. -/
def F.FLT_HSTAT.FREEZE_SLOT : Field := ⟨0x70, 9, 5, .ro, .imm, 0, 0, 1, 0, 31⟩

/-- R470 (13): immediate. -/
def F.FLT_HCTL.UNFREEZE : Field := ⟨0x74, 0, 1, .w1s, .imm, 0, 0, 1, 0, 1⟩

/-- R470 (13): CORRECTED records enter the history. -/
def F.FLT_HCTL.HIST_CORR : Field := ⟨0x74, 1, 1, .rw, .staged, 1, 0, 1, 0, 1⟩

/-- R470 (13): empty the history; immediate. -/
def F.FLT_HCTL.CLEAR : Field := ⟨0x74, 2, 1, .w1s, .imm, 0, 0, 1, 0, 1⟩

/-- R470 (13): saturating. -/
def F.FLT_HLOST.HIST_LOST : Field := ⟨0x78, 0, 32, .ro, .imm, 0, 0, 1, 0, 4294967295⟩

/-- R470 (13): records of severity s. -/
def F.FLT_CNT.SEV_CNT : Field := ⟨0x80, 0, 32, .ro, .imm, 0, 4, 4, 0, 4294967295⟩

/-- R470 (13): ring of class c, LOCAL = 1, 4 KiB aligned. -/
def F.TEL_BASE.TEL_BASE : Field := ⟨0xA0, 0, 64, .rw, .staged, 0, 16, 3, 0, 18446744073709551615⟩

/-- R470 (13): 6–16. -/
def F.TEL_CFG.SIZE_LOG2 : Field := ⟨0xA8, 0, 5, .rw, .staged, 8, 16, 3, 6, 16⟩

/-- R470 (13): ring in use; cleared under R462. -/
def F.TEL_CFG.EN : Field := ⟨0xA8, 8, 1, .rw, .staged, 0, 16, 3, 0, 1⟩

/-- R470 (13): 0–15. -/
def F.FLT_TRACE.TRACE_SAMPLE : Field := ⟨0xD0, 0, 4, .rw, .staged, 4, 0, 1, 0, 15⟩

/-- R470 (13): R466. -/
def F.FLT_TRACE.TRACE_SRC : Field := ⟨0xD0, 8, 5, .rw, .staged, 0, 0, 1, 0, 31⟩

/-- R470 (13): records per ms, 1–65,535. -/
def F.FLT_TRACE.TRACE_RATE : Field := ⟨0xD0, 16, 16, .rw, .staged, 1000, 0, 1, 1, 65535⟩

/-- R470 (13): R467. -/
def F.FLT_STORM.STORM : Field := ⟨0xD4, 0, 1, .ro, .imm, 0, 0, 1, 0, 1⟩

/-- R470 (13): ms, 1–255. -/
def F.FLT_STORM.STORM_WINDOW : Field := ⟨0xD4, 8, 8, .rw, .staged, 10, 0, 1, 1, 255⟩

/-- R470 (13): saturating. -/
def F.FLT_STORM.STORM_CNT : Field := ⟨0xD4, 16, 16, .ro, .imm, 0, 0, 1, 0, 65535⟩

/-- R470 (13): R465. -/
def F.FLT_TCNT0.EVENT_DROP_CNT : Field := ⟨0xD8, 0, 32, .ro, .imm, 0, 0, 1, 0, 4294967295⟩

/-- R470 (13): R464. -/
def F.FLT_TCNT1.ALARM_COAL_CNT : Field := ⟨0xDC, 0, 32, .ro, .imm, 0, 0, 1, 0, 4294967295⟩

/-- R470 (13): R466. -/
def F.FLT_TCNT2.TRACE_SKIP_CNT : Field := ⟨0xE0, 0, 32, .ro, .imm, 0, 0, 1, 0, 4294967295⟩

/-- R470 (13): Knock scheduling. -/
def F.FLT_KNOCK.KNOCK_EN : Field := ⟨0x100, 0, 1, .rw, .staged, 1, 0, 1, 0, 1⟩

/-- R470 (13): R459. -/
def F.FLT_KNOCK.KNOCK_FORCE : Field := ⟨0x100, 1, 1, .rw, .staged, 1, 0, 1, 0, 1⟩

/-- R470 (13): concurrent runs, 1–288. -/
def F.FLT_KNOCK.KNOCK_CONC : Field := ⟨0x100, 8, 9, .rw, .staged, 24, 0, 1, 1, 288⟩

/-- R470 (13): s, 1–3,600. -/
def F.FLT_KNOCK_GAP.KNOCK_GAP : Field := ⟨0x104, 0, 16, .rw, .staged, 540, 0, 1, 1, 3600⟩

/-- R470 (13): s, KNOCK_GAP + 1 to 7,200. -/
def F.FLT_KNOCK_GAP.KNOCK_MAX : Field := ⟨0x104, 16, 16, .rw, .staged, 600, 0, 1, 0, 7200⟩

/-- R470 (13): passes. -/
def F.FLT_KRUNS.KNOCK_RUNS : Field := ⟨0x108, 0, 32, .ro, .imm, 0, 0, 1, 0, 4294967295⟩

/-- R470 (13): saturating. -/
def F.FLT_KERR.KNOCK_FAILS : Field := ⟨0x10C, 0, 16, .ro, .imm, 0, 0, 1, 0, 65535⟩

/-- R470 (13): saturating. -/
def F.FLT_KERR.KNOCK_ABORTS : Field := ⟨0x10C, 16, 16, .ro, .imm, 0, 0, 1, 0, 65535⟩

/-- R470 (13): tiles overdue now. -/
def F.FLT_KOVER.OVERDUE_NOW : Field := ⟨0x110, 0, 9, .ro, .imm, 0, 0, 1, 0, 511⟩

/-- R470 (13): saturating. -/
def F.FLT_KOVER.OVERDUE_CNT : Field := ⟨0x110, 16, 16, .ro, .imm, 0, 0, 1, 0, 65535⟩

/-- R470 (13): immediate. -/
def F.FLT_INJ0.CODE : Field := ⟨0x140, 0, 16, .rw, .imm, 0, 0, 1, 0, 65535⟩

/-- R470 (13): immediate. -/
def F.FLT_INJ0.SEV : Field := ⟨0x140, 16, 2, .rw, .imm, 0, 0, 1, 0, 3⟩

/-- R470 (13): immediate. -/
def F.FLT_INJ0.PAGE : Field := ⟨0x140, 20, 12, .rw, .imm, 0, 0, 1, 0, 4095⟩

/-- R470 (13): immediate. -/
def F.FLT_INJ1.DETAIL : Field := ⟨0x144, 0, 16, .rw, .imm, 0, 0, 1, 0, 65535⟩

/-- R470 (13): immediate. -/
def F.FLT_INJ1.PART : Field := ⟨0x144, 16, 4, .rw, .imm, 0, 0, 1, 0, 15⟩

/-- R470 (13): immediate. -/
def F.FLT_INJ1.PART_VALID : Field := ⟨0x144, 20, 1, .rw, .imm, 0, 0, 1, 0, 1⟩

/-- R470 (13): R456; immediate. -/
def F.FLT_INJ2.GO : Field := ⟨0x148, 0, 1, .w1s, .imm, 0, 0, 1, 0, 1⟩

/-- R470 (13): R456. -/
def F.FLT_INJ2.INJ_EN : Field := ⟨0x148, 8, 1, .ro, .imm, 0, 0, 1, 0, 1⟩

/-- R470 (13): R441, R447. -/
def F.FLT_HIST.RECORD : Field := ⟨0x200, 0, 128, .ro, .imm, 0, 16, 32, 0, 340282366920938463463374607431768211455⟩

/-- R470 (13): code overridden. -/
def F.FLT_X_OVR.CODE : Field := ⟨0x400, 0, 16, .rw, .expert, 0, 4, 64, 0, 65535⟩

/-- R470 (13): reaction. -/
def F.FLT_X_OVR.REACT : Field := ⟨0x400, 16, 2, .rw, .expert, 0, 4, 64, 0, 3⟩

/-- R470 (13): 0 ALARM, 1 EVENT, 2 TRACE, 3 reserved. -/
def F.FLT_X_OVR.CLASS : Field := ⟨0x400, 18, 2, .rw, .expert, 0, 4, 64, 0, 3⟩

/-- R470 (13): CLASS applies. -/
def F.FLT_X_OVR.CLASS_EN : Field := ⟨0x400, 20, 1, .rw, .expert, 0, 4, 64, 0, 1⟩

/-- R470 (13): entry in use. -/
def F.FLT_X_OVR.VALID : Field := ⟨0x400, 21, 1, .rw, .expert, 0, 4, 64, 0, 1⟩

/-- R496 (14): R475. -/
def F.BOOT_STAT.STAGE : Field := ⟨0x40, 0, 4, .ro, .imm, 0, 0, 1, 0, 15⟩

/-- R496 (14): R475. -/
def F.BOOT_STAT.READY : Field := ⟨0x40, 4, 1, .ro, .imm, 0, 0, 1, 0, 1⟩

/-- R496 (14): booted from a pushed image. -/
def F.BOOT_STAT.FROM_PUSH : Field := ⟨0x40, 5, 1, .ro, .imm, 0, 0, 1, 0, 1⟩

/-- R496 (14): the flash image passed at the last boot or write. -/
def F.BOOT_STAT.FLASH_OK : Field := ⟨0x40, 6, 1, .ro, .imm, 0, 0, 1, 0, 1⟩

/-- R496 (14): key slot of the booted image. -/
def F.BOOT_STAT.KEY_SLOT : Field := ⟨0x40, 8, 2, .ro, .imm, 0, 0, 1, 0, 3⟩

/-- R496 (14): R480 code. -/
def F.BOOT_STAT.BOOT_ERR : Field := ⟨0x40, 16, 8, .ro, .imm, 0, 0, 1, 0, 255⟩

/-- R496 (14): ms from t0 to READY. -/
def F.BOOT_TIME.READY_MS : Field := ⟨0x44, 0, 16, .ro, .imm, 0, 0, 1, 0, 65535⟩

/-- R496 (14): R482. -/
def F.BOOT_FUSE.KEY_VALID : Field := ⟨0x48, 0, 4, .ro, .imm, 0, 0, 1, 0, 15⟩

/-- R496 (14): R482. -/
def F.BOOT_FUSE.KEY_REVOKE : Field := ⟨0x48, 4, 4, .ro, .imm, 0, 0, 1, 0, 15⟩

/-- R496 (14): 0–64. -/
def F.BOOT_FUSE.SVN_FUSE : Field := ⟨0x48, 8, 7, .ro, .imm, 0, 0, 1, 0, 127⟩

/-- R496 (14): R456. -/
def F.BOOT_FUSE.TEST_FUSE : Field := ⟨0x48, 16, 1, .ro, .imm, 0, 0, 1, 0, 1⟩

/-- R496 (14): TEST_MODE. -/
def F.BOOT_FUSE.TEST_STRAP : Field := ⟨0x48, 17, 1, .ro, .imm, 0, 0, 1, 0, 1⟩

/-- R496 (14): burn REVOKE[k] (R483). -/
def F.BOOT_REVOKE.REVOKE : Field := ⟨0x4C, 0, 4, .w1s, .imm, 0, 0, 1, 0, 15⟩

/-- R496 (14): R483. -/
def F.BOOT_SVN.SVN_BURN : Field := ⟨0x50, 0, 7, .wo, .imm, 0, 0, 1, 0, 127⟩

/-- R496 (14): SVN of the booted image. -/
def F.BOOT_IMG.IMG_SVN : Field := ⟨0x54, 0, 7, .ro, .imm, 0, 0, 1, 0, 127⟩

/-- R496 (14): IMG_VER of the booted image. -/
def F.BOOT_IMG_VER.IMG_VER : Field := ⟨0x58, 0, 32, .ro, .imm, 0, 0, 1, 0, 4294967295⟩

/-- R496 (14): device serial; low word first. -/
def F.BOOT_SERIAL.SERIAL : Field := ⟨0x60, 0, 64, .ro, .imm, 0, 0, 1, 0, 18446744073709551615⟩

/-- R496 (14): bytes, 8,192–12,582,912, a multiple of 4,096. -/
def F.BOOT_PUSH_LEN.PUSH_LEN : Field := ⟨0x70, 0, 24, .rw, .imm, 0, 0, 1, 8192, 12582912⟩

/-- R496 (14): R479. -/
def F.BOOT_PUSH_CMD.GO : Field := ⟨0x74, 0, 1, .w1s, .imm, 0, 0, 1, 0, 1⟩

/-- R496 (14): staging area, LOCAL = 1, 4 KiB aligned; refused unless UPD_STATE is IDLE or FAILED. -/
def F.BOOT_STG_BASE.STG_BASE : Field := ⟨0x80, 0, 64, .rw, .imm, 0, 0, 1, 0, 18446744073709551615⟩

/-- R496 (14): R487. -/
def F.BOOT_UPD_CMD.VERIFY : Field := ⟨0x88, 0, 1, .w1s, .imm, 0, 0, 1, 0, 1⟩

/-- R496 (14): R487. -/
def F.BOOT_UPD_CMD.ACTIVATE : Field := ⟨0x88, 1, 1, .w1s, .imm, 0, 0, 1, 0, 1⟩

/-- R496 (14): R493. -/
def F.BOOT_UPD_CMD.FLASH_WRITE : Field := ⟨0x88, 2, 1, .w1s, .imm, 0, 0, 1, 0, 1⟩

/-- R496 (14): R487. -/
def F.BOOT_UPD_CMD.ABORT : Field := ⟨0x88, 3, 1, .w1s, .imm, 0, 0, 1, 0, 1⟩

/-- R496 (14): bit c of the field: component c; bit 0 of the field reserved. -/
def F.BOOT_UPD_CMD.ACT_MASK : Field := ⟨0x88, 8, 8, .rw, .imm, 0, 0, 1, 0, 255⟩

/-- R496 (14): 0 IDLE, 1 VERIFYING, 2 STAGED, 3 ACTIVATING, 4 FAILED. -/
def F.BOOT_UPD_STAT.UPD_STATE : Field := ⟨0x8C, 0, 3, .ro, .imm, 0, 0, 1, 0, 7⟩

/-- R496 (14): R480 code; 0x10 LIMIT, 0x11 STAGE_THAWED, 0x12 REVERTED. -/
def F.BOOT_UPD_STAT.UPD_ERR : Field := ⟨0x8C, 8, 8, .ro, .imm, 0, 0, 1, 0, 255⟩

/-- R496 (14): components fully committed from the staged image. -/
def F.BOOT_UPD_STAT.DONE_MASK : Field := ⟨0x8C, 16, 8, .ro, .imm, 0, 0, 1, 0, 255⟩

/-- R496 (14): R493. -/
def F.BOOT_UPD_STAT.FLASH_BUSY : Field := ⟨0x8C, 24, 1, .ro, .imm, 0, 0, 1, 0, 1⟩

/-- R496 (14): some component has MIXED = 1. -/
def F.BOOT_UPD_STAT.MIXED : Field := ⟨0x8C, 25, 1, .ro, .imm, 0, 0, 1, 0, 1⟩

/-- R496 (14): R491. -/
def F.BOOT_ALIVE.ALIVE : Field := ⟨0x90, 0, 32, .wo, .imm, 0, 0, 1, 0, 4294967295⟩

/-- R496 (14): 0xC0DE resets the package (R471). -/
def F.BOOT_RESET.KEY : Field := ⟨0x94, 0, 16, .wo, .imm, 0, 0, 1, 0, 65535⟩

/-- R496 (14): committed UC_MAJOR [23:16], UC_MINOR [15:8], UC_BUILD [7:0]. -/
def F.BOOT_COMP.VERSION : Field := ⟨0xA0, 0, 24, .ro, .imm, 0, 4, 8, 0, 16777215⟩

/-- R496 (14): activation in progress or incomplete. -/
def F.BOOT_COMP.PENDING : Field := ⟨0xA0, 24, 1, .ro, .imm, 0, 4, 8, 0, 1⟩

/-- R496 (14): pages run two versions. -/
def F.BOOT_COMP.MIXED : Field := ⟨0xA0, 25, 1, .ro, .imm, 0, 4, 8, 0, 1⟩

/-- R496 (14): activations completed, saturating. -/
def F.BOOT_CNT.ACT_CNT : Field := ⟨0xC0, 0, 16, .ro, .imm, 0, 0, 1, 0, 65535⟩

/-- R496 (14): saturating. -/
def F.BOOT_CNT.REVERT_CNT : Field := ⟨0xC0, 16, 16, .ro, .imm, 0, 0, 1, 0, 65535⟩

/-- R496 (14): saturating. -/
def F.BOOT_ERR_CNT.VERIFY_FAIL_CNT : Field := ⟨0xC4, 0, 16, .ro, .imm, 0, 0, 1, 0, 65535⟩

/-- R496 (14): saturating. -/
def F.BOOT_ERR_CNT.PUSH_FAIL_CNT : Field := ⟨0xC4, 16, 16, .ro, .imm, 0, 0, 1, 0, 65535⟩

/-- R496 (14): committed digest of component c, byte 4i in [7:0]. -/
def F.BOOT_DIG.DIGEST : Field := ⟨0x100, 0, 256, .ro, .imm, 0, 32, 8, 0, 115792089237316195423570985008687907853269984665640564039457584007913129639935⟩

/-- R521 (15): R472. -/
def F.DEV_STRAP.SLOT_ID : Field := ⟨0x40, 0, 6, .ro, .imm, 0, 0, 1, 0, 63⟩

/-- R521 (15): as named. -/
def F.DEV_STRAP.TBM_EN : Field := ⟨0x40, 8, 1, .ro, .imm, 0, 0, 1, 0, 1⟩

/-- R521 (15): as named. -/
def F.DEV_STRAP.TEST_MODE : Field := ⟨0x40, 9, 1, .ro, .imm, 0, 0, 1, 0, 1⟩

/-- R521 (15): tiles not retired. -/
def F.DEV_TILES.LIVE_TILES : Field := ⟨0x44, 0, 9, .ro, .imm, 288, 0, 1, 0, 511⟩

/-- R521 (15): R129. -/
def F.DEV_TILES.RETIRED_TILES : Field := ⟨0x44, 16, 9, .ro, .imm, 0, 0, 1, 0, 511⟩

/-- R521 (15): channel groups not retired. -/
def F.DEV_GROUPS.LIVE_GROUPS : Field := ⟨0x48, 0, 6, .ro, .imm, 32, 0, 1, 0, 63⟩

/-- R521 (15): free for software. -/
def F.DEV_SCRATCH.SCRATCH : Field := ⟨0x4C, 0, 32, .rw, .imm, 0, 0, 1, 0, 4294967295⟩

/-- R521 (15): dynamic address. -/
def F.MGT_I3C.DYN_ADDR : Field := ⟨0x40, 0, 7, .ro, .imm, 0, 0, 1, 0, 127⟩

/-- R521 (15): as named. -/
def F.MGT_I3C.ADDR_VALID : Field := ⟨0x40, 7, 1, .ro, .imm, 0, 0, 1, 0, 1⟩

/-- R521 (15): R510. -/
def F.MGT_I3C.STATIC_ADDR : Field := ⟨0x40, 8, 7, .ro, .imm, 0, 0, 1, 0, 127⟩

/-- R521 (15): R511. -/
def F.MGT_EID.EID_I3C : Field := ⟨0x44, 0, 8, .ro, .imm, 0, 0, 1, 0, 255⟩

/-- R521 (15): R511. -/
def F.MGT_EID.EID_PCIE : Field := ⟨0x44, 8, 8, .ro, .imm, 0, 0, 1, 0, 255⟩

/-- R521 (15): PLDM terminus ID. -/
def F.MGT_EID.TID : Field := ⟨0x44, 16, 8, .ro, .imm, 0, 0, 1, 0, 255⟩

/-- R521 (15): R515. -/
def F.MGT_PLDM.UPD_LOCK : Field := ⟨0x48, 0, 1, .ro, .imm, 0, 0, 1, 0, 1⟩

/-- R521 (15): R510. -/
def F.MGT_PLDM.IBI_EN : Field := ⟨0x48, 1, 1, .rw, .imm, 1, 0, 1, 0, 1⟩

/-- R521 (15): R514, 0–64. -/
def F.MGT_PLDM.EV_QUEUED : Field := ⟨0x48, 8, 7, .ro, .imm, 0, 0, 1, 0, 127⟩

/-- R521 (15): bus, parity and framing errors. -/
def F.MGT_CNT.I3C_ERR_CNT : Field := ⟨0x4C, 0, 16, .ro, .imm, 0, 0, 1, 0, 65535⟩

/-- R521 (15): R511. -/
def F.MGT_CNT.MCTP_DROP_CNT : Field := ⟨0x4C, 16, 16, .ro, .imm, 0, 0, 1, 0, 65535⟩

/-- R521 (15): R503, R506; low word first. -/
def F.PCI_WIN_BASE.WIN_BASE : Field := ⟨0x40, 0, 64, .rw, .imm, 140737488355328, 0, 1, 0, 18446744073709551615⟩

/-- R521 (15): R505. -/
def F.PCI_FENCE.GO : Field := ⟨0x48, 0, 1, .w1s, .imm, 0, 0, 1, 0, 1⟩

/-- R521 (15): fence in progress. -/
def F.PCI_FENCE.BUSY : Field := ⟨0x48, 1, 1, .ro, .imm, 0, 0, 1, 0, 1⟩

/-- R521 (15): last fence returned FENCE_PATH_LOST. -/
def F.PCI_FENCE.LOST : Field := ⟨0x48, 2, 1, .ro, .imm, 0, 0, 1, 0, 1⟩

/-- R521 (15): generation 1–6. -/
def F.PCI_LINK.SPEED : Field := ⟨0x4C, 0, 3, .ro, .imm, 0, 0, 1, 0, 7⟩

/-- R521 (15): lanes 1, 2, 4. -/
def F.PCI_LINK.WIDTH : Field := ⟨0x4C, 4, 3, .ro, .imm, 0, 0, 1, 0, 7⟩

/-- R521 (15): FLIT mode. -/
def F.PCI_LINK.FLIT : Field := ⟨0x4C, 8, 1, .ro, .imm, 0, 0, 1, 0, 1⟩

/-- R521 (15): R504. -/
def F.PCI_CNT0.WR_DROP_CNT : Field := ⟨0x50, 0, 16, .ro, .imm, 0, 0, 1, 0, 65535⟩

/-- R521 (15): R504. -/
def F.PCI_CNT0.RD_ERR_CNT : Field := ⟨0x50, 16, 16, .ro, .imm, 0, 0, 1, 0, 65535⟩

/-- R521 (15): R502. -/
def F.PCI_CNT1.BAD_ACC_CNT : Field := ⟨0x54, 0, 16, .ro, .imm, 0, 0, 1, 0, 65535⟩

/-- R521 (15): R507. -/
def F.PCI_CNT1.LINK_DOWN_CNT : Field := ⟨0x54, 16, 16, .ro, .imm, 0, 0, 1, 0, 65535⟩

/-- R521 (15): station address. -/
def F.ETH_MAC.MAC : Field := ⟨0x40, 0, 48, .rw, .imm, 0, 0, 1, 0, 281474976710655⟩

/-- R521 (15): 0: IPv4 off. -/
def F.ETH_IP4.IP4 : Field := ⟨0x48, 0, 32, .rw, .imm, 0, 0, 1, 0, 4294967295⟩

/-- R521 (15): 0: IPv6 off. -/
def F.ETH_IP6.IP6 : Field := ⟨0x50, 0, 128, .rw, .imm, 0, 0, 1, 0, 340282366920938463463374607431768211455⟩

/-- R521 (15): as named. -/
def F.ETH_VLAN.VID : Field := ⟨0x60, 0, 12, .rw, .imm, 0, 0, 1, 0, 4095⟩

/-- R521 (15): as named. -/
def F.ETH_VLAN.VLAN_EN : Field := ⟨0x60, 12, 1, .rw, .imm, 0, 0, 1, 0, 1⟩

/-- R521 (15): as named. -/
def F.ETH_STAT.LINK_UP : Field := ⟨0x64, 0, 1, .ro, .imm, 0, 0, 1, 0, 1⟩

/-- R521 (15): R377. -/
def F.ETH_CNT.CNP_RX_CNT : Field := ⟨0x68, 0, 16, .ro, .imm, 0, 0, 1, 0, 65535⟩

/-- R521 (15): R516. -/
def F.ETH_CNT.DISCARD_CNT : Field := ⟨0x68, 16, 16, .ro, .imm, 0, 0, 1, 0, 65535⟩

/-- R521 (15): page 0x008 only; 64 KiB, LOCAL = 1, 4 KiB aligned. -/
def F.ETH_QP_BASE.QP_BASE : Field := ⟨0x80, 0, 64, .rw, .imm, 0, 0, 1, 0, 18446744073709551615⟩

/-- R521 (15): page 0x008 only; R517. -/
def F.ETH_QP_CMD.INDEX : Field := ⟨0x88, 0, 10, .wo, .imm, 0, 0, 1, 0, 1023⟩

/-- R521 (15): 1 open, 0 close. -/
def F.ETH_QP_CMD.OP : Field := ⟨0x88, 12, 1, .wo, .imm, 0, 0, 1, 0, 1⟩

/-- R521 (15): 0–1,024. -/
def F.ETH_QP_RESV.RESP_MAX : Field := ⟨0x8C, 0, 11, .rw, .imm, 256, 0, 1, 0, 1024⟩

/-- R521 (15): R518. -/
def F.ETH_QP_ERR.QP_ERR_CNT : Field := ⟨0x90, 0, 32, .ro, .imm, 0, 0, 1, 0, 4294967295⟩

/-- R521 (15): router cycles, 256–65,535. -/
def F.CLU_STARVE.STARVE_LIMIT : Field := ⟨0x40, 0, 16, .rw, .staged, 8192, 0, 1, 256, 65535⟩

/-- R521 (15): as named. -/
def F.CLU_STARVE_CNT.STARVE_CNT : Field := ⟨0x44, 0, 32, .ro, .imm, 0, 0, 1, 0, 4294967295⟩

/-- R521 (15): °C, as PWR_CTEMPc. -/
def F.CLU_TEMP.TEMP : Field := ⟨0x48, 0, 8, .ro, .imm, 0, 0, 1, 0, 255⟩

/-- R521 (15): this cluster's share of PWR_DROOP_CNT, wraps. -/
def F.CLU_DROOP.DROOP_CNT : Field := ⟨0x4C, 0, 32, .ro, .imm, 0, 0, 1, 0, 4294967295⟩

/-- R521 (15): mesh bytes sent along x and y; low word first. -/
def F.CLU_PERF.BYTES_X : Field := ⟨0xA0, 0, 64, .ro, .imm, 0, 0, 1, 0, 18446744073709551615⟩

/-- R521 (15): mesh bytes sent along x and y; low word first. -/
def F.CLU_PERF.BYTES_Y : Field := ⟨0xA8, 0, 64, .ro, .imm, 0, 0, 1, 0, 18446744073709551615⟩

/-- R541 (16): treated level of each input (R535); 1 = asserted. -/
def F.DEV_SB_LEVEL.ASSERTED : Field := ⟨0x100, 0, 4, .ro, .imm, 0, 0, 1, 0, 15⟩

/-- R541 (16): package drives THERMTRIP_N. -/
def F.DEV_SB_LEVEL.THERMTRIP_OUT : Field := ⟨0x100, 4, 1, .ro, .imm, 0, 0, 1, 0, 1⟩

/-- R541 (16): package drives FAULT_N. -/
def F.DEV_SB_LEVEL.FAULT_OUT : Field := ⟨0x100, 5, 1, .ro, .imm, 0, 0, 1, 0, 1⟩

/-- R541 (16): THERMTRIP_N land reads low. -/
def F.DEV_SB_LEVEL.THERMTRIP_PAD : Field := ⟨0x100, 8, 1, .ro, .imm, 0, 0, 1, 0, 1⟩

/-- R541 (16): FAULT_N land reads low. -/
def F.DEV_SB_LEVEL.FAULT_PAD : Field := ⟨0x100, 9, 1, .ro, .imm, 0, 0, 1, 0, 1⟩

/-- R541 (16): R536. -/
def F.DEV_SB_STUCK.STUCK : Field := ⟨0x104, 0, 4, .w1c, .imm, 0, 0, 1, 0, 15⟩

/-- R541 (16): R537: [8] THERMTRIP_N, [9] FAULT_N. -/
def F.DEV_SB_STUCK.OUT_STUCK : Field := ⟨0x104, 8, 2, .w1c, .imm, 0, 0, 1, 0, 3⟩

/-- R541 (16): R535. -/
def F.DEV_SB_CHATTER.CHATTER : Field := ⟨0x108, 0, 4, .ro, .imm, 0, 0, 1, 0, 15⟩

/-- R541 (16): chatter episodes of inputs 0–3. -/
def F.DEV_SB_CHAT_CNT.CHATTER_CNT0 : Field := ⟨0x10C, 0, 8, .ro, .imm, 0, 0, 1, 0, 255⟩

/-- R541 (16): chatter episodes of inputs 0–3. -/
def F.DEV_SB_CHAT_CNT.CHATTER_CNT1 : Field := ⟨0x10C, 8, 8, .ro, .imm, 0, 0, 1, 0, 255⟩

/-- R541 (16): chatter episodes of inputs 0–3. -/
def F.DEV_SB_CHAT_CNT.CHATTER_CNT2 : Field := ⟨0x10C, 16, 8, .ro, .imm, 0, 0, 1, 0, 255⟩

/-- R541 (16): chatter episodes of inputs 0–3. -/
def F.DEV_SB_CHAT_CNT.CHATTER_CNT3 : Field := ⟨0x10C, 24, 8, .ro, .imm, 0, 0, 1, 0, 255⟩

/-- R541 (16): R534, inputs 0–3 together. -/
def F.DEV_SB_GLITCH.FILT_CNT : Field := ⟨0x110, 0, 16, .ro, .imm, 0, 0, 1, 0, 65535⟩

/-- R541 (16): R534. -/
def F.DEV_SB_GLITCH.RST_GLITCH_CNT : Field := ⟨0x110, 16, 16, .ro, .imm, 0, 0, 1, 0, 65535⟩

/-- R541 (16): rail in regulation. -/
def F.DEV_RAIL.RAIL_OK : Field := ⟨0x120, 0, 12, .ro, .imm, 4095, 0, 1, 0, 4095⟩

/-- R541 (16): rail that raised RAIL_FAULT; cleared only by reset. -/
def F.DEV_RAIL_FAIL.RAIL_FAIL : Field := ⟨0x124, 0, 12, .ro, .imm, 0, 0, 1, 0, 4095⟩

/-- R541 (16): R530. -/
def F.DEV_AVS.AVS_CRC_CNT : Field := ⟨0x128, 0, 16, .ro, .imm, 0, 0, 1, 0, 65535⟩

/-- R541 (16): R530. -/
def F.DEV_AVS.AVS_NACK_CNT : Field := ⟨0x128, 16, 16, .ro, .imm, 0, 0, 1, 0, 65535⟩

/-- R541 (16): %, 5–15 (R528). -/
def F.DEV_RAIL_MON.UV_PCT : Field := ⟨0x12C, 0, 4, .rw, .imm, 10, 0, 1, 5, 15⟩

/-- R541 (16): µs, 1–100 (R528). -/
def F.DEV_RAIL_MON.UV_TIME : Field := ⟨0x12C, 8, 8, .rw, .imm, 10, 0, 1, 1, 100⟩

/-- The fields of each kind of page. -/
def fieldsOf : PageKind → List Field
  | .dev => [F.DEV_ISL_UP.UP, F.DEV_ISL_HUNG.HUNG, F.DEV_HS_STALL.HS_STALL_LIMIT, F.DEV_FRZ_STAT.PENDING,
      F.DEV_FRZ_STAT.ACTIVE, F.DEV_FRZ_CNT.FREEZE_DONE, F.DEV_FRZ_CNT.THAW_DONE, F.DEV_FRZ_REJ.WFROZEN_CNT,
      F.DEV_FRZ_REJ.REQ_ERR_CNT, F.DEV_FRZ_CFG.FILL_MAX_AGE, F.DEV_FRZ_CFG.DRAIN_WARN, F.DEV_FRZ_LEASE.LEASE_RETRY_CNT,
      F.DEV_STRAP.SLOT_ID, F.DEV_STRAP.TBM_EN, F.DEV_STRAP.TEST_MODE, F.DEV_TILES.LIVE_TILES,
      F.DEV_TILES.RETIRED_TILES, F.DEV_GROUPS.LIVE_GROUPS, F.DEV_SCRATCH.SCRATCH, F.DEV_SB_LEVEL.ASSERTED,
      F.DEV_SB_LEVEL.THERMTRIP_OUT, F.DEV_SB_LEVEL.FAULT_OUT, F.DEV_SB_LEVEL.THERMTRIP_PAD, F.DEV_SB_LEVEL.FAULT_PAD,
      F.DEV_SB_STUCK.STUCK, F.DEV_SB_STUCK.OUT_STUCK, F.DEV_SB_CHATTER.CHATTER, F.DEV_SB_CHAT_CNT.CHATTER_CNT0,
      F.DEV_SB_CHAT_CNT.CHATTER_CNT1, F.DEV_SB_CHAT_CNT.CHATTER_CNT2, F.DEV_SB_CHAT_CNT.CHATTER_CNT3, F.DEV_SB_GLITCH.FILT_CNT,
      F.DEV_SB_GLITCH.RST_GLITCH_CNT, F.DEV_RAIL.RAIL_OK, F.DEV_RAIL_FAIL.RAIL_FAIL, F.DEV_AVS.AVS_CRC_CNT,
      F.DEV_AVS.AVS_NACK_CNT, F.DEV_RAIL_MON.UV_PCT, F.DEV_RAIL_MON.UV_TIME]
  | .til => [F.TIL_ASSIGN.PART, F.TIL_ASSIGN.PINNED, F.TIL_ASSIGN.POOL, F.TIL_PROG.PROG_BASE,
      F.TIL_SPILL.SPILL_BASE, F.TIL_SPILL.SPILL_TILES, F.TIL_ISSUE.ISSUE_LEVEL, F.TIL_ISSUE.GOV_LEVEL,
      F.TIL_ISSUE.RAMP_LEVEL, F.TIL_ISSUE.DROOP, F.TIL_ISSUE.VEC_GOV, F.TIL_SEQ.SEQ_STATE,
      F.TIL_SEQ.PC, F.TIL_ERR.ERR_CODE, F.TIL_ERR_PC.ERR_PC, F.TIL_NSTAT.NSTAT,
      F.TIL_DMA_ERR.LAST_STATUS, F.TIL_DMA_ERR.LAST_TAG, F.TIL_DMA_ERR.DMA_ERR_CNT, F.TIL_RETIRE.RETIRED,
      F.TIL_RETIRE.CAUSE, F.TIL_RETIRE.RETIRE_REQ, F.TIL_KNOCK.PASS_CNT, F.TIL_KNOCK.FAIL_CNT,
      F.TIL_KNOCK.PATTERN_VER, F.TIL_KNOCK_TICK.LAST_TICK, F.TIL_LATE.LATE_CNT, F.TIL_LATE.LATE_MAX,
      F.TIL_SPILL_CNT.SPILL_CNT, F.TIL_PERF.MAT_BUSY, F.TIL_PERF.VEC_BUSY, F.TIL_PERF.STALL_ISSUE,
      F.TIL_PERF.STALL_HAZ, F.TIL_PERF_CTL.CLEAR, F.TIL_PERF_CTL.FREEZE, F.TIL_ECC.SRAM_CE_CNT,
      F.TIL_ECC.ACC_CE_CNT, F.TIL_ECC.UE_CNT, F.TIL_SCORE.SCORE_DEPTH, F.TIL_SCORE.SCORE_OVFL_CNT,
      F.TIL_X_QDEPTH.MAT_Q, F.TIL_X_QDEPTH.VEC_Q, F.TIL_X_QDEPTH.DMA_Q, F.TIL_X_DMAOUT.DMA_OUT,
      F.TIL_X_SRAM.HAZ_LINE, F.TIL_X_SRAM.TDMA_SLOT, F.TIL_X_SRAM.LOOPBUF_EN]
  | .tbs => [F.TBS_CFG.EXT_REF_EN, F.TBS_CFG.PPS_EN, F.TBS_CFG.PPS_ALIGN, F.TBS_CFG.MASTER_LOSS,
      F.TBS_CFG.HOLDOVER_MAX, F.TBS_STATUS.SYNC, F.TBS_STATUS.REF_OK, F.TBS_STATUS.PPS_OK,
      F.TBS_STATUS.TBM_EN, F.TBS_STATUS.STRATUM, F.TBS_STATUS.SLOT, F.TBS_STATUS.MASTER_SLOT,
      F.TBS_STATUS.MASTER_VALID, F.TBS_NOW_LO.NOW_LO, F.TBS_NOW_HI.NOW_HI, F.TBS_OFFSET.OFFSET,
      F.TBS_FREQ.FREQ, F.TBS_LAST_PPS.LAST_PPS, F.TBS_STEP.ANNOUNCE_LEAD, F.TBS_PLAN.PUSH_LEAD,
      F.TBS_PLAN.VOTE_WINDOW, F.TBS_PLAN.SHIFT_LEAD, F.TBS_BAR.BAR_TIMEOUT, F.TBS_BAR.RELEASE_LEAD,
      F.TBS_RISE.RAMP_TIME, F.TBS_RISE.RISE_IDLE, F.TBS_RISE.PKG_OFFSET, F.TBS_CNT0.LOCK_LOSS_CNT,
      F.TBS_CNT0.MASTER_CHG_CNT, F.TBS_CNT1.PPS_MISS_CNT, F.TBS_CNT1.STALE_CNT, F.TBS_CNT2.SHIFT_LATE_CNT,
      F.TBS_CNT2.VOTE_MISS_CNT, F.TBS_CNT3.BAR_FAIL_CNT, F.TBS_CNT3.BAD_ENTRY_CNT, F.TBS_NEXT_START.NEXT_START,
      F.TBS_PLAN_END.PLAN_END, F.TBS_X_LOOP.PGAIN, F.TBS_X_LOOP.IGAIN, F.TBS_X_LOCK.LOCK_THR,
      F.TBS_X_LOCK.LOCK_COUNT, F.TBS_X_PPS.PPS_DELAY]
  | .slc => [F.SLC_MASK.ALLOC_WAYS, F.SLC_MASK.PIN_WAYS, F.SLC_UNPIN.UNPIN, F.SLC_STARVE.STARVE_LIMIT,
      F.SLC_FILTER.FILTER_USED, F.SLC_FILTER.FILTER_OVF_CNT, F.SLC_STARVE_CNT.STARVE_CNT, F.SLC_PERF.HIT,
      F.SLC_PERF.MISS, F.SLC_PERF.BYPASS, F.SLC_PERF.NOFILL, F.SLC_ECC.CE_CNT,
      F.SLC_ECC.REFETCH_CNT, F.SLC_X_REPL.REPL, F.SLC_X_MSHR.MSHR]
  | .mem => [F.MEM_STARVE.STARVE_LIMIT, F.MEM_CH_RETIRE.CH_RETIRE_REQ, F.MEM_UE_LIMIT.CH_UE_LIMIT, F.MEM_RETRAIN.RETRAIN_REQ,
      F.MEM_RETRAIN.RETRAIN_PERIOD, F.MEM_RETRAIN.RETRAIN_DTEMP, F.MEM_CH_STATUS.CH_UP, F.MEM_CH_STATUS.CH_RETIRED,
      F.MEM_GRP_STATUS.RETRAINING, F.MEM_GRP_STATUS.GRP_RETIRED, F.MEM_TEMP.TEMP, F.MEM_TEMP.MR4_RATE,
      F.MEM_ECC.CE_CNT, F.MEM_ECC.UE_CNT, F.MEM_ECC.LINK_CE_CNT, F.MEM_PERF.RD_BYTES,
      F.MEM_PERF.WR_BYTES, F.MEM_PERF.LEASE_WAIT, F.MEM_PERF.RETRAIN_STALL, F.MEM_STARVE_CNT.STARVE_CNT,
      F.MEM_SCORE.SCORE_DEPTH, F.MEM_SCORE.SCORE_OVFL_CNT, F.MEM_PROOF.PROOF_SKIP_CNT, F.MEM_PROOF.PROOF_REJECT_CNT,
      F.MEM_MAP_GRP.OWNER, F.MEM_X_SCHED.WR_HI, F.MEM_X_SCHED.WR_LO, F.MEM_X_REF.RFM_EN,
      F.MEM_X_SCRUB.SCRUB_PERIOD]
  | .kvm => [F.KVM_SEQ_BASE.SEQ_BASE, F.KVM_PL_BASE.PL_BASE, F.KVM_PL.PL_LINES, F.KVM_POOL_TAB.POOL_TAB,
      F.KVM_POOL_EN.POOL_EN, F.KVM_ADMIT.KV_WAIT_MAX, F.KVM_ADMIT.LOOKUP_DEADLINE, F.KVM_FREE.FREE,
      F.KVM_PSTAT.STATE, F.KVM_PSTAT.ERR, F.KVM_PFX_BASE.PFX_BASE, F.KVM_PFX_CFG.PREFIX_EN,
      F.KVM_PFX_CFG.VERIFY, F.KVM_PFX_CFG.BLOCK_LOG2, F.KVM_PFX_CFG.CLEAR, F.KVM_PFX_KEY.KEY,
      F.KVM_ALLOC_CNT.ALLOC_CNT, F.KVM_REL_CNT.REL_CNT, F.KVM_PFX_HIT.PFX_HIT, F.KVM_PFX_MISS.PFX_MISS,
      F.KVM_PFX_CNT.COLLIDE_CNT, F.KVM_PFX_CNT.DEADLINE_CNT, F.KVM_WAIT_CNT.KV_WAIT_CNT, F.KVM_WAIT_CNT.EXHAUST_CNT,
      F.KVM_ERR_CNT.NO_COMMIT_CNT, F.KVM_ERR_CNT.BAD_KEEP_CNT, F.KVM_X_HASH.HASH_LANES, F.KVM_X_FRZ.FRZ_INFLIGHT]
  | .moe => [F.MOE_CFG.MAX_ROWS, F.MOE_PLC_NEXT.PLC_NEXT, F.MOE_SWAP_BAKE.SWAP_BAKE, F.MOE_PLC_ACTIVE.PLC_ACTIVE,
      F.MOE_EPOCH.EPOCH, F.MOE_PCTL.ARM, F.MOE_PCTL.CHECKED, F.MOE_PCTL.SWAP_ERR,
      F.MOE_PCTL.OVERFLOW_ROUNDS_MAX, F.MOE_LOAD_BASE.LOAD_BASE, F.MOE_DEFER_CNT.DEFER_CNT, F.MOE_DEFROW_CNT.DEFROW_CNT,
      F.MOE_DROP_CNT.DROP_CNT, F.MOE_LIMIT_CNT.LIMIT_CNT, F.MOE_ERR_CNT.SEG_ERR_CNT, F.MOE_ERR_CNT.COUNT_MISS_CNT,
      F.MOE_EPOCH_CNT.EPOCH_CNT, F.MOE_X_PLAN.PLAN_LANES, F.MOE_X_CHECK.CHECK_RATE]
  | .srv => [F.SRV_CFG.PINNED, F.SRV_CFG.ADMIT_STOP, F.SRV_CFG.DRAFT_CAP, F.SRV_SEQ.SEQ_FIRST,
      F.SRV_SEQ.SEQ_COUNT, F.SRV_POLL.IDLE_POLL, F.SRV_PF0.PF_CHUNK, F.SRV_PF1.PF_BUDGET,
      F.SRV_RATIO0.PF_MIN, F.SRV_RATIO0.PF_MAX, F.SRV_RATIO1.HYST, F.SRV_RATIO1.STEP_MAX,
      F.SRV_RATIO1.DEC_WEIGHT, F.SRV_SPEC.PROBE_BAKES, F.SRV_SPEC.GROW_RUN, F.SRV_MODEL.MODEL,
      F.SRV_MODEL.ACTIVE_MODEL, F.SRV_MODEL.SWITCHING, F.SRV_MODEL_BAKE.MODEL_BAKE, F.SRV_CTX_BASE.CTX_BASE,
      F.SRV_TEN_ACT.TEN_ACT, F.SRV_TEN_PEND.TEN_PEND, F.SRV_TEN_UPD.TENANT, F.SRV_TEN_Q.QUEUED,
      F.SRV_BB_CMD.INDEX, F.SRV_BB_CMD.OP, F.SRV_BB_DESC.DESC, F.SRV_BB_SEL.SEL,
      F.SRV_BB_INFO.STATE, F.SRV_BB_INFO.KIND, F.SRV_BB_INFO.PART, F.SRV_BB_INFO.USERS,
      F.SRV_BB_INFO.CHK_ERR, F.SRV_STAT.ACTIVE, F.SRV_POOLS.PF_TILES, F.SRV_POOLS.DEC_TILES,
      F.SRV_BAKE_NO.BAKE_NO, F.SRV_RING_BASE.RING_BASE, F.SRV_RING_CFG.SIZE_LOG2, F.SRV_RING_CFG.RING_EN,
      F.SRV_RING_CFG.ERR, F.SRV_ADMIT_CNT.ADMIT_CNT, F.SRV_DONE_CNT.DONE_CNT, F.SRV_REJECT_CNT.REJECT_CNT,
      F.SRV_CANCEL_CNT.CANCEL_CNT, F.SRV_ERR_CNT.CANCEL_MISS_CNT, F.SRV_ERR_CNT.RING_ERR_CNT, F.SRV_LATE_CNT.LATE_CNT,
      F.SRV_LDROP_CNT.LATE_DROP_CNT, F.SRV_FAIL_CNT.FAIL_REQ_CNT, F.SRV_DRAFT_PROP.DRAFT_PROP, F.SRV_DRAFT_ACC.DRAFT_ACC,
      F.SRV_MISC_CNT.DRAFT_SKIP_CNT, F.SRV_MISC_CNT.TEN_ERR_CNT, F.SRV_X_ADMIT.TEN_UPD_MAX, F.SRV_X_ADMIT.CANCEL_HOLD,
      F.SRV_X_DRAFT.DRAFT_IDLE]
  | .fab => [F.FAB_LCFG.LINK_EN, F.FAB_LCFG.STRICT_SLOT, F.FAB_LCFG.RETRAIN_REQ, F.FAB_LSTAT.LSTATE,
      F.FAB_LSTAT.WIDTH, F.FAB_LSTAT.PEER_SLOT, F.FAB_LSTAT.PEER_VALID, F.FAB_LSTAT.PEER_MISMATCH,
      F.FAB_LSTAT.LANE_PERM, F.FAB_LSTAT.LOOPBACK, F.FAB_LSTAT.SLOT_DUP, F.FAB_LSTAT.REFUSED_BY_PEER,
      F.FAB_LSTAT.LINK_NO, F.FAB_LEXP.EXP_SLOT, F.FAB_LEXP.LANE_MASK, F.FAB_LEXP.POL_INV,
      F.FAB_LPSER.PEER_SERIAL, F.FAB_LERR0.FEC_CORR_CNT, F.FAB_LERR1.FEC_UNCORR_CNT, F.FAB_LERR1.REPLAY_CNT,
      F.FAB_LERR2.CRC_ERR_CNT, F.FAB_LERR2.DOWN_CNT, F.FAB_LTIME.DELAY, F.FAB_LTIME.ASYM,
      F.FAB_LTX.TX_UNITS, F.FAB_LRX.RX_UNITS, F.FAB_QSTARVE.STARVE_LIMIT, F.FAB_QSTARVE_CNT.STARVE_CNT,
      F.FAB_QLANE.LANE_UP, F.FAB_QLANE.LANE_DIS, F.FAB_LSER.SYM_ERR_CNT, F.FAB_SCORE.SCORE_DEPTH,
      F.FAB_SCORE.SCORE_OVFL_CNT, F.FAB_QCNT0.KEY_FAULT_CNT, F.FAB_QCNT0.BAD_PKT_CNT, F.FAB_QCNT1.STALE_PKT_CNT,
      F.FAB_QCNT1.RELAY_DROP_CNT, F.FAB_X_LINK.ACK_EVERY, F.FAB_X_LINK.REPLAY_MAX, F.FAB_X_LANE.SER_LOG2,
      F.FAB_X_TRAIN.PRECODE_REQ]
  | .gfab => [F.FAB_GCFG.SPREAD, F.FAB_AGE.PKT_MAX_AGE, F.FAB_AGE.FENCE_PATH_TIMEOUT, F.FAB_UNREACH.UNREACH_TIMEOUT,
      F.FAB_SEG.SEG_RETRY, F.FAB_KEY_IDX.TENANT, F.FAB_KEY_VAL.KEY, F.FAB_TAG_BASE.BASE,
      F.FAB_TAG_CNT.COUNT, F.FAB_TAG_VAL.VAL, F.FAB_TAG_CMD.GO, F.FAB_TAG_CMD.BUSY,
      F.FAB_REACH.REACH, F.FAB_SAFE_SEEN.SAFE, F.FAB_RSEL.DST, F.FAB_RSEL.RSLOT,
      F.FAB_RVIEW.RKIND, F.FAB_RVIEW.VIA, F.FAB_RVIEW.LINK_NO, F.FAB_RVIEW.GEN,
      F.FAB_RVIEW.UNSETTLED, F.FAB_GCNT0.ROUTE_CHG_CNT, F.FAB_GCNT1.FENCE_LOST_CNT, F.FAB_GCNT1.UNREACH_CNT,
      F.FAB_GCNT2.REISSUE_CNT, F.FAB_GCNT3.KEY_FAULT_CNT, F.FAB_GCNT3.ATOM_LOST_CNT, F.FAB_X_ACK.ACK_COALESCE]
  | .wld => [F.WLD_CFG.MISSING_SHARD_POLICY, F.WLD_CFG.RECHECK, F.WLD_CFG.RETRY_MAX, F.WLD_CFG.SHARD_TIMEOUT,
      F.WLD_CFG.REPORT_TIMEOUT, F.WLD_TGT_BASE.TGT_BASE, F.WLD_TGT_CNT.TGT_COUNT, F.WLD_LDESC.LOAD_DESC,
      F.WLD_LCMD.START, F.WLD_LCMD.ABORT, F.WLD_LSTAT.STATE, F.WLD_LSTAT.STATUS,
      F.WLD_LSTAT.REPORTED, F.WLD_LOK.SHARDS_OK, F.WLD_LMISS.SHARDS_MISSING, F.WLD_LRET.RETRY_CNT,
      F.WLD_LRET.DIGEST_BAD_CNT, F.WLD_LUNAV.UNAVAIL_CNT, F.WLD_MKEY.MKEY, F.WLD_MKEY_LOCK.LOCK,
      F.WLD_ETH_BYTES.ETH_BYTES, F.WLD_RELAY_BYTES.RELAY_BYTES, F.WLD_ERR_CNT.SIG_FAIL_CNT, F.WLD_ERR_CNT.NVME_ERR_CNT,
      F.WLD_REMOTE_REJ.REMOTE_REJ_CNT, F.WLD_X_HASH.HASH_LANES, F.WLD_X_PIECE.PIECE_LOG2, F.WLD_X_RATE.CNP_CUT,
      F.WLD_X_RATE.RATE_RECOVER]
  | .pwr => [F.PWR_CAP.CAP, F.PWR_EMERG.EMERG_CAP, F.PWR_EMERG.ORPHAN_CAP, F.PWR_HEARTBEAT.HEARTBEAT,
      F.PWR_ORPHAN.ORPHAN_TIMEOUT, F.PWR_ORPHAN.ORPHANED, F.PWR_ORPHAN.HB_SEEN, F.PWR_MODE.FIXED_FREQ,
      F.PWR_MODE.VEC_GATE, F.PWR_MODE.BOOST_ACTIVE, F.PWR_MODE.FREQ_BUSY, F.PWR_RAMP.RAMP_AUTO,
      F.PWR_RAMP.RACK_RAMP, F.PWR_RAMP_STEP.RAMP_STEP_W, F.PWR_ALERT.PWR_ALERT, F.PWR_ALERT.COOL_ALERT,
      F.PWR_ALERT.CAP_STEP, F.PWR_ALERT.ALERT_RELEASE, F.PWR_THERM.THERM_TARGET, F.PWR_THERM.THERM_HYST,
      F.PWR_TEMP.TJ_NOW, F.PWR_TEMP.TJ_MAX_SEEN, F.PWR_TEMP.HOT_CLUSTER, F.PWR_NOW.P_FAST,
      F.PWR_NOW.P_AVG, F.PWR_LEVEL.G_MIN, F.PWR_LEVEL.CLAMP_LEVEL, F.PWR_LEVEL.CLAMP_ON,
      F.PWR_REASON.REASON, F.PWR_REASON_STICKY.STICKY, F.PWR_REST.REST_REQ, F.PWR_REST.WAKE,
      F.PWR_REST.REST_STATE, F.PWR_THR_US.DURATION, F.PWR_CTEMP.TEMP, F.PWR_CTEMP.G_THERM,
      F.PWR_DROOP_CNT.DROOP_CNT, F.PWR_FREQ_CNT.BOOST_ENTRIES, F.PWR_FREQ_CNT.FREQ_ABORTS, F.PWR_EV_CNT.OVERRUN_CNT,
      F.PWR_EV_CNT.ALERT_CNT, F.PWR_QCUR.I_Q, F.PWR_X_MODEL.P_IDLE, F.PWR_X_MODEL.P_FULL,
      F.PWR_X_EDC.EDC_W, F.PWR_X_EDC.IQ_MAX, F.PWR_X_WIN.CAP_WINDOW, F.PWR_X_DROOP.DROOP_MV,
      F.PWR_X_DROOP.DROOP_HOLD, F.PWR_X_BOOST.BOOST_MARGIN, F.PWR_X_BOOST.BOOST_DWELL, F.PWR_X_BOOST.VOLT_SETTLE]
  | .flt => [F.FLT_REACT.R_CORR, F.FLT_REACT.R_DEFER, F.FLT_REACT.R_UNCORR, F.FLT_REACT.R_FATAL,
      F.FLT_SAFE.SAFE_STATE, F.FLT_SAFE.HOLD, F.FLT_SAFE.SAFE_REQ, F.FLT_SAFE.RELEASE,
      F.FLT_SAFE.LAST_CAUSE, F.FLT_QUIET.QUIET_PERIOD, F.FLT_QUIET.QUIET_LEFT, F.FLT_RECOV.RECOVERY_LIMIT,
      F.FLT_RECOV.RECOVERY_COUNT, F.FLT_SAFE_TICK.SAFE_TICK, F.FLT_STOPPED.STOPPED, F.FLT_SUMCLR.PAGE,
      F.FLT_SUMCLR.ALL, F.FLT_HSTAT.NEXT, F.FLT_HSTAT.WRAPPED, F.FLT_HSTAT.FROZEN,
      F.FLT_HSTAT.FREEZE_SLOT, F.FLT_HCTL.UNFREEZE, F.FLT_HCTL.HIST_CORR, F.FLT_HCTL.CLEAR,
      F.FLT_HLOST.HIST_LOST, F.FLT_CNT.SEV_CNT, F.TEL_BASE.TEL_BASE, F.TEL_CFG.SIZE_LOG2,
      F.TEL_CFG.EN, F.FLT_TRACE.TRACE_SAMPLE, F.FLT_TRACE.TRACE_SRC, F.FLT_TRACE.TRACE_RATE,
      F.FLT_STORM.STORM, F.FLT_STORM.STORM_WINDOW, F.FLT_STORM.STORM_CNT, F.FLT_TCNT0.EVENT_DROP_CNT,
      F.FLT_TCNT1.ALARM_COAL_CNT, F.FLT_TCNT2.TRACE_SKIP_CNT, F.FLT_KNOCK.KNOCK_EN, F.FLT_KNOCK.KNOCK_FORCE,
      F.FLT_KNOCK.KNOCK_CONC, F.FLT_KNOCK_GAP.KNOCK_GAP, F.FLT_KNOCK_GAP.KNOCK_MAX, F.FLT_KRUNS.KNOCK_RUNS,
      F.FLT_KERR.KNOCK_FAILS, F.FLT_KERR.KNOCK_ABORTS, F.FLT_KOVER.OVERDUE_NOW, F.FLT_KOVER.OVERDUE_CNT,
      F.FLT_INJ0.CODE, F.FLT_INJ0.SEV, F.FLT_INJ0.PAGE, F.FLT_INJ1.DETAIL,
      F.FLT_INJ1.PART, F.FLT_INJ1.PART_VALID, F.FLT_INJ2.GO, F.FLT_INJ2.INJ_EN,
      F.FLT_HIST.RECORD, F.FLT_X_OVR.CODE, F.FLT_X_OVR.REACT, F.FLT_X_OVR.CLASS,
      F.FLT_X_OVR.CLASS_EN, F.FLT_X_OVR.VALID]
  | .boot => [F.BOOT_STAT.STAGE, F.BOOT_STAT.READY, F.BOOT_STAT.FROM_PUSH, F.BOOT_STAT.FLASH_OK,
      F.BOOT_STAT.KEY_SLOT, F.BOOT_STAT.BOOT_ERR, F.BOOT_TIME.READY_MS, F.BOOT_FUSE.KEY_VALID,
      F.BOOT_FUSE.KEY_REVOKE, F.BOOT_FUSE.SVN_FUSE, F.BOOT_FUSE.TEST_FUSE, F.BOOT_FUSE.TEST_STRAP,
      F.BOOT_REVOKE.REVOKE, F.BOOT_SVN.SVN_BURN, F.BOOT_IMG.IMG_SVN, F.BOOT_IMG_VER.IMG_VER,
      F.BOOT_SERIAL.SERIAL, F.BOOT_PUSH_LEN.PUSH_LEN, F.BOOT_PUSH_CMD.GO, F.BOOT_STG_BASE.STG_BASE,
      F.BOOT_UPD_CMD.VERIFY, F.BOOT_UPD_CMD.ACTIVATE, F.BOOT_UPD_CMD.FLASH_WRITE, F.BOOT_UPD_CMD.ABORT,
      F.BOOT_UPD_CMD.ACT_MASK, F.BOOT_UPD_STAT.UPD_STATE, F.BOOT_UPD_STAT.UPD_ERR, F.BOOT_UPD_STAT.DONE_MASK,
      F.BOOT_UPD_STAT.FLASH_BUSY, F.BOOT_UPD_STAT.MIXED, F.BOOT_ALIVE.ALIVE, F.BOOT_RESET.KEY,
      F.BOOT_COMP.VERSION, F.BOOT_COMP.PENDING, F.BOOT_COMP.MIXED, F.BOOT_CNT.ACT_CNT,
      F.BOOT_CNT.REVERT_CNT, F.BOOT_ERR_CNT.VERIFY_FAIL_CNT, F.BOOT_ERR_CNT.PUSH_FAIL_CNT, F.BOOT_DIG.DIGEST]
  | .mgt => [F.MGT_I3C.DYN_ADDR, F.MGT_I3C.ADDR_VALID, F.MGT_I3C.STATIC_ADDR, F.MGT_EID.EID_I3C,
      F.MGT_EID.EID_PCIE, F.MGT_EID.TID, F.MGT_PLDM.UPD_LOCK, F.MGT_PLDM.IBI_EN,
      F.MGT_PLDM.EV_QUEUED, F.MGT_CNT.I3C_ERR_CNT, F.MGT_CNT.MCTP_DROP_CNT]
  | .pci => [F.PCI_WIN_BASE.WIN_BASE, F.PCI_FENCE.GO, F.PCI_FENCE.BUSY, F.PCI_FENCE.LOST,
      F.PCI_LINK.SPEED, F.PCI_LINK.WIDTH, F.PCI_LINK.FLIT, F.PCI_CNT0.WR_DROP_CNT,
      F.PCI_CNT0.RD_ERR_CNT, F.PCI_CNT1.BAD_ACC_CNT, F.PCI_CNT1.LINK_DOWN_CNT]
  | .eth => [F.ETH_MAC.MAC, F.ETH_IP4.IP4, F.ETH_IP6.IP6, F.ETH_VLAN.VID,
      F.ETH_VLAN.VLAN_EN, F.ETH_STAT.LINK_UP, F.ETH_CNT.CNP_RX_CNT, F.ETH_CNT.DISCARD_CNT,
      F.ETH_QP_BASE.QP_BASE, F.ETH_QP_CMD.INDEX, F.ETH_QP_CMD.OP, F.ETH_QP_RESV.RESP_MAX,
      F.ETH_QP_ERR.QP_ERR_CNT]
  | .clu => [F.CLU_STARVE.STARVE_LIMIT, F.CLU_STARVE_CNT.STARVE_CNT, F.CLU_TEMP.TEMP, F.CLU_DROOP.DROOP_CNT,
      F.CLU_PERF.BYTES_X, F.CLU_PERF.BYTES_Y]
  | .reserved => []

end Sys2Proof.Machine
end

