-- ==== Sys2Proof/Machine/SoftFloat.lean ====
section
/-! DEFINITION. Exact binary arithmetic and the rounding of the number formats (R53 to R58, R70 to R87).
Log entry 21 (DEDUCED, unsafe). -/
namespace Sys2Proof.Machine

/-- A decoded value: NaN, an infinity, or a sign with the exact magnitude `m × 2^e`. -/
inductive Num where
  | nan
  | inf (neg : Bool)
  | fin (neg : Bool) (m : Nat) (e : Int)
deriving DecidableEq, Repr

/-- How the all-ones exponent of a floating-point format reads (R54). -/
inductive FpSpecial where
  | ieee   -- infinities and NaNs
  | e4m3   -- no infinity; S.1111.111 is NaN
  | none   -- every code is finite
deriving DecidableEq, Repr

/-- A floating-point element format of R54: its field widths, bias, largest finite value `maxM × 2^maxE` and the
canonical NaN of R78. -/
structure FpFmt where
  ebits : Nat
  mbits : Nat
  bias : Nat
  maxM : Nat
  maxE : Int
  special : FpSpecial
  nanCode : Nat
deriving DecidableEq, Repr

def fp32 : FpFmt := ⟨8, 23, 127, 0xFFFFFF, 104, .ieee, 0x7FC00000⟩
def bf16 : FpFmt := ⟨8, 7, 127, 0xFF, 120, .ieee, 0x7FC0⟩
def fp16 : FpFmt := ⟨5, 10, 15, 0x7FF, 5, .ieee, 0x7E00⟩
def e4m3 : FpFmt := ⟨4, 3, 7, 14, 5, .e4m3, 0x7F⟩
def e5m2 : FpFmt := ⟨5, 2, 15, 7, 13, .ieee, 0x7E⟩
def e2m3 : FpFmt := ⟨2, 3, 1, 15, -1, .none, 0⟩
def e3m2 : FpFmt := ⟨3, 2, 3, 7, 2, .none, 0⟩
def e2m1 : FpFmt := ⟨2, 1, 1, 3, 1, .none, 0⟩

/-- The sticky numeric flags of TIL_NSTAT (R87), as masks. -/
def flNV : Nat := 1
def flOF : Nat := 2
def flUF : Nat := 4
def flNX : Nat := 8
def flSAT : Nat := 16
def flSPM : Nat := 32
def flSCN : Nat := 64
def flGDUP : Nat := 128

/-- The exponent of the last place of the subnormals of a format. -/
def FpFmt.qmin (f : FpFmt) : Int := 1 - (f.bias : Int) - f.mbits

/-- The value of a code (R54). -/
def FpFmt.decode (f : FpFmt) (c : Nat) : Num :=
  let neg := bit c (f.ebits + f.mbits)
  let e := bits c f.mbits f.ebits
  let m := bits c 0 f.mbits
  let finite : Num :=
    if e = 0 then .fin neg m f.qmin
    else .fin neg (m + 2 ^ f.mbits) ((e : Int) - f.bias - f.mbits)
  match f.special with
  | .none => finite
  | .e4m3 => if e = 2 ^ f.ebits - 1 ∧ m = 2 ^ f.mbits - 1 then .nan else finite
  | .ieee => if e = 2 ^ f.ebits - 1 then (if m = 0 then .inf neg else .nan) else finite

/-- `m × 2^d` for `d ≥ 0`, and `m` itself otherwise. -/
def shlI (m : Nat) (d : Int) : Nat := m * 2 ^ d.toNat

/-- `a × 2^ea < b × 2^eb` for magnitudes. -/
def magLt (a : Nat) (ea : Int) (b : Nat) (eb : Int) : Bool :=
  let e := min ea eb
  decide (shlI a (ea - e) < shlI b (eb - e))

/-- The floor of log2 of a nonzero magnitude `m × 2^e`. -/
def magLog2 (m : Nat) (e : Int) : Int := (log2 m : Int) + e

/-- Rounding modes of R80. -/
inductive Rnd where
  | rne | rtz | rdn | rup | sr
deriving DecidableEq, Repr

/-- The mode of an RND code; 0b101 to 0b111 name none. -/
def Rnd.ofCode : Nat → Option Rnd
  | 0 => some .rne
  | 1 => some .rtz
  | 2 => some .rdn
  | 3 => some .rup
  | 4 => some .sr
  | _ => none

/-- Round the magnitude `m × 2^e` to an integer multiple of `2^q` (R80, R84): the multiple, and whether it is
inexact. `u` is the random word of stochastic rounding. -/
def roundAt (mode : Rnd) (neg : Bool) (m : Nat) (e q : Int) (u : Nat) : Nat × Bool :=
  if q ≤ e then (shlI m (e - q), false)
  else
    let d := 2 ^ (q - e).toNat
    let k := m / d
    let r := m % d
    let up : Bool := match mode with
      | .rne => decide (d < 2 * r) || (decide (2 * r = d) && decide (k % 2 = 1))
      | .rtz => false
      | .rdn => neg && decide (0 < r)
      | .rup => !neg && decide (0 < r)
      | .sr => decide (u < 2 ^ 32 * r / d)
    (if up then k + 1 else k, decide (0 < r))

/-- The grid exponent of a magnitude in a format, its exponent range unbounded above (R80). -/
def FpFmt.quantum (f : FpFmt) (m : Nat) (e : Int) : Int :=
  if m = 0 then f.qmin else max (magLog2 m e - f.mbits) f.qmin

/-- Round a magnitude on the format's grid: multiple, grid exponent, inexact. -/
def FpFmt.round (f : FpFmt) (mode : Rnd) (neg : Bool) (m : Nat) (e : Int) (u : Nat) : Nat × Int × Bool :=
  let q := f.quantum m e
  let (k, ix) := roundAt mode neg m e q u
  (k, q, ix)

/-- The code of the magnitude `k × 2^q`, a value on the format's grid that does not exceed the largest finite value. -/
def FpFmt.encode (f : FpFmt) (neg : Bool) (k : Nat) (q : Int) : Nat :=
  let s := b2n neg * 2 ^ (f.ebits + f.mbits)
  if k < 2 ^ f.mbits then s + k
  else
    let (k', q') := if k = 2 ^ (f.mbits + 1) then (k / 2, q + 1) else (k, q)
    s + (q' + f.mbits + f.bias).toNat * 2 ^ f.mbits + (k' - 2 ^ f.mbits)

/-- The code of the largest finite value. -/
def FpFmt.maxCode (f : FpFmt) (neg : Bool) : Nat := f.encode neg f.maxM f.maxE

/-- The code of an infinity of an IEEE-like format. -/
def FpFmt.infCode (f : FpFmt) (neg : Bool) : Nat :=
  b2n neg * 2 ^ (f.ebits + f.mbits) + (2 ^ f.ebits - 1) * 2 ^ f.mbits

/-- UF and NX of R87: inexact, and inexact below the smallest normal of the target. -/
def FpFmt.ixFlags (f : FpFmt) (m : Nat) (e : Int) (ix : Bool) : Nat :=
  if ix then flNX ||| (if m ≠ 0 ∧ magLt m e 1 (1 - (f.bias : Int)) then flUF else 0) else 0

/-- Canonical NaN of FP32 (R78). -/
def nan32 : Nat := 0x7FC00000

/-- Round an exact value to FP32, to nearest even; a magnitude above the largest finite becomes an infinity (R71, R77).
DEDUCED: that overflow sets OF, since R56 reports the IEEE exceptions as sticky flags.
Log entry 21 (DEDUCED, unsafe). -/
def toFp32 : Num → Nat × Nat
  | .nan => (nan32, 0)
  | .inf neg => (fp32.infCode neg, 0)
  | .fin neg m e =>
    let (k, q, ix) := fp32.round .rne neg m e 0
    if magLt fp32.maxM fp32.maxE k q then (fp32.infCode neg, flOF ||| flNX)
    else (fp32.encode neg k q, fp32.ixFlags m e ix)

/-- Signed value of a finite number on the grid `2^e0`, which must not be above its exponent. -/
def signedAt (neg : Bool) (m : Nat) (e e0 : Int) : Int :=
  let v : Int := (shlI m (e - e0) : Nat)
  if neg then -v else v

/-- The exact number of an integer multiple of `2^e`; zero takes the sign `zneg`. -/
def numOfInt (v e : Int) (zneg : Bool) : Num :=
  if v = 0 then .fin zneg 0 e else .fin (decide (v < 0)) v.natAbs e

/-- The exact sum of two numbers, with NV for ∞ − ∞ (R74). An exact zero is −0 only when both operands are −0 (IEEE 754,
round to nearest even). -/
def numAdd : Num → Num → Num × Nat
  | .nan, _ => (.nan, 0)
  | _, .nan => (.nan, 0)
  | .inf a, .inf b => if a = b then (.inf a, 0) else (.nan, flNV)
  | .inf a, .fin _ _ _ => (.inf a, 0)
  | .fin _ _ _, .inf b => (.inf b, 0)
  | .fin s m e, .fin t n f =>
    let g := min e f
    (numOfInt (signedAt s m e g + signedAt t n f g) g (s && t && decide (m = 0) && decide (n = 0)), 0)

/-- The exact product of two numbers, with NV for 0 × ∞. -/
def numMul : Num → Num → Num × Nat
  | .nan, _ => (.nan, 0)
  | _, .nan => (.nan, 0)
  | .inf a, .inf b => (.inf (a != b), 0)
  | .inf a, .fin t n _ => if n = 0 then (.nan, flNV) else (.inf (a != t), 0)
  | .fin s m _, .inf b => if m = 0 then (.nan, flNV) else (.inf (s != b), 0)
  | .fin s m e, .fin t n f => (.fin (s != t) (m * n) (e + f), 0)

/-- A number with its sign flipped. -/
def Num.neg : Num → Num
  | .nan => .nan
  | .inf a => .inf (!a)
  | .fin s m e => .fin (!s) m e

/-- A number times `2^k`. -/
def Num.scale (k : Int) : Num → Num
  | .fin s m e => .fin s m (e + k)
  | x => x

/-- Finite magnitude compare: `x < y` for numbers that are not NaN. -/
def numLt : Num → Num → Bool
  | .nan, _ => false
  | _, .nan => false
  | .inf a, .inf b => a && !b
  | .inf a, .fin _ _ _ => a
  | .fin _ _ _, .inf b => !b
  | .fin s m e, .fin t n f => let g := min e f; decide (signedAt s m e g < signedAt t n f g)

/-- Numeric equality of numbers that are not NaN; the two zeros are equal. -/
def numEq : Num → Num → Bool
  | .nan, _ => false
  | _, .nan => false
  | .inf a, .inf b => a == b
  | .fin s m e, .fin t n f => let g := min e f; decide (signedAt s m e g = signedAt t n f g)
  | _, _ => false

/-- Whether an FP32 code is a NaN. -/
def isNaN32 (c : Nat) : Bool := decide (bits c 23 8 = 255) && decide (bits c 0 23 ≠ 0)

/-- binary32 addition, round to nearest even, any NaN canonical (R72, R74, R77, R78): result and flags. -/
def fpAdd (a b : Nat) : Nat × Nat :=
  let (x, f) := numAdd (fp32.decode a) (fp32.decode b)
  let (r, g) := toFp32 x
  (r, f ||| g)

/-- binary32 subtraction. -/
def fpSub (a b : Nat) : Nat × Nat :=
  let (x, f) := numAdd (fp32.decode a) (fp32.decode b).neg
  let (r, g) := toFp32 x
  (r, f ||| g)

/-- binary32 multiplication. -/
def fpMul (a b : Nat) : Nat × Nat :=
  let (x, f) := numMul (fp32.decode a) (fp32.decode b)
  let (r, g) := toFp32 x
  (r, f ||| g)

/-- binary32 fused multiply-add, one rounding (R77). NV names a NaN produced from inputs that are none (R87): an addend that is NaN
leaves it clear even where the product is 0 × ∞. -/
def fpFma (a b c : Nat) : Nat × Nat :=
  let (p, f) := numMul (fp32.decode a) (fp32.decode b)
  let (x, g) := numAdd p (fp32.decode c)
  let (r, h) := toFp32 x
  (r, (if isNaN32 c then 0 else f) ||| g ||| h)

/-- Conversion to BF16, FP16, E4M3 or E5M2 (R80, R81, R84): code and flags. An infinite input that SAT = 1 clamps sets SAT and neither
OF nor NX; a clamped finite value sets all three.
Log entry 21 (DEDUCED, unsafe). -/
def convFp (f : FpFmt) (mode : Rnd) (sat : Bool) (x : Num) (u : Nat) : Nat × Nat :=
  match x with
  | .nan => (f.nanCode, 0)
  | .inf neg =>
    if sat then (f.maxCode neg, flSAT)
    else match f.special with
      | .ieee => (f.infCode neg, 0)
      | _ => (f.nanCode, flNV)
  | .fin neg m e =>
    let (k, q, ix) := f.round mode neg m e u
    if magLt f.maxM f.maxE k q then
      let clampDown := match mode with
        | .rtz => true
        | .rdn => !neg
        | .rup => neg
        | _ => false
      if sat || clampDown then (f.maxCode neg, flOF ||| flNX ||| flSAT)
      else match f.special with
        | .ieee => (f.infCode neg, flOF ||| flNX)
        | _ => (f.nanCode, flOF ||| flNV)
    else (f.encode neg k q, f.ixFlags m e ix)

/-- The element conversion of an MX block (R82): it always saturates, and saturation sets SAT and not OF. -/
def convMxElem (f : FpFmt) (mode : Rnd) (x : Num) (u : Nat) : Nat × Nat :=
  match x with
  | .fin neg m e =>
    let (k, q, ix) := f.round mode neg m e u
    if magLt f.maxM f.maxE k q then (f.maxCode neg, flSAT ||| flNX)
    else (f.encode neg k q, f.ixFlags m e ix)
  | _ => (0, 0)

/-- The value rounded to an integer in a mode, with its sign, and whether it is inexact. -/
def roundInt (mode : Rnd) (neg : Bool) (m : Nat) (e : Int) (u : Nat) : Int × Bool :=
  let (k, ix) := roundAt mode neg m e 0 u
  (if neg then -(k : Int) else k, ix)

/-- An integer clamped to a range, and whether it was. -/
def clampI (lo hi v : Int) : Int × Bool :=
  if v < lo then (lo, true) else if hi < v then (hi, true) else (v, false)

/-- Conversion to a signed or unsigned integer of `w` bits with zero point (R83, and the NaN and ∞ columns of
R81). A clamped finite value differs from the exact one, so it also sets NX (R87); an infinite input sets SAT alone.
Log entry 21 (DEDUCED, unsafe). -/
def convInt (w : Nat) (signed : Bool) (zp : Int) (mode : Rnd) (x : Num) (u : Nat) : Nat × Nat :=
  let lo : Int := if signed then -(2 ^ (w - 1) : Nat) else 0
  let hi : Int := if signed then (2 ^ (w - 1) : Nat) - 1 else (2 ^ w : Nat) - 1
  match x with
  | .nan => (wrapInt w zp, flNV)
  | .inf neg => (wrapInt w (if neg then lo else hi), flSAT)
  | .fin neg m e =>
    let (r, ix) := roundInt mode neg m e u
    let (q, cl) := clampI lo hi (r + zp)
    (wrapInt w q, (if ix || cl then flNX else 0) ||| (if cl then flSAT else 0))

/-- The fixed pairwise tree of R72 over a list whose length is `2 ^ n`; flags are collected. -/
def treeSum : Nat → List Nat → Nat × Nat
  | 0, l => (l.headD 0, 0)
  | n + 1, l =>
    let (a, f) := treeSum n (l.take (2 ^ n))
    let (b, g) := treeSum n (l.drop (2 ^ n))
    let (r, h) := fpAdd a b
    (r, f ||| g ||| h)

/-- High and low words of the Philox multiplications (R85). -/
def philoxRound (c : List Nat) (k0 k1 : Nat) : List Nat :=
  let p0 := 0xD2511F53 * c.getD 0 0
  let p1 := 0xCD9E8D57 * c.getD 2 0
  [((p1 / 2 ^ 32) ^^^ c.getD 1 0) ^^^ k0, p1 % 2 ^ 32, ((p0 / 2 ^ 32) ^^^ c.getD 3 0) ^^^ k1, p0 % 2 ^ 32]

/-- Philox4x32-10 from round `10 − n` on (R85). -/
def philoxGo : Nat → List Nat → Nat → Nat → List Nat
  | 0, c, _, _ => c
  | n + 1, c, k0, k1 => philoxGo n (philoxRound c k0 k1) ((k0 + 0x9E3779B9) % 2 ^ 32) ((k1 + 0xBB67AE85) % 2 ^ 32)

/-- Philox4x32-10 (R85): the four output words. -/
def philox (c : List Nat) (k0 k1 : Nat) : List Nat := philoxGo 10 c k0 k1

end Sys2Proof.Machine
end

