-- ==== Sys2Proof/Machine/VecFn.lean ====
section
/-! DEFINITION. The function units of R107: correctly rounded binary32 functions. Each transcendental value is computed
in fixed point with `fnP` fraction bits, far beyond any rounding boundary of binary32, and rounded once; the inputs whose
result is exact are taken apart first. -/
namespace Sys2Proof.Machine

/-- Fraction bits of the fixed-point values. -/
def fnP : Nat := 1000

/-- One in fixed point. -/
def fxOne : Nat := 2 ^ fnP

/-- The sum of `x^(2i+1) / (2i+1)` with alternating or equal signs for `x = 1/d`, by `n` terms from term `i`;
`t` is `1 / d^(2i+1)` in fixed point. -/
def atanTerms (alt : Bool) (dd : Nat) : Nat → Nat → Nat → Int
  | 0, _, _ => 0
  | n + 1, i, t =>
    let v : Int := (t / (2 * i + 1) : Nat)
    (if alt && decide (i % 2 = 1) then -v else v) + atanTerms alt dd n (i + 1) (t / dd)

/-- π with `fnP + 200` fraction bits (Machin's formula). -/
def piFx : Nat :=
  let one := 2 ^ (fnP + 240)
  ((16 * atanTerms true 25 560 0 (one / 5) - 4 * atanTerms true 57121 170 0 (one / 239)) / 2 ^ 40).toNat

/-- ln 2 with `fnP + 200` fraction bits. -/
def ln2Fx : Nat :=
  let one := 2 ^ (fnP + 240)
  ((2 * atanTerms false 9 420 0 (one / 3)) / 2 ^ 40).toNat

/-- ln 2 with `fnP` fraction bits. -/
def ln2P : Nat := ln2Fx / 2 ^ 200

/-- The terms of e^r from term `i` on, `r` in [0, 1) in fixed point. -/
def expTerms : Nat → Nat → Nat → Nat → Nat
  | 0, _, _, _ => 0
  | n + 1, i, r, t => t + expTerms n (i + 1) r (t * r / fxOne / (i + 1))

/-- e^r for `r` in [0, 1). -/
def expFx (r : Nat) : Nat := expTerms 260 0 r fxOne

/-- e^x for fixed-point `x`: a multiplier in [1, 2) and a power of two. -/
def expParts (x : Int) : Nat × Int :=
  let k := x / (ln2P : Int)
  (expFx (x - k * ln2P).toNat, k)

/-- e^−x for `x ≥ 0` in fixed point, 0 beyond 900. -/
def expNegFx (x : Nat) : Nat :=
  if 900 * fxOne < x then 0
  else let (m, k) := expParts (-(x : Int)); m / 2 ^ (-k).toNat

/-- The terms of atanh, `z` and its square in fixed point. -/
def atanhTerms : Nat → Nat → Int → Int → Int
  | 0, _, _, _ => 0
  | n + 1, i, z2, t => t / ((2 * i + 1 : Nat) : Int) + atanhTerms n (i + 1) z2 (t * z2 / fxOne)

/-- ln of `m / 2^b`, `m` in [2^b, 2^(b+1)), in fixed point. -/
def lnMant (m b : Nat) : Int :=
  let d := 2 ^ b
  let z : Int := ((m - d : Nat) : Int) * fxOne / ((m + d : Nat) : Int)
  2 * atanhTerms 330 0 (z * z / fxOne) z

/-- sin and cos Taylor terms: `i` is the degree of term `t`. -/
def trigTerms : Nat → Nat → Int → Int → Int
  | 0, _, _, _ => 0
  | n + 1, i, r2, t => t + trigTerms n (i + 2) r2 (-(t * r2 / fxOne / (((i + 1) * (i + 2) : Nat) : Int)))

/-- The terms `2^n x^(2n+1) / (2n+1)!!` of the series of erf. -/
def erfTerms : Nat → Nat → Nat → Nat → Nat
  | 0, _, _, _ => 0
  | n + 1, i, x2, t => t + erfTerms n (i + 1) x2 (2 * t * x2 / fxOne / (2 * i + 3))

/-- erfc of `x` in [0, 16) in fixed point. -/
def erfcFx (x : Nat) : Nat :=
  let x2 := x * x / fxOne
  let s := erfTerms 1600 0 x2 x
  let sqrtPi := Nat.sqrt (piFx / 2 ^ 200 * fxOne)
  fxOne - 2 * (s * expNegFx x2 / fxOne) * fxOne / sqrtPi

/-- A fixed-point magnitude as an inexact number: a sticky bit below its last place. -/
def stickyFx (neg : Bool) (v : Nat) : Num := .fin neg (2 * v + 1) (-(fnP : Int) - 1)

/-- A magnitude that is far below the smallest subnormal. -/
def tinyNum (neg : Bool) : Num := .fin neg 1 (-2000)

/-- A quotient `a / b` times `2^e` with a sticky bit when it is inexact; `a` is large beside `b`. -/
def quotNum (neg : Bool) (a b : Nat) (e : Int) : Num :=
  .fin neg (2 * (a / b) + (if a % b = 0 then 0 else 1)) (e - 1)

/-- A finite magnitude in fixed point; exact for every binary32 value. -/
def magFx (m : Nat) (e : Int) : Nat := shlI m (e + fnP)

/-- The signed fixed-point value divided by π/2: quadrant and remainder in [−π/4, π/4] or so. -/
def trigReduce (x : Nat) : Nat × Int :=
  let xw := x * 2 ^ 200
  let h := piFx / 2
  let n := (2 * xw + h) / (2 * h)
  (n, ((xw : Int) - (n : Int) * h) / 2 ^ 200)

/-- sin in quadrant `n` of remainder `r`. -/
def sinQuad (n : Nat) (r : Int) : Int :=
  let r2 := r * r / fxOne
  let s := trigTerms 150 1 r2 r
  let c := trigTerms 150 0 r2 fxOne
  match n % 4 with
  | 0 => s
  | 1 => c
  | 2 => -s
  | _ => -c

/-- sigmoid of a nonzero finite input as a fixed-point value. -/
def sigmoidFx (neg : Bool) (x : Nat) : Nat :=
  let t := expNegFx x
  if neg then t * fxOne / (fxOne + t) else fxOne * fxOne / (fxOne + t)

/-- The exact or sticky result of function `fn` (R107) on a finite nonzero input `(−1)^neg × m × 2^e`. -/
def vfnFinite (fn : Nat) (neg : Bool) (m : Nat) (e : Int) : Num × Nat :=
  let x := magFx m e
  let big (n : Nat) : Bool := decide (n * fxOne < x)
  match fn with
  | 0 =>
    if big 400 then (if neg then (tinyNum false, 0) else (.fin false 1 2000, 0))
    else let (v, k) := expParts (if neg then -(x : Int) else x); (.fin false (2 * v + 1) (k - fnP - 1), 0)
  | 1 =>
    if big 400 then (if neg then (tinyNum false, 0) else (.fin false 1 2000, 0))
    else
      let xs : Int := if neg then -(x : Int) else x
      let k := xs / (fxOne : Int)
      let r := (xs - k * fxOne).toNat
      if r = 0 then (.fin false 1 k, 0)
      else (.fin false (2 * expFx (r * ln2P / fxOne) + 1) (k - fnP - 1), 0)
  | 2 =>
    if neg then (.nan, flNV)
    else
      let b := log2 m
      let k := (b : Int) + e
      if m = 2 ^ b ∧ k = 0 then (.fin false 0 0, 0)
      else let v := k * ln2P + lnMant m b; (stickyFx (decide (v < 0)) v.natAbs, 0)
  | 3 =>
    if neg then (.nan, flNV)
    else
      let b := log2 m
      let k := (b : Int) + e
      if m = 2 ^ b then (numOfInt k 0 false, 0)
      else let v := k * fxOne + lnMant m b * fxOne / ln2P; (stickyFx (decide (v < 0)) v.natAbs, 0)
  | 4 => (quotNum neg (2 ^ 400) m (-e - 400), 0)
  | 5 =>
    if neg then (.nan, flNV)
    else
      let (m', e') := if e % 2 = 0 then (m, e) else (2 * m, e - 1)
      let q := Nat.sqrt (2 ^ 800 / m')
      (.fin false (2 * q + (if m' * q * q = 2 ^ 800 then 0 else 1)) (-(e' / 2) - 401), 0)
  | 6 =>
    if neg then (.nan, flNV)
    else
      let (m', e') := if e % 2 = 0 then (m, e) else (2 * m, e - 1)
      let n := m' * 2 ^ 400
      let q := Nat.sqrt n
      (.fin false (2 * q + (if q * q = n then 0 else 1)) (e' / 2 - 201), 0)
  | 7 =>
    if big 400 then (stickyFx neg (fxOne - 1), 0)
    else let t := expNegFx (2 * x); (stickyFx neg ((fxOne - t) * fxOne / (fxOne + t)), 0)
  | 8 =>
    if big 600 then (if neg then (tinyNum false, 0) else (stickyFx false (fxOne - 1), 0))
    else (stickyFx false (sigmoidFx neg x), 0)
  | 9 =>
    if big 15 then (stickyFx neg (fxOne - 1), 0)
    else (stickyFx neg (fxOne - erfcFx x), 0)
  | 10 =>
    let (n, r) := trigReduce x
    let v := sinQuad n r
    (stickyFx (neg != decide (v < 0)) v.natAbs, 0)
  | 11 =>
    let (n, r) := trigReduce x
    let v := sinQuad (n + 1) r
    (stickyFx (decide (v < 0)) v.natAbs, 0)
  | 12 =>
    if big 600 then (if neg then (tinyNum true, 0) else (.fin false (m * 2 ^ 400 - 1) (e - 400), 0))
    else (stickyFx neg (x * sigmoidFx neg x / fxOne), 0)
  | _ =>
    if big 20 then (if neg then (tinyNum true, 0) else (.fin false (m * 2 ^ 400 - 1) (e - 400), 0))
    else
      let t := x * Nat.sqrt (fxOne * fxOne / 2) / fxOne
      let c := erfcFx t
      let w := if neg then c else 2 * fxOne - c
      (stickyFx neg (x * w / (2 * fxOne)), 0)

/-- VFN on one lane for `fn < 14` (R107): result code and flags. -/
def vfnLane (fn c : Nat) : Nat × Nat :=
  let posInf := 0x7F800000
  let one := 0x3F800000
  match fp32.decode c with
  | .nan => (nan32, 0)
  | .inf neg =>
    match fn with
    | 0 | 1 => (if neg then 0 else posInf, 0)
    | 2 | 3 | 6 => if neg then (nan32, flNV) else (posInf, 0)
    | 4 => (b2n neg * 2 ^ 31, 0)
    | 5 => if neg then (nan32, flNV) else (0, 0)
    | 7 | 9 => (b2n neg * 2 ^ 31 + one, 0)
    | 8 => (if neg then 0 else one, 0)
    | 10 | 11 => (nan32, flNV)
    | _ => (if neg then 0x80000000 else posInf, 0)
  | .fin neg m e =>
    if m = 0 then
      let z := b2n neg * 2 ^ 31
      match fn with
      | 0 | 1 | 11 => (one, 0)
      | 2 | 3 => (0xFF800000, 0)
      | 4 | 5 => (z + posInf, 0)
      | 8 => (0x3F000000, 0)
      | _ => (z, 0)
    else
      let (x, f) := vfnFinite fn neg m e
      let (r, g) := toFp32 x
      (r, f ||| g)

end Sys2Proof.Machine
end

