-- ==== Sys2Proof/Machine/Macro.lean ====
section
/-! DEFINITION. The macro-operations XTOPK, XSORT, XSAMPLE and XPHILOX (R108 to R112) over a tile's SRAM, read through
`rd`. Each answers `none` when its parameter block fails a check of R108 (status 1), else the address and bytes to write. -/
namespace Sys2Proof.Machine

/-- Bytes of tile SRAM: 4 MiB (R89). -/
def sramSize : Nat := 0x400000

/-- A byte range lies in tile SRAM. -/
def inSram (a n : Nat) : Bool := decide (a + n ≤ sramSize)

/-- Little-endian words at an address. -/
def rd16 (rd : Nat → Nat) (a : Nat) : Nat := rd a + 256 * rd (a + 1)
def rd32 (rd : Nat → Nat) (a : Nat) : Nat := rd16 rd a + 65536 * rd16 rd (a + 2)
def rd64 (rd : Nat → Nat) (a : Nat) : Nat := rd32 rd a + 4294967296 * rd32 rd (a + 4)

/-- Insert an element in front of the first element it precedes or equals. -/
def insertBy {α : Type} (le : α → α → Bool) (x : α) : List α → List α
  | [] => [x]
  | y :: ys => if le x y then x :: y :: ys else y :: insertBy le x ys

/-- A stable sort. -/
def sortBy {α : Type} (le : α → α → Bool) (l : List α) : List α := l.foldr (insertBy le) []

/-- The rank order of R109 on (index, FP32 code). -/
def rankBefore (a b : Nat × Nat) : Bool :=
  let na := isNaN32 a.2
  let nb := isNaN32 b.2
  if na != nb then !na
  else if !na && !numEq (fp32.decode a.2) (fp32.decode b.2) then numLt (fp32.decode b.2) (fp32.decode a.2)
  else decide (a.1 ≤ b.1)

/-- The first `k` of a list in rank order. -/
def topRank (k : Nat) (l : List (Nat × Nat)) : List (Nat × Nat) := (sortBy rankBefore l).take k

/-- FP32 codes of `n` consecutive words, each with its index. -/
def scoresAt (rd : Nat → Nat) (a n : Nat) : List (Nat × Nat) := (List.range n).map (fun i => (i, rd32 rd (a + 4 * i)))

/-- XTOPK (R109).
Log entry 24 (DEDUCED, unsafe). -/
def xtopk (rd : Nat → Nat) (p : Nat) : Option (Nat × List Byte) :=
  let src := rd32 rd p
  let dst := rd32 rd (p + 4)
  let n := rd32 rd (p + 8)
  let rows := rd32 rd (p + 0xC)
  let k := rd32 rd (p + 0x10)
  let mask := rd32 rd (p + 0x14)
  let flags := rd32 rd (p + 0x18)
  let men := bit flags 0
  let mb := ceilDiv n 8
  if inSram p 32 && decide (1 ≤ n) && decide (n ≤ 65536) && decide (1 ≤ rows) && decide (rows ≤ 128) && decide (1 ≤ k)
      && decide (k ≤ 64) && decide (k ≤ n) && decide (flags < 2) && decide (rd32 rd (p + 0x1C) = 0)
      && inSram src (rows * n * 4) && inSram dst (rows * k * 8) && (!men || inSram mask (rows * mb)) then
    let row (r : Nat) : List Byte :=
      let el := (scoresAt rd (src + 4 * r * n) n).filter
        (fun x => !(men && bit (rd (mask + r * mb + x.1 / 8)) (x.1 % 8)))
      let top := topRank k el
      (top ++ List.replicate (k - top.length) ((0xFFFFFFFF, 0xFF800000) : Nat × Nat)).flatMap (fun x => leBytes 4 x.1 ++ leBytes 4 x.2)
    some (dst, (List.range rows).flatMap row)
  else none

/-- XSORT (R110).
Log entry 24 (DEDUCED, unsafe). -/
def xsort (rd : Nat → Nat) (p : Nat) : Option (Nat × List Byte) :=
  let src := rd32 rd p
  let dst := rd32 rd (p + 4)
  let n := rd32 rd (p + 8)
  if inSram p 32 && decide (1 ≤ n) && decide (n ≤ 65536) && decide (rd32 rd (p + 0xC) = 0) && inSram src (8 * n)
      && inSram dst (8 * n) && (decide (src = dst) || decide (src + 8 * n ≤ dst) || decide (dst + 8 * n ≤ src)) then
    let recs := (List.range n).map (fun i => (rd32 rd (src + 8 * i), rd32 rd (src + 8 * i + 4)))
    some (dst, (sortBy (fun a b => decide (a.1 ≤ b.1)) recs).flatMap (fun x => leBytes 4 x.1 ++ leBytes 4 x.2))
  else none

/-- XPHILOX (R111).
Log entry 24 (DEDUCED, unsafe). -/
def xphilox (rd : Nat → Nat) (p : Nat) : Option (Nat × List Byte) :=
  let dst := rd32 rd p
  let n := rd32 rd (p + 4)
  let c (i : Nat) : Nat := rd32 rd (p + 0x10 + 4 * i)
  if inSram p 32 && decide (1 ≤ n) && decide (n ≤ 65536) && inSram dst (16 * n) then
    some (dst, (List.range n).flatMap (fun i =>
      (philox [c 0, c 1, c 2, (c 3 + i) % 2 ^ 32] (rd32 rd (p + 8)) (rd32 rd (p + 0xC))).flatMap (leBytes 4)))
  else none

/-- The stochastic context of VSRCTX (R106): OP_ID, TILE and the address of the row table. -/
structure RowCtx where
  opId : Nat
  tile : Nat
  table : Nat
deriving DecidableEq, Repr

/-- SEQ_ID, STEP and POS of row `r` (R86, R106). The table is read where it lies in SRAM when a value is used. -/
def rowRecord (rd : Nat → Nat) (ctx : Option RowCtx) (r : Nat) : Nat × Nat × Nat :=
  match ctx with
  | none => (0, 0, r)
  | some c =>
    let a := c.table + 16 * r
    if bit (rd16 rd a) 15 then (rd16 rd a % 16384, rd32 rd (a + 4), rd32 rd (a + 8)) else (0, 0, r)

/-- The running sums of a list of FP32 values, from `c` on. -/
def runSums (c : Nat) : List Nat → List Nat
  | [] => []
  | p :: ps => let s := (fpAdd c p).1; s :: runSums s ps

/-- VMAX of R104 on two FP32 codes. -/
def fpMax (a b : Nat) : Nat :=
  if isNaN32 a || isNaN32 b then nan32
  else
    let x := fp32.decode a
    let y := fp32.decode b
    if numLt x y then b else if numLt y x then a
    else if bit a 31 then b else a

/-- VMIN of R104 on two FP32 codes. -/
def fpMin (a b : Nat) : Nat :=
  if isNaN32 a || isNaN32 b then nan32
  else
    let x := fp32.decode a
    let y := fp32.decode b
    if numLt x y then a else if numLt y x then b
    else if bit a 31 then a else b

/-- FP32 comparisons on codes; NaN compares false. -/
def fpLt (a b : Nat) : Bool := numLt (fp32.decode a) (fp32.decode b)
def fpEq (a b : Nat) : Bool := numEq (fp32.decode a) (fp32.decode b)
def fpLe (a b : Nat) : Bool := fpLt a b || fpEq a b

/-- XSAMPLE (R112).
Log entry 24 (DEDUCED, unsafe). -/
def xsample (rd : Nat → Nat) (ctx : Option RowCtx) (p : Nat) : Option (Nat × List Byte) :=
  let logits := rd32 rd p
  let v := rd32 rd (p + 4)
  let k := rd32 rd (p + 8)
  let inv := rd32 rd (p + 0xC)
  let topP := rd32 rd (p + 0x10)
  let w := rd32 rd (p + 0x14)
  let opId := rd32 rd (p + 0x18)
  let dst := rd32 rd (p + 0x1C)
  let one := 0x3F800000
  if inSram p 32 && decide (1 ≤ v) && decide (v ≤ 262144) && decide (k ≤ 1024) && decide (k ≤ v)
      && (decide (k = 0) || (fpLt 0 topP && fpLe topP one)) && !bit w 7 && decide (w < 512)
      && inSram logits (4 * v) && inSram dst 8 then
    let xs := scoresAt rd logits v
    let ans (tok fl : Nat) : Option (Nat × List Byte) := some (dst, leBytes 4 tok ++ leBytes 4 fl)
    if bit w 8 || fpEq inv 0 then
      ans ((topRank 1 xs).headD (0, 0)).1 2
    else
      let zs := xs.map (fun x => (x.1, (fpMul x.2 inv).1))
      let cand := if k = 0 then zs else topRank k zs
      let nums := (cand.map Prod.snd).filter (fun z => !isNaN32 z)
      let m := nums.foldl fpMax (nums.headD 0)
      let prob (z : Nat) : Nat :=
        if isNaN32 z || decide (z = 0xFF800000) then 0
        else if fpEq z m then one else (vfnLane 0 (fpSub z m).1).1
      let ps := cand.map (fun c => prob c.2)
      let sums := runSums 0 ps
      let s := sums.getLastD 0
      let cut := decide (0 < k) && fpLt topP one
      let lim := (fpMul topP s).1
      let nCut := (sums.takeWhile (fun c => !fpLe lim c)).length + 1
      let n := if cut then min nCut cand.length else cand.length
      let s' := if cut then (sums.take n).getLastD 0 else s
      if fpEq s' 0 then ans (cand.headD (0, 0)).1 1
      else
        let (seq, step, pos) := rowRecord rd ctx (w % 128)
        let u := (philox [opId, 0xFFFFFFFF, 0, pos] seq step).getD 0 0
        let frac := (toFp32 (.fin false (u / 256) (-24))).1
        let t := (fpMul frac s').1
        let j := ((sums.take n).takeWhile (fun c => !fpLt t c)).length
        ans (cand.getD (min j (n - 1)) (0, 0)).1 0
  else none

end Sys2Proof.Machine
end

