-- ==== Sys2Proof/Machine/Types.lean ====
section
/-! DEFINITION. The state of the parts of the package: block pages, tiles, Scores, barriers, transfers, memory, slices,
the freeze engine, the fabric and the timebase. Plain data throughout. -/
namespace Sys2Proof.Machine

/-- STATE of a block page (BLK_STAT). -/
inductive HState where
  | off | run | quiescing | quiesced
deriving DecidableEq, Repr

/-- The header of a block page (R15): the fields of its registers, with the tick at which QUIESCE was taken (R30) and
the tick at which COMMIT_PENDING was set (R48). -/
structure Header where
  enable : Bool
  st : HState
  expertBit : Bool
  expertActive : Bool
  commitPending : Bool
  keyArmed : Bool
  isr : Nat
  ier : Nat
  ivec : Nat
  seen : Nat
  firstCode : Nat
  stall : Nat
  ucMajor : Nat
  ucMinor : Nat
  ucBuild : Nat
  quiesceAt : Nat
  pendingAt : Nat
deriving DecidableEq, Repr

/-- A block page: its header, its immediate fields, its committed set and its pending set (R26 to R28). In OFF the
pending set holds the register values. A field that is not listed holds its reset value. -/
structure PageRegs where
  hdr : Header
  imm : SMap Nat
  cmt : SMap Nat
  pnd : SMap Nat
deriving DecidableEq, Repr

/-- A weight buffer: the format code and bytes of the tile that the last MLW loaded (R94). -/
structure WBuf where
  fmt : Nat
  bytes : List Byte
deriving DecidableEq, Repr

/-- States of the tile sequencer (R125). -/
inductive SeqState where
  | idle | run | err | knock | retired
deriving DecidableEq, Repr

/-- What a running program waits on (R118, R119), with the status register of the waiting instruction. -/
inductive TWait where
  | ufence (units : Nat)
  | waitt (mask rd : Nat)
  | barw (bar rd since : Nat)
  | ffence (fence rd : Nat)
  | ending
  | scwait (tick : Nat)
  | scpush (rd : Nat)
  | staging
  | zeroFill
deriving DecidableEq, Repr

/-- A completion tag of a tile: transfers in flight and the first nonzero status (R116). -/
structure TagSt where
  inflight : Nat
  status : Nat
deriving DecidableEq, Repr

/-- One pass of a shape-layer launch (R137): actual sizes, bucket indices, pass numbers, the register values s4 and s7
and the program entry. -/
structure Pass where
  m0 : Nat
  m1 : Nat
  i0 : Nat
  i1 : Nat
  q0 : Nat
  q1 : Nat
  b0 : Nat
  base0 : Nat
  pc : Nat
deriving DecidableEq, Repr

/-- The launch that a tile runs (R137, R146): the operation descriptor and its operand records as they were read, the
operation, slot, completion record, sizes, the passes still to run with the running one first, how many there are, the BUCKET of the pass
that ended last (0xFF for none), the tiles that a ZERO_FILL still writes, and the Score entry that started it. -/
structure Launch where
  raw : List Byte
  recs : List Byte
  opId : Nat
  slot : Nat
  comp : Nat
  n0 : Nat
  n1 : Nat
  passes : List Pass
  total : Nat
  past : Nat
  fill : List (Nat × List Byte)
  entry : ScoreEntry
deriving DecidableEq, Repr

/-- A compute tile (R89 to R130). Beside its registers and memories: its active and its shadow microcode store, each as the bytes of the
component that was loaded into it (R130), and whether the next read of its SRAM by TDMA meets a double-bit error (R92).
Log entry 79 (DESIGN CHOICE, unsafe). -/
structure Tile where
  sregs : SMap W64
  vregs : SMap (List W32)
  acc : SMap (List W32)
  sram : Bytes
  wbuf0 : Option WBuf
  wbuf1 : Option WBuf
  zpW : List Nat
  zpA : List Nat
  rowCtx : Option RowCtx
  tenant : Nat
  tags : SMap TagSt
  pc : Nat
  seq : SeqState
  wait : Option TWait
  launchTick : Nat
  lateness : Nat
  launch : Option Launch
  bakeDesc : Option Nat
  idleWin : Option (Nat × Nat)
  knockSince : Nat
  rampAt : Option Nat
  lastMat : Option Nat
  retireDue : Nat
  ucode : List Byte
  shadow : List Byte
  badRead : Bool
deriving DecidableEq, Repr

/-- An accepted Score entry and its place in the order of acceptance (R163). -/
structure SEntry where
  e : ScoreEntry
  order : Nat
deriving DecidableEq, Repr

/-- Who pushed a Score entry: a tile that waits for the status in a register, serving control, or another package. -/
inductive Sender where
  | tile (t rd : Nat)
  | serving
  | remote
deriving DecidableEq, Repr

/-- An entry on its way into a Score, with the tick of its arrival. -/
structure Arriving where
  e : ScoreEntry
  sender : Sender
  since : Nat
deriving DecidableEq, Repr

/-- A Score (R157): pending entries; entries in the crossing that leads to it, at most its depth, and those that their writers keep while it
is full, both in the order written (R38, R40); the tick of the last read of that crossing (R42); fired actions whose effect is due; and the
order number of a program start that fired while the sequencer was busy and stays at the head (R121).
Log entry 75 (DEDUCED, unsafe). -/
structure Score where
  entries : List SEntry
  arriving : List Arriving
  held : List Arriving
  lastRead : Nat
  fired : List ScoreEntry
  head : Option Nat
deriving DecidableEq, Repr

/-- The life of a barrier (R167 to R170). -/
inductive BarSt where
  | opened
  | completed (rel : Nat)
  | released (rel : Nat)
  | failed (code : Nat)
  | closed
deriving DecidableEq, Repr

/-- A barrier of a bake on this package: EXPECT, RACK, local arrivals, the members whose completion message came. -/
structure Bar where
  expect : Nat
  rack : Bool
  arrivals : Nat
  doneFrom : Nat
  localDone : Bool
  st : BarSt
deriving DecidableEq, Repr

/-- One piece of a transfer: rack address, length and tile SRAM address. -/
structure Piece where
  addr : Nat
  len : Nat
  sram : Nat
deriving DecidableEq, Repr

/-- Who a transfer belongs to: a tag of a tile, the staging or the zero fill of a tile's launch, the descriptor of an
XFER action or of a walk (with its SRAM address and limit), the BAR2 window, a record of a proof list (with the action's number,
the record's KIND and its DST), the list of an action, the weight loader (the relay of a shard up to an offset, a pull at an
offset, the member record of a load to a member), or another block of the package, which takes no notice of the end. -/
inductive XOwner where
  | tag (t tag : Nat)
  | stage (t : Nat)
  | zeroFill (t : Nat)
  | xferDesc (t tag : Nat)
  | walkDesc (t tag dst limit : Nat)
  | bar2 (id : Nat)
  | proof (act kind dst : Nat)
  | list (act : Nat)
  | segList (act : Nat)
  | segData (act dst tenant : Nat) (key : Nat)
  | relay (slot shard upto : Nat)
  | pull (slot shard off : Nat)
  | member (slot m : Nat)
  | rdma (q : Nat)
  | engine
deriving DecidableEq, Repr

/-- What a transfer does: read, write, or an atomic with its code, operand and compare value. -/
inductive XKind where
  | read
  | write
  | atomic (code opd cmp : Nat)
deriving DecidableEq, Repr

/-- A lease that another package granted (R352): its slot and number, and the frames it covers. -/
structure HeldLease where
  slot : Nat
  lease : Nat
  first : Nat
  count : Nat
deriving DecidableEq, Repr

/-- Where a transfer stands: waiting for lease answers, for its retry, for its requests, or ended. -/
inductive XPhase where
  | leasing
  | retry (at_ : Nat)
  | running
  | done
deriving DecidableEq, Repr

/-- A transfer in flight (R114 to R116, R197, R351, R352): its pieces and their bytes, the status so far, the requests
without an answer, the frames leased here and the leases held at other packages, its tenant and privilege, fence group,
partition, the page that checks its keys, whether it wrote to another package, whether some of its lines came marked
uncacheable, and the Score entry that it completes.
Log entry 79 (DESIGN CHOICE, unsafe). -/
structure Xfer where
  id : Nat
  owner : XOwner
  kind : XKind
  pieces : List Piece
  data : List (List Byte)
  status : Nat
  phase : XPhase
  outstanding : Nat
  leases : List Nat
  remote : List HeldLease
  tenant : Nat
  priv : Bool
  group : Nat
  part : Nat
  page : Nat
  wrote : Bool
  uncached : Bool
  readTick : Option Nat
  entry : Option ScoreEntry
deriving DecidableEq, Repr

/-- A request sent over the fabric whose answer is outstanding (R349, R366): its packet as injected (RKIND 4 where it
waits for a route), the transfer or segment action and the piece it serves, whether it has left, and the DEAD paths it
was reissued from. -/
structure Req where
  pkt : Packet
  xfer : Nat
  piece : Nat
  dead : List Nat
deriving DecidableEq, Repr

/-- A Score action that completes later: its number, island, entry, how many parts of it still run, and the header of its
list once that has been read. -/
structure Act where
  id : Nat
  island : Nat
  e : ScoreEntry
  left : Nat
  hdr : List Byte
deriving DecidableEq, Repr

/-- The byte memory of the package: the windows whose contents are undefined since a remap, each with the number drawn
then, and the bytes that differ from what an unlisted address reads as. -/
structure Memory where
  undef : SMap Nat
  cells : Bytes
deriving DecidableEq, Repr

/-- A line held by the slice cache (R210, R211): the way it sits in, the partition that installed it, its pin mark,
its place in the replacement order and its bytes. -/
structure Line where
  slice : Nat
  way : Nat
  part : Nat
  pinned : Bool
  order : Nat
  data : List Byte
deriving DecidableEq, Repr

/-- A fill on its way to a slice (R204): line, partition, whether it pins, the tick of the read and the bytes. -/
structure Fill where
  slice : Nat
  line : Nat
  part : Nat
  pin : Bool
  readTick : Nat
  data : List Byte
deriving DecidableEq, Repr

/-- The thaw filter of a slice (R204): ranges of frames with their thaw ticks, newest first, and FILTER_FLOOR. -/
structure ThawFilter where
  ranges : List (Nat × Nat × Nat)
  floor : Nat
deriving DecidableEq, Repr

/-- Who asked for a freeze or a thaw: a record of the doorbell, or a block of the package for a purpose of its own (a KV
page of a sequence to freeze, a released KV page to thaw, a pool to initialise, a shard of a load attempt, the staged
image of an update, a window that was remapped). -/
inductive FrzOwner where
  | doorbell
  | kvPage (seq idx page : Nat)
  | kvThaw (pool page : Nat)
  | poolInit (pool : Nat)
  | shard (slot shard attempt : Nat)
  | loadThaw (slot : Nat)
  | staging
  | remap (window : Nat)
deriving DecidableEq, Repr

/-- A freeze request record (R200) as the doorbell took it, with the privilege of its writer, and the transfer that wrote it (0 for none). -/
structure FrzRec where
  base : Nat
  frames : Nat
  op : Nat
  flags : Nat
  tenant : Nat
  compAddr : Nat
  tag : Nat
  badResv : Bool
  priv : Bool
  owner : FrzOwner
  writer : Nat
deriving DecidableEq, Repr

/-- A freeze request that runs (R202, R203): the record, the first frame, the frames that still change, all the frames that it changes,
the slots and slices whose acknowledgement is outstanding, and the tick it started. -/
structure FrzRun where
  req : FrzRec
  first : Nat
  todo : List Nat
  frames : List Nat
  acks : List Nat
  since : Nat
  slowSeen : Bool
deriving DecidableEq, Repr

/-- A channel group of LPDDR5X (R221, R222): attempts failed in a row, a retraining or a retirement that is due, the tick
of the last training and the temperature at it, the tick at which the retraining in progress began, and the ticks of its uncorrectable lines within the hour, by channel. -/
structure Group where
  fails : Nat
  retrainDue : Bool
  retireDue : Bool
  lastTrain : Nat
  lastTemp : Nat
  since : Nat
  ueTicks : List (Nat × Nat)
deriving DecidableEq, Repr

/-- A route slot of R360: RKIND (4 is NONE), the intermediate, the direct link and the generation. -/
structure Route where
  rkind : Nat
  via : Nat
  link : Nat
  gen : Nat
deriving DecidableEq, Repr

/-- The state of a path (R365). -/
inductive PathSt where
  | live | flushing | settled | dead
deriving DecidableEq, Repr

/-- A path: writes issued, writes acknowledged, its state and the tick at which it was superseded. -/
structure Path where
  pwseq : Nat
  acked : Nat
  st : PathSt
  since : Nat
deriving DecidableEq, Repr

/-- Who runs a fence: a tile's FFENCE, a Score action that completes after it, PCI_FENCE, or the weight loader (after the relay
of a shard up to an offset, after the body of a member record). -/
inductive FOwner where
  | tile (t rd : Nat)
  | action (island : Nat) (e : ScoreEntry)
  | pci
  | relay (slot shard upto : Nat)
  | member (slot m : Nat)
deriving DecidableEq, Repr

/-- A running fence (R366): the earlier transfers of the group that are not yet injected, its snapshot of paths and
counts once they are, and whether a path of it became dead. -/
structure Fence where
  id : Nat
  owner : FOwner
  group : Nat
  before : List Nat
  snap : Option (List (Nat × Nat))
  lost : Bool
deriving DecidableEq, Repr

/-- What the fabric quad knows of the layer of a MoE list (R368): the KIND, the layer record as the list names it, the
placement layer and the round. -/
structure SegMoe where
  skind : Nat
  lrec : Nat
  layer : Nat
  round : Nat
deriving DecidableEq, Repr

/-- A receive window of SEG_EXPECT (R369): the sender, the segment key without its piece offset, the class, destination and
length of its record, the pieces landed (offset, length, and the bytes where they wait for the whole segment), the length
once the last piece came, and the expectation it belongs to. -/
structure Window where
  src : Nat
  key : Nat
  cls : Nat
  addr : Nat
  len : Nat
  parts : List (Nat × Nat × List Byte)
  total : Option Nat
  whole : Bool
  expect : Nat
  moe : SegMoe
deriving DecidableEq, Repr

/-- A SEG_EXPECT or SEG_SEND action in progress: its number, island and entry; for a send, the pieces without an OK
acknowledgement, each with the tick of its next resend once it was answered NO_WINDOW. -/
structure SegAct where
  id : Nat
  island : Nat
  e : ScoreEntry
  send : Bool
  moe : SegMoe
  pieces : List (Packet × Option Nat)
  waitRead : Nat
  failed : Bool
deriving DecidableEq, Repr

/-- The plan of a MoE layer in the bake (R275, R276): its record, the round limit, the members, the histograms as they
arrived, by (sender × 64 + destination) × 64 + local slot, and whether its count exchange failed. -/
structure MoePlan where
  rec128 : List Byte
  rlim : Nat
  members : Nat
  bakeNo : Nat
  hist : SMap Nat
  failed : Bool
  countAt : Nat
deriving DecidableEq, Repr

/-- The acknowledgements a destination owes to a path of a source (R364): how many, since when, and the header of the last
write. -/
structure AckQ where
  count : Nat
  since : Nat
  pkt : Packet
deriving DecidableEq, Repr

/-- The parts of a link that its registers do not hold (R339 to R347): the tick of entry into its state, the lanes that
trained and still carry signal, the peer's GOOD mask, the LANE that each lane received, the mask proposed while it narrows and the matching sets received,
the last acknowledged and the next expected FSEQ, whether the NAK for the gap was sent, flits since the last LINK unit,
replays without progress, whether a duplicated slot refused it for good, the FSEQ of the next PAYLOAD flit, the credits held
and the units freed per virtual channel, and the packets that wait to be sent. -/
structure LinkX where
  since : Nat
  trained : Nat
  peerGood : Nat
  order : SMap Nat
  narrowMask : Nat
  narrowSets : Nat
  ackSeq : Nat
  rxSeq : Nat
  nakSent : Bool
  sinceAck : Nat
  replays : Nat
  dupRefused : Bool
  txSeq : Nat
  credit : List Nat
  freed : List Nat
  egress : List Packet
deriving DecidableEq, Repr

/-- A lease granted to another package (R352). -/
structure RLease where
  src : Nat
  tag : Nat
  frames : List Nat
deriving DecidableEq, Repr

/-- An announced step start (R176, R177): BAKE_NO, tick, the tick of the announcement, and whether it is still to come. -/
structure StepAnn where
  bakeNo : Nat
  start : Nat
  announcedAt : Nat
  due : Bool
deriving DecidableEq, Repr

/-- What the last timestamp set of a slot said (R150): when it came, TBM_EN, IS_MASTER, SYNC, PART_EN and PART_ACTIVE, and the offset to
that slot that it measured, in 1/256 ns (R151). -/
structure Heard where
  at_ : Nat
  tbmEn : Bool
  isMaster : Bool
  sync : Nat
  partEn : Nat
  partActive : Nat
  off : Int
deriving DecidableEq, Repr

/-- What the timebase holds beside its registers (R148 to R156): the latched high word, the replica of the islands and the replicas of
those islands that differ from it (an island whose crossings closed keeps its own until the next time word after they open, R37), the
ticks of the oscillator since reset, those of them with the tile clocks running (R100), the tick at which the fabric was trained, whether the election is over, sets in a row within LOCK_THR, the tick of the last set of
the master, the tick of entry into the state, the last set of each link (TX_TIME and receive time, in 1/256 ns), the last
PPS edge, whether its miss was reported, whether it aligned the time, what each slot said last, the announced starts, the
last BAKE_NO of each index, the correction that is still to be slewed, and whether the master changed in HOLDOVER.
Log entries 51 (DESIGN CHOICE, unsafe), 52 (DEDUCED, unsafe). -/
structure Timebase where
  nowHi : Option Nat
  replica : Nat
  replicas : SMap Nat
  osc : Nat
  clocked : Nat
  trainedAt : Option Nat
  elected : Bool
  lockRun : Nat
  lastSet : Nat
  since : Nat
  lastRx : SMap (Nat × Nat)
  lastPps : Option Nat
  ppsMissed : Bool
  ppsAligned : Bool
  heard : SMap Heard
  steps : SMap StepAnn
  lastBakeNo : SMap Nat
  slew : Int
  changed : Bool
deriving DecidableEq, Repr

/-- What leaves the package: interrupt messages, packets, ordered sets, answers to requests, pin levels and signals to
the parts outside. Newest first in the state's list. -/
inductive Out where
  | msix (vector : Nat)
  | packet (link : Nat) (p : Packet)
  | tsSet (link : Nat) (s : TsSet)
  | ident (link : Nat) (s : IdentSet)
  | narrow (link mask : Nat)
  | linkUnit (link : Nat) (u : LinkAck) (nak : Bool)
  | read (agent : Agent) (words : List Nat)
  | bar2Read (bytes : List Byte)
  | response (name : String) (words : List Nat)
  | blob (name : String) (bytes : List Byte)
  | voltage (rail mv : Nat)
  | event (name : String) (args : List Nat)
deriving DecidableEq, Repr

end Sys2Proof.Machine
end

