-- ==== Sys2Proof/Machine/TypesServ.lean ====
section
/-! DEFINITION. The state of serving control, the KV manager, expert routing and the weight loader. -/
namespace Sys2Proof.Machine

/-- A tick plan layer record (R173). -/
structure LayerRec where
  voteOff : Nat
  closeOff : Nat
  insertOff : Nat
  roundTicks : Nat
deriving DecidableEq, Repr

/-- A plan entry that waits for its push (R174): the island, the offset of its record, the DEFER round of a template, and the
start of its plan as an offset from T (0 for the main plan). -/
structure PlanItem where
  island : Nat
  record : Nat
  round : Option Nat
  base : Nat
deriving DecidableEq, Repr

/-- The bake of a partition (R49, R132): whether one is in progress, whether the package follows it as step master without being a member
(R176), its number, start tick, bake descriptor, members,
plan, barrier count, layer records, the rounds agreed so far, the votes received (by layer × 64 + slot), the layers voted
for, and the plan entries still to be pushed. -/
structure Bake where
  active : Bool
  watched : Bool
  bakeNo : Nat
  start : Nat
  planEnd : Nat
  desc : Nat
  members : Nat
  plan : Nat
  barCount : Nat
  layers : List LayerRec
  rounds : SMap Nat
  votes : SMap Nat
  voteSent : SMap Bool
  pushQ : List PlanItem
deriving DecidableEq, Repr

/-- The snapshot of a pool entry that a pool runs on (R229, R231). -/
structure PoolSnap where
  wfirst : Nat
  wcount : Nat
  pageLog : Nat
  recLines : Nat
  layers : Nat
  fmt : Nat
  part : Nat
  reserve : Nat
  stack : Nat
  ref : Nat
  tok : Nat
deriving DecidableEq, Repr

/-- A draft request that a draft package received (R326), with the companion that serves it, the tokens it proposes, its
catch-up positions and its length-table index in the bake. -/
structure Draft where
  src : Nat
  homeSeq : Nat
  tenant : Nat
  model : Nat
  pool : Nat
  lused : Nat
  homeLen : Nat
  comp : Option Nat
  n : Nat
  c : Nat
  idx : Nat
deriving DecidableEq, Repr

/-- What serving control holds of a partition beside its registers and its tables in memory (R293 to R331): held cancels
(tenant, REQ_ID, boundaries left), queued tenant updates, prefill sequences in admission order, tenants whose requests retire
at the next boundary, sequences that retire at the next boundary with a status, sequences whose final record is due in phase
7, the prefill pool, the draft requests of the bake and those received for the next one, the draft lengths asked for the next
bake and those of the bake by SEQ_ID, members at the last boundary, the staged MODEL whose failed switch was reported, the
sequences of the length table in its order, whether phase 7 of the bake is done, whether an idle poll found work,
whether DRAINED_EV was raised, and the tick of the last idle poll (R300). -/
structure Serv where
  cancels : List (Nat × Nat × Nat)
  tenQ : List Nat
  order : List Nat
  badTen : List Nat
  due : List (Nat × Nat)
  finals : List Nat
  pf : List Nat
  drafts : List Draft
  draftsIn : List Draft
  asked : SMap Nat
  lused : SMap Nat
  prevMembers : Nat
  skewFor : Nat
  ltab : List Nat
  delivered : Bool
  want : Bool
  drained : Bool
  polled : Option Nat
deriving DecidableEq, Repr

/-- A breadbox entry (R312 to R314): its state as SRV_BB_INFO encodes it, owner, last CHK_ERR, its copy of the descriptor
and the number of the list that PROMOTE or DEMOTE runs. -/
structure Bread where
  st : Nat
  part : Nat
  chkErr : Nat
  desc : List Byte
  job : Nat
deriving DecidableEq, Repr

/-- Where a shard of a load stands on this package (R388 to R394): bytes are landing, its freeze runs, it is hashed again,
VERIFIED, or missing. -/
inductive ShPhase where
  | landing | freezing | recheck | verified | missing
deriving DecidableEq, Repr

/-- A shard of a load (R388 to R394): its phase, the source of the attempt (0 storage, 1 relay, 2 pull, 3 in place), attempts
begun and attempts counted, the contiguous bytes landed, the parts of the piece in flight (offset, length), the frames leased
for it, the tick of the last landing, the bytes relayed, whether it still relays and whether a relay write is under way. -/
structure Shard where
  phase : ShPhase
  src : Nat
  begun : Nat
  counted : Nat
  landed : Nat
  got : List (Nat × Nat)
  frames : List Nat
  lastLand : Nat
  relayed : Nat
  relayOn : Bool
  relayBusy : Bool
deriving DecidableEq, Repr

/-- A load slot beside its registers (R384 to R387): the descriptor, the copy of WLD_CFG, MDIGEST, the shards of this package,
and the tick of entry into REPORT. -/
structure Load where
  desc : List Byte
  policy : Nat
  recheck : Bool
  retryMax : Nat
  shardTimeout : Nat
  reportTimeout : Nat
  digest : List Byte
  shards : SMap Shard
  since : Nat
deriving DecidableEq, Repr

/-- What the fabric tells the weight loader and the responder queue pairs: the end of a queue pair's request with its status and data, the end of a relay write with its status, the end of a pull with its data, the end
of a fence after a relay write, and the ends of the body of a member record and of the fence after it. -/
inductive WldEv where
  | relayed (slot shard upto status : Nat)
  | pulled (slot shard off status : Nat) (data : List Byte)
  | relayFenced (slot shard upto : Nat)
  | recordSent (slot m : Nat)
  | recordFenced (slot m : Nat)
  | rdmaOver (q status : Nat) (data : List Byte)
deriving DecidableEq, Repr

end Sys2Proof.Machine
end

