-- ==== Sys2Proof/Machine/TypesSys.lean ====
section
/-! DEFINITION. The state of the power governor, the fault collector, boot and update, management, Ethernet and pins. -/
namespace Sys2Proof.Machine

/-- A sideband input (R534 to R536): the level its filter passed, the treated level, the ticks of its accepted edges of
the last millisecond, the tick since which it is treated as asserted, and whether STUCK was reported in this episode. -/
structure Pin where
  level : Bool
  treated : Bool
  edges : List Nat
  since : Nat
  stuckSeen : Bool
deriving DecidableEq, Repr

/-- What the PCI Express endpoint holds beside its registers (R499, R505, R509): link state, the message controls, the
mask bit and the pending bit of each vector, and the reset of PERST_N. -/
structure Pcie where
  linkUp : Bool
  inReset : Bool
  msixEn : Bool
  funcMask : Bool
  busMaster : Bool
  masked : SMap Bool
  pendingBits : SMap Bool
deriving DecidableEq, Repr

/-- Where the arithmetic clock stands (R421 to R424): 1.1 GHz, on the way to the boost, 1.25 GHz, or on the way back. -/
inductive FreqSt where
  | nominal | entering | boost | leaving
deriving DecidableEq, Repr

/-- The power governor beside its registers (R406 to R434): the raw estimates of P_1 newest first, the calibration of R409, the
sources of the level (THERMTRIP, alert, clamp, cap loop, EDC, quadrants), the applied and target levels of the clusters with
the tick of the last rise in sixteenths, CAP_EFF, since when P_10 exceeds it and whether EDC_TIME ran out, when G_edc and the
G_quad moved last, the clusters with a sample and with a failed sensor, the clock, since when it moves and since when the boost
conditions hold, the tick of the last droop event, the quiet wait of R423, whether AVSBus failed, when the alerts ended, the last
heartbeat, the wake that waits and the tick it began, and the reasons seen in the present microsecond.
Log entry 54 (DEDUCED, unsafe). -/
structure Power where
  samples : List Nat
  calib : Int
  raw : Nat
  gTrip : Nat
  gAlert : Nat
  gClamp : Nat
  gCap : Nat
  gEdc : Nat
  gQuad : SMap Nat
  g : SMap Nat
  target : SMap Nat
  riseRef : SMap Nat
  capEff : Nat
  overSince : Option Nat
  edcTimed : Bool
  edcAt : Nat
  quadAt : SMap Nat
  sampled : Nat
  failed : Nat
  freq : FreqSt
  freqAt : Nat
  goodSince : Option Nat
  lastDroop : Option Nat
  quiet : Option Nat
  avsFailed : Bool
  alertEnd : Option Nat
  lastBeat : Nat
  wakePend : Bool
  wakeAt : Nat
  acc : Nat
deriving DecidableEq, Repr

/-- An alarm that waits (R464): its key (PAGE 0xFFF for any page), COUNT, LAST_TICK and the first record's four words. -/
structure Alarm where
  code : Nat
  page : Nat
  count : Nat
  last : Nat
  words : List Nat
deriving DecidableEq, Repr

/-- An event of a trace kind (R466): tick, bit of TRACE_SRC, CODE, page, island, partition and DETAIL. -/
structure Trace where
  tick : Nat
  kind : Nat
  code : Nat
  page : Nat
  island : Nat
  part : Option Nat
  detail : Nat
deriving DecidableEq, Repr

/-- FCOL beside its registers (R439 to R468): the start of the quiet timer, the exit ticks newest first, partitions to disable at
exit, PROD, the CONS last read and the records written of each ring, the alarms that wait for the ring, the alarm records of the
PLDM queue, those that wait for it and the number of records it was given, the last cause of STORM, trace events that wait, the
events of each trace kind, the millisecond of the trace rate and the records in it, the tiles that are overdue with the tick since
when, and the tile that each partition withholds. -/
structure Fcol where
  quietFrom : Nat
  exits : List Nat
  stopPend : Nat
  prod : SMap Nat
  cons : SMap Nat
  seq : SMap Nat
  waiting : List Alarm
  pldm : List Alarm
  pldmWait : List Alarm
  pldmSeq : Nat
  lastStorm : Nat
  traces : List Trace
  kindCnt : SMap Nat
  rateMs : Nat
  rateCnt : Nat
  overdue : SMap Nat
  withheld : SMap Nat
deriving DecidableEq, Repr

/-- Boot beside its registers (R471 to R484): the fuses as sensed, the burns that take effect at the next package reset, the tick
that R475 counts from, failed attempts on the flash, whether BOOT_LATE was reported, the boot buffer, the booted image, the bytes
pushed, which stages are done, and whether READY waits for the safe state to end. -/
structure Boot where
  fuses : Option Fuses
  burnRevoke : Nat
  burnSvn : Nat
  start : Nat
  attempts : Nat
  late : Bool
  buffer : List Byte
  booted : List Byte
  push : Bytes
  memTrained : Bool
  memInit : Bool
  fabTrained : Bool
  readyDue : Bool
deriving DecidableEq, Repr

/-- The update engine beside its registers (R487 to R493): the image last verified, the components still to activate, the one in
progress with its version and the tick it began, its pages still to take, those the engine holds and those it has loaded, the start of the new
management firmware, the Knock version for later runs, and whether a PLDM update writes the flash after the activation. -/
structure Upd where
  image : List Byte
  queue : List Nat
  cur : Option Nat
  version : Nat
  since : Nat
  todo : List Nat
  held : List Nat
  loaded : List Nat
  alive : Option Nat
  knockVer : Nat
  autoFlash : Bool
  flashSrc : List Byte
deriving DecidableEq, Repr

/-- A request of a responder queue pair that waits: a WRITE with its bytes, or a READ of a length (R518). -/
structure QpReq where
  psn : Nat
  va : Nat
  write : Bool
  len : Nat
  bytes : List Byte
deriving DecidableEq, Repr

/-- A responder queue pair (R517, R518): its entry as it was opened, the next PSN, whether it is in error, the requests that
wait in PSN order, and whether the first of them is under way. -/
structure Qp where
  flags : Nat
  tenant : Nat
  rkey : Nat
  base : Nat
  len : Nat
  psn : Nat
  err : Bool
  waiting : List QpReq
  busy : Bool
deriving DecidableEq, Repr

end Sys2Proof.Machine
end

