-- ==== Sys2Proof/Machine/Block.lean ====
section
/-! DEFINITION. The block: everything the package holds but the queue of waiting commands.
Log entry 79 (DESIGN CHOICE, unsafe). -/
namespace Sys2Proof.Machine

/-- The package GL-7264 (all of its state but the reset inputs and the command queue).
Log entry 79 (DESIGN CHOICE, unsafe). -/
structure Block where
  now : Nat
  fresh : Nat
  slotId : Nat
  tbmEn : Bool
  testMode : Bool
  pages : SMap PageRegs
  pcie : Pcie
  out : List Out
  reports : List (Nat × Report)
  tiles : SMap Tile
  scores : SMap Score
  acceptNo : Nat
  shifts : List (Nat × Nat × Nat × Nat × Nat)
  bars : SMap Bar
  bakes : SMap Bake
  mem : Memory
  poison : SMap Bool
  frames : SMap Nat
  leases : SMap Nat
  frzQueue : List FrzRec
  frzHeld : List FrzRec
  frzRuns : List FrzRun
  frzDone : List (FrzOwner × Nat)
  kvmQueue : List FrzRec
  kvmZeroed : Bool
  groups : SMap Group
  xfers : List Xfer
  reqs : List Req
  acts : List Act
  pools : SMap PoolSnap
  nextId : Nat
  stepTick : Option Nat
  lines : SMap Line
  fills : List Fill
  filters : SMap ThawFilter
  links : SMap LinkX
  routes : SMap Route
  paths : SMap Path
  used : SMap (List Nat)
  fences : List Fence
  windows : List Window
  segs : List SegAct
  plans : SMap MoePlan
  moeCnt : SMap Nat
  ackq : SMap AckQ
  plcSum : SMap Nat
  plcNext : SMap Nat
  serv : SMap Serv
  bread : SMap Bread
  loads : SMap Load
  wldEv : List WldEv
  conns : SMap Nat
  rates : SMap (Nat × Nat)
  lsFrom : Nat
  keys : SMap Nat
  rtags : SMap Nat
  tagJob : Option (Nat × Nat × Nat)
  rleases : SMap RLease
  occupied : Nat
  adv : SMap Nat
  lastHeard : SMap Nat
  noneSince : SMap Nat
  ctrlSeen : List (Nat × Nat × List Nat × Nat)
  tb : Timebase
  pins : SMap Pin
  safe : Bool
  power : Power
  fcol : Fcol
  boot : Boot
  upd : Upd
  qps : SMap Qp
  pciq : List (Nat × List Byte)
deriving DecidableEq, Repr

end Sys2Proof.Machine
end

