-- ==== Sys2Proof/Machine/Codes.lean ====
section
/-! DEFINITION. The fault codes that blocks report to FCOL, by severity (R123, R145, R169, R187, R227, R376, R446, R522,
R542 and the code tables of the other chapters). -/
namespace Sys2Proof.Machine

/-- Codes of severity CORRECTED. -/
def codesCorrected : List Nat :=
  [0x0004, 0x0101, 0x0103, 0x0203, 0x0301, 0x0306, 0x0309, 0x0403, 0x0404, 0x0409, 0x0601, 0x0603,
   0x0701, 0x0702, 0x0803, 0x0905, 0x0A03, 0x0B02, 0x0B03, 0x0B0A, 0x0B0B, 0x0C02, 0x0C05, 0x0E02,
   0x0E04, 0x0E05, 0x0E06]

/-- Codes of severity DEFERRED. -/
def codesDeferred : List Nat :=
  [0x0002, 0x0003, 0x0110, 0x0111, 0x0112, 0x0120, 0x0130, 0x0140, 0x0150, 0x0170, 0x0171, 0x0172,
   0x0173, 0x0174, 0x0204, 0x0205, 0x0206, 0x0302, 0x0304, 0x0305, 0x0402, 0x0405, 0x0406, 0x0407,
   0x0408, 0x0604, 0x0605, 0x0607, 0x0608, 0x0609, 0x0801, 0x0802, 0x0804, 0x0805, 0x0806, 0x0901,
   0x0902, 0x0903, 0x0904, 0x0906, 0x0907, 0x0A01, 0x0A02, 0x0A04, 0x0A05, 0x0A06, 0x0A07, 0x0B01,
   0x0B04, 0x0B06, 0x0B07, 0x0B08, 0x0B0C, 0x0B0D, 0x0C01, 0x0C03, 0x0C04, 0x0C06, 0x0D01, 0x0D02,
   0x0D03, 0x0D04, 0x0D05, 0x0E01, 0x0E03]

/-- Codes of severity UNCORRECTED. -/
def codesUncorrected : List Nat :=
  [0x0001, 0x0102, 0x0104, 0x0105, 0x0160, 0x0307, 0x0308, 0x0401, 0x0602, 0x0606, 0x060A, 0x0B05,
   0x0B09, 0x0D06]

/-- Codes of severity FATAL. -/
def codesFatal : List Nat :=
  [0x0005, 0x0201, 0x0202, 0x0303, 0x0D07]

/-- The severity of a code (R439): 0 CORRECTED, 1 DEFERRED, 2 UNCORRECTED, 3 FATAL. -/
def codeSev (c : Nat) : Nat :=
  if codesCorrected.contains c then 0 else if codesUncorrected.contains c then 2 else if codesFatal.contains c then 3 else 1

end Sys2Proof.Machine
end

