-- ==== Sys2Proof/Machine/Regs.lean ====
section
/-! DEFINITION. Block pages: the page index (R519), the header registers and their state machine (R15 to R33), field reads
and writes, interrupt messages (R17, R509) and fault reports (R442). -/
namespace Sys2Proof.Machine

/-- The kind of a page (R519). -/
def pageKind (p : Nat) : PageKind :=
  if p = 0 then .dev else if p = 1 then .boot else if p = 2 then .flt else if p = 3 then .pwr else if p = 4 then .tbs
  else if p = 5 then .mgt else if p = 6 then .pci else if p = 8 ∨ p = 9 then .eth
  else if 0x10 ≤ p ∧ p < 0x20 then .srv else if p = 0x20 then .moe else if p = 0x21 then .kvm else if p = 0x22 then .wld
  else if 0x40 ≤ p ∧ p < 0x58 then .clu else if 0x80 ≤ p ∧ p < 0xA0 then .slc else if 0xC0 ≤ p ∧ p < 0xD0 then .mem
  else if 0x100 ≤ p ∧ p < 0x124 then .fab else if p = 0x130 then .gfab else if 0x200 ≤ p ∧ p < 0x320 then .til
  else .reserved

/-- The first page of the block's range (R519). -/
def pageFirst (p : Nat) : Nat :=
  match pageKind p with
  | .eth => 8
  | .srv => 0x10
  | .clu => 0x40
  | .slc => 0x80
  | .mem => 0xC0
  | .fab => 0x100
  | .til => 0x200
  | _ => p

/-- ENABLE resets to 1 (R127, R184, R225, R226, R372, R374, R520 and the header rules of the other chapters). -/
def enableReset : PageKind → Bool
  | .srv | .kvm | .til | .reserved => false
  | _ => true

/-- ENABLE is fixed on pages 0x000 to 0x006 and 0x008 to 0x009 (R32). -/
def enableFixed : PageKind → Bool
  | .dev | .boot | .flt | .pwr | .tbs | .mgt | .pci | .eth => true
  | _ => false

/-- BLK_CAP.STAGED (R519). -/
def isStaged : PageKind → Bool
  | .srv | .moe | .kvm | .wld | .clu | .slc | .mem | .fab | .gfab | .til => true
  | _ => false

/-- BLK_CAP.HAS_EXPERT. -/
def hasExpert : PageKind → Bool
  | .dev | .boot | .mgt | .pci | .eth | .clu | .reserved => false
  | _ => true

/-- BLK_CAP.BLK_SPECIFIC of each kind of page. -/
def blkSpecific : PageKind → Nat
  | .dev => 288 + 16 * 2 ^ 9
  | .boot => 7 + 2 ^ 3 + 2 ^ 4
  | .flt => 32 + 2 ^ 6 + 2 ^ 7
  | .pwr => 3
  | .tbs => 3
  | .mgt => 3
  | .pci => 4 + 6 * 2 ^ 3
  | .eth => 3
  | .srv => 16 + 2 ^ 5 + 2 ^ 6
  | .moe => 0x400 + 16 * 2 ^ 11 + 8 * 2 ^ 16
  | .kvm => 16 + 2 ^ 5
  | .wld => 4 + 256 * 2 ^ 3 + 2 ^ 12
  | .clu => 12
  | .slc => 16 + 8 * 2 ^ 5
  | .mem => 16 + 2 ^ 5
  | .fab => 4 + 2 ^ 3
  | .gfab => 63 + 2 ^ 6
  | .til => 8 + 4 * 2 ^ 4 + 2 ^ 8 + 2 ^ 9 + 2 ^ 10
  | .reserved => 0

/-- How many of BLK_EVENTS a kind of page defines, from bit 0 up; the bits above them are reserved (R127, R184, R224, R225, R226, R253,
R289, R332, R372, R374, R403, R436, R469, R495, R520, R541). -/
def eventCount : PageKind → Nat
  | .dev => 6
  | .boot => 8
  | .flt => 9
  | .pwr => 10
  | .tbs => 10
  | .mgt => 3
  | .pci => 3
  | .eth => 3
  | .srv => 9
  | .moe => 7
  | .kvm => 5
  | .wld => 5
  | .clu => 1
  | .slc => 3
  | .mem => 5
  | .fab => 7
  | .gfab => 6
  | .til => 6
  | .reserved => 0

/-- The bits of BLK_ISR and BLK_IER that a page implements: the header events and its own; the others are reserved and read zero (R12). -/
def eventMask (k : PageKind) : Nat := 15 * 2 ^ 28 + (2 ^ eventCount k - 1)

/-- The header of a page after reset.
Log entry 6 (DESIGN CHOICE, unsafe). -/
def headerReset (p : Nat) : Header :=
  let en := enableReset (pageKind p)
  { enable := en, st := if en then .run else .off, expertBit := false, expertActive := false, commitPending := false, keyArmed := false
    isr := 0, ier := 0, ivec := 0, seen := 0, firstCode := 0, stall := 0, ucMajor := 0, ucMinor := 0, ucBuild := 0
    quiesceAt := 0, pendingAt := 0 }

/-- Fields whose reset value depends on the page or the index: ALLOC_WAYS of partition 0 is 0xFFFF (R213). -/
def setReset (p : Nat) : SMap Nat :=
  match pageKind p with
  | .slc => [(F.SLC_MASK.ALLOC_WAYS.key 0, 0xFFFF)]
  | _ => []

/-- A page after reset. -/
def pageReset (p : Nat) : PageRegs := { hdr := headerReset p, imm := [], cmt := setReset p, pnd := setReset p }

/-- A page of the package. -/
def Block.page (b : Block) (p : Nat) : PageRegs := SMap.get (pageReset p) b.pages p

/-- Put a page back. -/
def Block.setPage (b : Block) (p : Nat) (r : PageRegs) : Block := { b with pages := SMap.set b.pages p r }

/-- The header of a page. -/
def Block.hdr (b : Block) (p : Nat) : Header := (b.page p).hdr

/-- Change the header of a page. -/
def Block.modHdr (b : Block) (p : Nat) (f : Header → Header) : Block :=
  b.setPage p { b.page p with hdr := f (b.hdr p) }

/-- A field as the block has it in effect: the immediate value, or the value of the committed set. -/
def Block.eff (b : Block) (p : Nat) (f : Field) (i : Nat := 0) : Nat :=
  match f.kind with
  | .imm => SMap.get f.reset (b.page p).imm (f.key i)
  | _ => SMap.get f.reset (b.page p).cmt (f.key i)

/-- A field as a read returns it (R28): the pending set while QUIESCING or QUIESCED and in OFF, else the committed set. -/
def Block.shown (b : Block) (p : Nat) (f : Field) (i : Nat := 0) : Nat :=
  match f.kind, (b.hdr p).st with
  | .imm, _ => SMap.get f.reset (b.page p).imm (f.key i)
  | _, .run => SMap.get f.reset (b.page p).cmt (f.key i)
  | _, _ => SMap.get f.reset (b.page p).pnd (f.key i)

/-- A write of the block itself to one of its immediate fields. -/
def Block.put (b : Block) (p : Nat) (f : Field) (v : Nat) (i : Nat := 0) : Block :=
  let r := b.page p
  b.setPage p { r with imm := SMap.set r.imm (f.key i) (v % 2 ^ f.width) }

/-- A saturating count of an immediate field. -/
def Block.bump (b : Block) (p : Nat) (f : Field) (i : Nat := 0) (n : Nat := 1) : Block :=
  b.put p f (satAdd f.width (b.eff p f i) n) i

/-- A wrapping count of an immediate field. -/
def Block.bumpWrap (b : Block) (p : Nat) (f : Field) (i : Nat := 0) (n : Nat := 1) : Block :=
  b.put p f (b.eff p f i + n) i

/-- Store in the pending set (register values in OFF). -/
def Block.putPnd (b : Block) (p : Nat) (f : Field) (v : Nat) (i : Nat := 0) : Block :=
  let r := b.page p
  b.setPage p { r with pnd := SMap.set r.pnd (f.key i) (v % 2 ^ f.width) }

/-- Store in the committed set and the pending set at once. -/
def Block.putCmt (b : Block) (p : Nat) (f : Field) (v : Nat) (i : Nat := 0) : Block :=
  let r := b.page p
  b.setPage p { r with cmt := SMap.set r.cmt (f.key i) (v % 2 ^ f.width), pnd := SMap.set r.pnd (f.key i) (v % 2 ^ f.width) }

/-- An answer or a signal that leaves the package.
Log entry 78 (DESIGN CHOICE, safe). -/
def Block.emit (b : Block) (o : Out) : Block := { b with out := o :: b.out }

/-- One MSI-X message on a vector, or its pending bit (R509). -/
def Block.msix (b : Block) (v : Nat) : Block :=
  let c := b.pcie
  if c.msixEn && !c.funcMask && c.busMaster && !SMap.get false c.masked v then b.emit (.msix v)
  else { b with pcie := { c with pendingBits := SMap.set c.pendingBits v true } }

/-- An event latches its bit of BLK_ISR; a change of ISR and IER from zero to nonzero sends a message (R17). -/
def Block.raise (b : Block) (p : Nat) (i : Nat) : Block :=
  let h := b.hdr p
  let isr := setBits h.isr i 1 1
  let b' := b.modHdr p (fun h => { h with isr := isr })
  if h.isr &&& h.ier = 0 ∧ isr &&& h.ier ≠ 0 then b'.msix h.ivec else b'

/-- Header events of BLK_ISR. -/
def evCfgReject : Nat := 31
def evKeyReject : Nat := 30
def evQuiesced : Nat := 29
def evCommit : Nat := 28

/-- CFG_REJECT of a page. -/
def Block.cfgReject (b : Block) (p : Nat) : Block := b.raise p evCfgReject

/-- The clock of an island is locked and its crossings are open (R44). -/
def Block.isUp (b : Block) (i : Nat) : Bool := bit (b.eff 0 F.DEV_ISL_UP.UP (i / 32)) (i % 32)

/-- The replica of Hearth time that an island holds (R37, R149). -/
def Block.hearthAt (b : Block) (i : Nat) : Nat := SMap.get b.tb.replica b.tb.replicas i

/-- The island a page belongs to (R36); shared blocks of the management island are island 399. -/
def pageIsland (p : Nat) : Nat :=
  match pageKind p with
  | .til => p - 0x200
  | .clu => 288 + (p - 0x40)
  | .slc => 312 + (p - 0x80)
  | .mem => 344 + (p - 0xC0)
  | .fab => 360 + (p - 0x100)
  | .eth => 396 + (p - 8)
  | .pci => 398
  | .tbs => 400
  | _ => 399

/-- The page of an island; the management island answers with page 0x000. -/
def islandPage (i : Nat) : Nat :=
  if i < 288 then 0x200 + i else if i < 312 then 0x40 + (i - 288) else if i < 344 then 0x80 + (i - 312)
  else if i < 360 then 0xC0 + (i - 344) else if i < 396 then 0x100 + (i - 360) else if i < 398 then 8 + (i - 396)
  else if i = 398 then 6 else if i = 400 then 4 else 0

/-- The summary of a page after a report of severity `sev` (R442). -/
def Header.summarise (h : Header) (code sev : Nat) : Header :=
  { h with seen := setBits h.seen sev 1 1, firstCode := if h.seen = 0 then code else h.firstCode }

/-- A block reports a fault to FCOL: the summary of its page is set and the report is on its way (R442). -/
def Block.report (b : Block) (r : Report) : Block :=
  let b' := b.modHdr r.page (fun h => h.summarise r.code (codeSev r.code))
  { b' with reports := b'.reports ++ [(b.hearthAt r.island, r)] }

/-- A report of a page about its own island, with a detail and no partition.
Log entry 26 (DEDUCED, unsafe). -/
def Block.reportPage (b : Block) (p code : Nat) (detail : Nat := 0) : Block :=
  b.report { page := p, code := code, island := pageIsland p, detail := detail, part := none }

/-- A report that names a partition. -/
def Block.reportPart (b : Block) (p code part : Nat) (detail : Nat := 0) : Block :=
  b.report { page := p, code := code, island := pageIsland p, detail := detail, part := some part }

/-- The package is not in the power state RUN (R432, R433). -/
def Block.asleep (b : Block) : Bool := decide (b.eff 3 F.PWR_REST.REST_STATE ≠ 0)

/-- An event of a trace kind that TRACE_SRC selects reaches FCOL (R466); `kind` is the bit of the field TRACE_SRC. -/
def Block.trace (b : Block) (kind code page island : Nat) (part : Option Nat) (detail : Nat) : Block :=
  if bit (SMap.get 0 (b.page 2).cmt (F.FLT_TRACE.TRACE_SRC.key 0)) kind then
    { b with fcol := { b.fcol with traces := b.fcol.traces ++ [{ tick := b.hearthAt island, kind := kind, code := code, page := page, island := island
                                                                 part := part, detail := detail }] } }
  else b

/-- The pending set replaces the committed set in one instant (R26, R31). -/
def Block.commitPage (b : Block) (p : Nat) : Block :=
  let r := b.page p
  (b.setPage p { r with cmt := r.pnd, hdr := { r.hdr with st := .run, commitPending := false } }).raise p evCommit

/-- ENABLE of a page. -/
def Block.enabled (b : Block) (p : Nat) : Bool := (b.hdr p).enable

/-- Page numbers. -/
def pgTile (t : Nat) : Nat := 0x200 + t
def pgMem (k : Nat) : Nat := 0xC0 + k
def pgSlice (s : Nat) : Nat := 0x80 + s
def pgQuad (f : Nat) : Nat := 0x100 + f
def pgPart (k : Nat) : Nat := 0x10 + k
def pgClu (c : Nat) : Nat := 0x40 + c
def pgDev : Nat := 0
def pgBoot : Nat := 1
def pgFlt : Nat := 2
def pgPwr : Nat := 3
def pgTbs : Nat := 4
def pgMgt : Nat := 5
def pgPci : Nat := 6
def pgMoe : Nat := 0x20
def pgKvm : Nat := 0x21
def pgWld : Nat := 0x22
def pgGfab : Nat := 0x130

/-- The page of the cluster router that a page's block is attached to (R34, R35). -/
def routerPage (p : Nat) : Nat :=
  match pageKind p with
  | .til => pgClu ((p - 0x200) / 12)
  | .clu => p
  | .slc => pgClu ((p - 0x80) / 8 * 6 + [0, 1, 1, 2, 3, 4, 4, 5].getD ((p - 0x80) % 8) 0)
  | .mem => pgClu ((p - 0xC0) / 4 * 6 + [0, 2, 3, 5].getD ((p - 0xC0) % 4) 0)
  | .fab => pgClu ((p - 0x100) / 9 * 6 + [0, 0, 1, 2, 2, 3, 4, 4, 5].getD ((p - 0x100) % 9) 0)
  | .eth => pgClu (if p = 8 then 4 else 10)
  | _ => pgClu 1

/-- ADDR_RANGE: the router of the requester refuses an address and reports it (R198, R227).
Log entry 26 (DEDUCED, unsafe). -/
def Block.reportRange (b : Block) (page : Nat) : Block := b.reportPage (routerPage page) 0x0605

/-- A fresh number for a free value.
Log entry 9 (DESIGN CHOICE, safe). -/
def Block.draw (b : Block) : Nat × Block := (b.fresh, { b with fresh := b.fresh + 1 })

end Sys2Proof.Machine
end

