-- ==== Sys2Proof/Machine/Mesh.lean ====
section
/-! DEFINITION. The mesh of cluster routers (R34, R35), the crossings between islands (R36, R38, R39), and which islands are open (R32, R41). -/
namespace Sys2Proof.Machine

/-! ### The mesh (R35) -/

/-- Column and row of a cluster in the 6 × 4 mesh. -/
def clusterX (c : Nat) : Nat := 3 * (c / 6 % 2) + c % 6 % 3
def clusterY (c : Nat) : Nat := 2 * (c / 12) + c % 6 / 3

/-- The cluster at a column and a row. -/
def clusterAt (x y : Nat) : Nat := 6 * (2 * (y / 2) + x / 3) + 3 * (y % 2) + x % 3

/-- One step along an axis. -/
def stepToward (a z : Nat) : Nat := if a < z then a + 1 else a - 1

/-- The next router of a packet: along x to the destination column, then along y. -/
def nextRouter (c d : Nat) : Nat :=
  if clusterX c ≠ clusterX d then clusterAt (stepToward (clusterX c) (clusterX d)) (clusterY c)
  else if clusterY c ≠ clusterY d then clusterAt (clusterX c) (stepToward (clusterY c) (clusterY d))
  else c

/-- The routers that a packet passes within `n` hops, both ends included. -/
def routeIn : Nat → Nat → Nat → List Nat
  | 0, c, _ => [c]
  | n + 1, c, d => if c = d then [c] else c :: routeIn n (nextRouter c d) d

/-- The route of a packet from cluster `c` to cluster `d`: at most 5 hops along x and 3 along y. -/
def route (c d : Nat) : List Nat := routeIn 8 c d

/-- Two clusters share a mesh link. -/
def meshLink (c d : Nat) : Bool := decide (c ≠ d) && decide (nextRouter c d = d)

/-! ### Islands and crossings (R36, R38, R39) -/

/-- The cluster whose router an island is, or is attached to (R34). -/
def islandCluster (i : Nat) : Nat := routerPage (islandPage i) - 0x40

/-- The nominal clock of an island in MHz (R36). -/
def islandMHz (i : Nat) : Nat :=
  if i < 288 then 1100 else if i < 344 then 1400 else if i < 360 then 1333 else if i < 398 then 1660 else 1000

/-- A crossing: the bits of an entry and the depth of its FIFO (R38). -/
structure Crossing where
  width : Nat
  depth : Nat
deriving DecidableEq, Repr

/-- The crossing between an island and the router it is attached to. -/
def attachedCrossing (i : Nat) : Crossing :=
  { width := if i < 288 then 1024 else if i < 360 then 2048 else if i < 396 then 1024 else 512, depth := 8 }

/-- The crossings that lead from one island to another: the data crossings of routers, and the time channel of the timebase. The droop clamp
is no FIFO (R38, R43). -/
def crossings (w r : Nat) : List Crossing :=
  let router (i : Nat) : Bool := decide (288 ≤ i) && decide (i < 312)
  (if router w && router r then (if meshLink (w - 288) (r - 288) then [{ width := 4096, depth := 8 }] else [])
   else if router r && decide (islandCluster w = r - 288) then [attachedCrossing w]
   else if router w && decide (islandCluster r = w - 288) then [attachedCrossing r]
   else [])
  ++ (if w = 400 ∧ r ≠ 400 then [{ width := 80, depth := 2 }] else [])

/-- Bytes per second of a data crossing at the clock of the island that is attached to it, in units of 10^6. -/
def Crossing.rate (x : Crossing) (island : Nat) : Nat := x.width / 8 * islandMHz island

/-- The longest time in picoseconds that an entry takes from its write to its being readable: 1 cycle of the writer and 3 of the reader (R39). -/
def crossingPs (writer reader : Nat) : Nat := 1000000 / islandMHz writer + 3 * 1000000 / islandMHz reader

/-! ### Open islands (R32, R41) -/

/-- The function of a page runs: it stops while the page is OFF (R32). -/
def Block.runs (b : Block) (p : Nat) : Bool := decide ((b.hdr p).st ≠ .off)

/-- The crossings of an island are open: its clock runs, and its page is not OFF. An island whose function is stopped takes nothing, as one
that is gated takes nothing.
Log entry 91 (DESIGN CHOICE, unsafe). -/
def Block.islandOpen (b : Block) (i : Nat) : Bool := b.isUp i && b.runs (islandPage i)

/-- A request from the block of a page reaches an island: every router on its way and the island itself are open (R35, R41). -/
def Block.canReach (b : Block) (page i : Nat) : Bool :=
  b.islandOpen i && (route (routerPage page - 0x40) (islandCluster i)).all (fun c => b.islandOpen (288 + c))

/-- The function of a page does `f` while it runs. -/
def Block.ifRuns (b : Block) (p : Nat) (f : Block → Block) : Block := if b.runs p then f b else b

end Sys2Proof.Machine
end

