-- ==== Sys2Proof/Machine/MemOps.lean ====
section
/-! DEFINITION. The memory tiers: rack addresses (R190, R191), owner sets and placement (R192 to R194), region keys (R355),
frame states and leases (R196, R197), reads through the slices (R210) and writes. -/
namespace Sys2Proof.Machine

/-- Bytes of a window: 60 GiB. -/
def winSize : Nat := 0xF00000000

/-- Position of the device-reserved block within a window. -/
def resvPos : Nat := 0xEFFC00000

/-- Bytes of a package's space: 1,920 GiB. -/
def spaceSize : Nat := 0x1E000000000

/-- The freeze doorbell (R200). -/
def doorbell : Nat := 0x1DFFFFFF000

/-- Transfer statuses of R116, and the fabric codes of R350. -/
def stOK : Nat := 0
def stKEY : Nat := 1
def stFROZEN : Nat := 2
def stISLAND : Nat := 3
def stALIGN : Nat := 4
def stRANGE : Nat := 5
def stSAFE : Nat := 6
def stPOISON : Nat := 7
def stRETRY : Nat := 8
def stNOWIN : Nat := 9
def stREJECT : Nat := 10

/-- Where an address lies: on this package, or on another slot. -/
inductive Place where
  | here (off : Nat)
  | far (slot off : Nat)
deriving DecidableEq, Repr

/-- The group of a window is retired (R222). -/
def Block.groupRetired (b : Block) (g : Nat) : Bool := bit (b.eff (pgMem (g / 2)) F.MEM_GRP_STATUS.GRP_RETIRED) (g % 2)

/-- A slot is occupied (R351); the own slot always is. -/
def Block.isOccupied (b : Block) (s : Nat) : Bool := decide (s = b.slotId) || bit b.occupied s

/-- The windows that a range of offsets touches. -/
def windowsOf (off len : Nat) : List Nat :=
  (List.range 32).filter (fun w => decide (off < (w + 1) * winSize) && decide (w * winSize < off + len))

/-- The range touches the reserved block of no window (R191). -/
def clearOfReserved (off len : Nat) : Bool :=
  (windowsOf off len).all (fun w =>
    decide (off + len ≤ w * winSize + resvPos) || decide ((w + 1) * winSize ≤ off))

/-- The range lies in usable space of this package: below the limit, in no reserved block, in no retired window. -/
def Block.usable (b : Block) (off len : Nat) : Bool :=
  decide (off + len ≤ spaceSize) && clearOfReserved off len
    && (windowsOf off len).all (fun w => !b.groupRetired w)

/-- Resolve a rack address and a length (R190, R191); `none` is ADDR_RANGE found at the source. -/
def Block.resolve (b : Block) (a len : Nat) : Option Place :=
  let off := a % 2 ^ 41
  let slot := bits a 41 6
  if a / 2 ^ 48 ≠ 0 then none
  else if spaceSize < off + len ∨ spaceSize ≤ off then none
  else if bit a 47 then
    if slot ≠ 0 then none else if b.usable off len then some (.here off) else none
  else if slot = b.slotId then (if b.usable off len then some (.here off) else none)
  else if b.isOccupied slot && clearOfReserved off len then some (.far slot off) else none

/-- The address must lie on this package (R543): the offset, if it does. -/
def Block.localOff (b : Block) (a : Nat) : Option Nat :=
  let slot := bits a 41 6
  if a / 2 ^ 48 = 0 ∧ a % 2 ^ 41 < spaceSize ∧ (if bit a 47 then slot = 0 else slot = b.slotId) then some (a % 2 ^ 41) else none

/-- The rack address of an offset of this package, LOCAL = 1. -/
def localAddr (off : Nat) : Nat := 2 ^ 47 + off

/-- The regions of 1 MiB that a range touches. -/
def regionsOf (off len : Nat) : List Nat :=
  if len = 0 then [] else (List.range ((off + len - 1) / 2 ^ 20 - off / 2 ^ 20 + 1)).map (· + off / 2 ^ 20)

/-- The tag of a region; memory initialisation writes 0xFFFF_FFFF (R359). -/
def Block.regionTag (b : Block) (r : Nat) : Nat := SMap.get 0xFFFFFFFF b.rtags r

/-- The key check of R355 for one region. -/
def Block.keyOk (b : Block) (tenant r : Nat) (priv : Bool) : Bool :=
  let g := b.regionTag r
  priv || decide (g = 0) || (decide (g ≠ 0xFFFFFFFF) && decide (SMap.get 0 b.keys tenant = g))

/-- The key check over a range. -/
def Block.keysOk (b : Block) (tenant off len : Nat) (priv : Bool) : Bool :=
  (regionsOf off len).all (fun r => b.keyOk tenant r priv)

/-- A failed key check counts and reports at the page that checks (R355). -/
def Block.keyFault (b : Block) (page : Nat) : Block :=
  let b1 := (b.bump pgGfab F.FAB_GCNT3.KEY_FAULT_CNT).raise pgGfab 5
  let b2 := match pageKind page with
    | .fab => (b1.bump page F.FAB_QCNT0.KEY_FAULT_CNT).raise page 5
    | _ => b1
  b2.reportPage page 0x0B06

/-- Frame states of R196. -/
def frWRITABLE : Nat := 0
def frFREEZING : Nat := 1
def frFROZEN : Nat := 2
def frTHAWING : Nat := 3

/-- The state of a frame. -/
def Block.frame (b : Block) (f : Nat) : Nat := SMap.get frWRITABLE b.frames f

/-- Set the state of a frame. -/
def Block.setFrame (b : Block) (f st : Nat) : Block := { b with frames := SMap.put frWRITABLE b.frames f st }

/-- The frames of 4 KiB that a range touches, ascending. -/
def framesOf (off len : Nat) : List Nat :=
  if len = 0 then [] else (List.range ((off + len - 1) / 4096 - off / 4096 + 1)).map (· + off / 4096)

/-- Every frame of a range is in a state. -/
def Block.allFrames (b : Block) (off len st : Nat) : Bool := (framesOf off len).all (fun f => decide (b.frame f = st))

/-- The lines of 128 bytes that a range touches, by line number of this package. -/
def linesOf (off len : Nat) : List Nat :=
  if len = 0 then [] else (List.range ((off + len - 1) / 128 - off / 128 + 1)).map (· + off / 128)

/-- The owner set of a window (R192). -/
def Block.ownerSet (b : Block) (w : Nat) : List Nat :=
  let own (g : Nat) : Nat := b.eff (pgMem 0) F.MEM_MAP_GRP.OWNER g
  (List.range 32).filter (fun g => decide (own g = own w) && !b.groupRetired g)

/-- The exclusive or of `n` fields of `w` bits. -/
def xorFields (w n v : Nat) : Nat := (List.range n).foldl (fun acc i => acc ^^^ bits v (w * i) w) 0

/-- The place of OFFSET `a`: the channel that serves it, and the line index within that channel (R193). -/
def Block.place (b : Block) (a : Nat) : Nat × Nat :=
  let w := a / winSize
  let p := a % winSize
  if resvPos ≤ p then (8 * w + (p / 128 % 8), p / 1024)
  else
    let s := b.ownerSet w
    let r := (s.takeWhile (· ≠ w)).length
    let blk := p / 1024
    let g := s.getD ((r + xorFields 5 6 blk) % max s.length 1) w
    (8 * g + ((p / 128 % 8) ^^^ xorFields 3 9 blk), blk)

/-- The channel that serves OFFSET `a` (R193). -/
def Block.channelOf (b : Block) (a : Nat) : Nat := (b.place a).1

/-- The DRAM row and the row slot of a channel's line index: a row of 2 KiB holds 15 data lines, and in slot 15 the check line (R217). -/
def dramSlot (index : Nat) : Nat × Nat := (index / 15, index % 15)

/-- The 8 check bytes of a data line within the check line of its row (R217). -/
def checkBytesAt (index : Nat) : Nat := 8 * (index % 15)

/-- The home slice of a line, by its slot and offset (R194). -/
def homeSlice (slot off : Nat) : Nat := xorFields 5 8 ((slot * 2 ^ 41 + off) / 128)

/-- The key of a line in the slice cache: SLOT and OFFSET, in lines. -/
def lineKey (slot off : Nat) : Nat := (slot * 2 ^ 41 + off) / 128

/-- A byte of memory. Outside the listed bytes a byte reads zero, as memory initialisation leaves it (R220), and in a
window whose contents are undefined it reads a free value (R195).
Log entries 7 (DESIGN CHOICE, unsafe), 8 (DESIGN CHOICE, safe). -/
def Memory.byte (m : Memory) (a : Nat) : Byte :=
  match SMap.find m.cells a with
  | some v => v
  | none =>
    match SMap.find m.undef (a / winSize) with
    | some id => Config.freeByte id a
    | none => 0

/-- Store a byte, keeping the canonical form. -/
def Memory.store (m : Memory) (a : Nat) (v : Byte) : Memory :=
  match SMap.find m.undef (a / winSize) with
  | some _ => { m with cells := SMap.set m.cells a v }
  | none => { m with cells := SMap.put 0 m.cells a v }

/-- Store bytes from address `a` on. -/
def Memory.write (m : Memory) (a : Nat) : List Byte → Memory
  | [] => m
  | v :: vs => Memory.write (m.store a v) (a + 1) vs

/-- The `n` bytes from address `a` on. -/
def Memory.read (m : Memory) : Nat → Nat → List Byte
  | _, 0 => []
  | a, n + 1 => m.byte a :: Memory.read m (a + 1) n

/-- Replace a whole range at once: the result of writing the bytes one after the other. -/
def Memory.blit (m : Memory) (lo : Nat) (bs : List Byte) : Memory :=
  let new := ((List.range bs.length).zip bs).filterMap (fun p =>
    if p.2 = 0 ∧ (SMap.find m.undef ((lo + p.1) / winSize)).isNone then none else some (lo + p.1, p.2))
  { m with cells := m.cells.filter (fun e => decide (e.1 < lo)) ++ new
             ++ m.cells.filter (fun e => decide (lo + bs.length ≤ e.1)) }

/-- Every byte of a range becomes zero. -/
def Memory.zero (m : Memory) (lo n : Nat) : Memory :=
  if ((List.range (n / winSize + 2)).any (fun i => (SMap.find m.undef (lo / winSize + i)).isSome)) then
    m.blit lo (List.replicate n 0)
  else { m with cells := SMap.dropKeys (fun a => decide (lo ≤ a) && decide (a < lo + n)) m.cells }

/-- The canonical form of memory: addresses strictly rising, and no listed zero outside the undefined windows. -/
def Memory.wf (m : Memory) : Bool :=
  SMap.sorted m.cells && m.cells.all (fun e => decide (e.2 ≠ 0) || (SMap.find m.undef (e.1 / winSize)).isSome)

/-- The contents of a window become undefined (R195).
Log entry 8 (DESIGN CHOICE, safe). -/
def Memory.scramble (m : Memory) (w id : Nat) : Memory :=
  { undef := SMap.set m.undef w id, cells := SMap.dropKeys (fun a => decide (a / winSize = w)) m.cells }

/-- Little-endian words of memory. -/
def Block.byteAt (b : Block) (a : Nat) : Nat := (b.mem.byte a).toNat
def Block.m16 (b : Block) (a : Nat) : Nat := leNat (b.mem.read a 2)
def Block.m32 (b : Block) (a : Nat) : Nat := leNat (b.mem.read a 4)
def Block.m64 (b : Block) (a : Nat) : Nat := leNat (b.mem.read a 8)

/-- Store the bytes of a write whose leases are held: a full line clears its poison (R218). -/
def Block.store (b : Block) (off : Nat) (bs : List Byte) : Block :=
  let full := (linesOf off bs.length).filter (fun l => decide (off ≤ l * 128) && decide (l * 128 + 128 ≤ off + bs.length))
  { b with mem := b.mem.write off bs, poison := SMap.dropKeys (fun l => full.contains l) b.poison }

/-- Store an `n`-byte little-endian number. -/
def Block.storeNat (b : Block) (off n v : Nat) : Block := b.store off (leBytes n v)

/-- Reads of a range touch a poisoned line (R218). -/
def Block.poisoned (b : Block) (off len : Nat) : Bool := (linesOf off len).any (fun l => SMap.get false b.poison l)

/-- Report the poisoned lines of a range: MEM_UE by the controller, with the channel (R218, R441). -/
def Block.reportPoison (b : Block) (off len : Nat) : Block :=
  ((linesOf off len).filter (fun l => SMap.get false b.poison l)).foldl
    (fun b l => let ch := b.channelOf (l * 128); b.reportPage (pgMem (ch / 16)) 0x0602 ch) b

/-- A block of the package reads a structure of its own: poisoned lines in it are reported (R218). -/
def Block.watch (b : Block) (off len : Nat) : Block := if b.poisoned off len then b.reportPoison off len else b

/-- A hit refreshes the place of a line in the replacement order, unless the order is FIFO (SLC_X_REPL). -/
def Block.refreshLine (b : Block) (key : Nat) (ln : Line) : Block :=
  if b.eff (pgSlice ln.slice) F.SLC_X_REPL.REPL = 1 then b
  else { b with lines := SMap.set b.lines key { ln with order := b.fresh }, fresh := b.fresh + 1 }

/-- A controller counts the bytes of a line that it reads. -/
def Block.countRead (b : Block) (off : Nat) : Block := b.bumpWrap (pgMem (b.channelOf off / 16)) F.MEM_PERF.RD_BYTES 0 128

/-- The controllers count every line of a range that they read. -/
def Block.countReads (b : Block) (off len : Nat) : Block := (linesOf off len).foldl (fun b l => b.countRead (l * 128)) b

/-- One line of this package is read for partition `part` (R196, R210): a frozen line hits its slice or starts a fill
there, any other line bypasses the slices. -/
def Block.touchLine (b : Block) (part : Nat) (l : Nat) : Block :=
  let off := l * 128
  let s := homeSlice b.slotId off
  let count (b : Block) : Block := b.countRead off
  if b.frame (off / 4096) = frFROZEN then
    match SMap.find b.lines (lineKey b.slotId off) with
    | some ln =>
      let b1 := b.bumpWrap (pgSlice s) F.SLC_PERF.HIT
      b1.refreshLine (lineKey b.slotId off) ln
    | none =>
      let b1 := count (b.bumpWrap (pgSlice s) F.SLC_PERF.MISS)
      { b1 with fills := b1.fills ++ [{ slice := s, line := lineKey b.slotId off, part := part, pin := false,
                                        readTick := b.now, data := b.mem.read off 128 }] }
  else count (b.bumpWrap (pgSlice s) F.SLC_PERF.BYPASS)

/-- Every line that a write sends reaches its controller (R41). -/
def Block.memOpen (b : Block) (page off len : Nat) : Bool :=
  (linesOf off len).all (fun l => b.canReach page (344 + b.channelOf (l * 128) / 16))

/-- Every line of a read reaches the block that serves it: a frozen one its home slice, and one that no slice holds its controller (R41,
R196). -/
def Block.readOpen (b : Block) (page off len : Nat) : Bool :=
  (linesOf off len).all (fun l =>
    let frozen := decide (b.frame (l / 32) = frFROZEN)
    (!frozen || b.canReach page (312 + homeSlice b.slotId (l * 128)))
      && ((frozen && (SMap.find b.lines (lineKey b.slotId (l * 128))).isSome) || b.canReach page (344 + b.channelOf (l * 128) / 16)))

/-- A read of this package's memory by a requester: status and bytes (R191, R198, R355). `page` is the page that
checks keys. -/
def Block.readLocal (b : Block) (off len tenant : Nat) (priv : Bool) (part page : Nat) : Block × Nat × List Byte :=
  if !b.usable off len then (b.reportRange page, stRANGE, [])
  else if !b.keysOk tenant off len priv then (b.keyFault page, stKEY, [])
  else if !b.readOpen page off len then (b, stISLAND, [])
  else if b.poisoned off len then (b.reportPoison off len, stPOISON, [])
  else ((linesOf off len).foldl (fun b l => b.touchLine part l) b, stOK, b.mem.read off len)

/-- The lease count of a frame (R197). -/
def Block.leaseCount (b : Block) (f : Nat) : Nat := SMap.get 0 b.leases f

/-- The state home of a frame: controller f mod 16. -/
def stateHome (f : Nat) : Nat := f % 16

/-- The lease table of the state home of a frame is full: 2,048 frames under lease, the frame not among them. -/
def Block.leaseFull (b : Block) (f : Nat) : Bool :=
  decide (b.leaseCount f = 0) && decide (2048 ≤ (b.leases.filter (fun e => decide (stateHome e.1 = stateHome f))).length)

/-- One more lease on a frame. -/
def Block.lease1 (b : Block) (f : Nat) : Block := { b with leases := SMap.put 0 b.leases f (b.leaseCount f + 1) }

/-- One lease on a frame ends. -/
def Block.unlease1 (b : Block) (f : Nat) : Block := { b with leases := SMap.put 0 b.leases f (b.leaseCount f - 1) }

/-- Leases on a list of frames end. -/
def Block.unlease (b : Block) (fs : List Nat) : Block := fs.foldl Block.unlease1 b

/-- A write is refused because a frame is not writable (R198). -/
def Block.writeFrozen (b : Block) (f : Nat) : Block :=
  ((b.bump pgDev F.DEV_FRZ_REJ.WFROZEN_CNT).raise pgDev 2).reportPage (pgMem (stateHome f)) 0x0604

/-- Ask for leases on frames in the order of the list, each with those before it held: the block with the leases granted up to the first
refusal, how many they are, and the status of that refusal. -/
def Block.askLeases (b : Block) : List Nat → Block × Nat × Nat
  | [] => (b, 0, stOK)
  | f :: fs =>
    if b.frame f ≠ frWRITABLE then (b, 0, stFROZEN)
    else if b.leaseFull f then (b, 0, stRETRY)
    else
      let (b1, n, st) := (b.lease1 f).askLeases fs
      (b1, n + 1, st)

/-- Take leases on frames in ascending order (R197): all of them, or the first refusal, at which those held are given back. -/
def Block.takeLeases (b : Block) (fs : List Nat) : Block × Nat :=
  let (b1, n, st) := b.askLeases fs
  if st = stOK then (b1, stOK)
  else
    let b2 := b1.unlease (fs.take n)
    (if st = stFROZEN then b2.writeFrozen (fs.getD n 0) else b2, st)

/-- The checks of a write to this package before its leases (R191, R198, R355). -/
def Block.writeCheck (b : Block) (off len tenant : Nat) (priv : Bool) (page : Nat) : Block × Nat :=
  if !b.usable off len then (b.reportRange page, stRANGE)
  else if !b.keysOk tenant off len priv then (b.keyFault page, stKEY)
  else (b, stOK)

/-- Count the bytes that a write sends to the controllers. -/
def Block.countWrite (b : Block) (off len : Nat) : Block :=
  (linesOf off len).foldl (fun b l => b.bumpWrap (pgMem (b.channelOf (l * 128) / 16)) F.MEM_PERF.WR_BYTES 0 128) b

/-- A write that starts and ends within one command: checks, leases, bytes, leases released. -/
def Block.writeNow (b : Block) (off tenant : Nat) (priv : Bool) (page : Nat) (bs : List Byte) : Block × Nat :=
  let (b1, st) := b.writeCheck off bs.length tenant priv page
  if st ≠ stOK then (b1, st)
  else
    let fs := framesOf off bs.length
    let (b2, st2) := b1.takeLeases fs
    if st2 ≠ stOK then (b2, st2)
    else if !b.memOpen page off bs.length then (b2.unlease fs, stISLAND)
    else (((b2.store off bs).countWrite off bs.length).unlease fs, stOK)

/-- A structure that the blocks of the package read and write themselves, privileged (R357, R543). -/
def Block.privWrite (b : Block) (off : Nat) (bs : List Byte) : Block × Nat := b.writeNow off 0 true pgDev bs

/-- The new value of an atomic (R353); `none` for the codes 0xA to 0xF. -/
def atomicNew (code old opd cmp : Nat) : Option Nat :=
  match code with
  | 0 => some ((old + opd) % 2 ^ 64)
  | 1 => some (old &&& opd)
  | 2 => some (old ||| opd)
  | 3 => some (old ^^^ opd)
  | 4 => some opd
  | 5 => some (if old = cmp then opd else old)
  | 6 => some (max old opd)
  | 7 => some (min old opd)
  | 8 => some (if sext 64 old < sext 64 opd then opd else old)
  | 9 => some (if sext 64 opd < sext 64 old then opd else old)
  | _ => none

/-- An atomic on this package's memory (R353): status and old value. It is a write for leases, keys and frame states. -/
def Block.atomicLocal (b : Block) (code off tenant : Nat) (priv : Bool) (page opd cmp : Nat) : Block × Nat × Nat :=
  let old := b.m64 off
  match atomicNew code old opd cmp with
  | none => (b, stALIGN, 0)
  | some v =>
    if off % 8 ≠ 0 then (b, stALIGN, 0)
    else
      let (b1, st) := b.writeCheck off 8 tenant priv page
      if st ≠ stOK then (b1, st, 0)
      else if b1.frame (off / 4096) ≠ frWRITABLE then (b1.writeFrozen (off / 4096), stFROZEN, 0)
      else if b1.leaseFull (off / 4096) then (b1, stRETRY, 0)
      else if !b1.memOpen page off 8 then (b1, stISLAND, 0)
      else if b1.poisoned off 8 then (b1.reportPoison off 8, stPOISON, 0)
      else ((b1.storeNat off 8 v).countWrite off 8, stOK, old)

end Sys2Proof.Machine
end

