-- ==== Sys2Proof/Machine/FabOps.lean ====
section
/-! DEFINITION. Sending over the fabric: links and expected peers (R335), routes and paths (R360, R365), packets (R348)
and control messages (R370).
Log entries 48 (DEDUCED, unsafe), 50 (DEDUCED, unsafe). -/
namespace Sys2Proof.Machine

/-- The quads that no tray link uses (R335). -/
def offTrayQuads : List Nat :=
  [2, 3, 4, 5, 6, 7, 8, 11, 12, 13, 14, 15, 16, 17, 20, 21, 22, 23, 24, 25, 26, 27, 28, 29, 30, 31, 32, 33, 34, 35]

/-- The quad whose page holds the registers of a link (R335, R372). -/
def linkQuad (n : Nat) : Nat := if n < 3 then 9 * n else offTrayQuads.getD ((n - 3) / 2) 2

/-- The link position within its quad. -/
def linkPos (n : Nat) : Nat := if n < 3 then 0 else (n - 3) % 2

/-- Lanes of a link: 8 on the tray, 2 off it. -/
def linkLanes (n : Nat) : Nat := if n < 3 then 8 else 2

/-- The link whose registers a quad page holds at a position, if any (R372). -/
def linkAt (quad pos : Nat) : Option Nat :=
  (List.range 63).find? (fun n => decide (linkQuad n = quad) && decide (linkPos n = pos))

/-- The expected peer of a link of slot `s` (R335). -/
def expectedPeer (s n : Nat) : Nat :=
  let t := s / 4
  if n < 3 then 4 * t + (s % 4 + n + 1) % 4
  else if n - 3 < 4 * t then n - 3 else n - 3 + 4

/-- The page and the position of a link. -/
def linkPage (n : Nat) : Nat := pgQuad (linkQuad n)

/-- A field of a link's registers. -/
def Block.lk (b : Block) (n : Nat) (f : Field) : Nat := b.eff (linkPage n) f (linkPos n)

/-- Set a field of a link's registers. -/
def Block.setLk (b : Block) (n : Nat) (f : Field) (v : Nat) : Block := b.put (linkPage n) f v (linkPos n)

/-- Link states as LSTATE encodes them (R373). -/
def lsOFF : Nat := 0
def lsDETECT : Nat := 1
def lsTRAIN : Nat := 2
def lsALIGN : Nat := 3
def lsIDENT : Nat := 4
def lsUP : Nat := 5
def lsNARROW : Nat := 6
def lsDOWN : Nat := 7
def lsREFUSED : Nat := 8

/-- The state of a link. -/
def Block.lstate (b : Block) (n : Nat) : Nat := b.lk n F.FAB_LSTAT.LSTATE

/-- A link carries routes: UP or NARROW (R361). -/
def Block.linkUp (b : Block) (n : Nat) : Bool := decide (b.lstate n = lsUP) || decide (b.lstate n = lsNARROW)

/-- The actual peer of a link (R336). -/
def Block.peerOf (b : Block) (n : Nat) : Nat := b.lk n F.FAB_LSTAT.PEER_SLOT

/-- The UP links to a slot, in link order. -/
def Block.linksTo (b : Block) (d : Nat) : List Nat :=
  (List.range 63).filter (fun n => b.linkUp n && decide (b.peerOf n = d))

/-- The route slot of a rack address (R360). -/
def rslotOf (slot off : Nat) : Nat := xorFields 3 12 ((slot * 2 ^ 41 + off) / 4096)

/-- A route that carries nothing. -/
def routeNone : Route := { rkind := 4, via := 0, link := 0, gen := 0 }

/-- The route of a destination's route slot; every slot to the own package loops (R361). -/
def Block.route (b : Block) (d r : Nat) : Route :=
  let x := SMap.get routeNone b.routes (d * 8 + r)
  if d = b.slotId then { x with rkind := 3 } else x

/-- The key of a path (D, RSLOT, GEN) (R360). -/
def pathKey (d r g : Nat) : Nat := d * 32 + r * 4 + g

/-- A path that no write has used. -/
def pathNew : Path := { pwseq := 0, acked := 0, st := .live, since := 0 }

/-- A path. -/
def Block.path (b : Block) (k : Nat) : Path := SMap.get pathNew b.paths k

/-- Packet types (R349). -/
def ptRD_REQ : Nat := 0x01
def ptRD_CPL : Nat := 0x02
def ptWR : Nat := 0x03
def ptWR_ACK : Nat := 0x04
def ptATOM : Nat := 0x05
def ptATOM_CPL : Nat := 0x06
def ptLEASE_REQ : Nat := 0x07
def ptLEASE_RSP : Nat := 0x08
def ptLEASE_REL : Nat := 0x09
def ptPFLUSH : Nat := 0x0A
def ptPFLUSH_ECHO : Nat := 0x0B
def ptSEG : Nat := 0x10
def ptSEG_ACK : Nat := 0x11
def ptCTRL : Nat := 0x20

/-- The types of R349. -/
def packetTypes : List Nat := [1, 2, 3, 4, 5, 6, 7, 8, 9, 10, 11, 16, 17, 32]

/-- A request packet before it has a route. -/
def packet0 : Packet :=
  { type := 0, vc := 0, rkind := 4, rslot := 0, src := 0, gen := 0, dst := 0, via := 0, priv := false, last := false
    status := 0, acode := 0, tenant := 0, part := 0, addr := 0, len := 0, tag := 0, fence := 0, lease := 0, injTick := 0
    payload := [] }

/-- The link on which a packet of a route leaves: the direct link, the first UP link to the intermediate, or the loopback
(63). -/
def Block.routeLink (b : Block) (r : Route) : Nat :=
  if r.rkind = 0 then r.link else if r.rkind = 3 then 63 else ((b.linksTo r.via).headD r.link)

/-! ### The transmitter of a link (R346, R347) -/

/-- A link after reset. -/
def linkReset : LinkX :=
  { since := 0, trained := 0, peerGood := 0, order := [], narrowMask := 0, narrowSets := 0, ackSeq := 1023, rxSeq := 0, nakSent := false
    sinceAck := 0, replays := 0, dupRefused := false, txSeq := 0, credit := [], freed := [0, 0, 0, 0, 0], egress := [] }

/-- A link. -/
def Block.link (b : Block) (n : Nat) : LinkX := SMap.get linkReset b.links n
def Block.setLink (b : Block) (n : Nat) (x : LinkX) : Block := { b with links := SMap.set b.links n x }

/-- Units of the receive buffer of one quad, by virtual channel. -/
def vcUnits : List Nat := [1024, 768, 640, 512, 128]

/-- The credits of a link that comes UP: both quads of an x8 link, half a quad of an x2 link. -/
def fullCredit (n : Nat) : List Nat := vcUnits.map (fun u => if n < 3 then 2 * u else u / 2)

/-- Units of a packet: its header and its payload (R348). -/
def pktUnits (p : Packet) : Nat := 1 + (p.payload.length + 31) / 32

/-- The PAYLOAD flits that a packet takes, 20 units each. The units after its last are NULL units.
Log entry 49 (DESIGN CHOICE, unsafe). -/
def pktFlits (p : Packet) : Nat := (pktUnits p + 19) / 20

/-- PAYLOAD flits in the replay buffer: sent and not acknowledged. -/
def LinkX.unacked (x : LinkX) : Nat := (x.txSeq + 1023 - x.ackSeq) % 1024

/-- A packet may leave: its virtual channel holds credit for all its units, and its flits fit into the replay buffer of 512. -/
def LinkX.canSend (x : LinkX) (p : Packet) : Bool :=
  decide (pktUnits p ≤ x.credit.getD p.vc 0) && decide (x.unacked + pktFlits p ≤ 512)

/-- The transmitter after a packet has left. -/
def LinkX.sent (x : LinkX) (p : Packet) : LinkX :=
  { x with credit := x.credit.set p.vc (x.credit.getD p.vc 0 - pktUnits p), txSeq := (x.txSeq + pktFlits p) % 1024 }

/-- What leaves a queue of waiting packets, oldest first: one that may not leave holds up those of its own virtual channel alone
(R214, R364). The transmitter after it, what left, and what waits on. -/
def LinkX.drain (x : LinkX) : List Packet → List Nat → LinkX × List Packet × List Packet
  | [], _ => (x, [], [])
  | p :: ps, held =>
    if !held.contains p.vc && x.canSend p then
      let r := (x.sent p).drain ps held
      (r.1, p :: r.2.1, r.2.2)
    else
      let r := x.drain ps (p.vc :: held)
      (r.1, r.2.1, p :: r.2.2)

/-- A link sends what it may; in NARROW its packets wait (R361). -/
def Block.pump (b : Block) (n : Nat) : Block :=
  if b.lstate n ≠ lsUP then b
  else
    let r := (b.link n).drain (b.link n).egress []
    let b1 := b.setLink n { r.1 with egress := r.2.2 }
    (r.2.1.foldl (fun b p => b.emit (.packet n p)) b1).bumpWrap (linkPage n) F.FAB_LTX.TX_UNITS (linkPos n)
      (20 * r.2.1.foldl (fun m p => m + pktFlits p) 0)

/-- A packet goes to the transmitter of a link; loopback (63) passes no link, and a link that is down sends nothing. -/
def Block.sendOn (b : Block) (n : Nat) (p : Packet) : Block :=
  if n = 63 then b.emit (.packet 63 p)
  else if b.linkUp n then (b.setLink n { b.link n with egress := (b.link n).egress ++ [p] }).pump n
  else b

/-- The units of a packet that arrived over a quad are free again: a LINK unit will tell the sender (R345). -/
def Block.freeUnits (b : Block) (q : Nat) (p : Packet) : Block :=
  let hop := if p.dst = b.slotId ∧ (p.rkind = 1 ∨ p.rkind = 2) then p.via else p.src
  match (b.linksTo hop).find? (fun n => decide (linkQuad n = q) || (decide (n < 3) && decide (linkQuad n + 1 = q))) with
  | some n => let x := b.link n; b.setLink n { x with freed := x.freed.set p.vc (x.freed.getD p.vc 0 + pktUnits p) }
  | none => b

/-- Send a request to slot `dst` on route slot `rslot` (R360, R367): the packet as injected (RKIND 4 where no route
exists; it then waits), and the block. -/
def Block.inject (b : Block) (p : Packet) (dst rslot : Nat) : Block × Packet :=
  let r := b.route dst rslot
  let q := { p with src := b.slotId, dst := dst, rslot := rslot, rkind := r.rkind, gen := r.gen, via := r.via,
                    vc := (if p.type = ptCTRL then 4 else 0), injTick := b.now % 2 ^ 32 }
  (if r.rkind = 4 then b else b.sendOn (b.routeLink r) q, q)

/-- A request that writes counts on its path and in its fence group (R365). -/
def Block.countPath (b : Block) (p : Packet) : Block :=
  let k := pathKey p.dst p.rslot p.gen
  let x := b.path k
  let u := SMap.get [] b.used p.fence
  { b with paths := SMap.set b.paths k { x with pwseq := x.pwseq + 1 }
           used := if u.contains k then b.used else SMap.set b.used p.fence (u ++ [k]) }

/-- The counted path acknowledges `n` writes. -/
def Block.ackPath (b : Block) (k n : Nat) : Block :=
  let x := b.path k
  { b with paths := SMap.set b.paths k { x with acked := x.acked + n } }

/-- A fresh request tag and transfer number. -/
def Block.newId (b : Block) : Nat × Block := (b.nextId, { b with nextId := b.nextId + 1 })

/-- A response to a request packet: it travels the reverse of the request's route (R349). -/
def respond (p : Packet) (type status : Nat) : Packet :=
  { p with type := type, src := p.dst, dst := p.src, status := status, vc := 2, payload := [], len := 0 }

/-- Send a response: on the first link to the intermediate or the source; with none it is lost, and the source recovers (R366). -/
def Block.reply (b : Block) (p : Packet) : Block :=
  let hop := if p.rkind = 1 ∨ p.rkind = 2 then p.via else p.dst
  if p.dst = b.slotId then b.sendOn 63 p
  else
    match b.linksTo hop with
    | n :: _ => b.sendOn n p
    | [] => b

/-- The package may send control messages other than LINK_STATE: LOCKED, HOLDOVER or MASTER (R178, R370). -/
def Block.synced (b : Block) : Bool :=
  let s := b.eff pgTbs F.TBS_STATUS.SYNC
  decide (s = 2) || decide (s = 3) || decide (s = 4)

/-- Kinds of control messages (R370). -/
def ckSTEP_ANNOUNCE : Nat := 1
def ckBAR_DONE : Nat := 2
def ckVOTE : Nat := 3
def ckDRAFT_REQ : Nat := 4
def ckLINK_STATE : Nat := 5

/-- PKT_MAX_AGE in ticks. -/
def Block.maxAge (b : Block) : Nat := b.eff pgGfab F.FAB_AGE.PKT_MAX_AGE * 1000

/-- The age of a tick carried in 32 bits, reckoned modulo 2^32 (R367). -/
def Block.age32 (b : Block) (t : Nat) : Nat := (b.now + 2 ^ 32 - t % 2 ^ 32) % 2 ^ 32

/-- A request without a completion (LEASE_REL, CTRL) leaves, and stays listed for a reissue (R367) until its path is
settled or it is older than any packet may be. A LINK_STATE replaces the one before it. -/
def Block.sendOneWay (b : Block) (p : Packet) (dst rslot : Nat) : Block :=
  let (b1, q) := b.inject p dst rslot
  let old (r : Req) : Bool :=
    decide (r.xfer = 0) && ((decide (r.pkt.rkind ≠ 4) && decide ((b.path (pathKey r.pkt.dst r.pkt.rslot r.pkt.gen)).st = .live)
        && decide (b.maxAge < b.age32 r.pkt.injTick))
      || (decide (r.pkt.type = ptCTRL) && decide (p.type = ptCTRL) && decide (r.pkt.addr = 5) && decide (p.addr = 5) && decide (r.pkt.dst = dst)))
  { b1 with reqs := b1.reqs.filter (fun r => !old r) ++ [{ pkt := q, xfer := 0, piece := 0, dead := [] }] }

/-- Send a control message; its body is carried as bytes. -/
def Block.sendCtrl (b : Block) (dst kind : Nat) (body : List Byte) : Block :=
  if dst = b.slotId then b
  else if kind ≠ ckLINK_STATE ∧ !b.synced then b
  else b.sendOneWay { packet0 with type := ptCTRL, addr := kind, priv := true, payload := body, len := body.length } dst 0

/-- Send a control message to every slot of a mask but the own one. -/
def Block.castCtrl (b : Block) (mask kind : Nat) (body : List Byte) : Block :=
  (bitIndices 64 mask).foldl (fun b d => b.sendCtrl d kind body) b

end Sys2Proof.Machine
end

