-- ==== Sys2Proof/Machine/Formats.lean ====
section
/-! DEFINITION. Engine-ready tiles: format codes (R53), storage planes (R59, R60), GLO4 (R61 to R64), zero points (R65),
2:4 sparsity (R66 to R68), the matrix sums (R69 to R75) and conversion on load and store (R79 to R83).
Log entry 22 (DEDUCED, unsafe). -/
namespace Sys2Proof.Machine

/-- A format of R53 without its sparse bit. -/
inductive Fmt where
  | fp32 | bf16 | fp16 | e4m3 | e5m2 | mxe4m3 | mxe5m2 | mxe2m3 | mxe3m2 | mxfp4 | mxint8 | glo4 | s8 | u8 | s4 | u4
deriving DecidableEq, Repr

/-- FMT[3:0] (R53). -/
def Fmt.ofCode (c : Nat) : Fmt :=
  match c % 16 with
  | 0 => .fp32 | 1 => .bf16 | 2 => .fp16 | 3 => .e4m3 | 4 => .e5m2 | 5 => .mxe4m3 | 6 => .mxe5m2 | 7 => .mxe2m3
  | 8 => .mxe3m2 | 9 => .mxfp4 | 10 => .mxint8 | 11 => .glo4 | 12 => .s8 | 13 => .u8 | 14 => .s4 | _ => .u4

/-- Element bits of a format in its plane (R53); the GLO4 base element has 4. -/
def Fmt.width : Fmt → Nat
  | .fp32 => 32
  | .bf16 | .fp16 => 16
  | .e4m3 | .e5m2 | .mxe4m3 | .mxe5m2 | .mxint8 | .s8 | .u8 => 8
  | .mxe2m3 | .mxe3m2 => 6
  | .mxfp4 | .glo4 | .s4 | .u4 => 4

/-- The format carries one E8M0 scale per block of 32. -/
def Fmt.scaled : Fmt → Bool
  | .mxe4m3 | .mxe5m2 | .mxe2m3 | .mxe3m2 | .mxfp4 | .mxint8 | .glo4 => true
  | _ => false

/-- INT8 and INT4. -/
def Fmt.isInt : Fmt → Bool
  | .s8 | .u8 | .s4 | .u4 => true
  | _ => false

/-- A float format of R69. -/
def Fmt.isFloat (f : Fmt) : Bool := f != .fp32 && !f.isInt

/-- The 4-bit integer formats. -/
def Fmt.isInt4 : Fmt → Bool
  | .s4 | .u4 => true
  | _ => false

/-- The 16-bit float formats. -/
def Fmt.is16 : Fmt → Bool
  | .bf16 | .fp16 => true
  | _ => false

/-- The 5-bit code is a matrix weight format, sparse allowed (R53). -/
def fmtWeightOk (c : Nat) : Bool := c < 32 && c % 16 ≠ 0

/-- The 5-bit code is a matrix activation format (R53). -/
def fmtActOk (c : Nat) : Bool := c < 16 && c ≠ 0 && c ≠ 11

/-- The 5-bit code may be loaded into a vector register (R53). -/
def fmtLoadOk (c : Nat) : Bool := c < 16

/-- The 5-bit code may be stored from a vector register (R53). -/
def fmtStoreOk (c : Nat) : Bool := c < 16 && c ≠ 11

/-- The rate classes of R69. -/
inductive RateClass where
  | r4 | r8 | r16
deriving DecidableEq, Repr

/-- The rate class of an operand pair, none for a pair outside the table of R69. The 16-bit path is the 16-bit class. -/
def ratePair (act wgt : Fmt) : Option RateClass :=
  if act.isInt && wgt.isInt then some (if act.isInt4 && wgt.isInt4 then .r4 else .r8)
  else if act.isFloat && wgt.isFloat && act != .glo4 then
    if act.is16 || wgt.is16 then some .r16
    else if act == .mxfp4 && (wgt == .mxfp4 || wgt == .glo4) then some .r4
    else some .r8
  else none

/-- Bytes of an engine-ready tile (R60). -/
def tileBytes (f : Fmt) (sparse : Bool) : Nat :=
  16384 * f.width / 8 + (if sparse then 4096 else 0)
    + (if f.scaled then (if sparse then 1024 else 512) else 0)
    + (if f == .glo4 then (if sparse then 3328 else 1664) else 0)

/-- Bytes of one row of the element plane of a dense tile. -/
def rowBytes (f : Fmt) : Nat := 128 * f.width / 8

/-- Element `i` of a plane of `w`-bit elements that starts at byte `base` of `rd` (R59). -/
def planeElem (rd : Nat → Nat) (base w i : Nat) : Nat :=
  let b := w * i
  let a := base + b / 8
  (rd a + 256 * (rd (a + 1)) + 65536 * rd (a + 2) + 16777216 * rd (a + 3) + 4294967296 * rd (a + 4)) / 2 ^ (b % 8) % 2 ^ w

/-- The value of a stored element before scale and zero point (R54, R55, R65). -/
def elemNum (f : Fmt) (zp : Nat) (c : Nat) : Num :=
  match f with
  | .fp32 => fp32.decode c
  | .bf16 => bf16.decode c
  | .fp16 => fp16.decode c
  | .e4m3 | .mxe4m3 => e4m3.decode c
  | .e5m2 | .mxe5m2 => e5m2.decode c
  | .mxe2m3 => e2m3.decode c
  | .mxe3m2 => e3m2.decode c
  | .mxfp4 | .glo4 => e2m1.decode c
  | .mxint8 => numOfInt (sext 8 c) (-6) false
  | .s8 => numOfInt (sext 8 c - sext 8 zp) 0 false
  | .u8 => numOfInt ((c % 256 : Nat) - (zp % 256 : Nat) : Int) 0 false
  | .s4 => numOfInt (sext 4 c - sext 4 zp) 0 false
  | .u4 => numOfInt ((c % 16 : Nat) - (zp % 16 : Nat) : Int) 0 false

/-- The zero point of a byte for a format (R65). -/
def zpValue (f : Fmt) (b : Nat) : Int :=
  match f with
  | .s8 => sext 8 b
  | .u8 => (b % 256 : Nat)
  | .s4 => sext 4 b
  | .u4 => (b % 16 : Nat)
  | _ => 0

/-- One block of 32 dense K positions of one row: its elements without the scale, the unbiased scale, whether the scale
is the NaN scale, and the flags that reading it sets. -/
structure Block32 where
  elems : List Num
  scale : Int
  nanScale : Bool
  flags : Nat
deriving DecidableEq, Repr

/-- Where the planes of a tile begin: scale, outlier and metadata planes (R59). -/
def scaleBase (f : Fmt) : Nat := 16384 * f.width / 8
def outlierBase (f : Fmt) (sparse : Bool) : Nat := scaleBase f + (if sparse then 1024 else 512)
def metaBase (f : Fmt) (sparse : Bool) : Nat := tileBytes f sparse - 4096

/-- Block `(r, kb)` of a tile, `kb` counting blocks of 32 dense K positions: 4 per row of a dense tile, 8 of a sparse
one. Log entry 22 (DEDUCED, unsafe): a sparse tile numbers its blocks `r × 8 + kb` as a dense one numbers them `r × 4 + kb` (R59, R60). -/
def readBlock (rd : Nat → Nat) (f : Fmt) (sparse : Bool) (zp r kb : Nat) : Block32 :=
  let perRow := if sparse then 8 else 4
  let bi := r * perRow + kb
  let sc := if f.scaled then rd (scaleBase f + bi) else 127
  let rec26 := if f == .glo4 then planeElem rd (outlierBase f sparse) 26 bi else 0
  let idx0 := bits rec26 0 5
  let val0 := bits rec26 5 8
  let idx1 := bits rec26 13 5
  let val1 := bits rec26 18 8
  let has0 := f == .glo4 && decide (val0 % 128 ≠ 127)
  let has1 := f == .glo4 && decide (val1 % 128 ≠ 127)
  let outl (i : Nat) (base : Num) : Num :=
    if has1 && decide (idx1 = i) then e4m3.decode val1
    else if has0 && decide (idx0 = i) then e4m3.decode val0 else base
  let metaOf (g : Nat) : Nat := planeElem rd (metaBase f sparse) 4 (r * 64 + g)
  let elem (i : Nat) : Num :=
    if sparse then
      let k := kb * 32 + i
      let g := k / 4
      let m := metaOf g
      let i0 := m % 4
      let i1 := m / 4 % 4
      if i0 < i1 then
        if k % 4 = i0 then outl i (elemNum f zp (planeElem rd 0 f.width (r * 128 + 2 * g)))
        else if k % 4 = i1 then outl i (elemNum f zp (planeElem rd 0 f.width (r * 128 + 2 * g + 1)))
        else .fin false 0 0
      else .fin false 0 0
    else outl i (elemNum f zp (planeElem rd 0 f.width (r * 128 + kb * 32 + i)))
  let badMeta := sparse && (List.range 8).any (fun j => let m := metaOf (kb * 8 + j); decide (m / 4 % 4 ≤ m % 4))
  { elems := (List.range 32).map elem
    scale := (sc : Int) - 127
    nanScale := f.scaled && decide (sc = 255)
    flags := (if badMeta then flSPM else 0) ||| (if f.scaled && decide (sc = 255) then flSCN else 0)
      ||| (if has0 && has1 && decide (idx0 = idx1) then flGDUP else 0) }

/-- The group value of R70 to R72, R74 and R75 for one output element, and the flags it sets. -/
def groupValue (p16 : Bool) (a w : Block32) : Nat × Nat :=
  let prods := List.zipWith numMul a.elems w.elems
  let fl := a.flags ||| w.flags
  let x := a.scale + w.scale
  let opNaN := a.elems.any (· == Num.nan) || w.elems.any (· == Num.nan) || a.nanScale || w.nanScale
  let invalid := prods.any (fun p => decide (p.2 = flNV))
  let posInf := prods.any (fun p => p.1 == Num.inf false)
  let negInf := prods.any (fun p => p.1 == Num.inf true)
  if opNaN then (nan32, fl)
  else if invalid || (posInf && negInf) then (nan32, fl ||| flNV)
  else if posInf then (fp32.infCode false, fl)
  else if negInf then (fp32.infCode true, fl)
  else if p16 then
    let qs := prods.map (fun p => toFp32 (p.1.scale x))
    let (r, g) := treeSum 5 (qs.map Prod.fst)
    (r, qs.foldl (fun acc q => acc ||| q.2) (fl ||| g))
  else
    let allNegZero := prods.all (fun p => match p.1 with | .fin s m _ => s && decide (m = 0) | _ => false)
    let exact := prods.foldl (fun acc p => (numAdd acc p.1).1) (Num.fin true 0 0)
    let exact' : Num := match exact with
      | .fin s m e => if m = 0 then .fin allNegZero 0 e else .fin s m e
      | y => y
    let (r, g) := toFp32 (exact'.scale x)
    (r, fl ||| g)

/-- The chunk sum of R73 over the four groups of a K-chunk of 128. -/
def chunkSum (p16 : Bool) (as ws : List Block32) : Nat × Nat :=
  let g := List.zipWith (groupValue p16) as ws
  let v (i : Nat) : Nat := (g.getD i (0, 0)).1
  let (x, f0) := fpAdd (v 0) (v 1)
  let (y, f1) := fpAdd (v 2) (v 3)
  let (z, f2) := fpAdd x y
  (z, g.foldl (fun acc q => acc ||| q.2) (f0 ||| f1 ||| f2))

/-- One element decoded to FP32 (R79): scaled, exact, except that an overflow becomes an infinity with OF, which differs from the exact
value and so sets NX too (R87). -/
def loadElem (b : Block32) (i : Nat) : Nat × Nat :=
  if b.nanScale then (nan32, b.flags)
  else
    let (r, f) := toFp32 ((b.elems.getD i (.fin false 0 0)).scale b.scale)
    (r, b.flags ||| f)

/-- The element format of a format that stores floating-point codes. -/
def Fmt.fp : Fmt → FpFmt
  | .bf16 => Machine.bf16
  | .fp16 => Machine.fp16
  | .e4m3 | .mxe4m3 => Machine.e4m3
  | .e5m2 | .mxe5m2 => Machine.e5m2
  | .mxe2m3 => Machine.e2m3
  | .mxe3m2 => Machine.e3m2
  | .mxfp4 | .glo4 => Machine.e2m1
  | _ => Machine.fp32

/-- emax of R82. -/
def Fmt.emax : Fmt → Int
  | .mxe4m3 => 8
  | .mxe5m2 => 15
  | .mxe2m3 => 2
  | .mxe3m2 => 4
  | .mxfp4 => 2
  | _ => 0

/-- Conversion of one lane to a format without block scales (R80, R81, R83). FP32 stores the bits unchanged. -/
def storeElem (f : Fmt) (mode : Rnd) (sat : Bool) (zp : Nat) (c u : Nat) : Nat × Nat :=
  match f with
  | .fp32 => (c, 0)
  | .s8 => convInt 8 true (zpValue f zp) mode (fp32.decode c) u
  | .u8 => convInt 8 false (zpValue f zp) mode (fp32.decode c) u
  | .s4 => convInt 4 true (zpValue f zp) mode (fp32.decode c) u
  | .u4 => convInt 4 false (zpValue f zp) mode (fp32.decode c) u
  | _ => convFp f.fp mode sat (fp32.decode c) u

/-- Conversion of 32 lanes to one MX block (R82): scale byte, element codes and flags. A block that an infinite input makes NaN is a NaN
produced from inputs that are none, so NV stands beside OF (R87).
Log entry 21 (DEDUCED, unsafe). -/
def storeBlock (f : Fmt) (mode : Rnd) (sat : Bool) (lanes us : List Nat) : Nat × List Nat × Nat :=
  let xs := lanes.map fp32.decode
  if xs.any (· == Num.nan) then (255, lanes.map (fun _ => 0), flNV)
  else if !sat && xs.any (fun x => match x with | .inf _ => true | _ => false) then
    (255, lanes.map (fun _ => 0), flOF ||| flNV)
  else
    let ys := xs.map (fun x => match x with
      | .inf s => Num.fin s fp32.maxM fp32.maxE
      | y => y)
    let amax := ys.foldl (fun acc y => match y with
      | .fin _ m e => if m ≠ 0 then max acc (magLog2 m e) else acc
      | _ => acc) (-1000 : Int)
    let x : Int := if amax = -1000 then -127 else max (-127) (min 127 (amax - f.emax))
    let conv (y : Num) (u : Nat) : Nat × Nat :=
      match f with
      | .mxint8 =>
        match y.scale (6 - x) with
        | .fin s m e =>
          let (r, ix) := roundInt mode s m e u
          let (q, cl) := clampI (-128) 127 r
          (wrapInt 8 q, (if ix || cl then flNX else 0) ||| (if cl then flSAT else 0))
        | _ => (0, 0)
      | _ => convMxElem f.fp mode (y.scale (-x)) u
    let es := List.zipWith conv ys us
    ((x + 127).toNat, es.map Prod.fst, es.foldl (fun acc e => acc ||| e.2) 0)

end Sys2Proof.Machine
end

