-- ==== Sys2Proof/Machine/TileInsn.lean ====
section
/-! DEFINITION. The tile instruction set as functions of one tile (R91 to R113): scalar, matrix, vector and macro
operations. Each answers the tile after it and the numeric flags it sets, or the fault that it raises. -/
namespace Sys2Proof.Machine

/-- Tile faults that stop the sequencer (R123), by code. -/
def tfILLEGAL : Nat := 0x0110
def tfRANGE : Nat := 0x0111
def tfALIGN : Nat := 0x0112

/-- The result of an instruction on a tile: the tile and its flags (R87), or a fault code. -/
inductive TRes where
  | ok (x : Tile) (flags : Nat)
  | fault (code : Nat)

/-- A scalar register: s0 reads zero (R91). -/
def Tile.s (x : Tile) (i : Nat) : W64 := if i = 0 then 0 else SMap.get 0 x.sregs i

/-- Write a scalar register: writes to s0 are discarded (R91). -/
def Tile.setS (x : Tile) (i : Nat) (v : W64) : Tile := if i = 0 then x else { x with sregs := SMap.set x.sregs i v }

/-- A vector register: 256 FP32 lanes. -/
def Tile.v (x : Tile) (i : Nat) : List W32 := SMap.get (List.replicate 256 0) x.vregs i

/-- Write a vector register. -/
def Tile.setV (x : Tile) (i : Nat) (l : List W32) : Tile := { x with vregs := SMap.set x.vregs i l }

/-- The lanes of a vector register as FP32 codes. -/
def Tile.lanes (x : Tile) (i : Nat) : List Nat := (x.v i).map BitVec.toNat

/-- FP32 codes as a register value. -/
def ofLanes (l : List Nat) : List W32 := l.map (BitVec.ofNat 32)

/-- An accumulator tile: 128 rows of 128 FP32 elements, row-major. -/
def Tile.a (x : Tile) (i : Nat) : List W32 := SMap.get (List.replicate 16384 0) x.acc i

/-- Write an accumulator tile. -/
def Tile.setA (x : Tile) (i : Nat) (l : List W32) : Tile := { x with acc := SMap.set x.acc i l }

/-- A byte of tile SRAM. -/
def Tile.byte (x : Tile) (a : Nat) : Nat := (SMap.get 0 x.sram a).toNat

/-- Bytes of tile SRAM. -/
def Tile.rdBytes (x : Tile) (a n : Nat) : List Byte := Bytes.read 0 x.sram a n

/-- Store bytes in tile SRAM. -/
def Tile.wr (x : Tile) (a : Nat) (bs : List Byte) : Tile := { x with sram := Bytes.write 0 x.sram a bs }

/-- A register plus a sign-extended immediate, modulo 2^64. -/
def Tile.addrS (x : Tile) (sa : Nat) (imm : BitVec 32) : Nat := (x.s sa + imm.signExtend 64).toNat

/-- A register plus a zero-extended offset, modulo 2^64. -/
def Tile.addrZ (x : Tile) (sa : Nat) (off : Nat) : Nat := (x.s sa + BitVec.ofNat 64 off).toNat

/-! ### Scalar class (R99) -/

/-- An operation on two scalar registers. -/
def scalarOp (op : W64 → W64 → W64) (sd sa sb : Nat) (x : Tile) : TRes := .ok (x.setS sd (op (x.s sa) (x.s sb))) 0

/-- An operation on a scalar register and the immediate. -/
def scalarImm (op : W64 → W64) (sd sa : Nat) (x : Tile) : TRes := .ok (x.setS sd (op (x.s sa))) 0

/-- Arithmetic of the scalar class. -/
def opShl (a b : W64) : W64 := a <<< (b.toNat % 64)
def opShr (a b : W64) : W64 := a >>> (b.toNat % 64)
def opSra (a b : W64) : W64 := a.sshiftRight (b.toNat % 64)
def opSlt (a b : W64) : W64 := if a.slt b then 1 else 0
def opSltu (a b : W64) : W64 := if a.ult b then 1 else 0
def opMin (a b : W64) : W64 := if b.slt a then b else a
def opMax (a b : W64) : W64 := if a.slt b then b else a
def opLui (imm : BitVec 32) (a : W64) : W64 := (imm.zeroExtend 64 <<< 32) ||| (a &&& 0xFFFFFFFF)

/-- A load of `n` bytes, zero-extended; alignment is checked before the range (R89). -/
def scalarLoad (n sd sa : Nat) (imm : BitVec 32) (x : Tile) : TRes :=
  let a := x.addrS sa imm
  if a % n ≠ 0 then .fault tfALIGN
  else if !inSram a n then .fault tfRANGE
  else .ok (x.setS sd (BitVec.ofNat 64 (leNat (x.rdBytes a n)))) 0

/-- A store of the low `n` bytes of a register. -/
def scalarStore (n sa sb : Nat) (imm : BitVec 32) (x : Tile) : TRes :=
  let a := x.addrS sa imm
  if a % n ≠ 0 then .fault tfALIGN
  else if !inSram a n then .fault tfRANGE
  else .ok (x.wr a (leBytes n (x.s sb).toNat)) 0

/-- The target of a branch or of JAL: pc + sext(IMM) × 8, modulo 2^64. -/
def Tile.target (x : Tile) (imm : BitVec 32) : Nat := (BitVec.ofNat 64 x.pc + imm.signExtend 64 * 8).toNat

/-- A conditional branch: the tile with its pc moved. -/
def branch (cond : W64 → W64 → Bool) (sa sb : Nat) (imm : BitVec 32) (x : Tile) : TRes :=
  .ok { x with pc := if cond (x.s sa) (x.s sb) then x.target imm else x.pc + 8 } 0

/-- JAL: sd = pc + 8, then the jump. -/
def jal (sd : Nat) (imm : BitVec 32) (x : Tile) : TRes :=
  .ok { x.setS sd (BitVec.ofNat 64 (x.pc + 8)) with pc := x.target imm } 0

/-- JR: a misaligned target raises ALIGN. -/
def jr (sa : Nat) (x : Tile) : TRes :=
  let a := (x.s sa).toNat
  if a % 8 ≠ 0 then .fault tfALIGN else .ok { x with pc := a } 0

/-! ### Matrix class (R101, R102) -/

/-- The zero point of a row: none set, one per operand, or one per row (R101). -/
def zpOf (l : List Nat) (r : Nat) : Nat :=
  match l with
  | [] => 0
  | [z] => z
  | _ => l.getD r 0

/-- Bytes of the weight tile of a 5-bit format code. -/
def weightBytes (c : Nat) : Nat := tileBytes (Fmt.ofCode (c % 16)) (decide (16 ≤ c))

/-- MLW: load a weight buffer.
Log entry 23 (DEDUCED, unsafe). -/
def mlw (sa fmt : Nat) (buf : Bool) (off : Nat) (x : Tile) : TRes :=
  let a := x.addrZ sa off
  if !fmtWeightOk fmt then .fault tfILLEGAL
  else if a % 128 ≠ 0 then .fault tfALIGN
  else if !inSram a (weightBytes fmt) then .fault tfRANGE
  else
    let w : Option WBuf := some { fmt := fmt, bytes := x.rdBytes a (weightBytes fmt) }
    .ok (if buf then { x with wbuf1 := w } else { x with wbuf0 := w }) 0

/-- A byte of a loaded weight tile. -/
def WBuf.byte (w : WBuf) (i : Nat) : Nat := (w.bytes.getD i 0).toNat

/-- The four blocks of chunk `h` of row `n` of a loaded weight tile. -/
def WBuf.blocks (w : WBuf) (zp : List Nat) (n h : Nat) : List Block32 :=
  (List.range 4).map (fun g => readBlock w.byte (Fmt.ofCode (w.fmt % 16)) (decide (16 ≤ w.fmt)) (zpOf zp n) n (4 * h + g))

/-- The four blocks of chunk `h` of activation row `r`: chunk 1 reads the tile that immediately follows. -/
def Tile.actBlocks (x : Tile) (f : Fmt) (base r h : Nat) : List Block32 :=
  (List.range 4).map (fun g => readBlock (fun i => x.byte (base + h * tileBytes f false + i)) f false (zpOf x.zpA r) r g)

/-- One element of the accumulator tile after an MMA, over the chunks of the weight tile, with flags. -/
def mmaElem (p16 start : Bool) (acts ws : List (List Block32)) (old : Nat) : Nat × Nat :=
  let cs := List.zipWith (chunkSum p16) acts ws
  match cs with
  | [] => (old, 0)
  | (c0, f0) :: rest =>
    let (r0, g0) := if start then (c0, 0) else fpAdd old c0
    rest.foldl (fun acc c => let (r, g) := fpAdd acc.1 c.1; (r, acc.2 ||| c.2 ||| g)) (r0, f0 ||| g0)

/-- MMA: `m` activation rows against a weight buffer. The whole activation tile must lie in tile SRAM, rows beyond `m` included.
Log entry 23 (DEDUCED, unsafe). -/
def mma (sa sm fmt acc : Nat) (start buf : Bool) (off : Nat) (x : Tile) : TRes :=
  let m := (x.s sm).toNat
  let a := x.addrZ sa off
  match (if buf then x.wbuf1 else x.wbuf0) with
  | none => .fault tfILLEGAL
  | some w =>
    let f := Fmt.ofCode fmt
    if m = 0 ∨ 128 < m ∨ 16 ≤ fmt ∨ !fmtActOk fmt then .fault tfILLEGAL
    else
      match ratePair f (Fmt.ofCode (w.fmt % 16)) with
      | none => .fault tfILLEGAL
      | some rc =>
        let chunks := if 16 ≤ w.fmt then 2 else 1
        if a % 128 ≠ 0 then .fault tfALIGN
        else if !inSram a (chunks * tileBytes f false) then .fault tfRANGE
        else
          let p16 := rc == .r16
          let hs := List.range chunks
          let wb := (List.range 128).map (fun n => hs.map (fun h => w.blocks x.zpW n h))
          let old := x.a acc
          let row (r : Nat) : List (Nat × Nat) :=
            let ab := hs.map (fun h => x.actBlocks f a r h)
            List.zipWith (fun ws o => mmaElem p16 start ab ws o) wb (((old.drop (128 * r)).take 128).map BitVec.toNat)
          let rows := (List.range m).flatMap row
          .ok (x.setA acc (ofLanes (rows.map Prod.fst) ++ old.drop (128 * m))) (rows.foldl (fun f e => f ||| e.2) 0)

/-- MZP: set the zero point of an operand, from a register or 128 bytes of SRAM. -/
def mzp (sa sz : Nat) (opnd rowwise : Bool) (off : Nat) (x : Tile) : TRes :=
  let put (l : List Nat) : TRes := .ok (if opnd then { x with zpA := l } else { x with zpW := l }) 0
  if rowwise then
    let a := x.addrZ sa off
    if a % 128 ≠ 0 then .fault tfALIGN
    else if !inSram a 128 then .fault tfRANGE
    else put ((List.range 128).map (fun i => x.byte (a + i)))
  else put [(x.s sz).toNat % 256]

/-- MSPILL: the 65,536 bytes of an accumulator tile to SRAM. -/
def mspill (sa acc off : Nat) (x : Tile) : TRes :=
  let a := x.addrZ sa off
  if a % 128 ≠ 0 then .fault tfALIGN
  else if !inSram a 65536 then .fault tfRANGE
  else .ok (x.wr a ((x.a acc).flatMap (fun e => leBytes 4 e.toNat))) 0

/-- `n` words of 32 bits from SRAM. -/
def Tile.words (x : Tile) (a n : Nat) : List W32 := (List.range n).map (fun i => BitVec.ofNat 32 (rd32 x.byte (a + 4 * i)))

/-- MFILL: an accumulator tile from SRAM. -/
def mfill (sa acc off : Nat) (x : Tile) : TRes :=
  let a := x.addrZ sa off
  if a % 128 ≠ 0 then .fault tfALIGN
  else if !inSram a 65536 then .fault tfRANGE
  else .ok (x.setA acc (x.words a 16384)) 0

/-- MZERO: every element +0. -/
def mzero (acc : Nat) (x : Tile) : TRes := .ok (x.setA acc (List.replicate 16384 0)) 0

/-! ### Vector class (R104 to R107) -/

/-- The second source: a vector register, or the low 32 bits of a scalar in all lanes (BS). -/
def Tile.vbOr (x : Tile) (vb : Nat) (bs : Bool) (sb : Nat) : List Nat :=
  if bs then List.replicate 256 ((x.s sb).toNat % 2 ^ 32) else x.lanes vb

/-- Lane results with flags into a register. -/
def laneRes (x : Tile) (vd : Nat) (l : List (Nat × Nat)) : TRes :=
  .ok (x.setV vd (ofLanes (l.map Prod.fst))) (l.foldl (fun f e => f ||| e.2) 0)

/-- A lane operation on two sources. -/
def vec2 (op : Nat → Nat → Nat × Nat) (vd va vb : Nat) (bs : Bool) (sb : Nat) (x : Tile) : TRes :=
  laneRes x vd (List.zipWith op (x.lanes va) (x.vbOr vb bs sb))

/-- A lane operation on one source. -/
def vec1 (op : Nat → Nat × Nat) (vd va : Nat) (x : Tile) : TRes := laneRes x vd ((x.lanes va).map op)

/-- A result without flags. -/
def noFlag (op : Nat → Nat → Nat) (a b : Nat) : Nat × Nat := (op a b, 0)

/-- All ones for true. -/
def laneMask (c : Bool) : Nat := if c then 0xFFFFFFFF else 0

/-- VFMA: va × vb + vc with one rounding. -/
def vfma (vd va vb vc : Nat) (bs : Bool) (sb : Nat) (x : Tile) : TRes :=
  laneRes x vd (List.zipWith (fun ab c => fpFma ab.1 ab.2 c) ((x.lanes va).zip (x.vbOr vb bs sb)) (x.lanes vc))

/-- VSEL: bit for bit by vc ≠ 0. -/
def vsel (vd va vb vc : Nat) (bs : Bool) (sb : Nat) (x : Tile) : TRes :=
  laneRes x vd (List.zipWith (fun ab c => ((if c ≠ 0 then ab.1 else ab.2), 0))
    ((x.lanes va).zip (x.vbOr vb bs sb)) (x.lanes vc))

/-- The fixed pairwise tree of R72 with VMAX. -/
def treeMax : Nat → List Nat → Nat
  | 0, l => l.headD 0
  | n + 1, l => fpMax (treeMax n (l.take (2 ^ n))) (treeMax n (l.drop (2 ^ n)))

/-- A reduction into lane 0; the other lanes are +0. -/
def vreduce (r : List Nat → Nat × Nat) (vd va : Nat) (x : Tile) : TRes :=
  let (v, f) := r (x.lanes va)
  .ok (x.setV vd (ofLanes (v :: List.replicate 255 0))) f

/-- VIOTA: FP32(i). -/
def viota (vd : Nat) (x : Tile) : TRes :=
  .ok (x.setV vd (ofLanes ((List.range 256).map (fun i => (toFp32 (numOfInt (Int.ofNat i) 0 false)).1)))) 0

/-- VBCAST. -/
def vbcast (vd sb : Nat) (x : Tile) : TRes := .ok (x.setV vd (List.replicate 256 ((x.s sb).setWidth 32))) 0

/-- VFN: a function unit; codes 14 to 31 are not listed. -/
def vfn (vd va fn : Nat) (x : Tile) : TRes := if fn < 14 then vec1 (vfnLane fn) vd va x else .fault tfILLEGAL

/-- One row of an engine-ready tile decoded to FP32 (R79, R105). -/
def Tile.loadRow (x : Tile) (f : Fmt) (base r : Nat) : List (Nat × Nat) :=
  (List.range 4).flatMap (fun g =>
    let blk := readBlock (fun i => x.byte (base + i)) f false (zpOf x.zpA r) r g
    (List.range 32).map (loadElem blk))

/-- VLD: rows 2j and 2j + 1 of an engine-ready tile; FP32 rows move with no conversion. The whole tile must lie in tile SRAM, the rows that
are not read included.
Log entry 23 (DEDUCED, unsafe). -/
def vld (vd sa fmt j : Nat) (x : Tile) : TRes :=
  let a := (x.s sa).toNat
  let f := Fmt.ofCode fmt
  if !fmtLoadOk fmt then .fault tfILLEGAL
  else if !inSram a (tileBytes f false) then .fault tfRANGE
  else if f == .fp32 then .ok (x.setV vd (x.words (a + 1024 * j) 256)) 0
  else laneRes x vd (x.loadRow f a (2 * j) ++ x.loadRow f a (2 * j + 1))

/-- The random words of stochastic rounding for one row (R86, R106). -/
def Tile.srWords (x : Tile) (r : Nat) : List Nat :=
  let (seq, step, pos) := rowRecord x.byte x.rowCtx r
  let (op, til) := match x.rowCtx with
    | none => (0, 0)
    | some c => (c.opId, c.tile)
  (List.range 32).flatMap (fun q => philox [op, til, r * 32 + q, pos] seq step)

/-- Elements packed into the bytes of a row (R59). -/
def packRow (w : Nat) (l : List Nat) : List Byte := leBytes (l.length * w / 8) (l.foldr (fun e acc => e % 2 ^ w + 2 ^ w * acc) 0)

/-- One row encoded: element bytes, scale bytes and flags (R80 to R83, R105). An integer target takes the zero point of the activation operand.
Log entry 23 (DEDUCED, unsafe). -/
def Tile.storeRow (x : Tile) (f : Fmt) (mode : Rnd) (sat : Bool) (r : Nat) (lanes : List Nat) : List Byte × List Byte × Nat :=
  let us := if mode == .sr then x.srWords r else List.replicate 128 0
  if f.scaled then
    let bl := (List.range 4).map (fun g => storeBlock f mode sat ((lanes.drop (32 * g)).take 32) ((us.drop (32 * g)).take 32))
    (packRow f.width (bl.flatMap (fun q => q.2.1)), bl.map (fun q => BitVec.ofNat 8 q.1), bl.foldl (fun a q => a ||| q.2.2) 0)
  else
    let es := List.zipWith (storeElem f mode sat (zpOf x.zpA r)) lanes us
    (packRow f.width (es.map Prod.fst), [], es.foldl (fun a q => a ||| q.2) 0)

/-- VST: rows 2j and 2j + 1 of an engine-ready tile; FP32 ignores RND and SAT, but RND 0b101 to 0b111 raises ILLEGAL_INSN for every format.
The whole tile must lie in tile SRAM.
Log entry 23 (DEDUCED, unsafe). -/
def vst (vd sa fmt rnd : Nat) (sat : Bool) (j : Nat) (x : Tile) : TRes :=
  let a := (x.s sa).toNat
  let f := Fmt.ofCode fmt
  match Rnd.ofCode rnd with
  | none => .fault tfILLEGAL
  | some mode =>
    if !fmtStoreOk fmt then .fault tfILLEGAL
    else if !inSram a (tileBytes f false) then .fault tfRANGE
    else if f == .fp32 then .ok (x.wr (a + 1024 * j) ((x.v vd).flatMap (fun e => leBytes 4 e.toNat))) 0
    else
      let l := x.lanes vd
      let (e0, s0, f0) := x.storeRow f mode sat (2 * j) (l.take 128)
      let (e1, s1, f1) := x.storeRow f mode sat (2 * j + 1) (l.drop 128)
      .ok ((x.wr (a + 2 * j * rowBytes f) (e0 ++ e1)).wr (a + scaleBase f + 8 * j) (s0 ++ s1)) (f0 ||| f1)

/-- VLDA: two accumulator rows into a register. -/
def vlda (vd acc j : Nat) (x : Tile) : TRes := .ok (x.setV vd (((x.a acc).drop (256 * j)).take 256)) 0

/-- VSTA: a register into two accumulator rows. -/
def vsta (vd acc j : Nat) (x : Tile) : TRes :=
  let o := x.a acc
  .ok (x.setA acc (o.take (256 * j) ++ x.v vd ++ o.drop (256 * j + 256))) 0

/-- VLDL: 1,024 bytes of FP32 at s[SA] + zext(IMM) × 128. -/
def vldl (vd sa imm : Nat) (x : Tile) : TRes :=
  let a := x.addrZ sa (imm * 128)
  if !inSram a 1024 then .fault tfRANGE else .ok (x.setV vd (x.words a 256)) 0

/-- VSTL: 1,024 bytes of FP32. -/
def vstl (vd sa imm : Nat) (x : Tile) : TRes :=
  let a := x.addrZ sa (imm * 128)
  if !inSram a 1024 then .fault tfRANGE else .ok (x.wr a ((x.v vd).flatMap (fun e => leBytes 4 e.toNat))) 0

/-- VSRCTX: the stochastic context (R106). -/
def vsrctx (sa sb : Nat) (x : Tile) : TRes :=
  let a := (x.s sa).toNat
  let c := (x.s sb).toNat
  if a % 128 ≠ 0 then .fault tfALIGN
  else if !inSram a 2048 then .fault tfRANGE
  else .ok { x with rowCtx := some { opId := c % 2 ^ 32, tile := c / 2 ^ 32, table := a } } 0

/-- VEXT: one lane into a scalar register. -/
def vext (sd va i : Nat) (x : Tile) : TRes := .ok (x.setS sd (((x.v va).getD i 0).zeroExtend 64)) 0

/-- A macro-operation on the parameter block at s[SA]: bytes written and status 0, or status 1 and nothing (R108). -/
def macroOp (f : (Nat → Nat) → Nat → Option (Nat × List Byte)) (sd sa : Nat) (x : Tile) : TRes :=
  match f x.byte (x.s sa).toNat with
  | some (dst, bs) => .ok ((x.wr dst bs).setS sd 0) 0
  | none => .ok (x.setS sd 1) 0

end Sys2Proof.Machine
end

