-- ==== Sys2Proof/Machine/Barriers.lean ====
section
/-! DEFINITION. Tiles as parts of the block, and the barrier engine (R166 to R170). -/
namespace Sys2Proof.Machine

/-- A tile after reset (R127). -/
def tileReset : Tile :=
  { sregs := [], vregs := [], acc := [], sram := [], wbuf0 := none, wbuf1 := none, zpW := [], zpA := [], rowCtx := none
    tenant := 0, tags := [], pc := 0, seq := .idle, wait := none, launchTick := 0, lateness := 0, launch := none
    bakeDesc := none, idleWin := none, knockSince := 0, rampAt := none, lastMat := none, retireDue := 0
    ucode := [], shadow := [], badRead := false }

/-- A tile. -/
def Block.tile (b : Block) (t : Nat) : Tile := SMap.get tileReset b.tiles t

/-- Put a tile back. -/
def Block.setTile (b : Block) (t : Nat) (x : Tile) : Block := { b with tiles := SMap.set b.tiles t x }


/-- The owning partition of a tile, from its committed TIL_ASSIGN. -/
def Block.tilePart (b : Block) (t : Nat) : Nat := b.eff (pgTile t) F.TIL_ASSIGN.PART

/-- A waiting instruction ends: its result is written and the program goes on. -/
def Tile.resume (x : Tile) (rd : Nat) (v : Nat) : Tile :=
  { x.setS rd (BitVec.ofNat 64 v) with wait := none, pc := x.pc + 8 }

/-- A tile's fault report names its owning partition (R441). -/
def Block.reportTile (b : Block) (t code : Nat) (detail : Nat := 0) : Block :=
  b.report { page := pgTile t, code := code, island := t, detail := detail, part := some (b.tilePart t) }

/-- A Score without entries. -/
def scoreEmpty : Score := { entries := [], arriving := [], held := [], lastRead := 0, fired := [], head := none }

/-- The Score of an island (R157). -/
def Block.score (b : Block) (i : Nat) : Score := SMap.get scoreEmpty b.scores i

/-- Put a Score back. -/
def Block.setScore (b : Block) (i : Nat) (x : Score) : Block := { b with scores := SMap.set b.scores i x }

end Sys2Proof.Machine

namespace Sys2Proof
open Machine

/-- Fields of a Score entry (R158). -/
def ScoreEntry.code (e : ScoreEntry) : Nat := bits e.action 0 8
def ScoreEntry.rise (e : ScoreEntry) : Bool := bit e.action 8
def ScoreEntry.arg (e : ScoreEntry) : Nat := bits e.action 16 16
def ScoreEntry.island (e : ScoreEntry) : Nat := bits e.target 0 9
def ScoreEntry.slot (e : ScoreEntry) : Nat := bits e.target 9 6
def ScoreEntry.isRemote (e : ScoreEntry) : Bool := bit e.target 15
def ScoreEntry.part (e : ScoreEntry) : Nat := bits e.target 16 4
def ScoreEntry.waitBar (e : ScoreEntry) : Nat := bits e.barw 0 12
def ScoreEntry.arriveBar (e : ScoreEntry) : Nat := bits e.barw 16 12
def ScoreEntry.fence (e : ScoreEntry) : Nat := bits e.barw 32 16
def ScoreEntry.bakeTag (e : ScoreEntry) : Nat := bits e.barw 48 8

end Sys2Proof

namespace Sys2Proof.Machine

/-- A partition without a bake. -/
def bakeNone : Bake :=
  { active := false, watched := false, bakeNo := 0, start := 0, planEnd := 0, desc := 0, members := 0, plan := 0, barCount := 0, layers := []
    rounds := [], votes := [], voteSent := [], pushQ := [] }

/-- The bake of a partition. -/
def Block.bake (b : Block) (k : Nat) : Bake := SMap.get bakeNone b.bakes k

/-- Put a bake back. -/
def Block.setBake (b : Block) (k : Nat) (x : Bake) : Block := { b with bakes := SMap.set b.bakes k x }

/-- The bake in progress of a partition carries a tag: bits [7:0] of its BAKE_NO (R158). -/
def Block.tagCurrent (b : Block) (k tag : Nat) : Bool := (b.bake k).active && decide ((b.bake k).bakeNo % 256 = tag)

/-- The key of a barrier. -/
def barKey (k id : Nat) : Nat := k * 4096 + id

/-- A barrier; one above BAR_COUNT acts as a record of zero, complete at the opening of the bake (R166, R167). -/
def Block.bar (b : Block) (k id : Nat) : Bar :=
  match (if id < 4096 then SMap.find b.bars (barKey k id) else none) with
  | some x => x
  | none =>
    { expect := 0, rack := false, arrivals := 0, doneFrom := 0, localDone := true
      st := .completed ((b.bake k).start + b.eff pgTbs F.TBS_BAR.RELEASE_LEAD) }

/-- Put a barrier back. -/
def Block.setBar (b : Block) (k id : Nat) (x : Bar) : Block := { b with bars := SMap.set b.bars (barKey k id) x }

/-- A stale arrival, message or entry is counted (R163, R170, R175). -/
def Block.countStale (b : Block) (n : Nat := 1) : Block :=
  if n = 0 then b else (b.bump pgTbs F.TBS_CNT1.STALE_CNT 0 n).raise pgTbs 6

/-- The body of BAR_DONE (R370): partition, BAKE_TAG, barrier, FAILED. -/
def barDoneBody (k tag id : Nat) (failed : Bool) : List Byte := leBytes 1 k ++ leBytes 1 tag ++ leBytes 2 id ++ leBytes 1 (b2n failed)

/-- Tell the other members that a rack barrier is locally complete or failed (R167, R169). -/
def Block.sendBarDone (b : Block) (k id : Nat) (failed : Bool) : Block :=
  b.castCtrl (b.bake k).members ckBAR_DONE (barDoneBody k ((b.bake k).bakeNo % 256) id failed)

/-- Every tile whose BARW waits on a barrier of a partition gets `v`. -/
def Block.wakeBarw (b : Block) (k id v : Nat) : Block :=
  (List.range 288).foldl (fun b t =>
    match (b.tile t).wait with
    | some (.barw w rd _) => if w = id ∧ b.tilePart t = k then b.setTile t ((b.tile t).resume rd v) else b
    | _ => b) b

/-- A pending entry waits on a barrier of the bake in progress. -/
def waitsOn (k id : Nat) (e : ScoreEntry) : Bool := decide (e.part = k) && decide (e.waitBar = id)

/-- The ARRIVE_BARs of the entries that a failing barrier discards: every waiter but program starts (R169). -/
def Block.failedArrivals (b : Block) (k id : Nat) : List Nat :=
  b.scores.flatMap (fun p => (p.2.entries.filter (fun x => waitsOn k id x.e && decide (x.e.code ≠ 1))).map (fun x => x.e.arriveBar))

/-- Take the waiters that a failing barrier discards out of every Score. -/
def Block.dropWaiters (b : Block) (k id : Nat) : Block :=
  { b with scores := b.scores.map (fun p =>
      (p.1, { p.2 with entries := p.2.entries.filter (fun x => !(waitsOn k id x.e && decide (x.e.code ≠ 1))) })) }

/-- Barriers fail one after the other: each entry of the list names a barrier and the code 1 (timeout) or 2 (failed).
A barrier that is no longer open only counts as excess when an arrival reaches it. -/
def Block.failBars (b : Block) : Nat → List (Nat × Nat × Nat) → Block
  | 0, _ => b
  | _ + 1, [] => b
  | n + 1, (k, id, code) :: rest =>
    if id = 0 then b.failBars n rest
    else
      let x := b.bar k id
      match x.st with
      | .opened =>
        let b1 := b.setBar k id { x with st := .failed code }
        let b2 := ((b1.bump pgTbs F.TBS_CNT3.BAR_FAIL_CNT).raise pgTbs 5).reportPage pgTbs 0x0405
        let b3 := if x.rack then b2.sendBarDone k id true else b2
        let b4 := b3.wakeBarw k id code
        let arr := b4.failedArrivals k id
        (b4.dropWaiters k id).failBars n (rest ++ arr.map (fun a => (k, a, 2)))
      | _ => (b.reportPage pgTbs 0x0406).failBars n rest

/-- More than every barrier and entry of the package: as many steps as a chain of failures can take. -/
def Block.failFuel (b : Block) : Nat :=
  b.bars.length + b.scores.foldl (fun n p => n + p.2.entries.length) 0 + 2

/-- A barrier of the bake in progress fails (R169). -/
def Block.failBar (b : Block) (k id code : Nat) : Block := b.failBars b.failFuel [(k, id, code)]

/-- A barrier that is complete on this package gets its release tick (R168). -/
def Block.completeBar (b : Block) (k id : Nat) : Block :=
  let x := b.bar k id
  b.setBar k id { x with st := .completed (b.now + b.eff pgTbs F.TBS_BAR.RELEASE_LEAD) }

/-- All other members have sent their completion messages. -/
def Block.allDone (b : Block) (k : Nat) (x : Bar) : Bool :=
  (bitIndices 64 (b.bake k).members).all (fun s => decide (s = b.slotId) || bit x.doneFrom s)

/-- The local part of a barrier is complete (R167). -/
def Block.localComplete (b : Block) (k id : Nat) : Block :=
  let x := { b.bar k id with localDone := true }
  let b1 := b.setBar k id x
  if x.rack then
    let b2 := b1.sendBarDone k id false
    if b2.allDone k x then b2.completeBar k id else b2
  else b1.completeBar k id

/-- A local arrival at barrier `id` of partition `k` under BAKE_TAG `tag` (R167, R169, R170); ID 0 names none. -/
def Block.arrive (b : Block) (k tag id : Nat) (failed : Bool) : Block :=
  if id = 0 then b
  else if !b.tagCurrent k tag then b.countStale
  else
    let x := b.bar k id
    match x.st with
    | .opened =>
      if failed then b.failBar k id 2
      else
        let x' := { x with arrivals := x.arrivals + 1 }
        let b1 := b.setBar k id x'
        if decide (x'.expect ≤ x'.arrivals) && !x'.localDone then b1.localComplete k id else b1
    | _ => b.reportPage pgTbs 0x0406

/-- The entry's action is complete: it arrives at its ARRIVE_BAR. -/
def Block.arriveEntry (b : Block) (e : ScoreEntry) (failed : Bool) : Block := b.arrive e.part e.bakeTag e.arriveBar failed

/-- The release tick of a barrier has come for the replica of a tile's island (R168). -/
def Block.barReleased (b : Block) (t k id : Nat) : Bool :=
  match (b.bar k id).st with
  | .released _ => true
  | .completed r => decide (r ≤ b.hearthAt t)
  | _ => false

/-- The release tick of a barrier, once it has one (R168). -/
def Block.barRel (b : Block) (k id : Nat) : Option Nat :=
  match (b.bar k id).st with
  | .released r => some r
  | .completed r => some r
  | _ => none

/-- The failure code of a barrier: 0 when it has not failed, 1 timeout, 2 failed.
Log entry 28 (DEDUCED, unsafe). -/
def Block.barFailed (b : Block) (k id : Nat) : Nat :=
  match (b.bar k id).st with
  | .failed c => c
  | _ => 0

/-- BAR_DONE: a completion message of member `src` (R167, R169, R170). -/
def Block.barDone (b : Block) (k tag id src : Nat) (failed : Bool) : Block :=
  if !b.tagCurrent k tag then b.countStale
  else
    let x := b.bar k id
    match x.st with
    | .opened =>
      if failed then b.failBar k id 2
      else
        let x' := { x with doneFrom := setBits x.doneFrom src 1 1 }
        let b1 := b.setBar k id x'
        if x'.localDone && b1.allDone k x' then b1.completeBar k id else b1
    | _ => b

/-- BAR_RELEASE: the release tick of a complete barrier has come; every BARW that waits on it returns 0 (R168). -/
def Block.barRelease (b : Block) (k id : Nat) : Block :=
  match (b.bar k id).st with
  | .completed r =>
    if r ≤ b.tb.replica then
      (b.setBar k id { b.bar k id with st := .released r }).wakeBarw k id 0
    else b
  | _ => b

/-- A waiter of an open barrier has waited for BAR_TIMEOUT: an entry from its LAUNCH, a BARW from its issue (R169). -/
def Block.barTimedOut (b : Block) (k id : Nat) : Bool :=
  let lim := b.eff pgTbs F.TBS_BAR.BAR_TIMEOUT * 1000
  b.scores.any (fun p => p.2.entries.any (fun x => waitsOn k id x.e && decide (x.e.launch + lim ≤ b.now)))
    || (List.range 288).any (fun t =>
      match (b.tile t).wait with
      | some (.barw w _ since) => decide (w = id) && decide (b.tilePart t = k) && decide (since + lim ≤ b.now)
      | _ => false)

/-- BAR_TIMEOUT (R169). -/
def Block.barTimeout (b : Block) (k id : Nat) : Block :=
  match (b.bar k id).st with
  | .opened => if b.barTimedOut k id then b.failBar k id 1 else b
  | _ => b

/-- The barriers of a bake close: a BARW that still waits returns status 2 (R169). -/
def Block.closeBars (b : Block) (k : Nat) : Block :=
  let b1 := (List.range 288).foldl (fun b t =>
    match (b.tile t).wait with
    | some (.barw _ rd _) => if b.tilePart t = k then b.setTile t ((b.tile t).resume rd 2) else b
    | _ => b) b
  { b1 with bars := SMap.dropKeys (fun x => decide (x / 4096 = k)) b1.bars }

/-- The barriers of a bake open with zero arrivals, from the records of its tick plan (R166, R167). -/
def Block.openBars (b : Block) (k base : Nat) : Nat → Block
  | 0 => b
  | n + 1 =>
    let b0 := b.openBars k base n
    let r := b0.m64 (base + 8 * n)
    let b1 := b0.setBar k (n + 1)
      { expect := bits r 0 16, rack := bit r 16, arrivals := 0, doneFrom := 0, localDone := false, st := .opened }
    if bits r 0 16 = 0 then b1.localComplete k (n + 1) else b1

end Sys2Proof.Machine
end

