-- ==== Sys2Proof/Machine/TileOps.lean ====
section
/-! DEFINITION. Issue of instructions on a tile of the block: the sequencer's checks (R93, R96, R122), tile faults (R123),
numeric flags (R87) and the end of a launch (R146, R147). -/
namespace Sys2Proof.Machine

/-- The cluster page of a tile: its router checks the keys of the tile's local requests (R356). -/
def tileClu (t : Nat) : Nat := pgClu (t / 12)

/-- The fault code that a launch reports for its status (R145, R169, R311); 0 for none. -/
def launchFault (status : Nat) : Nat :=
  match status % 256 with
  | 0x10 => 0x0170
  | 0x11 => 0x0171
  | 0x12 => 0x0172
  | 0x13 => 0x0173
  | 0x21 => 0x0120
  | 0x22 => 0x0174
  | 0x23 => 0x0904
  | _ => 0

/-- A tile writes bytes that lie on its own package, unprivileged under tenant 0x000 (R117); a refusal moves nothing. -/
def Block.tileWrite (b : Block) (t a : Nat) (bs : List Byte) : Block :=
  match b.localOff a with
  | some off => (b.writeNow off 0 false (tileClu t) bs).1
  | none => b

/-- An atomic of the shape layer on its own package (R147). -/
def Block.tileAtomic (b : Block) (t code a opd cmp : Nat) : Block :=
  match b.localOff a with
  | some off => (b.atomicLocal code off 0 false (tileClu t) opd cmp).1
  | none => b

/-- The completion record of R146. -/
def compRecord (opId status bucket passes n0 n1 : Nat) : List Byte :=
  leBytes 4 opId ++ leBytes 2 status ++ leBytes 1 bucket ++ leBytes 1 passes ++ leBytes 4 n0 ++ leBytes 4 n1

/-- All ones of a u64, the empty FIRST_FAIL (R132). -/
def ones64 : Nat := 2 ^ 64 - 1

/-- Steps 2 to 4 of R147 for a failing status: report, FAIL_COUNT and FIRST_FAIL of the bake descriptor. STARTER_BAD is a code of serving
control (R334). -/
def Block.launchFailed (b : Block) (t status opId : Nat) : Block :=
  if status % 256 < 0x10 then b
  else
    let b1 := if launchFault status = 0 then b
      else if launchFault status = 0x0904 then b.reportPart (pgPart (b.tilePart t)) 0x0904 (b.tilePart t)
      else b.reportTile t (launchFault status)
    match (b1.tile t).bakeDesc with
    | none => b1
    | some d =>
      let b2 := b1.tileAtomic t 0 (d + 0x70) 1 0
      b2.tileAtomic t 5 (d + 0x68) (status % 65536 * 2 ^ 32 + opId) ones64

/-- The last act of a launch: its failure, its completion record when `comp` names a place, and the arrival of its entry
at its ARRIVE_BAR. -/
def Block.launchDone (b : Block) (t status opId bucket passes n0 n1 : Nat) (comp : Option Nat) (e : ScoreEntry)
    (failed : Bool) : Block :=
  let b1 := b.launchFailed t status opId
  let b2 := match comp with
    | some a => b1.tileWrite t a (compRecord opId status bucket passes n0 n1)
    | none => b1
  b2.arriveEntry e failed

/-- BUCKET of the pass that runs: 0xFF before any pass. -/
def Launch.bucket (l : Launch) : Nat :=
  match l.passes with
  | p :: _ => p.i0 + 16 * p.i1
  | [] => 0xFF

/-- Passes started so far, the running one included. -/
def Launch.ran (l : Launch) : Nat := l.total - (l.passes.length - 1)

/-- A launch that holds a completion record ends with a status.
Log entry 30 (DEDUCED, unsafe). -/
def Block.endLaunch (b : Block) (t : Nat) (l : Launch) (status : Nat) (bucket ran : Nat) : Block :=
  b.launchDone t status l.opId bucket ran l.n0 l.n1 (some l.comp) l.entry false

/-- A fault marked "stops" (R123): ERR, ERR_CODE, ERR_PC, PROG_ERR_EV, the report, and the PROG_FAULT record of the
launch that ran (R146).
Log entry 29 (DEDUCED, unsafe). -/
def Block.tileStop (b : Block) (t code : Nat) : Block :=
  let x := b.tile t
  let b1 := b.setTile t { x with seq := .err, wait := none, launch := none }
  let b2 := ((b1.put (pgTile t) F.TIL_ERR.ERR_CODE code).put (pgTile t) F.TIL_ERR_PC.ERR_PC x.pc).raise (pgTile t) 0
  let b3 := b2.reportTile t code (bits x.pc 3 16)
  match x.launch with
  | some l => b3.endLaunch t l (0x20 + code % 256 * 256) l.bucket l.ran
  | none => b3

/-- Flags of an operation are ORed into TIL_NSTAT (R87). -/
def Block.orNstat (b : Block) (t fl : Nat) : Block :=
  if fl = 0 then b else b.put (pgTile t) F.TIL_NSTAT.NSTAT (b.eff (pgTile t) F.TIL_NSTAT.NSTAT ||| fl)

/-- The issue level L of R122. -/
def Block.issueLevel (b : Block) (t : Nat) : Nat :=
  min (b.eff (pgTile t) F.TIL_ISSUE.GOV_LEVEL)
    (min (b.eff (pgTile t) F.TIL_ISSUE.RAMP_LEVEL) (if b.eff (pgTile t) F.TIL_ISSUE.DROOP = 1 then 8 else 16))

/-- What the issue limiter gates (R122). -/
inductive Gate where
  | none | matrix | vector

/-- The limiter lets no operation of a kind issue: the level is 0. -/
def Block.gated (b : Block) (t : Nat) (g : Gate) : Bool :=
  match g with
  | .none => false
  | .matrix => decide (b.issueLevel t = 0)
  | .vector => decide (b.eff (pgTile t) F.TIL_ISSUE.VEC_GOV = 1) && decide (b.issueLevel t = 0)

/-- The tile a transfer lands in, if it reads rack memory. -/
def Xfer.intoTile (x : Xfer) : Option Nat :=
  match x.kind, x.owner with
  | .write, _ => none
  | _, .tag t _ => some t
  | _, .stage t => some t
  | _, _ => none

/-- The ranges of a tile's SRAM that a transfer will write; a walk whose descriptor is still being read writes its whole range (R96). -/
def Xfer.landing (x : Xfer) (t : Nat) : List (Nat × Nat) :=
  match x.owner with
  | .walkDesc u _ dst limit => if u = t then [(dst, limit)] else []
  | _ => if x.intoTile = some t then x.pieces.map (fun p => (p.sram, p.len)) else []

/-- A transfer that still runs will write into a range of the tile's SRAM; the hazard rule holds an instruction that
touches it, by lines or by 4 KiB (R96).
Log entry 19 (DEDUCED, safe). -/
def Block.sramBusy (b : Block) (t a n : Nat) : Bool :=
  let g := if b.eff (pgTile t) F.TIL_X_SRAM.HAZ_LINE = 1 then 128 else 4096
  b.xfers.any (fun x => decide (x.phase ≠ .done) &&
    (x.landing t).any (fun p => decide (a / g * g < p.1 + p.2) && decide (p.1 / g * g < a + n)))

/-- The sequencer can issue: RUN, and no instruction waits. -/
def Block.canIssue (b : Block) (t : Nat) : Bool :=
  decide ((b.tile t).seq = .run) && decide ((b.tile t).wait = none)

/-- The 64-bit word at the pc of a tile, stored little-endian in its SRAM (R93). -/
def Tile.insnWord (x : Tile) : W64 := BitVec.ofNat 64 (leNat (x.rdBytes x.pc 8))

/-- The instruction that the sequencer of a tile fetches next; none where its word spells none (R93, R98). -/
def Block.fetched (b : Block) (t : Fin 288) : Option Instr := decodeInsn t (b.tile t).insnWord

/-- A tile issues what it fetches: a command of another instruction has no effect while the tile can issue (R93, R96).
Log entry 18 (DESIGN CHOICE, safe). -/
def Block.issue (b : Block) (t : Fin 288) (c : Option Instr) (go : Block → Block) : Block :=
  if b.canIssue t && decide ((b.tile t).pc < sramSize) && decide (b.fetched t ≠ c) then b else go b

/-- One instruction of a tile. It has no effect where the sequencer does not run, where an earlier instruction still
waits, where the limiter gates it, and where the hazard rule holds it; fetched outside tile SRAM it raises SRAM_RANGE (R89, R99). `jumps`
marks those that set the pc.
Log entry 18 (DESIGN CHOICE, safe). -/
def Block.insn (b : Block) (t : Nat) (g : Gate) (touch : Tile → List (Nat × Nat)) (jumps : Bool) (f : Tile → TRes) : Block :=
  if !b.canIssue t then b
  else
    let x := b.tile t
    if sramSize ≤ x.pc then b.tileStop t tfRANGE
    else if b.gated t g || (touch x).any (fun r => b.sramBusy t r.1 r.2) then b
    else
      match f x with
      | .fault c => b.tileStop t c
      | .ok y fl => (b.setTile t (if jumps then y else { y with pc := y.pc + 8 })).orNstat t fl

/-- An instruction that touches no SRAM. -/
def Block.insnReg (b : Block) (t : Nat) (f : Tile → TRes) : Block := b.insn t .none (fun _ => []) false f

/-- An instruction that touches `n` bytes of SRAM at an address.
Log entry 19 (DEDUCED, safe). -/
def Block.insnMem (b : Block) (t : Nat) (a : Tile → Nat) (n : Nat) (f : Tile → TRes) : Block :=
  b.insn t .none (fun x => [(a x, n)]) false f

/-- An instruction that moves the pc. -/
def Block.insnJump (b : Block) (t : Nat) (f : Tile → TRes) : Block := b.insn t .none (fun _ => []) true f

/-- ILLEGAL_INSN (R98): the sequencer stops at the instruction. -/
def Block.illegal (b : Block) (t : Nat) : Block := b.insn t .none (fun _ => []) false (fun _ => .fault tfILLEGAL)

/-- The pools of TIL_ASSIGN.POOL as CSRR reads them (R100). -/
def Block.tilePool (b : Block) (t : Nat) : Nat := b.eff (pgTile t) F.TIL_ASSIGN.POOL

/-- Hearth time as the replica of the management island counts it (R149). -/
def Block.hearth (b : Block) : Nat := b.hearthAt 399

/-- Cycles that a tile's clock has made in `n` ticks. How many fall into one tick, none to two, is a free value.
Log entry 20 (DESIGN CHOICE, safe). -/
def cyclesIn (t : Nat) : Nat → Nat
  | 0 => 0
  | n + 1 => cyclesIn t n + Config.tickCycles t n % 3

/-- CYCLE: cycles of the tile since reset, over the ticks with the tile clocks running (R100).
Log entry 20 (DESIGN CHOICE, safe). -/
def Block.cycle (b : Block) (t : Nat) : Nat := cyclesIn t b.tb.clocked

/-- A tile status word (R100). -/
def Block.csrWord (b : Block) (t w : Nat) : Option W64 :=
  let x := b.tile t
  match w with
  | 0 => some (BitVec.ofNat 64 (b.hearthAt t))
  | 1 => some (BitVec.ofNat 64 (b.cycle t))
  | 2 => some (BitVec.ofNat 64 t)
  | 3 => some (BitVec.ofNat 64 (b.tilePart t))
  | 4 => some (BitVec.ofNat 64 (b.tilePool t))
  | 5 => some (BitVec.ofNat 64 x.launchTick)
  | 6 => some (BitVec.ofNat 64 x.lateness)
  | _ => none

/-- CSRR: another word raises ILLEGAL_INSN. -/
def Block.csrr (b : Block) (t sd w : Nat) : Block :=
  match b.csrWord t w with
  | some v => b.insnReg t (fun x => .ok (x.setS sd v) 0)
  | none => b.illegal t

/-- MSPILL counts when it targets the spill area (R103). -/
def Block.mspillOp (b : Block) (t sa acc off : Nat) : Block :=
  let a := (b.tile t).addrZ sa off
  let base := b.eff (pgTile t) F.TIL_SPILL.SPILL_BASE * 65536
  let b1 := b.insn t .none (fun _ => [(a, 65536)]) false (mspill sa acc off)
  if (b1.tile t).seq = .run ∧ (b1.tile t).pc ≠ (b.tile t).pc ∧ base ≤ a
      ∧ a < base + b.eff (pgTile t) F.TIL_SPILL.SPILL_TILES * 65536 then
    b1.bumpWrap (pgTile t) F.TIL_SPILL_CNT.SPILL_CNT
  else b1

/-- MMA on the block: the tile notes when its matrix engine issued last (R182). -/
def Block.mmaOp (b : Block) (t sa sm fmt acc : Nat) (start buf : Bool) (off : Nat) : Block :=
  let now := b.now
  b.insn t .matrix (fun x => [(x.addrZ sa off, 2 * tileBytes (Fmt.ofCode fmt) false)]) false
    (fun x => match mma sa sm fmt acc start buf off x with
      | .ok y fl => .ok { y with lastMat := some now } fl
      | r => r)

/-- UE_CNT reaches 2: the tile is to retire for repeated uncorrectable errors (R129). -/
def retireBit (cause : Nat) : Nat := 2 ^ cause

/-- The bits that mark a retirement as due, at the boundary or at once: of a host request or repeated errors, and of ISLAND_HUNG. -/
def retireNowBit : Nat := 256
def hungNowBit : Nat := 512
def Tile.hungNow (x : Tile) : Bool := bit x.retireDue 9
def Tile.retireNow (x : Tile) : Bool := bit x.retireDue 8 || x.hungNow

/-- The causes of retirement that hold fall due. -/
def Tile.fallDue (x : Tile) : Tile :=
  { x with retireDue := x.retireDue ||| (if bit x.retireDue 2 || bit x.retireDue 3 then retireNowBit else 0)
      ||| (if bit x.retireDue 4 then hungNowBit else 0) }

/-- The tile has no bake boundary: it has no owning partition, or the partition is disabled (R129). -/
def Block.noBoundary (b : Block) (t : Nat) : Bool := !b.enabled (pgTile t) || !b.enabled (pgPart (b.tilePart t))

/-- A cause of retirement holds; causes are kept as bits (R129). Without a boundary it is due at once. -/
def Block.wantRetire (b : Block) (t cause : Nat) : Block :=
  let x := b.tile t
  let y := { x with retireDue := x.retireDue ||| retireBit cause }
  b.setTile t (if b.noBoundary t then y.fallDue else y)

/-- Causes that waited for a boundary are due at once on the tiles that have lost theirs (R129). -/
def Block.noMoreBoundary (b : Block) : Block :=
  { b with tiles := SMap.mapVals (fun t x => if x.retireDue ≠ 0 ∧ b.noBoundary t then x.fallDue else x) b.tiles }

/-- A double-bit error of SRAM, accumulators or registers counts; the second one retires the tile (R92, R128, R129). -/
def Block.tileUe (b : Block) (t : Nat) : Block :=
  let p := pgTile t
  let b1 := b.bump p F.TIL_ECC.UE_CNT
  if 2 ≤ b1.eff p F.TIL_ECC.UE_CNT then b1.wantRetire t 3 else b1

/-- TDMA met a double-bit error in tile SRAM: SRAM_UE without a stop (R92). -/
def Block.tdmaUe (b : Block) (t : Nat) : Block := ((b.setTile t { b.tile t with badRead := false }).tileUe t).reportTile t 0x0102

/-- SCCNT: entries pending in the tile's own Score. -/
def Block.sccnt (b : Block) (t sd : Nat) : Block :=
  let n := (b.score t).entries.length
  b.insnReg t (fun x => .ok (x.setS sd (BitVec.ofNat 64 n)) 0)

/-- BARA: arrive at barrier s[SA] + IMM of the tile's partition in the bake in progress (R167). IMM is extended by its sign.
Log entry 88 (DEDUCED, unsafe). -/
def Block.bara (b : Block) (t sa : Nat) (imm : BitVec 32) : Block :=
  if !b.canIssue t ∨ sramSize ≤ (b.tile t).pc then b.insnReg t (fun x => .ok x 0)
  else
    let k := b.tilePart t
    let id := (b.tile t).addrS sa imm
    (b.insnReg t (fun x => .ok x 0)).arrive k ((b.bake k).bakeNo % 256) id false

/-- The sequencer waits in place: the pc moves when the wait ends. -/
def Block.tileWait (b : Block) (t : Nat) (w : TWait) : Block := b.setTile t { b.tile t with wait := some w }

/-- BARW: wait for a barrier; one that has released returns 0 and one that has failed its code at once (R168, R169). IMM is extended by
its sign.
Log entry 88 (DEDUCED, unsafe). -/
def Block.barw (b : Block) (t sd sa : Nat) (imm : BitVec 32) : Block :=
  if !b.canIssue t ∨ sramSize ≤ (b.tile t).pc then b.insnReg t (fun x => .ok x 0)
  else
    let k := b.tilePart t
    let id := (b.tile t).addrS sa imm
    let give (v : Nat) : Block := b.setTile t ((b.tile t).resume sd v)
    if id = 0 then give 0
    else if !(b.bake k).active then give 2
    else if b.barReleased t k id then give 0
    else if b.barFailed k id ≠ 0 then give (b.barFailed k id)
    else b.tileWait t (.barw id sd b.now)

/-- SCWAIT: hold issue until HEARTH ≥ s[SA] + sext(IMM). -/
def Block.scwait (b : Block) (t sa : Nat) (imm : BitVec 32) : Block :=
  if !b.canIssue t ∨ sramSize ≤ (b.tile t).pc then b.insnReg t (fun x => .ok x 0)
  else
    let tick := (b.tile t).addrS sa imm
    if tick ≤ b.hearthAt t then b.insnReg t (fun x => .ok x 0) else b.tileWait t (.scwait tick)

/-- Every SCWAIT whose tick has come ends. -/
def Block.wakeScwait (b : Block) : Block :=
  { b with tiles := SMap.mapVals (fun t x =>
      match x.wait with
      | some (.scwait tick) => if tick ≤ b.hearthAt t then { x with wait := none, pc := x.pc + 8 } else x
      | _ => x) b.tiles }

/-! ### What the macro-operations touch (R96, R108 to R112) -/

/-- The parameter block at s[SA], and the ranges that it names. -/
def paramTouch (sa : Nat) (ranges : (Nat → Nat) → Nat → List (Nat × Nat)) (x : Tile) : List (Nat × Nat) :=
  let p := (x.s sa).toNat
  (p, 32) :: ranges x.byte p

/-- XTOPK: scores, records and, with MASK_EN, the mask. -/
def topkRanges (rd : Nat → Nat) (p : Nat) : List (Nat × Nat) :=
  let n := rd32 rd (p + 8)
  let rows := rd32 rd (p + 0xC)
  [(rd32 rd p, rows * n * 4), (rd32 rd (p + 4), rows * rd32 rd (p + 0x10) * 8)]
    ++ (if bit (rd32 rd (p + 0x18)) 0 then [(rd32 rd (p + 0x14), rows * ceilDiv n 8)] else [])

/-- XSORT: records in and out. -/
def sortRanges (rd : Nat → Nat) (p : Nat) : List (Nat × Nat) :=
  [(rd32 rd p, 8 * rd32 rd (p + 8)), (rd32 rd (p + 4), 8 * rd32 rd (p + 8))]

/-- XPHILOX: the outputs. -/
def philoxRanges (rd : Nat → Nat) (p : Nat) : List (Nat × Nat) := [(rd32 rd p, 16 * rd32 rd (p + 4))]

/-- XSAMPLE: the logits, the result and the row table of the context. -/
def sampleRanges (ctx : Option RowCtx) (rd : Nat → Nat) (p : Nat) : List (Nat × Nat) :=
  [(rd32 rd p, 4 * rd32 rd (p + 4)), (rd32 rd (p + 0x1C), 8)] ++ (match ctx with
    | some c => [(c.table, 2048)]
    | none => [])

/-- What VST touches: its tile, and with stochastic rounding the row table of the context. -/
def vstTouch (sa fmt rnd : Nat) (x : Tile) : List (Nat × Nat) :=
  ((x.s sa).toNat, tileBytes (Fmt.ofCode fmt) false) :: (match rnd, x.rowCtx with
    | 4, some c => [(c.table, 2048)]
    | _, _ => [])

end Sys2Proof.Machine
end

