-- ==== Sys2Proof/Machine/Dma.lean ====
section
/-! DEFINITION. Transfers (R114 to R117, R189, R197, R198, R351 to R354): their checks, leases, requests over the fabric,
their ends, and fences (R365, R366).
Log entry 36 (DEDUCED, unsafe). -/
namespace Sys2Proof.Machine

/-- A transfer by its number. -/
def Block.xfer? (b : Block) (id : Nat) : Option Xfer := b.xfers.find? (fun x => decide (x.id = id))

/-- Put a transfer back. -/
def Block.setXfer (b : Block) (x : Xfer) : Block := { b with xfers := b.xfers.map (fun y => if y.id = x.id then x else y) }

/-- A transfer leaves the list. -/
def Block.dropXfer (b : Block) (id : Nat) : Block := { b with xfers := b.xfers.filter (fun x => decide (x.id ≠ id)) }

/-- A range of the freeze doorbell (R200). -/
def isDoorbell (off len : Nat) : Bool := decide (doorbell ≤ off) && decide (off + len ≤ spaceSize)

/-- The doorbell of a package named by a rack address, if it is one: the place of the write. It lies in window 31, and is gone with that
window where its group is retired (R191). -/
def Block.doorbellAt (b : Block) (a len : Nat) : Option Place :=
  let off := a % 2 ^ 41
  let slot := bits a 41 6
  let own := if b.groupRetired 31 then none else some (Place.here off)
  if a / 2 ^ 48 = 0 ∧ isDoorbell off len then
    if bit a 47 then (if slot = 0 then own else none)
    else if slot = b.slotId then own
    else if b.isOccupied slot then some (.far slot off) else none
  else none

/-- A freeze request record (R200). -/
def frzRecord (priv : Bool) (bs : List Byte) : FrzRec :=
  let n (o k : Nat) : Nat := leNat ((bs.drop o).take k)
  { writer := 0, base := n 0 8, frames := n 8 4, op := n 0xC 1, flags := n 0xD 1, tenant := n 0xE 2 % 4096, compAddr := n 0x10 8
    tag := n 0x18 4, badResv := decide (2 ≤ n 0xD 1) || decide (4096 ≤ n 0xE 2) || decide (n 0x1C 4 ≠ 0), priv := priv
    owner := .doorbell }

/-- The whole 32-byte records of a doorbell write. -/
def frzRecords (priv : Bool) (bs : List Byte) : List FrzRec :=
  (List.range (bs.length / 32)).map (fun i => frzRecord priv ((bs.drop (32 * i)).take 32))

/-- The records of a doorbell write reach the queue of 256; the rest waits at the doorbell, which holds its writer (R200): the transfer
`writer`, 0 for an agent that is none. -/
def Block.doorbellWrite (b : Block) (priv : Bool) (bs : List Byte) (writer : Nat := 0) : Block :=
  let q := b.frzQueue ++ b.frzHeld ++ (frzRecords priv bs).map (fun r => { r with writer := writer })
  { b with frzQueue := q.take 256, frzHeld := q.drop 256 }

/-- The doorbell holds a transfer: a record of it waits for room in the queue. -/
def Block.doorHolds (b : Block) (id : Nat) : Bool := decide (id ≠ 0) && b.frzHeld.any (fun r => decide (r.writer = id))

/-- Cut a piece at every 4 KiB frame boundary of its rack address (R351). -/
def cutPiece (p : Piece) : List Piece :=
  (List.range ((p.addr % 4096 + p.len + 4095) / 4096)).map (fun i =>
    let s := if i = 0 then p.addr else (p.addr / 4096 + i) * 4096
    let e := min (p.addr + p.len) ((p.addr / 4096 + i + 1) * 4096)
    { addr := s, len := e - s, sram := p.sram + (s - p.addr) })

/-- The slots that are reachable (R363), while the fabric global block runs (R32). -/
def Block.reachable (b : Block) (d : Nat) : Bool := b.runs pgGfab && bit (b.eff pgGfab F.FAB_REACH.REACH) d

/-- A request of a transfer leaves for slot `d`, or waits for a route. -/
def Block.sendReq (b : Block) (xfer piece : Nat) (p : Packet) (d rslot : Nat) : Block :=
  let (n, b1) := b.newId
  let (b2, q) := b1.inject { p with tag := n % 65536 } d rslot
  let b3 := { b2 with reqs := b2.reqs ++ [{ pkt := q, xfer := xfer, piece := piece, dead := [] }] }
  if (p.type = ptWR ∨ p.type = ptSEG) ∧ q.rkind ≠ 4 then b3.countPath q else b3

/-- The packet header fields of a transfer's requests. -/
def Xfer.packet (x : Xfer) (type off len : Nat) : Packet :=
  { packet0 with type := type, priv := x.priv, tenant := x.tenant, part := x.part, addr := off, len := len, fence := x.group }

/-- A transfer ends with a status; what it holds is given back when it is retired from the list. -/
def Block.endXfer (b : Block) (x : Xfer) (status : Nat) : Block :=
  b.setXfer { x with phase := .done, status := if x.status = 0 then status else x.status }

/-- The slices hold a line of another package, and its home slice is open. -/
def Block.lineHit (b : Block) (slot l : Nat) : Bool :=
  (SMap.find b.lines (lineKey slot (l * 128))).isSome && b.islandOpen (312 + homeSlice slot (l * 128))

/-- Every line of a far range is held by the slices. -/
def Block.farHit (b : Block) (slot off len : Nat) : Bool := (linesOf off len).all (b.lineHit slot)

/-- A piece of another package cut into runs of lines that the slices hold and runs that they do not (R210). -/
def Block.cutHits (b : Block) (p : Piece) : List Piece :=
  match b.resolve p.addr p.len with
  | some (.far slot off) =>
    let e := off + p.len
    let runs := (linesOf off p.len).foldl (fun (acc : List (Bool × Nat × Nat)) l =>
      let hit := b.lineHit slot l
      let z := min e (l * 128 + 128)
      match acc with
      | (h, s, _) :: rest => if h = hit then (h, s, z) :: rest else (hit, l * 128, z) :: acc
      | [] => [(hit, off, z)]) []
    runs.reverse.map (fun r => { addr := p.addr + (r.2.1 - off), len := r.2.2 - r.2.1, sram := p.sram + (r.2.1 - off) })
  | _ => [p]

/-- The bytes of a far range from the slices. -/
def Block.farBytes (b : Block) (slot off len : Nat) : List Byte :=
  (List.range len).map (fun i =>
    match SMap.find b.lines (lineKey slot ((off + i) / 128 * 128)) with
    | some l => l.data.getD ((off + i) % 128) 0
    | none => 0)

/-- Count a hit of every far line. -/
def Block.countFarHits (b : Block) (slot off len : Nat) : Block :=
  (linesOf off len).foldl (fun b l => b.bumpWrap (pgSlice (homeSlice slot (l * 128))) F.SLC_PERF.HIT) b

/-- Start one piece of a read; `i` is its index. -/
def Block.readPiece (b : Block) (id i : Nat) (p : Piece) : Block :=
  match b.xfer? id with
  | none => b
  | some x =>
    match b.resolve p.addr p.len with
    | none => b
    | some (.here off) =>
      let (b1, st, bs) := b.readLocal off p.len x.tenant x.priv x.part x.page
      b1.setXfer { x with data := setAt x.data i bs, status := if x.status = 0 then st else x.status }
    | some (.far slot off) =>
      if b.farHit slot off p.len then
        (b.countFarHits slot off p.len).setXfer { x with data := setAt x.data i (b.farBytes slot off p.len) }
      else if !b.reachable slot then b.setXfer { x with status := if x.status = 0 then stISLAND else x.status }
      else (b.setXfer { x with outstanding := x.outstanding + 1 }).sendReq id i (x.packet ptRD_REQ off p.len) slot (rslotOf slot off)

/-- The bytes of a finished read land in tile SRAM. -/
def Tile.land (x : Tile) : List Piece → List (List Byte) → Tile
  | p :: ps, d :: ds => Tile.land (x.wr p.sram d) ps ds
  | _, _ => x

/-- A read whose pieces have all answered ends: its bytes land in the tile when its status is OK. -/
def Block.readSettle (b : Block) (id : Nat) : Block :=
  match b.xfer? id with
  | none => b
  | some x =>
    if x.outstanding ≠ 0 ∨ x.phase = .done then b
    else
      let b1 := if x.status = 0 then
          match x.intoTile with
          | some t => b.setTile t ((b.tile t).land x.pieces x.data)
          | none => b
        else b
      b1.endXfer x 0

/-- The first check of a list of pieces that fails before anything moves: ADDR_RANGE, then the key check of the pieces
that lie here (R116, R198). -/
def Block.pieceChecks (b : Block) (x : Xfer) (door : Bool) : Block × Nat :=
  let isDoor (p : Piece) : Bool := door && (b.doorbellAt p.addr p.len).isSome
  if x.pieces.any (fun p => !isDoor p && (b.resolve p.addr p.len).isNone) then (b.reportRange x.page, stRANGE)
  else
    let bad (p : Piece) : Bool :=
      match b.resolve p.addr p.len with
      | some (.here off) => !isDoor p && !b.keysOk x.tenant off p.len x.priv
      | _ => false
    if x.pieces.any bad then (b.keyFault x.page, stKEY) else (b, stOK)

/-- Pieces with their indices. -/
def indexed (l : List Piece) : List (Nat × Piece) := (List.range l.length).zip l

/-- Begin a read: all checks first, then every piece. -/
def Block.beginRead (b : Block) (id : Nat) : Block :=
  match b.xfer? id with
  | none => b
  | some x0 =>
    let x := { x0 with pieces := (x0.pieces.flatMap cutPiece).flatMap b.cutHits, phase := .running }
    let x := { x with data := List.replicate x.pieces.length [] }
    let (b1, st) := (b.setXfer x).pieceChecks x false
    if st ≠ stOK then b1.endXfer x st
    else ((indexed x.pieces).foldl (fun b p => b.readPiece id p.1 p.2) b1).readSettle id

/-- The frames of this package that a write touches, ascending, each once. -/
def Block.localFrames (b : Block) (x : Xfer) : List Nat :=
  let fs := x.pieces.flatMap (fun p =>
    if (b.doorbellAt p.addr p.len).isSome then [] else
    match b.resolve p.addr p.len with
    | some (.here off) => framesOf off p.len
    | _ => [])
  (sortBy (fun a c => decide (a ≤ c)) fs).eraseDups

/-- Give back what a transfer holds: its leases here and, by LEASE_REL, elsewhere (R197, R352). -/
def Block.releaseLeases (b : Block) (id : Nat) : Block :=
  match b.xfer? id with
  | none => b
  | some x =>
    let b1 := (b.unlease x.leases).setXfer { x with leases := [], remote := [] }
    x.remote.foldl (fun b r => b.sendOneWay { x.packet ptLEASE_REL 0 0 with lease := r.lease } r.slot (rslotOf r.slot (r.first * 4096))) b1

/-- The requests of a transfer that are still under way no longer belong to it: a lease they bring is given back. -/
def Block.orphan (b : Block) (id : Nat) : Block :=
  { b with reqs := b.reqs.map (fun r => if r.xfer = id then { r with xfer := 0 } else r) }

/-- A refused lease: every lease is given back; RETRY waits 1 µs, another status ends the transfer. -/
def Block.leaseRefused (b : Block) (id st : Nat) : Block :=
  let b1 := (b.orphan id).releaseLeases id
  match b1.xfer? id with
  | none => b1
  | some x =>
    if st = stRETRY then
      (b1.bump pgDev F.DEV_FRZ_LEASE.LEASE_RETRY_CNT).setXfer { x with phase := .retry (b.now + 1000), status := 0 }
    else b1.endXfer { x with status := 0 } st

/-- The lease that covers a frame of another package. -/
def Xfer.leaseFor (x : Xfer) (slot f : Nat) : Nat :=
  ((x.remote.find? (fun r => decide (r.slot = slot) && decide (r.first ≤ f) && decide (f < r.first + r.count))).map
    HeldLease.lease).getD 0

/-- The write of one piece, its leases held: bytes here, doorbell records, or WR packets to another slot. -/
def Block.writePiece (b : Block) (id i : Nat) (p : Piece) : Block :=
  match b.xfer? id with
  | none => b
  | some x =>
    let bs := x.data.getD i []
    match (match b.doorbellAt p.addr p.len with | some q => some (q, true) | none => (b.resolve p.addr p.len).map (fun q => (q, false))) with
    | none => b
    | some (.here _, true) => b.doorbellWrite x.priv bs id
    | some (.here off, false) => (b.store off bs).countWrite off bs.length
    | some (.far slot _, _) =>
      let x' := { x with outstanding := x.outstanding + (cutPiece p).length, wrote := true }
      (cutPiece p).foldl (fun b q =>
        let off := q.addr % 2 ^ 41
        b.sendReq id i { x.packet ptWR off q.len with lease := x.leaseFor slot (off / 4096), payload := (bs.drop (q.addr - p.addr)).take q.len }
          slot (rslotOf slot off)) (b.setXfer x')

/-- A write ends once every request of it is answered and the doorbell holds no record of it. -/
def Block.writeOver (b : Block) (id : Nat) : Block :=
  match b.xfer? id with
  | some x => if x.outstanding = 0 ∧ x.phase = .running ∧ !b.doorHolds id then b.endXfer x 0 else b
  | none => b

/-- All leases are held: the bytes move. -/
def Block.sendWrites (b : Block) (id : Nat) : Block :=
  match b.xfer? id with
  | none => b
  | some x => ((indexed x.pieces).foldl (fun b p => b.writePiece id p.1 p.2) (b.setXfer { x with phase := .running })).writeOver id

/-- The frames of other slots that a write touches, ascending over the whole list of its pieces, each once (R116, R197). -/
def Block.farFrames (b : Block) (x : Xfer) : List (Nat × Nat) :=
  let fs := x.pieces.flatMap (fun p =>
    if (b.doorbellAt p.addr p.len).isSome then [] else
    match b.resolve p.addr p.len with
    | some (.far slot off) => (framesOf off p.len).map (fun f => (slot, f))
    | _ => [])
  (sortBy (fun a c => decide (a.1 < c.1 ∨ (a.1 = c.1 ∧ a.2 ≤ c.2))) fs).eraseDups

/-- Ascending frames gathered into runs of one slot, at most 1,024 frames each (R349): slot, first frame and count. -/
def leaseRuns (fs : List (Nat × Nat)) : List (Nat × Nat × Nat) :=
  (fs.foldl (fun (acc : List (Nat × Nat × Nat)) q =>
    match acc with
    | (s, f, n) :: rest => if s = q.1 ∧ f + n = q.2 ∧ n < 1024 then (s, f, n + 1) :: rest else (q.1, q.2, 1) :: acc
    | [] => [(q.1, q.2, 1)]) []).reverse

/-- The LEASE_REQs of a write to other slots, in ascending frame order (R197, R352). -/
def Block.leaseReqs (b : Block) (id : Nat) : Block :=
  match b.xfer? id with
  | none => b
  | some x =>
    let runs := leaseRuns (b.farFrames x)
    if runs.isEmpty then b
    else
      runs.foldl (fun b r => b.sendReq id 0 (x.packet ptLEASE_REQ (r.2.1 * 4096) r.2.2) r.1 (rslotOf r.1 (r.2.1 * 4096)))
        (b.setXfer { x with outstanding := x.outstanding + runs.length, phase := .leasing })

/-- Begin a write, or begin it again after RETRY: checks, the leases of this package, then the leases of the others. -/
def Block.beginWrite (b : Block) (id : Nat) : Block :=
  match b.xfer? id with
  | none => b
  | some x =>
    let (b1, st) := b.pieceChecks x true
    if st ≠ stOK then b1.endXfer x st
    else
      let fs := b1.localFrames x
      let (b2, st2) := b1.takeLeases fs
      if st2 ≠ stOK then b2.leaseRefused id st2
      else
        let far (p : Piece) : Option Nat := match b2.resolve p.addr p.len with
          | some (.far s _) => some s
          | _ => none
        let b3 := b2.setXfer { x with leases := fs, status := 0, outstanding := 0 }
        let closed (p : Piece) : Bool := (b2.doorbellAt p.addr p.len).isNone &&
          (match b2.resolve p.addr p.len with
            | some (.here off) => !b2.memOpen x.page off p.len
            | _ => false)
        if x.pieces.any (fun p => closed p || (match far p with | some s => !b2.reachable s | none => false)) then
          (b3.leaseRefused id stISLAND)
        else
          let b4 := b3.leaseReqs id
          match b4.xfer? id with
          | some y => if y.outstanding = 0 then b4.sendWrites id else b4
          | none => b4

/-- Begin an atomic (R353): here at once, elsewhere by an ATOM packet. The old value lands in tile SRAM. -/
def Block.beginAtomic (b : Block) (id code opd cmp : Nat) : Block :=
  match b.xfer? id with
  | none => b
  | some x =>
    match x.pieces with
    | [] => b.endXfer x 0
    | p :: _ =>
      if p.addr % 8 ≠ 0 ∨ 10 ≤ code then b.endXfer x stALIGN
      else
        match b.resolve p.addr 8 with
        | none => (b.reportRange x.page).endXfer x stRANGE
        | some (.here off) =>
          let (b1, st, old) := b.atomicLocal code off x.tenant x.priv x.page opd cmp
          if st = stRETRY then b1.leaseRefused id stRETRY
          else if st ≠ stOK then b1.endXfer x st
          else (b1.setXfer { x with data := [leBytes 8 old] }).readSettle id
        | some (.far slot off) =>
          if !b.reachable slot then b.endXfer x stISLAND
          else
            (b.setXfer { x with phase := .running, outstanding := 1 }).sendReq id 0
              { x.packet ptATOM off 32 with acode := code, payload := leBytes 8 opd ++ leBytes 8 cmp ++ List.replicate 16 0 }
              slot (rslotOf slot off)

/-- Begin a transfer by its kind. -/
def Block.beginXfer (b : Block) (id : Nat) : Block :=
  match b.xfer? id with
  | none => b
  | some x =>
    match x.kind with
    | .read => b.beginRead id
    | .write => b.beginWrite id
    | .atomic code opd cmp => b.beginAtomic id code opd cmp

/-- A new transfer. -/
def Block.newXfer (b : Block) (x : Xfer) : Block :=
  let (n, b1) := b.newId
  ({ b1 with xfers := b1.xfers ++ [{ x with id := n }] }).beginXfer n

/-- A transfer before it begins. -/
def xfer0 (owner : XOwner) (kind : XKind) : Xfer :=
  { id := 0, owner := owner, kind := kind, pieces := [], data := [], status := 0, phase := .running, outstanding := 0
    leases := [], remote := [], tenant := 0, priv := false, group := 0, part := 0, page := 0, wrote := false, uncached := false, readTick := none
    entry := none }

/-! ### Fences (R365, R366) -/

/-- The pending requests of a path. -/
def Block.pathReqs (b : Block) (k : Nat) : List Req :=
  b.reqs.filter (fun r => decide (pathKey r.pkt.dst r.pkt.rslot r.pkt.gen = k) && decide (r.pkt.rkind ≠ 4))

/-- A transfer of a group has not yet injected its writes. -/
def Block.uninjected (b : Block) (id : Nat) : Bool :=
  (match b.xfer? id with
    | some x => match x.phase with
      | .leasing | .retry _ => true
      | _ => false
    | none => false)
  || b.reqs.any (fun r => decide (r.xfer = id) && decide (r.pkt.rkind = 4) && decide (r.pkt.type = ptWR ∨ r.pkt.type = ptSEG))

/-- A path of the snapshot is done: the writes that were reissued from it are acknowledged (R366). -/
def Block.fencePathDone (b : Block) (k s : Nat) : Bool :=
  (match (b.path k).st with
  | .live => decide (s ≤ (b.path k).acked)
  | .flushing => false
  | .settled => true
  | .dead => true) && !b.reqs.any (fun r => r.dead.contains k && decide (r.pkt.type = ptWR ∨ r.pkt.type = ptSEG))

/-- The snapshot is taken once every earlier write of the group has been injected; USED is emptied. -/
def Block.fenceSnap (b : Block) (f : Fence) : Block × Fence :=
  match f.snap with
  | some _ => (b, f)
  | none =>
    if f.before.any b.uninjected then (b, f)
    else
      let ks := SMap.get [] b.used f.group
      ({ b with used := SMap.erase b.used f.group }, { f with snap := some (ks.map (fun k => (k, (b.path k).pwseq))) })

/-- A path of the snapshot is DEAD. -/
def Block.fenceLost (b : Block) (f : Fence) : Bool :=
  f.lost || (f.snap.getD []).any (fun p => decide ((b.path p.1).st = .dead))

/-- Every path of the snapshot is done. -/
def Block.fenceDone (b : Block) (f : Fence) : Bool :=
  match f.snap with
  | none => false
  | some l => l.all (fun p => b.fencePathDone p.1 p.2)

/-- What a fence gives its owner: FFENCE writes 0 or 1, an action arrives, PCI_FENCE shows its result (R366, R505). -/
def Block.fenceGive (b : Block) (f : Fence) (lost : Bool) : Block :=
  let b1 := if lost then
      ((b.bump pgGfab F.FAB_GCNT1.FENCE_LOST_CNT).raise pgGfab 1).reportPage pgGfab 0x0B07
    else b
  match f.owner with
  | .tile t rd =>
    match (b1.tile t).wait with
    | some (.ffence id _) => if id = f.id then b1.setTile t ((b1.tile t).resume rd (b2n lost)) else b1
    | _ => b1
  | .action _ e => b1.arriveEntry e false
  | .pci => (b1.put pgPci F.PCI_FENCE.BUSY 0).put pgPci F.PCI_FENCE.LOST (b2n lost)
  | .relay s i n => { b1 with wldEv := b1.wldEv ++ [.relayFenced s i n] }
  | .member s m => { b1 with wldEv := b1.wldEv ++ [.recordFenced s m] }

/-- Look at one fence: it goes on, or it ends. -/
def Block.fenceStep (b : Block) (f0 : Fence) : Block :=
  let (b1, f1) := b.fenceSnap f0
  let f := { f1 with lost := b1.fenceLost f1 }
  if b1.fenceDone f then
    ({ b1 with fences := b1.fences.filter (fun g => decide (g.id ≠ f.id)) }).fenceGive f f.lost
  else { b1 with fences := b1.fences.map (fun g => if g.id = f.id then f else g) }

/-- Look at every fence. -/
def Block.settleFences (b : Block) : Block := b.fences.foldl (fun b f => b.fenceStep f) b

/-- Start a fence of a group. -/
def Block.startFence (b : Block) (owner : Nat → FOwner) (group : Nat) : Block :=
  let (n, b1) := b.newId
  let before := (b1.xfers.filter (fun x => decide (x.group = group) && decide (x.kind = .write))).map Xfer.id
  let f : Fence := { id := n, owner := owner n, group := group, before := before, snap := none, lost := false }
  ({ b1 with fences := b1.fences ++ [f] }).fenceStep f

/-- FFENCE on a tile: the fence of group n, the tile's number. -/
def Block.ffence (b : Block) (t sd : Nat) : Block :=
  if !b.canIssue t ∨ sramSize ≤ (b.tile t).pc then b.insnReg t (fun x => .ok x 0)
  else (b.tileWait t (.ffence b.nextId sd)).startFence (fun _ => .tile t sd) t

/-! ### Ends of tile transfers (R116) -/

/-- The group of a Score action (R365). -/
def actionGroup (island : Nat) (e : ScoreEntry) : Nat :=
  if e.fence ≠ 0 then e.fence
  else if 344 ≤ island ∧ island < 360 then 288 + (island - 344)
  else if 360 ≤ island ∧ island < 396 then 304 + (island - 360)
  else if island < 288 then island else 340

/-- The tag state of a tile. -/
def Tile.tag (x : Tile) (g : Nat) : TagSt := SMap.get { inflight := 0, status := 0 } x.tags g

/-- Set it. -/
def Tile.setTag (x : Tile) (g : Nat) (s : TagSt) : Tile := { x with tags := SMap.set x.tags g s }

/-- A nonzero status reports DMA_FAULT, sets DMA_ERR_EV and updates TIL_DMA_ERR (R116). -/
def Block.dmaFault (b : Block) (t tag status : Nat) : Block :=
  if status = 0 then b
  else
    let p := pgTile t
    ((((b.put p F.TIL_DMA_ERR.LAST_STATUS status).put p F.TIL_DMA_ERR.LAST_TAG tag).bump p F.TIL_DMA_ERR.DMA_ERR_CNT).raise p 1).reportTile
      t 0x0120 (status + 16 * tag)

/-- A tag counts one transfer less and records the first nonzero status. -/
def Block.tagDone (b : Block) (t tag status : Nat) : Block :=
  let x := b.tile t
  let s := x.tag tag
  (b.setTile t (x.setTag tag { inflight := s.inflight - 1, status := if s.status = 0 then status else s.status })).dmaFault t tag status

/-- The action of a transfer completes; one that wrote remotely runs the fence of its group first (R366). -/
def Block.xferArrive (b : Block) (t : Nat) (x : Xfer) : Block :=
  match x.entry with
  | none => b
  | some e => if x.wrote then b.startFence (fun _ => .action t e) x.group else b.arriveEntry e false

/-- TRANSFER_DONE: the oldest transfer of a tile's tag that has ended is retired. -/
def Block.transferDone (b : Block) (t tag : Nat) : Block :=
  match b.xfers.find? (fun x => decide (x.owner = .tag t tag) && decide (x.phase = .done)) with
  | none => b
  | some x =>
    let b1 := (b.releaseLeases x.id).dropXfer x.id
    (b1.tagDone t tag x.status).xferArrive t x

/-- A transfer that completes at once with a status, having moved nothing (R115). -/
def Block.tagAtOnce (b : Block) (t tag status : Nat) : Block :=
  let x := b.tile t
  let s := x.tag tag
  (b.setTile t (x.setTag tag { s with status := if s.status = 0 then status else s.status })).dmaFault t tag status

/-- An action that ends at once arrives. -/
def Block.arriveOpt (b : Block) (e : Option ScoreEntry) : Block :=
  match e with
  | some en => b.arriveEntry en false
  | none => b

/-- A transfer of a tag begins: the tag counts it. Where TDMA meets a double-bit error as it reads the bytes from tile SRAM, the transfer ends
POISON and no byte of it is sent (R92). -/
def Block.startTag (b : Block) (t tag : Nat) (kind : XKind) (pieces : List Piece) (data : List (List Byte)) (tenant : Nat)
    (group : Nat) (entry : Option ScoreEntry) : Block :=
  let x := b.tile t
  let s := x.tag tag
  if x.badRead ∧ kind ≠ .read then ((b.tdmaUe t).tagAtOnce t tag stPOISON).arriveOpt entry
  else (b.setTile t (x.setTag tag { s with inflight := s.inflight + 1 })).newXfer
    { xfer0 (.tag t tag) kind with pieces := pieces, data := data, tenant := tenant, group := group, part := b.tilePart t
                                   page := tileClu t, entry := entry }

/-- The alignment and range rules of R115 for one piece: a status, 0 for none. -/
def pieceStatus (p : Piece) : Nat :=
  if p.len % 128 ≠ 0 ∨ p.addr % 128 ≠ 0 ∨ p.sram % 128 ≠ 0 ∨ 0x400000 < p.len ∨ !inSram p.sram p.len then stALIGN else stOK

/-- The bytes of SRAM that a write sends, by piece. -/
def Tile.gather (x : Tile) (ps : List Piece) : List (List Byte) := ps.map (fun p => x.rdBytes p.sram p.len)

/-- A read or a write of pieces on a tag (R115). Pieces of no length move nothing.
Log entry 25 (DEDUCED, unsafe). -/
def Block.dmaMove (b : Block) (t tag : Nat) (write : Bool) (ps0 : List Piece) (tenant group : Nat) (e : Option ScoreEntry) : Block :=
  let fin (st : Nat) : Block := (b.tagAtOnce t tag st).arriveOpt e
  match ps0.find? (fun p => decide (pieceStatus p ≠ 0 ∧ p.len ≠ 0) || decide (p.len = 0 ∧ (p.addr % 128 ≠ 0 ∨ p.sram % 128 ≠ 0))) with
  | some _ => fin stALIGN
  | none =>
    let ps := ps0.filter (fun p => decide (p.len ≠ 0))
    if ps.isEmpty then fin stOK
    else b.startTag t tag (if write then .write else .read) ps (if write then (b.tile t).gather ps else []) tenant group e

/-- A DMA instruction: issue checks, TAG 12 to 15 is illegal, then `go` on the block with the pc moved on. The hazard rule
holds it while an earlier read still lands in a range that it reads. -/
def Block.dmaInsn (b : Block) (t tag : Nat) (touch : Tile → List (Nat × Nat)) (go : Block → Block) : Block :=
  if !b.canIssue t ∨ sramSize ≤ (b.tile t).pc then b.insnReg t (fun x => .ok x 0)
  else if 12 ≤ tag then b.illegal t
  else if (touch (b.tile t)).any (fun r => b.sramBusy t r.1 r.2) then b
  else go (b.insnReg t (fun x => .ok x 0))

/-- DRD and DWR. -/
def Block.dmaLinear (b : Block) (t sa sb sl tag off : Nat) (write : Bool) : Block :=
  let x := b.tile t
  let p : Piece := { addr := (x.s sa).toNat, len := (x.s sl).toNat, sram := x.addrZ sb off }
  b.dmaInsn t tag (fun _ => [(p.sram, p.len)]) (fun b => b.dmaMove t tag write [p] x.tenant t none)

/-- The records of DGATHER and DSCATTER. -/
def Tile.records (x : Tile) (a n : Nat) : List Piece :=
  (List.range n).map (fun i =>
    { addr := rd64 x.byte (a + 16 * i), len := rd32 x.byte (a + 16 * i + 8), sram := rd32 x.byte (a + 16 * i + 12) })

/-- DGATHER and DSCATTER: one transfer of all its records (R114 to R116). -/
def Block.dmaList (b : Block) (t sa sb sl tag off : Nat) (write : Bool) : Block :=
  let _ := sa
  let x := b.tile t
  let a := x.addrZ sb off
  let n := (x.s sl).toNat
  let ok := decide (n % 16 = 0) && inSram a n
  let ps := if ok then x.records a (n / 16) else []
  b.dmaInsn t tag (fun _ => (a, n) :: ps.map (fun p => (p.sram, p.len)))
    (fun b => if ok then b.dmaMove t tag write ps x.tenant t none else b.tagAtOnce t tag stALIGN)

/-- DATOM: an 8-byte atomic; operand at SRAM +0, compare value at +8, the old value written to +0; the code is OFFSET[3:0], and a nonzero bit
in OFFSET[31:4] raises ILLEGAL_INSN (R114, R353). -/
def Block.datom (b : Block) (t sa sb tag off : Nat) : Block :=
  let x := b.tile t
  let a := (x.s sb).toNat
  let addr := (x.s sa).toNat
  if 16 ≤ off then b.illegal t
  else b.dmaInsn t tag (fun _ => [(a, 16)]) (fun b =>
    if addr % 8 ≠ 0 ∨ !inSram a 16 then b.tagAtOnce t tag stALIGN
    else b.startTag t tag (.atomic off (rd64 x.byte a) (rd64 x.byte (a + 8))) [{ addr := addr, len := 8, sram := a }] []
      x.tenant t none)

/-- DTEN: the tenant of all later transfers. -/
def Block.dten (b : Block) (t sa : Nat) : Block :=
  b.insnReg t (fun x => .ok { x with tenant := (x.s sa).toNat % 4096 } 0)

/-- A transfer of a tag whose bytes are already gathered: it lands, and ends with status OK when it is retired. -/
def Block.landTag (b : Block) (t tag : Nat) (sram : Nat) (bytes : List Byte) : Block :=
  let x := b.tile t
  let s := x.tag tag
  let (n, b1) := (b.setTile t ((x.setTag tag { s with inflight := s.inflight + 1 }).wr sram bytes)).newId
  { b1 with xfers := b1.xfers ++ [{ xfer0 (.tag t tag) .read with id := n, phase := .done, tenant := x.tenant, part := b.tilePart t }] }

/-- A controller counts the cycles that a write waited for its lease, at the state home of its first frame; 4 cycles of 1.333 GHz are 3 ticks.
Log entry 94 (DESIGN CHOICE, unsafe). -/
def Block.countLeaseWait (b : Block) (x : Xfer) (ticks : Nat) : Block :=
  match b.localFrames x with
  | f :: _ => b.bumpWrap (pgMem (stateHome f)) F.MEM_PERF.LEASE_WAIT 0 (ticks * 4 / 3)
  | [] => b

/-- LEASE_RETRY: a transfer that was refused with RETRY asks again after 1 µs (R197). -/
def Block.leaseRetry (b : Block) (id : Nat) : Block :=
  match b.xfer? id with
  | some x =>
    match x.phase with
    | .retry at_ => if at_ ≤ b.now then (b.countLeaseWait x (b.now + 1000 - at_)).beginXfer id else b
    | _ => b
  | none => b

end Sys2Proof.Machine
end

