-- ==== Sys2Proof/Machine/Kvm.lean ====
section
/-! DEFINITION. The paged key-value cache (R228 to R252): pools, sequence records, page lists, the page pantry, page-list
walks, freezing and the prefix table.
Log entries 40 (DESIGN CHOICE, unsafe), 42 (DEDUCED, unsafe). -/
namespace Sys2Proof.Machine

/-- A number stored by a block of the package in its own structures, privileged (R357, R543). -/
def Block.pw (b : Block) (off n v : Nat) : Block := (b.privWrite off (leBytes n v)).1

/-- The offset that an address field of a block's page names. -/
def Block.fieldOff (b : Block) (p : Nat) (f : Field) (i : Nat := 0) : Nat := b.eff p f i % 2 ^ 41

/-! ### Pools (R229 to R231) -/

/-- Pool states (KVM_PSTAT). -/
def poOFF : Nat := 0
def poINIT : Nat := 1
def poON : Nat := 2
def poDRAINING : Nat := 3

/-- The state of a pool. -/
def Block.poolState (b : Block) (k : Nat) : Nat := b.eff pgKvm F.KVM_PSTAT.STATE k

/-- A pool without a snapshot. -/
def poolNone : PoolSnap :=
  { wfirst := 0, wcount := 0, pageLog := 0, recLines := 0, layers := 0, fmt := 0, part := 0, reserve := 0, stack := 0
    ref := 0, tok := 0 }

/-- The snapshot that a pool runs on. -/
def Block.pool (b : Block) (k : Nat) : PoolSnap := SMap.get poolNone b.pools k

/-- Geometry of R230. -/
def PoolSnap.pageTokens (q : PoolSnap) : Nat := 2 ^ q.pageLog
def PoolSnap.recBytes (q : PoolSnap) : Nat := q.recLines * 128
def PoolSnap.pageBytes (q : PoolSnap) : Nat := q.pageTokens * q.recBytes * q.layers
def PoolSnap.ppw (q : PoolSnap) : Nat := resvPos / max q.pageBytes 1
def PoolSnap.pages (q : PoolSnap) : Nat := q.wcount * q.ppw
def PoolSnap.pageOff (q : PoolSnap) (p : Nat) : Nat :=
  (q.wfirst + p / max q.ppw 1) * winSize + p % max q.ppw 1 * q.pageBytes
def PoolSnap.tokenOff (q : PoolSnap) (p l t : Nat) : Nat :=
  q.pageOff p + l * q.pageTokens * q.recBytes + t * q.recBytes

/-- NONE of page numbers. -/
def pageNone : Nat := 0xFFFFFFFF

/-- The element width of a KV format code in bytes; 0 for a code that R229 does not list. -/
def kvWidth (fmt : Nat) : Nat :=
  match fmt with
  | 1 | 2 => 2
  | 3 | 4 | 12 => 1
  | _ => 0

/-- The pool entry in the pool table (R229). -/
def Block.poolEntry (b : Block) (k : Nat) : PoolSnap :=
  let a := b.fieldOff pgKvm F.KVM_POOL_TAB.POOL_TAB + 64 * k
  { wfirst := b.byteAt a, wcount := b.byteAt (a + 1), pageLog := b.byteAt (a + 2), recLines := b.byteAt (a + 3)
    layers := b.m16 (a + 4), fmt := b.byteAt (a + 6), part := b.byteAt (a + 7), reserve := b.m32 (a + 8)
    stack := b.m64 (a + 0x10), ref := b.m64 (a + 0x18), tok := b.m64 (a + 0x20) }

/-- The reserved bytes of the pool entry are zero. -/
def Block.poolResvOk (b : Block) (k : Nat) : Bool :=
  let a := b.fieldOff pgKvm F.KVM_POOL_TAB.POOL_TAB + 64 * k
  decide (b.m32 (a + 0xC) = 0) && (b.mem.read (a + 0x28) 24).all (fun v => decide (v = 0))

/-- The owner of a window. -/
def Block.owner (b : Block) (w : Nat) : Nat := b.eff (pgMem 0) F.MEM_MAP_GRP.OWNER w

/-- An area of a pool: aligned, on this package, usable, in windows owned by partitions (R229, R254, R543). -/
def Block.areaOk (b : Block) (addr len : Nat) : Bool :=
  decide (addr % 128 = 0) &&
  match b.localOff addr with
  | some off => b.usable off len && (windowsOf off len).all (fun w => decide (b.owner w < 16))
  | none => false

/-- The pool's windows. -/
def PoolSnap.windows (q : PoolSnap) : List Nat := (List.range q.wcount).map (· + q.wfirst)

/-- The pool entry is valid (R231). -/
def Block.poolValid (b : Block) (k : Nat) (q : PoolSnap) : Bool :=
  decide (q.wfirst ≤ 31) && decide (1 ≤ q.wcount) && decide (q.wfirst + q.wcount ≤ 32) && decide (4 ≤ q.pageLog)
    && decide (q.pageLog ≤ 12) && decide (1 ≤ q.recLines) && decide (q.recLines ≤ 128) && decide (1 ≤ q.layers)
    && decide (q.layers ≤ 256) && decide (kvWidth q.fmt ≠ 0) && decide (q.part ≤ 15) && b.poolResvOk k
    && decide (q.pageBytes % 4096 = 0) && decide (1 ≤ q.ppw) && decide (q.pages ≤ 0xFFFFFFFE)
    && q.windows.all (fun w => decide (b.owner w = q.part))
    && (List.range 16).all (fun j => decide (j = k) || decide (b.poolState j = poOFF) ||
        (b.pool j).windows.all (fun w => !q.windows.contains w))
    && b.areaOk q.stack (q.pages * 4) && b.areaOk q.ref (q.pages * 2) && b.areaOk q.tok (q.pages * q.pageTokens * 4)

/-- A request record of a block of the package. -/
def blockRec (owner : FrzOwner) (op base frames : Nat) : FrzRec :=
  { base := localAddr base, frames := frames, op := op, flags := 0, tenant := 0, compAddr := 0, tag := 0
    badResv := false, priv := true, owner := owner, writer := 0 }

/-- A record joins the queue of the freeze engine behind the doorbell's records. -/
def Block.enqueueFreeze (b : Block) (r : FrzRec) : Block :=
  let q := b.frzQueue ++ b.frzHeld ++ [r]
  { b with frzQueue := q.take 256, frzHeld := q.drop 256 }

/-- A request of a block to the freeze engine. -/
def Block.askFreeze (b : Block) (owner : FrzOwner) (op base frames : Nat) : Block := b.enqueueFreeze (blockRec owner op base frames)

/-- The KV manager asked. -/
def FrzOwner.isKvm : FrzOwner → Bool
  | .kvPage _ _ _ | .kvThaw _ _ | .poolInit _ => true
  | _ => false

/-- The requests of the KV manager that the engine holds or runs. -/
def Block.kvmInFlight (b : Block) : Nat :=
  ((b.frzQueue ++ b.frzHeld ++ b.frzRuns.map FrzRun.req).filter (fun r => r.owner.isKvm)).length

/-- The KV manager hands requests over in their order, up to FRZ_INFLIGHT at a time (R245); none in the safe state (R246) or while its page is OFF. -/
def Block.kvmFeed (b : Block) : Block :=
  if b.safe || !b.runs pgKvm then b
  else
    let n := b.eff pgKvm F.KVM_X_FRZ.FRZ_INFLIGHT - b.kvmInFlight
    (b.kvmQueue.take n).foldl Block.enqueueFreeze { b with kvmQueue := b.kvmQueue.drop n }

/-- A freeze or thaw that the KV manager wants. -/
def Block.kvmAsk (b : Block) (owner : FrzOwner) (op base frames : Nat) : Block :=
  { b with kvmQueue := b.kvmQueue ++ [blockRec owner op base frames] }.kvmFeed

/-- Frames of a window's usable part. -/
def winFrames : Nat := winSize / 4096

/-- FREE of a pool. -/
def Block.free (b : Block) (k : Nat) : Nat := b.eff pgKvm F.KVM_FREE.FREE k

/-- Set the state of a pool. -/
def Block.setPoolState (b : Block) (k st : Nat) : Block := b.put pgKvm F.KVM_PSTAT.STATE st k

/-- The thaw over every frame of a pool's windows. -/
def Block.askPoolInit (b : Block) (k : Nat) : Block :=
  b.kvmAsk (.poolInit k) 2 ((b.pool k).wfirst * winSize) ((b.pool k).wcount * winFrames)

/-- The pool is enabled at a commit while OFF: snapshot and INIT, or ERR (R231). -/
def Block.poolOpen (b : Block) (k : Nat) : Block :=
  let q := b.poolEntry k
  let a := b.fieldOff pgKvm F.KVM_POOL_TAB.POOL_TAB + 64 * k
  let b := b.watch a 64
  if !b.poisoned a 64 && b.poolValid k q then
    let q' := { q with stack := q.stack % 2 ^ 41, ref := q.ref % 2 ^ 41, tok := q.tok % 2 ^ 41 }
    let b1 := { b with pools := SMap.set b.pools k q' }
    let b2 := (b1.put pgKvm F.KVM_PSTAT.ERR 0 k).setPoolState k poINIT
    let m1 := b2.mem.zero q'.ref (q'.pages * 2)
    let m2 := m1.blit q'.stack ((List.range q'.pages).flatMap (fun i => leBytes 4 (q'.pages - 1 - i)))
    ({ b2 with mem := m2 }).askPoolInit k
  else ((b.put pgKvm F.KVM_PSTAT.ERR 1 k).raise pgKvm 3).reportPage pgKvm 0x0A05

/-- A commit of POOL_EN for one pool (R231). -/
def Block.poolCommit (b : Block) (k : Nat) : Block :=
  let en := bit (b.eff pgKvm F.KVM_POOL_EN.POOL_EN) k
  let st := b.poolState k
  if en && decide (st = poOFF) then b.poolOpen k
  else if !en && decide (st = poON) then
    (if b.free k = (b.pool k).pages then b.setPoolState k poOFF else b.setPoolState k poDRAINING)
  else if en && decide (st = poDRAINING) then b.setPoolState k poON
  else b

/-- A draining pool whose pages are all free returns to OFF. -/
def Block.poolDrained (b : Block) (k : Nat) : Block :=
  if b.poolState k = poDRAINING ∧ b.free k = (b.pool k).pages then b.setPoolState k poOFF else b

/-- Take an owner's completion out of the freeze engine's list: its status, if it is there. -/
def Block.takeDone (b : Block) (o : FrzOwner) : Option Nat := (b.frzDone.find? (fun d => decide (d.1 = o))).map Prod.snd
def Block.dropDone (b : Block) (o : FrzOwner) : Block := { b with frzDone := b.frzDone.filter (fun d => decide (d.1 ≠ o)) }

/-- The KV manager works: it has stopped in the safe state (R246) and while its page is OFF (R32). -/
def Block.kvmWorks (b : Block) : Bool := !b.safe && b.runs pgKvm

/-- POOL_INIT_DONE (R231): the thaw over the windows is complete, and the pool is ON with every page free. A thaw that ended without
completing is asked for again. -/
def Block.poolInitDone (b : Block) (k : Nat) : Block :=
  if b.poolState k ≠ poINIT || !b.kvmWorks then b
  else
    match b.takeDone (.poolInit k) with
    | none => b
    | some st =>
      let b1 := b.dropDone (.poolInit k)
      if st = 0 then (b1.put pgKvm F.KVM_FREE.FREE (b.pool k).pages k).setPoolState k poON else b1.askPoolInit k

/-! ### The page pantry (R236) -/

/-- The reference count of a page. -/
def Block.pageRef (b : Block) (k p : Nat) : Nat := b.m16 ((b.pool k).ref + 2 * p)

/-- Set it. -/
def Block.setPageRef (b : Block) (k p v : Nat) : Block := b.pw ((b.pool k).ref + 2 * p) 2 v

/-- Change FREE: falling below RESERVE raises POOL_LOW_EV once per fall (R238). -/
def Block.setFree (b : Block) (k v : Nat) : Block :=
  let old := b.free k
  let r := (b.pool k).reserve
  let b1 := b.put pgKvm F.KVM_FREE.FREE v k
  if r ≤ old ∧ v < r then b1.raise pgKvm 0 else b1

/-- alloc: one page from pool `k`. -/
def Block.allocPage (b : Block) (k : Nat) : Block × Option Nat :=
  let f := b.free k
  if f = 0 then (b, none)
  else
    let p := b.m32 ((b.pool k).stack + 4 * (f - 1))
    (((b.setFree k (f - 1)).setPageRef k p 1).bumpWrap pgKvm F.KVM_ALLOC_CNT.ALLOC_CNT, some p)

/-- push: a page returns to its stack. -/
def Block.pushPage (b : Block) (k p : Nat) : Block :=
  let f := b.free k
  (((b.pw ((b.pool k).stack + 4 * f) 4 p).setFree k (f + 1)).bumpWrap pgKvm F.KVM_REL_CNT.REL_CNT).poolDrained k

/-- The frames of a page. -/
def PoolSnap.pageFrames (q : PoolSnap) (p : Nat) : List Nat := framesOf (q.pageOff p) q.pageBytes

/-- The thaw of a released page. -/
def Block.askPageThaw (b : Block) (k p : Nat) : Block :=
  b.kvmAsk (.kvThaw k p) 2 ((b.pool k).pageOff p) ((b.pool k).pageBytes / 4096)

/-- release: drop one reference. A page whose freeze still runs is thawed like a frozen one.
Log entry 42 (DEDUCED, unsafe). -/
def Block.releasePage (b : Block) (k p : Nat) : Block :=
  let r := b.pageRef k p
  let b1 := b.setPageRef k p (r - 1)
  if 1 < r then b1
  else
    let q := b.pool k
    let frzPending := (b.kvmQueue ++ b.frzQueue ++ b.frzHeld).any (fun x => match x.owner with
      | .kvPage _ _ p' => decide (p' = p) && decide (x.base = localAddr (q.pageOff p))
      | _ => false)
    if frzPending || (q.pageFrames p).any (fun f => decide (b.frame f ≠ frWRITABLE)) then
      b1.askPageThaw k p
    else b1.pushPage k p

/-- PAGE_THAW_DONE: the page is pushed when its thaw completes; an aborted thaw is issued again (R236, R246). -/
def Block.pageThawDone (b : Block) (k p : Nat) : Block :=
  if !b.kvmWorks then b
  else
    match b.takeDone (.kvThaw k p) with
    | none => b
    | some st =>
      let b1 := b.dropDone (.kvThaw k p)
      if st = 0 then b1.pushPage k p else b1.askPageThaw k p

/-- Exit from the safe state (R246): thaws that were aborted are issued again, and freezes that were aborted are forgotten, for the next boundary
requests them again. -/
def Block.kvmResume (b : Block) : Block :=
  let lost := b.frzDone.filter (fun d => d.1.isKvm && decide (d.2 ≠ 0))
  let b1 := { b with frzDone := b.frzDone.filter (fun d => !(d.1.isKvm && decide (d.2 ≠ 0))) }
  (lost.foldl (fun b d => match d.1 with
    | .kvThaw k p => b.askPageThaw k p
    | .poolInit k => b.askPoolInit k
    | _ => b) b1).kvmFeed

/-! ### Sequence records and page lists (R232, R233) -/

/-- A KV sequence record. -/
structure SeqRec where
  kvLen : Nat
  held : Nat
  pool : Nat
  flags : Nat
  tenant : Nat
  frozen : Nat
  chain : Nat
  waitBakes : Nat
  shared : Nat
deriving DecidableEq, Repr

/-- The offset of a sequence record. -/
def Block.seqOff (b : Block) (s : Nat) : Nat := b.fieldOff pgKvm F.KVM_SEQ_BASE.SEQ_BASE + 32 * s

/-- The record of a sequence. -/
def Block.seqRec (b : Block) (s : Nat) : SeqRec :=
  let a := b.seqOff s
  { kvLen := b.m32 a, held := b.m32 (a + 4), pool := b.byteAt (a + 8) % 16, flags := b.byteAt (a + 9)
    tenant := b.m16 (a + 0xA) % 4096, frozen := b.m32 (a + 0xC), chain := b.m64 (a + 0x10), waitBakes := b.m32 (a + 0x18)
    shared := b.m32 (a + 0x1C) }

def SeqRec.valid (r : SeqRec) : Bool := bit r.flags 0
def SeqRec.chainOk (r : SeqRec) : Bool := bit r.flags 2

/-- Write the record of a sequence. -/
def Block.setSeqRec (b : Block) (s : Nat) (r : SeqRec) : Block :=
  (b.privWrite (b.seqOff s)
    (leBytes 4 r.kvLen ++ leBytes 4 r.held ++ leBytes 1 r.pool ++ leBytes 1 r.flags ++ leBytes 2 r.tenant
      ++ leBytes 4 r.frozen ++ leBytes 8 r.chain ++ leBytes 4 r.waitBakes ++ leBytes 4 r.shared)).1

/-- The offset of page-list entry `i` of a sequence. -/
def Block.plOff (b : Block) (s i : Nat) : Nat :=
  b.fieldOff pgKvm F.KVM_PL_BASE.PL_BASE + s * b.eff pgKvm F.KVM_PL.PL_LINES * 128 + 4 * i

/-- The page of page-list entry `i`. -/
def Block.plEntry (b : Block) (s i : Nat) : Nat := b.m32 (b.plOff s i)

/-- Set it. -/
def Block.setPl (b : Block) (s i p : Nat) : Block := b.pw (b.plOff s i) 4 p

/-- The largest context of a sequence in a pool (R233). -/
def Block.maxContext (b : Block) (k : Nat) : Nat := b.eff pgKvm F.KVM_PL.PL_LINES * 32 * (b.pool k).pageTokens

/-- Lower PAGES_HELD to `n`: the entries at index `n` and above are released, last first, and read NONE. -/
def Block.trimPages (b : Block) (s n : Nat) : Block :=
  let r := b.seqRec s
  let b1 := (List.range (r.held - n)).foldl (fun b i =>
    let j := r.held - 1 - i
    (b.releasePage r.pool (b.plEntry s j)).setPl s j pageNone) b
  if n < r.held then b1.setSeqRec s { b1.seqRec s with held := n } else b1

/-- A retired sequence gives its pages back and clears VALID (R237 item 2). -/
def Block.dropSeq (b : Block) (s : Nat) : Block :=
  let b1 := b.trimPages s 0
  let r := b1.seqRec s
  b1.setSeqRec s { r with flags := setBits r.flags 0 1 0 }

/-- Grow a page list by `n` pages; the caller checked that they are free. -/
def Block.growPages (b : Block) (s : Nat) : Nat → Block
  | 0 => b
  | n + 1 =>
    let r := b.seqRec s
    match b.allocPage r.pool with
    | (b1, some p) => ((b1.setPl s r.held p).setSeqRec s { r with held := r.held + 1 }).growPages s n
    | (b1, none) => b1

/-! ### Walks (R239 to R241) -/

/-- A walk descriptor. -/
structure WalkDesc where
  seq : Nat
  layer : Nat
  first : Nat
  count : Nat
  lineFirst : Nat
  lineCount : Nat
  mode : Nat
  dir : Bool
  fieldOff : Nat
  fieldLen : Nat
  badResv : Bool
deriving DecidableEq, Repr

/-- The 32 bytes of a walk descriptor. -/
def walkDesc (bs : List Byte) : WalkDesc :=
  let n (o k : Nat) : Nat := leNat ((bs.drop o).take k)
  { seq := n 0 2 % 16384, layer := n 2 2, first := n 4 4, count := n 8 4, lineFirst := n 0xC 1, lineCount := n 0xD 1
    mode := n 0xE 1 % 4, dir := bit (n 0xE 1) 2, fieldOff := n 0x10 2, fieldLen := n 0x12 2
    badResv := decide (16384 ≤ n 0 2) || decide (8 ≤ n 0xE 1) || decide (n 0xF 1 ≠ 0) || decide (n 0x14 12 ≠ 0) }

/-- Bytes that the walk puts into SRAM or takes from it. -/
def WalkDesc.bytes (d : WalkDesc) (q : PoolSnap) : Nat :=
  let tile := 16384 * kvWidth q.fmt
  match d.mode with
  | 0 => d.count * d.lineCount * 128
  | 1 => ceilDiv d.count 128 * ceilDiv d.fieldLen 128 * tile
  | _ => ceilDiv d.fieldLen 128 * ceilDiv d.count 128 * tile

/-- The checks of R240: the status, 0 when the walk may run. -/
def Block.walkStatus (b : Block) (d : WalkDesc) (tenant dst limit : Nat) : Nat :=
  let r := b.seqRec d.seq
  let q := b.pool r.pool
  let w := kvWidth q.fmt
  if d.badResv || decide (d.mode = 3) || (d.dir && decide (d.mode ≠ 0)) || decide (d.lineCount = 0)
      || (decide (d.mode ≠ 0) && (decide (d.fieldLen = 0) || decide (512 < d.fieldLen)))
      || !r.valid || decide (q.layers ≤ d.layer) || decide (r.held * q.pageTokens < d.first + d.count)
      || (d.dir && decide (0 < d.count) && decide (d.first < r.kvLen)) then stRANGE
  else if r.tenant ≠ tenant then stKEY
  else if limit < d.bytes q ∨ 0x400000 < d.bytes q ∨ !inSram dst (d.bytes q) ∨ dst % 128 ≠ 0
      ∨ q.recLines < d.lineFirst + d.lineCount ∨ (d.mode ≠ 0 ∧ d.lineCount * 128 < d.fieldOff + d.fieldLen * w) then stALIGN
  else stOK

/-- The offset of line LINE_FIRST of the record of walked token `j`. -/
def Block.walkOff (b : Block) (d : WalkDesc) (j : Nat) : Nat :=
  let q := b.pool (b.seqRec d.seq).pool
  let t := d.first + j
  q.tokenOff (b.plEntry d.seq (t / q.pageTokens)) d.layer (t % q.pageTokens) + d.lineFirst * 128

/-- Read the lines of one token that a field overlaps, and its bytes. -/
def Block.walkField (b : Block) (d : WalkDesc) (w tenant part page j : Nat) : Block × Nat × List Byte :=
  let a := b.walkOff d j + d.fieldOff
  let n := d.fieldLen * w
  let lo := a / 128 * 128
  let hi := (a + n + 127) / 128 * 128
  let (b1, st, bs) := b.readLocal lo (hi - lo) tenant false part page
  (b1, st, (bs.drop (a - lo)).take n)

/-- The fields of all tokens, or the first nonzero status. -/
def Block.walkFields (b : Block) (d : WalkDesc) (w tenant part page : Nat) : Nat → Block × Nat × List (List Byte)
  | 0 => (b, stOK, [])
  | n + 1 =>
    let (b1, st, l) := b.walkFields d w tenant part page n
    if st ≠ stOK then (b1, st, l)
    else
      let (b2, st2, f) := b1.walkField d w tenant part page n
      (b2, st2, l ++ [f])

/-- The tiles of a ROWS (`rows`) or COLS walk: element (row, k) of each tile, +0 where no token supplies one (R241). -/
def walkTiles (rows : Bool) (w fieldLen count : Nat) (fs : List (List Byte)) : List Byte :=
  let inner := if rows then ceilDiv fieldLen 128 else ceilDiv count 128
  let outer := if rows then ceilDiv count 128 else ceilDiv fieldLen 128
  (List.range outer).flatMap (fun o => (List.range inner).flatMap (fun i =>
    (List.range 128).flatMap (fun r => (List.range 128).flatMap (fun c =>
      let tok := if rows then o * 128 + r else i * 128 + c
      let e := if rows then i * 128 + c else o * 128 + r
      if tok < count ∧ e < fieldLen then ((fs.getD tok []).drop (e * w)).take w else List.replicate w 0))))

/-- A walk whose descriptor has been read. -/
def Block.walkRun (b : Block) (t tag dst limit : Nat) (d : WalkDesc) : Block :=
  let x := b.tile t
  let q := b.pool (b.seqRec d.seq).pool
  let st := b.walkStatus d x.tenant dst limit
  if st ≠ stOK then b.tagAtOnce t tag st
  else if d.count = 0 then b.tagAtOnce t tag stOK
  else if d.mode = 0 then
    let ps := (List.range d.count).map (fun j =>
      ({ addr := localAddr (b.walkOff d j), len := d.lineCount * 128, sram := dst + j * d.lineCount * 128 } : Piece))
    b.startTag t tag (if d.dir then .write else .read) ps (if d.dir then x.gather ps else []) x.tenant t none
  else
    let w := kvWidth q.fmt
    let (b1, st2, fs) := b.walkFields d w x.tenant (b.tilePart t) (tileClu t) d.count
    if st2 ≠ stOK then b1.tagAtOnce t tag st2
    else b1.landTag t tag dst (walkTiles (decide (d.mode = 1)) w d.fieldLen d.count fs)

/-- DWALK (R239): the descriptor is read first, as any line transfer of the tile. -/
def Block.dwalk (b : Block) (t sa sb sl tag off : Nat) : Block :=
  let x := b.tile t
  let a := (x.s sa).toNat
  let dst := x.addrZ sb off
  let limit := (x.s sl).toNat
  b.dmaInsn t tag (fun _ => [(dst, limit)]) (fun b =>
    if a % 32 ≠ 0 then b.tagAtOnce t tag stALIGN
    else
      match b.resolve a 32 with
      | some (.here o) =>
        let (b1, st, bs) := b.readLocal o 32 x.tenant false (b.tilePart t) (tileClu t)
        if st ≠ stOK then b1.tagAtOnce t tag st else b1.walkRun t tag dst limit (walkDesc bs)
      | some (.far _ _) =>
        let s := x.tag tag
        (b.setTile t ((b.tile t).setTag tag { s with inflight := s.inflight + 1 })).newXfer
          { xfer0 (.walkDesc t tag dst limit) .read with
              pieces := [{ addr := a, len := 32, sram := 0 }], tenant := x.tenant, group := t, part := b.tilePart t
              page := tileClu t }
      | none => (b.reportRange (tileClu t)).tagAtOnce t tag stRANGE)

/-! ### The prefix table (R247 to R251) -/

/-- 64-bit helpers of SipHash. -/
def add64 (a c : Nat) : Nat := (a + c) % 2 ^ 64
def rotl64 (a n : Nat) : Nat := (a * 2 ^ n % 2 ^ 64) ||| (a / 2 ^ (64 - n))

/-- One SipHash round. -/
def sipRound (v : Nat × Nat × Nat × Nat) : Nat × Nat × Nat × Nat :=
  let (v0, v1, v2, v3) := v
  let v0 := add64 v0 v1
  let v1 := rotl64 v1 13 ^^^ v0
  let v0 := rotl64 v0 32
  let v2 := add64 v2 v3
  let v3 := rotl64 v3 16 ^^^ v2
  let v0 := add64 v0 v3
  let v3 := rotl64 v3 21 ^^^ v0
  let v2 := add64 v2 v1
  let v1 := rotl64 v1 17 ^^^ v2
  let v2 := rotl64 v2 32
  (v0, v1, v2, v3)

/-- Absorb one 8-byte word. -/
def sipWord (v : Nat × Nat × Nat × Nat) (m : Nat) : Nat × Nat × Nat × Nat :=
  let (v0, v1, v2, v3) := v
  let (w0, w1, w2, w3) := sipRound (sipRound (v0, v1, v2, v3 ^^^ m))
  (w0 ^^^ m, w1, w2, w3)

/-- SipHash-2-4 of a message under the key words k0 and k1. -/
def siphash24 (k0 k1 : Nat) (msg : List Byte) : Nat :=
  let n := msg.length
  let v := (k0 ^^^ 0x736F6D6570736575, k1 ^^^ 0x646F72616E646F6D, k0 ^^^ 0x6C7967656E657261, k1 ^^^ 0x7465646279746573)
  let v1 := (List.range (n / 8)).foldl (fun v i => sipWord v (leNat ((msg.drop (8 * i)).take 8))) v
  let last := leNat (msg.drop (8 * (n / 8))) + n % 256 * 2 ^ 56
  let (w0, w1, w2, w3) := sipWord v1 last
  let (x0, x1, x2, x3) := sipRound (sipRound (sipRound (sipRound (w0, w1, w2 ^^^ 0xFF, w3))))
  x0 ^^^ x1 ^^^ x2 ^^^ x3

/-- The key words of a partition. -/
def Block.pfxKey (b : Block) (p : Nat) : Nat × Nat :=
  let k := b.eff pgKvm F.KVM_PFX_KEY.KEY p
  (k % 2 ^ 64, k / 2 ^ 64)

/-- SipHash under the key of a partition. -/
def Block.pfxHash (b : Block) (p : Nat) (msg : List Byte) : Nat := siphash24 (b.pfxKey p).1 (b.pfxKey p).2 msg

/-- BLOCK_LOG2 of a partition. -/
def Block.blockLog (b : Block) (p : Nat) : Nat := b.eff pgKvm F.KVM_PFX_CFG.BLOCK_LOG2 p

/-- Prefix reuse applies to a pool of a partition (R247). -/
def Block.prefixOn (b : Block) (p k : Nat) : Bool :=
  decide (b.eff pgKvm F.KVM_PFX_CFG.PREFIX_EN p = 1) && decide (b.blockLog p ≤ (b.pool k).pageLog)

/-- The seed of R247. -/
def Block.pfxSeed (b : Block) (p tenant model k : Nat) : Nat :=
  b.pfxHash p (leBytes 2 tenant ++ leBytes 1 model ++ leBytes 1 k ++ leBytes 1 (b.blockLog p) ++ leBytes 1 (b.pool k).pageLog
    ++ [0, 0])

/-- The chain over the blocks of one page whose tokens lie at `a`. -/
def Block.pfxPage (b : Block) (p k h a : Nat) : Nat :=
  let bl := 2 ^ b.blockLog p
  (List.range ((b.pool k).pageTokens / bl)).foldl (fun h i =>
    b.pfxHash p (leBytes 8 h ++ b.mem.read (a + 4 * bl * i) (4 * bl))) h

/-- The offset of way `w` of the bucket of a page key. -/
def Block.pfxWay (b : Block) (p h w : Nat) : Nat :=
  b.fieldOff pgKvm F.KVM_PFX_BASE.PFX_BASE p + h % 2 ^ 20 * 128 + 32 * w

/-- A prefix entry at `a` is VALID. -/
def Block.pfxValid (b : Block) (a : Nat) : Bool := bit (b.byteAt (a + 0x13)) 7

/-- A prefix entry matches (R249), all fields but PAGE. -/
def Block.pfxMatch (b : Block) (a h parent tenant model k : Nat) : Bool :=
  b.pfxValid a && decide (b.m64 a = h) && decide (b.m16 (a + 0x10) % 4096 = tenant) && decide (b.byteAt (a + 0x12) = model)
    && decide (b.byteAt (a + 0x13) % 16 = k) && decide (b.m32 (a + 0xC) = parent)

/-- The way of a matching entry. -/
def Block.pfxFind (b : Block) (p h parent tenant model k : Nat) : Option Nat :=
  ((List.range 4).map (b.pfxWay p h)).find? (fun a => b.pfxMatch a h parent tenant model k)

/-- The token area of a page. -/
def PoolSnap.tokArea (q : PoolSnap) (page : Nat) : Nat := q.tok + page * q.pageTokens * 4

/-- The lookup of R249 from page index `j` on, at most `n` pages: the block, the pages taken so far and the chain. -/
def Block.lookupGo (b : Block) (p s k tenant model pLen prompt deadline : Nat) : Nat → Nat → Nat → Nat → Block × Nat × Nat
  | 0, j, _, h => (b, j, h)
  | n + 1, j, parent, h0 =>
    let q := b.pool k
    if pLen - 1 < (j + 1) * q.pageTokens then (b, j, h0)
    else
      let a := prompt + 4 * j * q.pageTokens
      let h := b.pfxPage p k h0 a
      if deadline < b.now then (b.bump pgKvm F.KVM_PFX_CNT.DEADLINE_CNT, j, h0)
      else
        match b.pfxFind p h parent tenant model k with
        | none => (b.bumpWrap pgKvm F.KVM_PFX_MISS.PFX_MISS, j, h0)
        | some e =>
          let page := b.m32 (e + 8)
          if b.eff pgKvm F.KVM_PFX_CFG.VERIFY p = 1
              ∧ b.mem.read (q.tokArea page) (4 * q.pageTokens) ≠ b.mem.read a (4 * q.pageTokens) then
            (((b.bump pgKvm F.KVM_PFX_CNT.COLLIDE_CNT).reportPart pgKvm 0x0A03 p).raise pgKvm 2, j, h0)
          else if b.pageRef k page = 65535 then (b, j, h0)
          else
            ((((b.setPageRef k page (b.pageRef k page + 1)).setPl s j page).bumpWrap pgKvm F.KVM_PFX_HIT.PFX_HIT)).lookupGo
              p s k tenant model pLen prompt deadline n (j + 1) page h

/-- A record for an admitted sequence, with the pages that its prefix lookup took (R237 item 5, R249). The pages of its
list above are NONE. -/
def Block.newSeq (b : Block) (p s k tenant model pLen prompt deadline : Nat) : Block :=
  let on := b.prefixOn p k
  let seed := b.pfxSeed p tenant model k
  let (b1, m, h) := if on then b.lookupGo p s k tenant model pLen prompt deadline (pLen / (b.pool k).pageTokens + 1) 0 pageNone seed
    else (b, 0, 0)
  let r : SeqRec :=
    { kvLen := m * (b.pool k).pageTokens, held := m, pool := k, flags := 1 + (if on then 4 else 0), tenant := tenant
      frozen := m, chain := h, waitBakes := 0, shared := m }
  let n := b.eff pgKvm F.KVM_PL.PL_LINES * 32
  let b2 := (b1.privWrite (b1.plOff s m) (List.replicate (4 * (n - m)) 0xFF)).1
  b2.setSeqRec s r

/-- A freeze of page index `i` of a sequence is under way. -/
def Block.kvFrzPending (b : Block) (s i : Nat) : Bool :=
  let mine (o : FrzOwner) : Bool := match o with
    | .kvPage s' i' _ => decide (s' = s) && decide (i' = i)
    | _ => false
  (b.kvmQueue ++ b.frzQueue ++ b.frzHeld).any (fun r => mine r.owner) || b.frzRuns.any (fun r => mine r.req.owner)
    || b.frzDone.any (fun d => mine d.1)

/-- FREEZE requests for every page that lies wholly below KV_LEN and above FROZEN_PAGES (R237 item 4, R245). -/
def Block.freezePages (b : Block) (s : Nat) : Block :=
  let r := b.seqRec s
  let q := b.pool r.pool
  let full := r.kvLen / q.pageTokens
  (List.range (full - r.frozen)).foldl (fun b d =>
    let i := r.frozen + d
    if b.kvFrzPending s i then b
    else b.kvmAsk (.kvPage s i (b.plEntry s i)) 1 (q.pageOff (b.plEntry s i)) (q.pageBytes / 4096)) b

/-- The way that a new prefix entry takes: the first invalid one, else the smallest INSERT_BAKE. -/
def Block.pfxVictim (b : Block) (p h : Nat) : Nat :=
  let ws := (List.range 4).map (b.pfxWay p h)
  match ws.find? (fun a => !b.pfxValid a) with
  | some a => a
  | none => ws.foldl (fun best a => if b.m64 (a + 0x18) < b.m64 (best + 0x18) then a else best) (b.pfxWay p h 0)

/-- Insert the prefix entry of page `i` of a sequence whose freeze completed (R250). -/
def Block.pfxInsert (b : Block) (p s i model bakeNo : Nat) : Block :=
  let r := b.seqRec s
  let q := b.pool r.pool
  if !b.prefixOn p r.pool || !r.chainOk then b.setSeqRec s { r with flags := setBits r.flags 2 1 0 }
  else
    let page := b.plEntry s i
    let h := b.pfxPage p r.pool r.chain (q.tokArea page)
    let parent := if i = 0 then pageNone else b.plEntry s (i - 1)
    let b1 := b.setSeqRec s { r with chain := h }
    if i < r.shared ∨ (b1.pfxFind p h parent r.tenant model r.pool).isSome then b1
    else
      let a := b1.pfxVictim p h
      let b2 := if b1.pfxValid a then b1.releasePage (b1.byteAt (a + 0x13) % 16) (b1.m32 (a + 8)) else b1
      let b3 := (b2.privWrite a (leBytes 8 h ++ leBytes 4 page ++ leBytes 4 parent ++ leBytes 2 r.tenant ++ leBytes 1 model
        ++ leBytes 1 (r.pool + 128) ++ leBytes 4 0 ++ leBytes 8 bakeNo)).1
      b3.setPageRef r.pool page (min 65535 (b3.pageRef r.pool page + 1))

/-- The entries of a partition's table that may be VALID: those with a listed byte, or all of them where the contents of
the table's windows are undefined. -/
def Block.pfxEntries (b : Block) (p : Nat) : List Nat :=
  let base := b.fieldOff pgKvm F.KVM_PFX_BASE.PFX_BASE p
  let len := 2 ^ 27
  if (windowsOf base len).any (fun w => (SMap.find b.mem.undef w).isSome) then
    (List.range (2 ^ 22)).map (fun i => base + 32 * i)
  else
    (b.mem.cells.filter (fun e => decide (base ≤ e.1) && decide (e.1 < base + len) && decide ((e.1 - base) % 32 = 0x13))).map
      (fun e => e.1 - 0x13)

/-- Invalidate the entries of a table that satisfy a test, and release their references (R251). -/
def Block.pfxInvalidate (b : Block) (p : Nat) (test : Nat → Bool) : Block :=
  ((b.pfxEntries p).filter (fun a => b.pfxValid a && test a)).foldl (fun b a =>
    let v := b.byteAt (a + 0x13)
    (b.pw (a + 0x13) 1 (v % 128)).releasePage (v % 16) (b.m32 (a + 8))) b

/-- KEEP of entry `i` applied to its sequence (R244): the new block, and a fault code with which the request retires. -/
def Block.applyKeep (b : Block) (s kind qLen ctx keep : Nat) : Block × Nat :=
  let r := b.seqRec s
  if qLen = 0 then (b, 0)
  else if keep ≤ qLen ∧ (kind ≠ 2 ∨ 1 ≤ keep) then (b.setSeqRec s { r with kvLen := ctx - qLen + keep }, 0)
  else if kind = 2 ∧ keep = 0xFFFFFFFF then
    (((b.bump pgKvm F.KVM_ERR_CNT.NO_COMMIT_CNT).raise pgKvm 4).reportPage pgKvm 0x0A04, 0x0A04)
  else ((b.bump pgKvm F.KVM_ERR_CNT.BAD_KEEP_CNT).reportPage pgKvm 0x0A06, 0x0A06)

/-- The kept input tokens go into the token area of their pages (R250). -/
def Block.keepTokens (b : Block) (s first : Nat) : List Nat → Block
  | [] => b
  | tok :: rest =>
    let r := b.seqRec s
    let q := b.pool r.pool
    let page := b.plEntry s (first / q.pageTokens)
    (b.pw (q.tokArea page + 4 * (first % q.pageTokens)) 4 tok).keepTokens s (first + 1) rest

/-- Commit of the KVM page (R231, R251, R253, R254). `old` is the committed set before. The first commit with ENABLE = 1 that has a sequence
table clears every record.
Log entry 96 (DEDUCED, unsafe). -/
def Block.kvmCommit (b : Block) (old : SMap Nat) : Block :=
  let oldOf (f : Field) (i : Nat) : Nat := SMap.get f.reset old (f.key i)
  let owned (a len : Nat) (ok : Nat → Bool) : Bool := decide (a = 0) || (windowsOf (a % 2 ^ 41) len).all (fun w => ok (b.owner w))
  let keep (b : Block) (f : Field) (i len : Nat) (ok : Nat → Bool) : Block :=
    if owned (b.eff pgKvm f i) len ok then b
    else (((b.putCmt pgKvm f (oldOf f i) i).cfgReject pgKvm).raise pgKvm 3).reportPage pgKvm 0x0A05
  let any (o : Nat) : Bool := decide (o < 16)
  let b1 := keep b F.KVM_SEQ_BASE.SEQ_BASE 0 (2 ^ 19) any
  let b2 := keep b1 F.KVM_PL_BASE.PL_BASE 0 (16384 * b1.eff pgKvm F.KVM_PL.PL_LINES * 128) any
  let b3 := keep b2 F.KVM_POOL_TAB.POOL_TAB 0 1024 any
  let b4 := (List.range 16).foldl (fun b p => keep b F.KVM_PFX_BASE.PFX_BASE p (2 ^ 27) (fun o => decide (o = p))) b3
  let b5 := (List.range 16).foldl (fun b p =>
    let clear := decide (b.eff pgKvm F.KVM_PFX_CFG.CLEAR p = 1)
    let keyOld := oldOf F.KVM_PFX_KEY.KEY p
    if clear then (b.pfxInvalidate p (fun _ => true)).putCmt pgKvm F.KVM_PFX_CFG.CLEAR 0 p
    else if keyOld ≠ b.eff pgKvm F.KVM_PFX_KEY.KEY p then (b.putCmt pgKvm F.KVM_PFX_KEY.KEY keyOld p).cfgReject pgKvm
    else b) b4
  let b6 := if b5.kvmZeroed || !b5.enabled pgKvm || decide (b5.eff pgKvm F.KVM_SEQ_BASE.SEQ_BASE = 0) then b5
    else { b5 with mem := b5.mem.zero (b5.seqOff 0) (2 ^ 19), kvmZeroed := true }
  ((List.range 16).foldl Block.poolCommit b6).kvmFeed

end Sys2Proof.Machine
end

