-- ==== Sys2Proof/Machine/Freeze.lean ====
section
/-! DEFINITION. The freeze engine (R200 to R206) and the slice cache (R204, R205, R210, R211). -/
namespace Sys2Proof.Machine

/-! ### The slice cache -/

/-- A line leaves the slices. -/
def Block.dropLine (b : Block) (key : Nat) : Block := { b with lines := SMap.erase b.lines key }

/-- The set of a line: one of the 4,096 that 16 ways of 512 KiB make of lines of 128 bytes (R6, R210).
Log entry 9 (DESIGN CHOICE, safe). -/
def sliceSet (key : Nat) : Nat := Config.sliceSet key % 4096

/-- The lines of a set of a slice. -/
def Block.setLines (b : Block) (s key : Nat) : List (Nat × Line) :=
  b.lines.filter (fun e => decide (e.2.slice = s) && decide (sliceSet e.1 = sliceSet key))

/-- The ways that an install may take: pin ways for a pinned line, the other allocation ways for any other (R210, R211). -/
def Block.fillWays (b : Block) (s part : Nat) (pin : Bool) : List Nat :=
  let alloc := b.eff (pgSlice s) F.SLC_MASK.ALLOC_WAYS part
  let pins := b.eff (pgSlice s) F.SLC_MASK.PIN_WAYS part
  bitIndices 16 (if pin then pins else alloc - (alloc &&& pins))

/-- Install a line in a slice: a free way first, else the unpinned line that the replacement rule chooses. `false`: no way
could take it. -/
def Block.installLine (b : Block) (s key part : Nat) (pin : Bool) (data : List Byte) : Block × Bool :=
  match SMap.find b.lines key with
  | some ln => (({ b with lines := SMap.set b.lines key { ln with pinned := ln.pinned || pin } }).refreshLine key
      { ln with pinned := ln.pinned || pin }, true)
  | none =>
    let ways := b.fillWays s part pin
    let held := b.setLines s key
    let put (b : Block) (w : Nat) : Block :=
      { b with lines := SMap.set b.lines key { slice := s, way := w, part := part, pinned := pin, order := b.fresh, data := data }
               fresh := b.fresh + 1 }
    match ways.find? (fun w => !held.any (fun e => decide (e.2.way = w))) with
    | some w => (put b w, true)
    | none =>
      let cand := held.filter (fun e => ways.contains e.2.way && !e.2.pinned)
      match cand with
      | [] => (b, false)
      | c :: _ =>
        let oldest := cand.foldl (fun x y => if y.2.order < x.2.order then y else x) c
        let v := if b.eff (pgSlice s) F.SLC_X_REPL.REPL = 1 then oldest
          else cand.getD (Config.victim b.fresh % cand.length) c
        (put (b.dropLine v.1) v.2.way, true)

/-- A thaw filter of a slice. -/
def Block.filter (b : Block) (s : Nat) : ThawFilter := SMap.get { ranges := [], floor := 0 } b.filters s

/-- FILL_MAX_AGE in ticks. -/
def Block.fillAge (b : Block) : Nat := b.eff pgDev F.DEV_FRZ_CFG.FILL_MAX_AGE * 1000

/-- The entries of a filter that still count: each is kept for FILL_MAX_AGE. -/
def Block.liveRanges (b : Block) (s : Nat) : List (Nat × Nat × Nat) :=
  (b.filter s).ranges.filter (fun r => decide (b.now ≤ r.2.2 + b.fillAge))

/-- A slice applies a thaw range: its lines go, and the range joins the filter of 64 (R204). Ranges are in frames of the
global line space (slot and frame). -/
def Block.applyThaw (b : Block) (s first count : Nat) : Block :=
  let live := b.liveRanges s
  let full := decide (64 ≤ live.length)
  let f : ThawFilter :=
    { ranges := (first, count, b.now) :: live.take 63
      floor := if full then max (b.filter s).floor ((live.getLastD (0, 0, 0)).2.2) else (b.filter s).floor }
  let b1 := { b with
    lines := b.lines.filter (fun e => !(decide (e.2.slice = s) && decide (first ≤ e.1 / 32) && decide (e.1 / 32 < first + count)))
    filters := SMap.set b.filters s f }
  if full then (b1.bump (pgSlice s) F.SLC_FILTER.FILTER_OVF_CNT).raise (pgSlice s) 1 else b1

/-- The conditions of R204 on a fill read at `tick`. -/
def Block.fillOk (b : Block) (s key tick : Nat) : Bool :=
  !b.safe && decide (b.now ≤ tick + b.fillAge)
    && (b.liveRanges s).all (fun r => !(decide (r.1 ≤ key / 32) && decide (key / 32 < r.1 + r.2.1)) || decide (r.2.2 < tick))
    && decide ((b.filter s).floor < tick ∨ (b.filter s).floor = 0)

/-- SLICE_FILL: the oldest fill on its way to a slice is installed, or refused and counted (R204). -/
def Block.sliceFill (b : Block) (s : Nat) : Block :=
  match b.fills.find? (fun f => decide (f.slice = s)) with
  | none => b
  | some f =>
    let b1 := { b with fills := b.fills.erase f }
    if b1.islandOpen (312 + s) && b1.fillOk s f.line f.readTick then (b1.installLine s f.line f.part f.pin f.data).1
    else b1.bumpWrap (pgSlice s) F.SLC_PERF.NOFILL

/-- SLC_UNPIN: unpin every line of the named partitions in a slice (R211). -/
def Block.slcUnpin (b : Block) (s mask : Nat) : Block :=
  { b with lines := SMap.mapVals (fun _ l => if l.slice = s ∧ mask.testBit l.part then { l with pinned := false } else l) b.lines }

/-- Every line of a remote frame leaves the slices, and the fills of such lines that are on their way (R205). -/
def Block.dropRemote (b : Block) : Block :=
  let own (key : Nat) : Bool := decide (key / 2 ^ 34 = b.slotId)
  { b with lines := b.lines.filter (fun e => own e.1), fills := b.fills.filter (fun f => own f.line) }

/-- The lines and the fills of one slice go: its function stops (R32).
Log entry 91 (DESIGN CHOICE, unsafe). -/
def Block.dropSlice (b : Block) (s : Nat) : Block :=
  { b with lines := b.lines.filter (fun e => decide (e.2.slice ≠ s)), fills := b.fills.filter (fun f => decide (f.slice ≠ s)) }

/-- A slice error that is not corrected: the line, or with the tags its whole set, is invalid, and what it held is read again from the source
(R212). -/
def Block.sliceLost (b : Block) (s key : Nat) (whole : Bool) : Block :=
  let hit (e : Nat × Line) : Bool :=
    decide (e.2.slice = s) && (if whole then decide (sliceSet e.1 = sliceSet key) else decide (e.1 = key))
  ((({ b with lines := b.lines.filter (fun e => !hit e) }).bump (pgSlice s) F.SLC_ECC.REFETCH_CNT).raise (pgSlice s) 2).reportPage (pgSlice s) 0x0702

/-- A slice data error that was corrected (R212). -/
def Block.sliceCe (b : Block) (s : Nat) : Block := (b.bump (pgSlice s) F.SLC_ECC.CE_CNT).reportPage (pgSlice s) 0x0701

/-- A link ECC correction of a channel (R216, R226). -/
def Block.linkCe (b : Block) (ch : Nat) : Block :=
  (b.bump (pgMem (ch / 16)) F.MEM_ECC.LINK_CE_CNT (ch % 16)).reportPage (pgMem (ch / 16)) 0x0603 ch

/-- Every line of every slice is invalid: on entry to the safe state or to Rest (R205). -/
def Block.flushSlices (b : Block) : Block := { b with lines := [], fills := [] }

/-! ### The freeze engine -/

/-- The first frame of a request. -/
def FrzRec.first (r : FrzRec) : Nat := r.base % 2 ^ 41 / 4096

/-- The checks of R201: status 3 BAD_OP, 2 RANGE, 1 KEY_FAULT, in this order. -/
def Block.frzStatus (b : Block) (r : FrzRec) : Nat :=
  if r.owner ≠ .doorbell then 0
  else if (r.op ≠ 1 ∧ r.op ≠ 2) ∨ r.frames = 0 ∨ 65536 < r.frames ∨ r.badResv then 3
  else
    match b.localOff r.base with
    | none => 2
    | some off =>
      if off % 4096 ≠ 0 ∨ !b.usable off (r.frames * 4096) then 2
      else if !b.keysOk r.tenant off (r.frames * 4096) r.priv then 1
      else 0

/-- A request ends: the counts, the completion record with NOTIFY, or the word to the block that asked (R201). -/
def Block.frzEnd (b : Block) (r : FrzRec) (status changed : Nat) : Block :=
  let b0 := if status = 1 then b.keyFault pgDev else b
  let b1 := if status ≠ 0 then b0.bump pgDev F.DEV_FRZ_REJ.REQ_ERR_CNT
    else if r.op = 1 then b0.bumpWrap pgDev F.DEV_FRZ_CNT.FREEZE_DONE
    else b0.bumpWrap pgDev F.DEV_FRZ_CNT.THAW_DONE
  if r.owner ≠ .doorbell then ({ b1 with frzDone := b1.frzDone ++ [(r.owner, status)] }).kvmFeed
  else if bit r.flags 0 ∧ r.compAddr % 16 = 0 then
    b1.newXfer { xfer0 .engine .write with
      pieces := [{ addr := r.compAddr, len := 16, sram := 0 }]
      data := [leBytes 4 r.tag ++ leBytes 2 status ++ leBytes 2 0 ++ leBytes 4 changed ++ leBytes 4 0]
      priv := true, group := 340, page := pgDev }
  else b1

/-- The queue moves up: a waiting record of the doorbell enters it, and its writer goes on with the last of its records (R200). -/
def Block.frzPop (b : Block) : Block :=
  let q := (b.frzQueue ++ b.frzHeld).drop 1
  (b.frzHeld.take 1).foldl (fun b r => b.writeOver r.writer) { b with frzQueue := q.take 256, frzHeld := q.drop 256 }

/-- A request shares a frame with one that runs (R202). -/
def Block.frzShares (b : Block) (r : FrzRec) : Bool :=
  b.frzRuns.any (fun x => decide (r.first < x.first + x.req.frames) && decide (x.first < r.first + r.frames))

/-- The engine can start the request at the front of its queue. -/
def Block.frzReady (b : Block) (r : FrzRec) : Bool := decide (b.frzRuns.length < 16) && !b.frzShares r

/-- The frames of a request that a FREEZE changes: those that are WRITABLE. -/
def Block.toFreeze (b : Block) (r : FrzRec) : List Nat :=
  ((List.range r.frames).map (· + r.first)).filter (fun f => decide (b.frame f = frWRITABLE))

/-- The frames of a request that a THAW changes: those that are FROZEN (listed in the frame state table). -/
def Block.toThaw (b : Block) (r : FrzRec) : List Nat :=
  (b.frames.filter (fun e => decide (r.first ≤ e.1) && decide (e.1 < r.first + r.frames) && decide (e.2 = frFROZEN))).map Prod.fst

/-- The acknowledgements that a thaw waits for: the 32 slices of this package, and 32 + s for every other reachable
slot `s`. -/
def Block.thawAcks (b : Block) : List Nat :=
  List.range 32 ++ ((List.range 64).filter (fun s => decide (s ≠ b.slotId) && b.isOccupied s && b.reachable s)).map (· + 32)

/-- Start a request whose checks passed. -/
def Block.frzStart (b : Block) (r : FrzRec) (fs : List Nat) (st : Nat) (acks : List Nat) : Block :=
  let b1 := fs.foldl (fun b f => b.setFrame f st) b
  if fs.isEmpty then b1.frzEnd r 0 0
  else
    { b1 with frzRuns := b1.frzRuns ++ [{ req := r, first := r.first, todo := fs, frames := fs, acks := acks
                                          since := b.now, slowSeen := false }] }

/-- FREEZE_NOP: a record with OP = 0x00 is ignored. -/
def Block.freezeNop (b : Block) : Block :=
  match b.frzQueue with
  | r :: _ => if r.op = 0 then b.frzPop else b
  | [] => b

/-- FREEZE_OP: the FREEZE record at the front is checked and starts; a record with an unknown OP ends here too. -/
def Block.freezeOp (b : Block) : Block :=
  match b.frzQueue with
  | [] => b
  | r :: _ =>
    if r.op = 0 ∨ r.op = 2 then b
    else if b.frzStatus r ≠ 0 then b.frzPop.frzEnd r (b.frzStatus r) 0
    else if b.frzReady r then b.frzPop.frzStart r (b.toFreeze r) frFREEZING []
    else b

/-- THAW_OP: the THAW record at the front is checked and starts (R203). -/
def Block.thawOp (b : Block) : Block :=
  match b.frzQueue with
  | [] => b
  | r :: _ =>
    if r.op ≠ 2 then b
    else if b.frzStatus r ≠ 0 then b.frzPop.frzEnd r (b.frzStatus r) 0
    else if b.frzReady r then b.frzPop.frzStart r (b.toThaw r) frTHAWING b.thawAcks
    else b

/-- Put a run back, or end it. -/
def Block.setRun (b : Block) (i : Nat) (x : FrzRun) : Block := { b with frzRuns := setAt b.frzRuns i x }
def Block.dropRun (b : Block) (i : Nat) : Block := { b with frzRuns := b.frzRuns.take i ++ b.frzRuns.drop (i + 1) }

/-- FREEZE_DRAINED: the freezing frames of a run whose lease count is 0 become FROZEN; with the last one it completes. -/
def Block.freezeDrained (b : Block) (i : Nat) : Block :=
  match b.frzRuns[i]? with
  | none => b
  | some x =>
    if x.req.op ≠ 1 then b
    else
      let ready := x.todo.filter (fun f => decide (b.leaseCount f = 0))
      let left := x.todo.filter (fun f => decide (b.leaseCount f ≠ 0))
      let b1 := ready.foldl (fun b f => b.setFrame f frFROZEN) b
      if left.isEmpty then (b1.dropRun i).frzEnd x.req 0 x.frames.length else b1.setRun i { x with todo := left }

/-- One acknowledgement of a thaw; with the last the frames become WRITABLE and the request completes (R203). -/
def Block.ackThaw (b : Block) (i who : Nat) : Block :=
  match b.frzRuns[i]? with
  | none => b
  | some x =>
    if x.req.op ≠ 2 ∨ !x.acks.contains who then b
    else
      let b0 := if who < 32 then b.applyThaw who (b.slotId * 2 ^ 29 + x.first) x.req.frames else b
      let acks := x.acks.filter (fun a => decide (a ≠ who))
      if acks.isEmpty then
        ((x.todo.foldl (fun b f => b.setFrame f frWRITABLE) b0).dropRun i).frzEnd x.req 0 x.frames.length
      else b0.setRun i { x with acks := acks }

/-- THAW_ACK: of a slice here, of another package, or of a slice here for another package's thaw. -/
def Block.thawAck (b : Block) (a : ThawAck) : Block :=
  match a with
  | .slice run s => b.ackThaw run s
  | .peer run slot => b.ackThaw run (32 + slot)
  | .foreign slot first count s =>
    (b.applyThaw s (slot * 2 ^ 29 + first) count).emit (.event "thaw-ack" [slot, first, count, s])

/-- An unreachable package counts as having acknowledged every thaw (R205, R363). -/
def Block.ackUnreachable (b : Block) (slot : Nat) : Block :=
  (List.range 16).foldl (fun b j => b.ackThaw (15 - j) (32 + slot)) b

/-- FREEZE_SLOW: a freeze whose drain exceeds DRAIN_WARN raises the fault once and goes on (R202). -/
def Block.freezeSlow (b : Block) (i : Nat) : Block :=
  match b.frzRuns[i]? with
  | none => b
  | some x =>
    if x.req.op = 1 ∧ !x.slowSeen ∧ x.since + b.eff pgDev F.DEV_FRZ_CFG.DRAIN_WARN * 1000 < b.now then
      ((b.setRun i { x with slowSeen := true }).raise pgDev 1).reportPage pgDev 0x0609
    else b

/-- A request that the device makes for itself to set remapped frames WRITABLE (R195). -/
def FrzRec.isRemap (r : FrzRec) : Bool :=
  match r.owner with
  | .remap _ => true
  | _ => false

/-- The safe state ends every request ABORTED, but for the invalidation of remapped frames, which goes on (R195, R203). A request with a nonzero status changes no frame: the frames of a running
freeze are WRITABLE again and those of a running thaw FROZEN (R201, R246).
Freezes of KV pages that were still to be asked for go as well; thaws wait for the exit.
Log entry 43 (DEDUCED, unsafe). -/
def Block.abortFreezes (b : Block) : Block :=
  let runs := b.frzRuns.filter (fun x => !x.req.isRemap)
  let queued := (b.frzQueue ++ b.frzHeld).filter (fun r => !r.isRemap)
  let kept := (b.frzQueue ++ b.frzHeld).filter FrzRec.isRemap
  let b0 := { b with kvmQueue := b.kvmQueue.filter (fun r => decide (r.op = 2)), frzRuns := b.frzRuns.filter (fun x => x.req.isRemap), frzQueue := kept.take 256, frzHeld := kept.drop 256 }
  let b1 := b.frzHeld.foldl (fun b r => b.writeOver r.writer) b0
  let b2 := runs.foldl (fun b x =>
    (x.frames.foldl (fun b f => b.setFrame f (if x.req.op = 1 then frWRITABLE else frFROZEN)) b).frzEnd x.req 4 0) b1
  (queued.filter (fun r => decide (r.op ≠ 0))).foldl (fun b r => b.frzEnd r 4 0) b2

/-! ### Channel groups (R217 to R222) -/

/-- A group after reset. -/
def groupNew : Group := { fails := 0, retrainDue := false, retireDue := false, lastTrain := 0, lastTemp := 0, since := 0, ueTicks := [] }

/-- A group. -/
def Block.group (b : Block) (g : Nat) : Group := SMap.get groupNew b.groups g
def Block.setGroup (b : Block) (g : Nat) (x : Group) : Block := { b with groups := SMap.set b.groups g x }

/-- Set bit `i` of a field to `v`. -/
def Block.putBit (b : Block) (p : Nat) (f : Field) (i : Nat) (v : Bool) (k : Nat := 0) : Block :=
  b.put p f (setBits (b.eff p f k) i 1 (b2n v)) k

/-- A window is remapped: contents undefined, poison gone, its frames WRITABLE by a rack-wide invalidation (R195). -/
def Block.remapWindow (b : Block) (w : Nat) : Block :=
  let (n, b1) := b.draw
  let b2 := { b1 with mem := b1.mem.scramble w n
                      poison := SMap.dropKeys (fun l => decide (l * 128 / winSize = w)) b1.poison }
  if b2.frames.any (fun e => decide (e.1 / winFrames = w)) then b2.askFreeze (.remap w) 2 (w * winSize) winFrames else b2

/-- A change of OWNER at a commit remaps every window of the old and the new owner sets (R195). `old` is OWNER before. -/
def Block.remapOwners (b : Block) (old : Nat → Nat) : Block :=
  let own (w : Nat) : Nat := b.owner w
  let changed := (List.range 32).filter (fun w => decide (old w ≠ own w))
  if changed.isEmpty then b
  else
    let hit (w : Nat) : Bool := changed.any (fun c => decide (old w = old c) || decide (own w = own c) || decide (old w = own c) || decide (own w = old c))
    (((List.range 32).filter hit).foldl Block.remapWindow b).reportPage (pgMem 0) 0x060A

/-- GROUP_RETIRE: a due group retires at a step start tick (R222). Its own window and the windows of its owner set are remapped: their frames
become WRITABLE and their lines leave the slices (R195, R203). -/
def Block.retireGroup (b : Block) (g : Nat) : Block :=
  let p := pgMem (g / 2)
  let peers := (b.ownerSet g).filter (fun w => decide (w ≠ g))
  let b1 := ((b.putBit p F.MEM_GRP_STATUS.GRP_RETIRED (g % 2) true).putBit p F.MEM_GRP_STATUS.RETRAINING (g % 2) false)
  let b2 := b1.put p F.MEM_CH_STATUS.CH_RETIRED (setBits (b1.eff p F.MEM_CH_STATUS.CH_RETIRED) (8 * (g % 2)) 8 0xFF)
  let b3 := b2.put p F.MEM_CH_STATUS.CH_UP (setBits (b2.eff p F.MEM_CH_STATUS.CH_UP) (8 * (g % 2)) 8 0)
  let b4 := (b3.setGroup g { b3.group g with retireDue := false, retrainDue := false }).raise p 2
  ((g :: peers).foldl Block.remapWindow b4).reportPage p 0x0606

/-- The package stands at a step start tick. -/
def Block.atStep (b : Block) : Bool := decide (b.stepTick = some b.now)

def Block.groupRetire (b : Block) (g : Nat) : Block :=
  if (b.group g).retireDue ∧ b.atStep ∧ !b.groupRetired g then b.retireGroup g else b

/-- A retraining of a group is due: requested, by temperature, or by time (R221). -/
def Block.retrainIsDue (b : Block) (g : Nat) : Bool :=
  let x := b.group g
  let p := pgMem (g / 2)
  let temp := b.eff p F.MEM_TEMP.TEMP
  x.retrainDue
    || decide (x.lastTemp + b.eff p F.MEM_RETRAIN.RETRAIN_DTEMP ≤ temp)
    || decide (temp + b.eff p F.MEM_RETRAIN.RETRAIN_DTEMP ≤ x.lastTemp)
    || decide (x.lastTrain + b.eff p F.MEM_RETRAIN.RETRAIN_PERIOD * 60000000000 ≤ b.now)

/-- A group retrains now. -/
def Block.retraining (b : Block) (g : Nat) : Bool := bit (b.eff (pgMem (g / 2)) F.MEM_GRP_STATUS.RETRAINING) (g % 2)

/-- A controller reads the temperature of its hottest die and the refresh-rate code of MR4 (R226). -/
def Block.memTemp (b : Block) (k temp mr4 : Nat) : Block := (b.put (pgMem k) F.MEM_TEMP.TEMP temp).put (pgMem k) F.MEM_TEMP.MR4_RATE mr4

/-- RETRAIN_START: the controller reads its temperature, and a group that is due then starts, only at a step start tick and one group at a
time (R221). -/
def Block.retrainStart (b0 : Block) (g temp mr4 : Nat) : Block :=
  let b := b0.memTemp (g / 2) temp mr4
  if b.atStep ∧ b.retrainIsDue g ∧ !b.groupRetired g ∧ !(List.range 32).any b.retraining then
    (b.setGroup g { b.group g with since := b.now }).putBit (pgMem (g / 2)) F.MEM_GRP_STATUS.RETRAINING (g % 2) true
  else b

/-- RETRAIN_DONE: success, or a failure; three in a row retire the group. The group's requests stalled while it lasted, 4 cycles of 1.333 GHz
to 3 ticks.
Log entry 94 (DESIGN CHOICE, unsafe). -/
def Block.retrainDone (b : Block) (g : Nat) (ok : Bool) : Block :=
  if !b.retraining g then b
  else
    let p := pgMem (g / 2)
    let x := b.group g
    let b1 := (b.putBit p F.MEM_GRP_STATUS.RETRAINING (g % 2) false).bumpWrap p F.MEM_PERF.RETRAIN_STALL 0 ((b.now - x.since) * 4 / 3)
    if ok then
      (b1.setGroup g { x with fails := 0, retrainDue := false, lastTrain := b.now, lastTemp := b.eff p F.MEM_TEMP.TEMP }).raise p 3
    else
      let fails := x.fails + 1
      (b1.setGroup g { x with fails := fails, retrainDue := decide (fails < 3), retireDue := x.retireDue || decide (3 ≤ fails) }).reportPage
        p 0x0607 (g % 2)

/-- An uncorrectable line of a channel: poison, counts, and CH_UE_LIMIT within one hour (R218, R222). -/
def Block.lineUe (b : Block) (off : Nat) : Block :=
  let ch := b.channelOf off
  let g := ch / 8
  let p := pgMem (ch / 16)
  let x := b.group g
  let recent := (x.ueTicks.filter (fun t => decide (b.now < t.2 + 3600000000000))) ++ [(ch, b.now)]
  let n := (recent.filter (fun t => decide (t.1 = ch))).length
  let b1 := { b with poison := SMap.set b.poison (off / 128) true }
  let b2 := (b1.bump p F.MEM_ECC.UE_CNT (ch % 16)).raise p 1
  let b3 := b2.setGroup g { x with ueTicks := recent, retireDue := x.retireDue || decide (b.eff p F.MEM_UE_LIMIT.CH_UE_LIMIT ≤ n) }
  b3.reportPage p 0x0602 ch

/-- SCRUB: one line of a channel is read and corrected (R217, R219). `bad` of the 136 bytes of the line and its check bytes are wrong: up to 2
are corrected, up to 4 detected, and of more the code promises nothing.
Log entries 44 (DEDUCED, unsafe), 95 (DESIGN CHOICE, safe). -/
def Block.scrub (b : Block) (off bad : Nat) : Block :=
  let ch := b.channelOf off
  let p := pgMem (ch / 16)
  let fixed (b : Block) : Block := (b.bump p F.MEM_ECC.CE_CNT (ch % 16)).reportPage p 0x0601 ch
  if bad = 0 ∨ SMap.get false b.poison (off / 128) then b
  else if bad ≤ 2 then fixed b
  else if bad ≤ 4 then b.lineUe off
  else
    let (n, b1) := b.draw
    match (Config.freeWord n).toNat % 3 with
    | 0 => b1
    | 1 => fixed b1
    | _ => b1.lineUe off

/-- CH_RETIRE_REQ: the groups of the channels named in a mask (R222). -/
def Block.chRetireReq (b : Block) (k mask : Nat) : Block :=
  (bitIndices 16 mask).foldl (fun b c =>
    let g := 2 * k + c / 8
    b.setGroup g { b.group g with retireDue := true }) b

/-- RETRAIN_REQ (R221). -/
def Block.retrainReq (b : Block) (k mask : Nat) : Block :=
  (bitIndices 2 mask).foldl (fun b i =>
    let g := 2 * k + i
    b.setGroup g { b.group g with retrainDue := true }) b

/-- Bits of BLK_STALL that the arbiters of a page own (R215, R372). -/
def stallBits (p : Nat) : Nat :=
  match pageKind p with
  | .mem => 16
  | .slc => 2
  | .fab => 3
  | .clu => 2
  | _ => 0

/-- STARVE: a request of an arbiter is older than STARVE_LIMIT (R215). The arbiters of a group under retraining count no
age. -/
def Block.starve (b : Block) (p i : Nat) : Block :=
  let b1 := (b.modHdr p (fun h => { h with stall := setBits h.stall i 1 1 })).raise p 0
  match pageKind p with
  | .mem => if i < 16 ∧ !b.retraining (2 * (p - 0xC0) + i / 8) then b1.bump p F.MEM_STARVE_CNT.STARVE_CNT else b
  | .slc => if i < 2 then b1.bump p F.SLC_STARVE_CNT.STARVE_CNT else b
  | .fab => if i < 3 then b1.bump p F.FAB_QSTARVE_CNT.STARVE_CNT else b
  | .clu => if i < stallBits p then b1.bump p F.CLU_STARVE_CNT.STARVE_CNT else b
  | _ => b

end Sys2Proof.Machine
end

