-- ==== Sys2Proof/Machine/Score.lean ====
section
/-! DEFINITION. The Score (R119 to R121, R157 to R165, R175, R180, R181) and the rise profile (R182, R183).
Log entry 75 (DEDUCED, unsafe). -/
namespace Sys2Proof.Machine

/-- Entries that a Score holds (R157). -/
def scoreCap (island : Nat) : Nat := if island < 288 then 256 else 512

/-- The island names a tile, a memory controller or a fabric quad. -/
def isScoreIsland (i : Nat) : Bool := decide (i < 288) || (decide (344 ≤ i) && decide (i < 396))

/-- Count a discarded overflow and report it (R120). -/
def Block.countOverflow (b : Block) (i : Nat) : Block :=
  if i < 288 then ((b.bump (pgTile i) F.TIL_SCORE.SCORE_OVFL_CNT).raise (pgTile i) 5).reportTile i 0x0130
  else if i < 360 then (b.bump (islandPage i) F.MEM_SCORE.SCORE_OVFL_CNT).reportPage (islandPage i) 0x0130
  else (b.bump (islandPage i) F.FAB_SCORE.SCORE_OVFL_CNT).reportPage (islandPage i) 0x0130

/-- The sender of an entry learns its status. -/
def Block.tellSender (b : Block) (s : Sender) (st : Nat) : Block :=
  match s with
  | .tile t rd =>
    match (b.tile t).wait with
    | some (.scpush _) => b.setTile t ((b.tile t).resume rd st)
    | _ => b
  | .serving => b
  | .remote => b.emit (.event "score-status" [st])

/-- Entries that the crossing from a router to an island holds (R38). -/
def scoreCrossing (i : Nat) : Nat := (attachedCrossing i).depth

/-- An entry reaches the crossing of a Score; a full crossing holds its writer, which keeps the entry (R40). -/
def Block.pushArriving (b : Block) (i : Nat) (e : ScoreEntry) (s : Sender) : Block :=
  let sc := b.score i
  let a : Arriving := { e := e, sender := s, since := b.now }
  b.setScore i (if sc.arriving.length < scoreCrossing i then { sc with arriving := sc.arriving ++ [a] } else { sc with held := sc.held ++ [a] })

/-- The oldest entry of the crossing is read, and the slot that frees takes the oldest entry that a writer keeps (R39, R40). -/
def Score.popped (sc : Score) (now : Nat) : Score :=
  { sc with arriving := sc.arriving.tail ++ sc.held.take 1, held := sc.held.drop 1, lastRead := now }

/-- An entry is stale: its BAKE_TAG is not that of the bake in progress of its PART (R163). -/
def Block.stale (b : Block) (e : ScoreEntry) : Bool := !b.tagCurrent e.part e.bakeTag

/-- What a Score answers to an entry: 0 accepted, 1 refused, 3 crossing closed; `none` while it is full (R119, R120, R159). A gated or
retired island's crossing is closed (R41), and so is that of a controller or a quad that is OFF.
Log entry 91 (DESIGN CHOICE, unsafe). -/
def Block.acceptStatus (b : Block) (i : Nat) (e : ScoreEntry) : Option Nat :=
  if (i < 288 ∧ (b.tile i).seq = .retired) ∨ !b.isUp i ∨ (288 ≤ i ∧ !b.runs (islandPage i)) then some 3
  else if i < 288 ∧ ((b.hdr (pgTile i)).st = .off ∨ b.tilePart i ≠ e.part) then some 1
  else if b.stale e then some 0
  else if scoreCap i ≤ (b.score i).entries.length then none
  else some 0

/-- An entry becomes pending. -/
def Block.addEntry (b : Block) (i : Nat) (e : ScoreEntry) : Block :=
  let sc := b.score i
  { b.setScore i { sc with entries := sc.entries ++ [{ e := e, order := b.acceptNo }] } with acceptNo := b.acceptNo + 1 }

/-- A Score takes an entry with a known status: stale entries are discarded and counted (R163). -/
def Block.takeEntry (b : Block) (i : Nat) (e : ScoreEntry) (s : Sender) (st : Nat) : Block :=
  let b1 := if st = 0 then (if b.stale e then b.countStale else b.addEntry i e) else b
  b1.tellSender s st

/-- SCORE_ENTRY_ACCEPT: the oldest entry at the crossing of a Score; an entry of another package comes with the command. -/
def Block.scoreAccept (b : Block) (i : Nat) (remote : Option ScoreEntry) : Block :=
  if !isScoreIsland i then b
  else
    let b0 := match remote with
      | some e => b.pushArriving i e .remote
      | none => b
    let sc := b0.score i
    match sc.arriving with
    | [] => b0
    | a :: _ =>
      match b0.acceptStatus i a.e with
      | none => b0
      | some st => (b0.setScore i (sc.popped b0.now)).takeEntry i a.e a.sender st

/-- SCORE_OVERFLOW: an entry that has waited 1 µs at a full Score is discarded (R120). -/
def Block.scoreOverflow (b : Block) (i : Nat) : Block :=
  let sc := b.score i
  match sc.arriving with
  | [] => b
  | a :: _ =>
    if b.acceptStatus i a.e = none ∧ a.since + 1000 ≤ b.now then
      ((b.setScore i (sc.popped b.now)).countOverflow i).tellSender a.sender 2
    else b

/-- The Score entry at an address of tile SRAM. -/
def Tile.entryAt (x : Tile) (a : Nat) : ScoreEntry :=
  { launch := rd64 x.byte a, action := rd32 x.byte (a + 8), target := rd32 x.byte (a + 12), desc := rd64 x.byte (a + 16)
    barw := rd64 x.byte (a + 24) }

/-- SCPUSH (R119). For another package the answer comes with the command.
Log entry 27 (DESIGN CHOICE, unsafe). -/
def Block.scpush (b : Block) (t sd sa imm answer : Nat) : Block :=
  let x := b.tile t
  let a := x.addrZ sa imm
  if !b.canIssue t ∨ sramSize ≤ x.pc then b.insnReg t (fun x => .ok x 0)
  else if !inSram a 32 then b.insnReg t (fun _ => .fault tfRANGE)
  else if b.sramBusy t a 32 then b
  else
    let e := x.entryAt a
    if !isScoreIsland e.island then b.setTile t (x.resume sd 3)
    else if e.isRemote ∧ e.slot ≠ b.slotId then
      (b.setTile t (x.resume sd (answer % 4))).emit
        (.event "score-push" [e.slot, e.launch, e.action, e.target, e.desc, e.barw])
    else (b.tileWait t (.scpush sd)).pushArriving e.island e (.tile t sd)

/-! ### Firing (R163) -/

/-- The fire tick of a pending entry; `none` while its barrier has not released. An entry released by a failed barrier
fires at once (R169). -/
def Block.fireTick (b : Block) (e : ScoreEntry) : Option Nat :=
  if e.waitBar = 0 then some e.launch
  else if b.barFailed e.part e.waitBar ≠ 0 then some 0
  else (b.barRel e.part e.waitBar).map (fun r => max e.launch r)

/-- The entry's fire tick has come for the replica of its island. -/
def Block.due (b : Block) (i : Nat) (e : ScoreEntry) : Bool :=
  match b.fireTick e with
  | some f => decide (f ≤ b.hearthAt i)
  | none => false

/-- The due entry that fires first: a program start that stays at the head (R121), else the earliest fire tick, then order of
acceptance. -/
def Block.nextDue (b : Block) (i : Nat) : Option SEntry :=
  let sc := b.score i
  match sc.entries.find? (fun x => decide (sc.head = some x.order)) with
  | some x => some x
  | none =>
    (sc.entries.filter (fun x => b.due i x.e)).foldl (fun best x =>
      match best with
      | none => some x
      | some y =>
        let fx := (b.fireTick x.e).getD 0
        let fy := (b.fireTick y.e).getD 0
        if fx < fy ∨ (fx = fy ∧ x.order < y.order) then some x else best) none

/-- The action codes of R160 by target. -/
def codeOk (i code : Nat) : Bool :=
  decide (code = 4) ||
  (if i < 288 then decide (code = 1) || decide (code = 2) || decide (code = 3)
   else if i < 360 then decide (code = 0x20) || decide (code = 0x21)
   else decide (code = 0x10) || decide (code = 0x11))

/-- A bad entry: an unlisted code, or FENCE of 1,024 or more (R160, R365). -/
def badEntry (i : Nat) (e : ScoreEntry) : Bool := !codeOk i e.code || decide (1024 ≤ e.fence)

/-- Discard a bad entry: counted, reported, and it arrives as failed (R160). -/
def Block.discardBad (b : Block) (e : ScoreEntry) : Block :=
  (((b.bump pgTbs F.TBS_CNT3.BAD_ENTRY_CNT).raise pgTbs 9).reportPart pgTbs 0x0407 e.part).arriveEntry e true

/-- SCORE_FIRE: the next due entry of a Score fires, or is discarded. A program start stays at the head while the
sequencer runs, and holds up the later entries (R121); an entry whose barrier failed is discarded unless it is a program
start (R169).
Log entry 28 (DEDUCED, unsafe). -/
def Block.scoreFire (b : Block) (i : Nat) : Block :=
  if 288 ≤ i ∧ !b.islandOpen i then b
  else
  match b.nextDue i with
  | none => b
  | some x =>
    let sc := b.score i
    let b1 := b.setScore i { sc with entries := sc.entries.filter (fun y => decide (y.order ≠ x.order)), head := none }
    if badEntry i x.e then b1.discardBad x.e
    else if x.e.waitBar ≠ 0 ∧ b.barFailed x.e.part x.e.waitBar ≠ 0 ∧ x.e.code ≠ 1 then b1.arriveEntry x.e true
    else if x.e.code = 1 ∧ ((b.tile i).seq = .run ∨ (b.tile i).seq = .retired) then b.setScore i { sc with head := some x.order }
    else b1.setScore i { b1.score i with fired := (b1.score i).fired ++ [x.e] }

/-- Take the oldest fired entry of a code. -/
def Block.takeFired (b : Block) (i code : Nat) : Option (ScoreEntry × Block) :=
  let sc := b.score i
  match sc.fired.find? (fun e => decide (e.code = code)) with
  | some e => some (e, b.setScore i { sc with fired := sc.fired.erase e })
  | none => none

/-- ARRIVE (R160). -/
def Block.arriveAction (b : Block) (i : Nat) : Block :=
  match b.takeFired i 4 with
  | some (e, b1) => b1.arriveEntry e false
  | none => b

/-- IDLE_WIN (R160, R161): the tile declares an idle window of ARG µs. -/
def Block.idleWinAction (b : Block) (t : Nat) : Block :=
  match b.takeFired t 2 with
  | some (e, b1) => (b1.setTile t { b1.tile t with idleWin := some (b.now, e.arg * 1000) }).arriveEntry e false
  | none => b

/-! ### Discards and shifts (R175, R180) -/

/-- Discard pending entries by a test: those that count are stale. -/
def Block.discardEntries (b : Block) (test : Nat → ScoreEntry → Bool) : Block :=
  let n := b.scores.foldl (fun n p => n + (p.2.entries.filter (fun x => test p.1 x.e)).length) 0
  ({ b with scores := SMap.mapVals (fun i sc => { sc with entries := sc.entries.filter (fun x => !test i x.e) }) b.scores
     }).countStale n

/-- A shift command on every Score: entries of the bake at or after FROM move by DELTA (R180, R181). -/
def Block.shiftCmd (b : Block) (i k tag start delta : Nat) : Block :=
  let sc := b.score i
  let hit (e : ScoreEntry) : Bool := decide (e.part = k) && decide (e.bakeTag = tag % 256) && decide (start ≤ e.launch)
  let b1 := b.setScore i { sc with entries := sc.entries.map (fun x =>
    if hit x.e then { x with e := { x.e with launch := (x.e.launch + delta) % 2 ^ 64 } } else x) }
  if start < b.hearthAt i then ((b1.bump pgTbs F.TBS_CNT2.SHIFT_LATE_CNT).raise pgTbs 7).reportPart pgTbs 0x0408 k else b1

/-! ### Rise profile (R182, R183) -/

/-- RAMP_TIME in ticks. -/
def Block.rampTime (b : Block) : Nat := b.eff pgTbs F.TBS_RISE.RAMP_TIME * 500

/-- The rank of a tile. -/
def riseRank (t : Nat) : Nat := 24 * (t % 12) + t / 12

/-- A RISE firing starts the profile on a tile whose matrix engine has been idle, unless one runs already. -/
def Block.riseStart (b : Block) (t : Nat) (e : ScoreEntry) : Block :=
  let x := b.tile t
  let idle : Bool := match x.lastMat with
    | none => true
    | some m => decide (m + b.eff pgTbs F.TBS_RISE.RISE_IDLE * 100 ≤ b.now)
  if e.rise ∧ idle ∧ x.rampAt = none then
    let anchor := b.now + e.arg + b.eff pgTbs F.TBS_RISE.PKG_OFFSET
    let off := riseRank t * b.rampTime / 4608
    (b.setTile t { x with rampAt := some (anchor + off) }).put (pgTile t) F.TIL_ISSUE.RAMP_LEVEL 0
  else b

/-- RISE_STEP: the next step of the profile is due, `k` × RAMP_TIME / 16 after the start. -/
def Block.riseStep (b : Block) (t : Nat) : Block :=
  let x := b.tile t
  match x.rampAt with
  | none => b
  | some a =>
    let k := b.eff (pgTile t) F.TIL_ISSUE.RAMP_LEVEL
    if 16 * a + k * b.rampTime ≤ 16 * b.now then
      let b1 := b.put (pgTile t) F.TIL_ISSUE.RAMP_LEVEL (k + 1)
      if 15 ≤ k then b1.setTile t { x with rampAt := none } else b1
    else b

end Sys2Proof.Machine
end

