-- ==== Sys2Proof/Machine/Starter.lean ====
section
/-! DEFINITION. Starters (R309 to R311): the record of a layer, when it is bad, and what its application does to a row.
Log entry 98 (DEDUCED, unsafe). -/
namespace Sys2Proof.Machine

/-- The header of a starter record (R309). -/
structure Starter where
  ver : Nat
  flags : Nat
  addFmt : Nat
  scaleFmt : Nat
  gran : Nat
  channels : Nat
  addOff : Nat
  scaleOff : Nat
  badResv : Bool
deriving DecidableEq, Repr

/-- The slot of one layer's starter. -/
def starterSlot : Nat := 8192

/-- The header in the first 64 bytes of a slot. -/
def starterHeader (bs : List Byte) : Starter :=
  let n (o k : Nat) : Nat := leNat ((bs.drop o).take k)
  { ver := n 0 1, flags := n 1 1, addFmt := n 2 1, scaleFmt := n 3 1, gran := n 4 1, channels := n 8 4, addOff := n 0x10 4, scaleOff := n 0x14 4
    badResv := decide (4 ≤ n 1 1) || decide (n 5 3 ≠ 0) || decide (n 0xC 4 ≠ 0) || ((bs.drop 0x18).take 40).any (fun v => decide (v ≠ 0)) }

def Starter.addEn (s : Starter) : Bool := bit s.flags 0
def Starter.scaleEn (s : Starter) : Bool := bit s.flags 1

/-- Bytes of a vector of `n` values: E4M3, or the element and scale planes of MXFP4. -/
def starterBytes (fmt n : Nat) : Nat := if fmt = 3 then n else ceilDiv n 2 + ceilDiv n 32

/-- Values of the scale vector: one per channel, or one per 32 channels. -/
def Starter.scales (s : Starter) : Nat := ceilDiv s.channels (2 ^ s.gran)

/-- A starter record is bad for a model of `hidden` channels (R311).
Log entry 98 (DEDUCED, unsafe). -/
def Starter.bad (s : Starter) (hidden : Nat) : Bool :=
  let fmtOk (f : Nat) : Bool := decide (f = 3) || decide (f = 9)
  decide (s.ver ≠ 1) || !fmtOk s.addFmt || !fmtOk s.scaleFmt || !(decide (s.gran = 0) || decide (s.gran = 5)) || decide (s.channels ≠ hidden)
    || decide (starterSlot < s.addOff + starterBytes s.addFmt s.channels) || decide (starterSlot < s.scaleOff + starterBytes s.scaleFmt s.scales)
    || s.badResv

/-- Value `c` of a vector of `n` values at offset `off` of the slot, decoded to FP32 (R79). -/
def starterValue (rd : Nat → Nat) (fmt off n c : Nat) : Nat :=
  if fmt = 3 then (toFp32 (e4m3.decode (rd (off + c)))).1
  else
    let sc := rd (off + ceilDiv n 2 + c / 32)
    if sc = 255 then nan32 else (toFp32 ((e2m1.decode (planeElem rd off 4 c)).scale ((sc : Int) - 127))).1

/-- Channel `c` of a row, FP32 in and out, with the flags (R310). -/
def Starter.channel (s : Starter) (rd : Nat → Nat) (c x : Nat) : Nat × Nat :=
  let sv := starterValue rd s.scaleFmt s.scaleOff s.scales (c / 2 ^ s.gran)
  let a := starterValue rd s.addFmt s.addOff s.channels c
  if s.addEn && s.scaleEn then fpFma x sv a
  else if s.scaleEn then fpMul x sv
  else if s.addEn then fpAdd x a
  else (x, 0)

/-- A row of the residual stream after the starter: without a flag it is left untouched (R310). -/
def Starter.apply (s : Starter) (rd : Nat → Nat) (row : List Nat) : List Nat :=
  row.mapIdx (fun c x => (s.channel rd c x).1)

end Sys2Proof.Machine
end

