-- ==== Sys2Proof/Machine/Shape.lean ====
section
/-! DEFINITION. The shape layer (R131 to R147): descriptors, checks, sizes, buckets and passes, staging and padding,
and the synchronisation instructions that wait for transfers and end a program (R118).
Log entries 36 (DEDUCED, unsafe), 74 (DEDUCED, unsafe). -/
namespace Sys2Proof.Machine

/-- An operand record (R136). -/
structure Operand where
  addr : Nat
  fmt : Nat
  use : Nat
  loc : Bool
  padMode : Nat
  padValue : Nat
  stride : Nat
  zp : Nat
  zpRow : Bool
  padEn : Bool
  padDim : Nat
  zpAddr : Nat
  stage : Nat
  badResv : Bool
deriving DecidableEq, Repr

/-- A little-endian field of a byte list. -/
def field (bs : List Byte) (o n : Nat) : Nat := leNat ((bs.drop o).take n)

/-- The operand record in 32 bytes. -/
def operand (bs : List Byte) : Operand :=
  { addr := field bs 0 8, fmt := field bs 8 1 % 32, use := field bs 9 1 % 4, loc := bit (field bs 0xA 1) 0
    padMode := field bs 0xB 1 % 4, padValue := field bs 0xC 4, stride := field bs 0x10 4, zp := field bs 0x14 1
    zpRow := bit (field bs 0x14 4) 8, padEn := bit (field bs 0x14 4) 9, padDim := b2n (bit (field bs 0x14 4) 10)
    zpAddr := field bs 0x18 4, stage := field bs 0x1C 4
    badResv := decide (32 ≤ field bs 8 1) || decide (4 ≤ field bs 9 1) || decide (2 ≤ field bs 0xA 1)
      || decide (4 ≤ field bs 0xB 1) || decide (2 ^ 11 ≤ field bs 0x14 4) }

/-- The operand records of a launch. -/
def operands (bs : List Byte) : List Operand := (List.range (bs.length / 32)).map (fun i => operand ((bs.drop (32 * i)).take 32))

/-- Fields of an operation descriptor (R133), from its 128 bytes. -/
def odKind (d : List Byte) : Nat := field d 4 1
def odFlags (d : List Byte) : Nat := field d 5 1
def odNb (d : List Byte) (i : Nat) : Nat := bits (field d 6 1) (4 * i) 4
def odSrc (d : List Byte) (i : Nat) : Nat := field d (8 + 4 * i) 4
def odBucket (d : List Byte) (i j : Nat) : Nat := field d (0x10 + 0x20 * i + 4 * j) 4
def odOpnd (d : List Byte) : Nat := field d 0x50 8
def odCompOff (d : List Byte) : Nat := field d 0x58 4
def odSlotOff (d : List Byte) : Nat := field d 0x5C 4
def odEntryTab (d : List Byte) : Nat := field d 0x60 4
def odNopnd (d : List Byte) : Nat := field d 0x64 1
def odNcb (d : List Byte) : Nat := field d 0x65 1
def odRole (d : List Byte) (i : Nat) : Nat := bits (field d 0x66 1) (2 * i) 2
def odKc (d : List Byte) : Nat := field d 0x68 2
def odWorkers (d : List Byte) : Nat := field d 0x6A 2
def odSplit (d : List Byte) (i : Nat) : Bool := bit (odFlags d) (1 + i)

/-- The buckets of a dimension. -/
def odBuckets (d : List Byte) (i : Nat) : List Nat := (List.range (odNb d i)).map (odBucket d i)

/-- The largest bucket of a dimension; 0 when it is static. -/
def odBmax (d : List Byte) (i : Nat) : Nat := (odBuckets d i).getLastD 0

/-- Strictly ascending from above `p`. -/
def ascending : Nat → List Nat → Bool
  | _, [] => true
  | p, x :: xs => decide (p < x) && ascending x xs

/-- A format has −∞ (R140). -/
def hasNegInf (f : Nat) : Bool := decide (f = 0) || decide (f = 1) || decide (f = 2) || decide (f = 4) || decide (f = 6)

/-- Bytes of one engine-ready tile of a 5-bit code. -/
def codeBytes (f : Nat) : Nat := tileBytes (Fmt.ofCode (f % 16)) (decide (16 ≤ f))

/-- The SRAM extent of a padded record (R144). -/
def Operand.extent (o : Operand) (d : List Byte) : Nat := (ceilDiv (odBmax d o.padDim) 128 - 1) * o.stride + codeBytes o.fmt

/-- The SRAM ranges of R144. -/
def sramRanges (d : List Byte) (os : List Operand) : List (Nat × Nat) :=
  (odEntryTab d, 32 * max (odNb d 0) 1) ::
    os.flatMap (fun o =>
      (if o.padEn && !o.loc then [(o.stage, o.extent d)] else [])
      ++ (if o.zpRow then [(o.zpAddr, 128)] else [])
      ++ (if o.loc then [(o.addr, if o.padEn then o.extent d else codeBytes o.fmt)] else []))

/-- The use of a format code that R53 allows. An auxiliary input is judged by the vector-load column.
Log entry 84 (DEDUCED, unsafe). -/
def useOk (f use : Nat) : Bool :=
  match use with
  | 0 => fmtActOk f
  | 1 => fmtWeightOk f
  | 2 => fmtStoreOk f
  | _ => fmtLoadOk f

/-- Resident output tiles of a pass (R141). -/
def outTiles (d : List Byte) (i0 : Nat) : Nat := ceilDiv (odBucket d 0 i0) 128 * odNcb d

/-- Spill tiles that a pass needs (R141): none for a static dimension 0, and none for an operation that is no matrix operation.
Log entry 85 (DEDUCED, unsafe). -/
def accNeed (d : List Byte) (i0 : Nat) : Nat :=
  if odNb d 0 = 0 ∨ odKind d ≠ 0 ∨ outTiles d i0 ≤ 8 then 0 else outTiles d i0 - 6

/-- The checks of R145 that a descriptor and its records take: the status, 0 for none. ROLE 0b11 counts as an unknown value, and
alignment is asked of ADDR and STAGE of a padded record, of OPND_BASE, of the offsets and of ENTRY_TAB.
Log entry 84 (DEDUCED, unsafe). -/
def staticStatus (d : List Byte) (os : List Operand) (opndHere : Bool) (spillBase spillTiles : Nat) (pinned : Bool) : Nat :=
  let dims := [0, 1]
  let inv (detail : Nat) : Nat := 0x13 + 256 * detail
  let resv := decide (8 ≤ odFlags d) || decide (16 ≤ field d 0x66 1) || decide (field d 0x67 1 ≠ 0)
    || (d.drop 0x6C).any (fun v => decide (v ≠ 0)) || os.any Operand.badResv
    || dims.any (fun i => decide (odNb d i ≤ 8) && (List.range 8).any (fun j => decide (odNb d i ≤ j) && decide (odBucket d i j ≠ 0)))
  let acts := (os.filter (fun o => decide (o.use = 0))).map Operand.fmt
  let wgts := (os.filter (fun o => decide (o.use = 1))).map Operand.fmt
  if field d 7 1 ≠ 1 ∨ 3 < odKind d ∨ dims.any (fun i => decide (5 < odSrc d i % 16) || decide (odRole d i = 3)) ∨ resv then inv 1
  else if dims.any (fun i => decide (8 < odNb d i) || !ascending 0 (odBuckets d i)) then inv 2
  else if dims.any (fun i => (odSplit d i && (decide (odRole d i = 2) || decide (odNb d i = 0)))
      || decide (odSrc d i % 16 = 0 ∧ odNb d i ≠ 0) || decide (odSrc d i % 16 ≠ 0 ∧ odNb d i = 0))
    || os.any (fun o => o.padEn && decide (odNb d o.padDim = 0)) then inv 3
  else if os.any (fun o => decide (o.padMode = 2) && !hasNegInf o.fmt) then inv 4
  else if (sramRanges d os).any (fun r => !inSram r.1 r.2
      || (decide (0 < spillTiles) && decide (r.1 < (spillBase + spillTiles) * 65536) && decide (spillBase * 65536 < r.1 + r.2))) then inv 5
  else if os.any Operand.loc && !pinned then inv 6
  else if odNopnd d = 0 ∨ 8 < odNopnd d ∨ odNcb d = 0 ∨ 64 < odNcb d ∨ (odKc d = 0 ∧ odKind d = 0) ∨ odWorkers d = 0 ∨ 288 < odWorkers d
      ∨ odOpnd d % 32 ≠ 0 ∨ odCompOff d % 16 ≠ 0 ∨ odSlotOff d % 64 ≠ 0 ∨ odEntryTab d % 4 ≠ 0 ∨ !opndHere
      ∨ os.any (fun o => decide (o.stride % 128 ≠ 0) || (o.padEn && (decide (o.addr % 128 ≠ 0) || decide (o.stage % 128 ≠ 0)))) then inv 7
  else if os.any (fun o => !useOk o.fmt o.use) then 0x12 + 256
  else if odKind d = 0 ∧ (acts.isEmpty ∨ wgts.isEmpty ∨ acts.any (fun a => wgts.any (fun w =>
      (ratePair (Fmt.ofCode a) (Fmt.ofCode (w % 16))).isNone))) then 0x12 + 512
  else 0

/-! ### Reads and writes of the shape layer -/

/-- A read of the shape layer: unprivileged under tenant 0x000, of this package (R117, R543). -/
def Block.shapeRead (b : Block) (t a n : Nat) : Block × Nat × List Byte :=
  match b.localOff a with
  | some off => b.readLocal off n 0 false (b.tilePart t) (tileClu t)
  | none => (b.reportRange (tileClu t), stRANGE, [])

/-- The size of a dimension (R134, R135): a failing status, or the size. -/
def Block.sizeOf (b : Block) (t : Nat) (bd : List Byte) (src : Nat) : Block × Nat × Nat :=
  let i := src / 16
  match src % 16 with
  | 1 => (b, 0, field bd 0x2C 4)
  | 5 => (b, 0, field bd 0x28 4)
  | 2 =>
    if field bd 0x38 4 ≤ i then (b, 0x13 + 256 * 8, 0)
    else
      let (b1, st, bs) := b.shapeRead t (field bd 0x30 8 + 4 * i) 4
      (b1, if st = 0 then 0 else 0x21 + 256 * st, leNat bs)
  | 3 | 4 =>
    if field bd 0x28 4 ≤ i then (b, 0, 0)
    else
      let (b1, st, bs) := b.shapeRead t (field bd 0x20 8 + 16 * i + (if src % 16 = 3 then 4 else 8)) 4
      (b1, if st = 0 then 0 else 0x21 + 256 * st, leNat bs)
  | _ => (b, 0, 1)

/-! ### Padding (R139, R140) -/

/-- The element code of a pad value for a row. -/
def padCode (o : Operand) (zp : Nat) : Nat :=
  let f := Fmt.ofCode (o.fmt % 16)
  match o.padMode with
  | 0 | 1 => if f.isInt then zp % 2 ^ f.width else 0
  | 2 => match o.fmt % 16 with
    | 0 => 0xFF800000
    | 1 => 0xFF80
    | 2 => 0xFC00
    | _ => 0xFC
  | _ => o.padValue % 2 ^ f.width

/-- The zero points of an operand as MZP would set them. -/
def Tile.opndZp (x : Tile) (o : Operand) : List Nat :=
  if o.zpRow then (List.range 128).map (fun i => x.byte (o.zpAddr + i)) else [o.zp]

/-- The outlier slots of a GLO4 block, both empty: VAL = 0x7F (R140). -/
def emptySlots : Nat := 0x7F * 2 ^ 5 + 0x7F * 2 ^ 18

/-- Pad the elements `e0` to `e1 − 1` of row `r` of the engine-ready tile at SRAM address `a`. A block that lies wholly among them takes
the scale of its pad mode and empty outlier slots; one that lies partly among them keeps its scale and its slots (R140). -/
def Tile.padElems (x : Tile) (o : Operand) (a r e0 e1 : Nat) : Tile :=
  let f := Fmt.ofCode (o.fmt % 16)
  let rd (i : Nat) : Nat := x.byte (a + i)
  let code := padCode o (zpOf (x.opndZp o) r)
  let scale : Nat := if o.padMode ≤ 1 then 0 else 0x7F
  let whole (g : Nat) : Bool := decide (e0 ≤ 32 * g) && decide (32 * g + 32 ≤ e1)
  let x1 := x.wr (a + r * rowBytes f) (packRow f.width ((List.range 128).map (fun e =>
    if e0 ≤ e ∧ e < e1 then code else planeElem rd 0 f.width (128 * r + e))))
  let x2 := if f.scaled then
      x1.wr (a + scaleBase f + 4 * r) ((List.range 4).map (fun g => BitVec.ofNat 8 (if whole g then scale else rd (scaleBase f + 4 * r + g))))
    else x1
  if f == .glo4 then
    x2.wr (a + outlierBase f false + 13 * r) (packRow 26 ((List.range 4).map (fun g =>
      if whole g then emptySlots else planeElem rd (outlierBase f false) 26 (4 * r + g))))
  else x2

/-- Pad rows `r0` to `r1 − 1` of the engine-ready tile at SRAM address `a`, each whole. -/
def Tile.padRows (x : Tile) (o : Operand) (a r0 r1 : Nat) : Tile :=
  ((List.range (r1 - r0)).map (· + r0)).foldl (fun x r => x.padElems o a r 0 128) x

/-- Pad positions `r0` to `r1 − 1` along PAD_DIM in one tile: rows of a ROWS dimension, and of a COLS or a REDUCE dimension the elements
that lie along each row.
Log entry 86 (DEDUCED, unsafe). -/
def Tile.padAlong (x : Tile) (d : List Byte) (o : Operand) (a r0 r1 : Nat) : Tile :=
  if odRole d o.padDim = 0 then x.padRows o a r0 r1 else (List.range 128).foldl (fun x r => x.padElems o a r r0 r1) x

/-- The bytes of a tile in the ZERO encoding. -/
def zeroTile (x : Tile) (o : Operand) : List Byte :=
  let y := ({ x with sram := [] } : Tile)
  let z := x.opndZp o
  let o' := { o with padMode := 0, zpRow := false }
  let rows := (List.range 128).foldl (fun (y : Tile) r => y.padRows { o' with zp := zpOf z r } 0 r (r + 1)) y
  rows.rdBytes 0 (codeBytes o.fmt)

/-- Records that a pass stages or pads: activation and auxiliary inputs with PAD_EN = 1; a pinned partition stages
nothing (R139, R143). -/
def padded (os : List Operand) (pinned : Bool) : List Operand :=
  os.filter (fun o => o.padEn && (decide (o.use = 0) || decide (o.use = 3)) && (o.loc || !pinned))

/-- Actual size, bucket size and pass number of a record's PAD_DIM. -/
def Pass.m (p : Pass) (i : Nat) : Nat := if i = 0 then p.m0 else p.m1
def Pass.q (p : Pass) (i : Nat) : Nat := if i = 0 then p.q0 else p.q1
def Pass.bsel (p : Pass) (d : List Byte) (i : Nat) : Nat := odBucket d i (if i = 0 then p.i0 else p.i1)

/-- The first tile of a pass along a dimension. -/
def Pass.firstTile (p : Pass) (d : List Byte) (i : Nat) : Nat := p.q i * odBmax d i / 128

/-- The tiles that a pass reads from rack space into SRAM. -/
def stagePieces (d : List Byte) (os : List Operand) (p : Pass) : List Piece :=
  (os.filter (fun o => !o.loc)).flatMap (fun o =>
    (List.range (ceilDiv (p.m o.padDim) 128)).map (fun k =>
      { addr := o.addr + (p.firstTile d o.padDim + k) * o.stride, len := codeBytes o.fmt, sram := o.stage + k * o.stride }))

/-- The place of a pass's first row in its first tile. -/
def Pass.skew (p : Pass) (d : List Byte) (i : Nat) : Nat := p.q i * odBmax d i % 128

/-- Padding of one record for a pass: rows m to B − 1, counted from the pass's first row, and each tile without a real row whole (R139). The
rows are the same whether the tiles are staged or lie in tile SRAM.
Log entry 86 (DEDUCED, unsafe). -/
def Tile.padOperand (x : Tile) (d : List Byte) (p : Pass) (o : Operand) : Tile :=
  let real := p.skew d o.padDim + p.m o.padDim
  let stop := p.skew d o.padDim + p.bsel d o.padDim
  let base := if o.loc then o.addr + p.firstTile d o.padDim * o.stride else o.stage
  (List.range (ceilDiv stop 128)).foldl (fun x k =>
    let r0 := real - 128 * k
    let r1 := if r0 = 0 then 128 else min 128 (stop - 128 * k)
    if r0 < r1 then x.padAlong d o (base + k * o.stride) r0 r1 else x) x

/-! ### Launch (R137) -/

/-- The passes in order, q0 outer. -/
def passesOf (d : List Byte) (n0 n1 p0 p1 : Nat) : List Pass :=
  let size (i n q : Nat) : Nat := if odNb d i = 0 then 1 else min (odBmax d i) (n - q * odBmax d i)
  let idx (i m : Nat) : Nat := if odNb d i = 0 then 0 else ((odBuckets d i).takeWhile (fun x => decide (x < m))).length
  (List.range p0).flatMap (fun q0 => (List.range p1).map (fun q1 =>
    let m0 := size 0 n0 q0
    let m1 := size 1 n1 q1
    { m0 := m0, m1 := m1, i0 := idx 0 m0, i1 := idx 1 m1, q0 := q0, q1 := q1
      b0 := odBucket d 0 (idx 0 m0), base0 := q0 * odBmax d 0, pc := 0 }))

/-- The launch of a tile is over before or without its program: IDLE. -/
def Block.tileIdle (b : Block) (t : Nat) : Block :=
  b.setTile t { b.tile t with seq := .idle, wait := none, launch := none, zpW := [], zpA := [] }

/-- A launch ends with a status and its completion record, and the sequencer returns to IDLE. -/
def Block.finishLaunch (b : Block) (t : Nat) (l : Launch) (status bucket ran : Nat) : Block :=
  (b.tileIdle t).endLaunch t l status bucket ran

/-- Start the program of the running pass: registers of R94 and R137, zero points of R136. -/
def Block.runPass (b : Block) (t : Nat) (l : Launch) (p : Pass) : Block :=
  let x := b.tile t
  let os := operands l.recs
  let zp (use : Nat) (old : List Nat) : List Nat := match os.find? (fun o => decide (o.use = use)) with
    | some o => x.opndZp o
    | none => old
  let regs : SMap W64 := [(1, BitVec.ofNat 64 l.entry.desc), (2, BitVec.ofNat 64 l.entry.launch), (3, BitVec.ofNat 64 p.m0),
    (4, BitVec.ofNat 64 p.b0), (5, BitVec.ofNat 64 l.slot), (6, BitVec.ofNat 64 (p.q0 * 256 + p.q1)), (7, BitVec.ofNat 64 p.base0)]
  b.setTile t { x with sregs := regs, vregs := [], rowCtx := none, tenant := 0, zpW := zp 1 [], zpA := zp 0 [], pc := p.pc
                       wait := none, launch := some l }

/-- The reads of a pass have landed: pad, then run its program. -/
def Block.padAndRun (b : Block) (t : Nat) (l : Launch) (p : Pass) : Block :=
  let x := b.tile t
  let pinned := decide (b.eff (pgTile t) F.TIL_ASSIGN.PINNED = 1)
  let y := (padded (operands l.recs) pinned).foldl (fun x o => x.padOperand l.raw p o) x
  (b.setTile t y).runPass t l p

/-- Begin a pass: stage its tiles, or pad and run at once. -/
def Block.startPass (b : Block) (t : Nat) (l : Launch) : Block :=
  match l.passes with
  | [] => b.finishLaunch t l 0 0xFF 0
  | p :: _ =>
    let pinned := decide (b.eff (pgTile t) F.TIL_ASSIGN.PINNED = 1)
    let ps := stagePieces l.raw (padded (operands l.recs) pinned) p
    if ps.isEmpty then b.padAndRun t l p
    else
      (b.setTile t { b.tile t with launch := some l, wait := some .staging }).newXfer
        { xfer0 (.stage t) .read with pieces := ps, group := t, part := b.tilePart t, page := tileClu t }

/-- The staging of a pass has ended. One that failed ends the launch, whose record gives the passes that ran before and the BUCKET of the
last of them (R139, R146). -/
def Block.stageDone (b : Block) (t status : Nat) : Block :=
  let x := b.tile t
  match x.launch, x.wait with
  | some l, some .staging =>
    if status ≠ 0 then b.finishLaunch t l (0x21 + 256 * status) l.past (l.total - l.passes.length)
    else
      match l.passes with
      | p :: _ => b.padAndRun t l p
      | [] => b.finishLaunch t l 0 0xFF 0
  | _, _ => b

/-- The next tile of a ZERO_FILL, or ZERO_SKIP when all are written (R140). -/
def Block.fillNext (b : Block) (t : Nat) (l : Launch) : Block :=
  match l.fill with
  | [] => b.finishLaunch t l 0x01 0xFF 0
  | (a, bs) :: rest =>
    (b.setTile t { b.tile t with launch := some { l with fill := rest }, wait := some .zeroFill }).newXfer
      { xfer0 (.zeroFill t) .write with pieces := [{ addr := a, len := bs.length, sram := 0 }], data := [bs], group := t
                                        part := b.tilePart t, page := tileClu t }

/-- One write of a ZERO_FILL has ended. -/
def Block.fillDone (b : Block) (t status : Nat) : Block :=
  let x := b.tile t
  match x.launch, x.wait with
  | some l, some .zeroFill =>
    if status ≠ 0 then b.finishLaunch t l (0x21 + 256 * status) 0xFF 0 else b.fillNext t l
  | _, _ => b

/-- A dynamic size is zero: ZERO_SKIP, with the outputs zero-filled when ZERO_FILL = 1 (R138, R140). -/
def Block.zeroSkip (b : Block) (t : Nat) (l : Launch) (os : List Operand) : Block :=
  if !bit (odFlags l.raw) 0 then b.finishLaunch t l 0x01 0xFF 0
  else
    let outs := os.filter (fun o => decide (o.use = 2) && o.padEn)
    let tiles (o : Operand) : Nat := ceilDiv (odBucket l.raw o.padDim 0) 128
    let x := b.tile t
    let y := (outs.filter Operand.loc).foldl (fun x o =>
      (List.range (tiles o)).foldl (fun (x : Tile) k => x.wr (o.addr + k * o.stride) (zeroTile x o)) x) x
    let rack := (outs.filter (fun o => !o.loc)).flatMap (fun o =>
      (List.range (tiles o)).map (fun k => (o.addr + k * o.stride, zeroTile x o)))
    (b.setTile t y).fillNext t { l with fill := rack }

/-- The bucket entry of a pass as a program address (R133). -/
def Block.entryPc (b : Block) (t : Nat) (d : List Byte) (p : Pass) : Option Nat :=
  let e := rd32 (b.tile t).byte (odEntryTab d + 4 * (p.i0 * 8 + p.i1))
  let pc := b.eff (pgTile t) F.TIL_PROG.PROG_BASE * 8 + e
  if e % 8 = 0 ∧ pc < sramSize then some pc else none

/-- An operation that applies a starter (R311): the status with which it ends before its program runs, 0 where the tenant of its length-table
entry has no starter at the layer or the record is good. The tile reads the tenant's record in the active table (R307).
Log entry 98 (DEDUCED, unsafe). -/
def Block.starterStatus (b : Block) (t : Nat) (bd d : List Byte) : Block × Nat :=
  if odSrc d 0 % 16 ≠ 3 then (b, 0)
  else
    match Config.starterLayer (field bd 2 1) (field d 0 4) with
    | none => (b, 0)
    | some l =>
      let (b1, st1, e) := b.shapeRead t (field bd 0x20 8 + 16 * (odSrc d 0 / 16)) 16
      if st1 ≠ 0 then (b1, 0x21 + 256 * st1)
      else
        let (b2, st2, r) := b1.shapeRead t (b1.eff (pgPart (b1.tilePart t)) F.SRV_TEN_ACT.TEN_ACT + 64 * (field e 2 2 % 4096)) 64
        if st2 ≠ 0 then (b2, 0x21 + 256 * st2)
        else if !bit (field r 0 1) 1 ∨ field r 6 2 ≤ l then (b2, 0)
        else
          let (b3, st3, h) := b2.shapeRead t (field r 8 8 + l * starterSlot) 64
          if st3 ≠ 0 then (b3, 0x21 + 256 * st3)
          else
            let hidden := match SMap.find b3.bread (field bd 2 1) with
              | some x => field x.desc 4 4
              | none => 0
            (b3, if (starterHeader h).bad hidden then 0x23 else 0)

/-- Sizes are known: passes, capacity, and the first pass (R137, R145). -/
def Block.launchSized (b : Block) (t : Nat) (bd : List Byte) (l : Launch) (n0 n1 : Nat) : Block :=
  let d := l.raw
  let dyn (i : Nat) : Bool := decide (odNb d i ≠ 0)
  let past (i n : Nat) : Bool := dyn i && decide (odBmax d i < n)
  let p (i n : Nat) : Nat := if past i n then ceilDiv n (odBmax d i) else 1
  if (dyn 0 && decide (n0 = 0)) || (dyn 1 && decide (n1 = 0)) then b.zeroSkip t l (operands l.recs)
  else if (past 0 n0 && !odSplit d 0) || (past 1 n1 && !odSplit d 1) then b.finishLaunch t l (0x10 + 256) 0xFF 0
  else if 255 < p 0 n0 * p 1 n1 then b.finishLaunch t l (0x10 + 512) 0xFF 0
  else
    let ps := passesOf d n0 n1 (p 0 n0) (p 1 n1)
    let pcs := ps.map (b.entryPc t d)
    if pcs.any Option.isNone then b.finishLaunch t l (0x13 + 256 * 0xA) 0xFF 0
    else if ps.any (fun q => decide (b.eff (pgTile t) F.TIL_SPILL.SPILL_TILES < accNeed d q.i0)) then
      b.finishLaunch t l 0x11 0xFF 0
    else
      let ps' := List.zipWith (fun (q : Pass) pc => { q with pc := pc.getD 0 }) ps pcs
      let (b1, st) := b.starterStatus t bd d
      if st ≠ 0 then b1.finishLaunch t l st 0xFF 0 else b1.startPass t { l with passes := ps', total := ps'.length }

/-- A launch that has no place for a completion record (R146): steps 2 to 5 of R147. -/
def Block.launchNoRecord (b : Block) (t status opId : Nat) (e : ScoreEntry) (failed : Bool) : Block :=
  (b.tileIdle t).launchDone t status opId 0xFF 0 0 0 none e failed

/-- The shape layer at a program start (R137). `barrier` is the failure code of the entry's barrier, 0 for none: a program start released
by a failed barrier arrives failed at its own, however its launch ends (R169). -/
def Block.shapeLaunch (b : Block) (t : Nat) (e : ScoreEntry) (barrier : Nat) : Block :=
  match (b.tile t).bakeDesc with
  | none => ((b.reportTile t 0x0120).tileIdle t).arriveEntry e (decide (barrier ≠ 0))
  | some bda =>
    let failed := decide (barrier ≠ 0)
    let (b1, st1, bd) := b.shapeRead t bda 128
    if st1 ≠ 0 then ((b1.reportTile t 0x0120 st1).tileIdle t).arriveEntry e failed
    else
      let (b2, st2, d) := b1.shapeRead t e.desc 128
      if st2 ≠ 0 then b2.launchNoRecord t (0x21 + 256 * st2) 0xFFFFFFFF e failed
      else
        let opId := field d 0 4
        let (b3, st3, sb) := b2.shapeRead t (field bd 0x60 8 + odSlotOff d + 2 * t) 2
        if st3 ≠ 0 then b3.launchNoRecord t (0x21 + 256 * st3) opId e failed
        else if leNat sb = 0xFFFF then b3.launchNoRecord t (0x13 + 256 * 9) opId e failed
        else
          let slot := leNat sb
          let l : Launch := { raw := d, recs := [], opId := opId, slot := slot, comp := field bd 0x58 8 + odCompOff d + 16 * slot
                              n0 := 0, n1 := 0, passes := [], total := 0, past := 0xFF, fill := [], entry := e }
          if barrier ≠ 0 then
            ((b3.tileIdle t).launchDone t (0x22 + 256 * barrier) opId 0xFF 0 0 0 (some l.comp) e true)
          else
            let here := (b3.localOff (odOpnd d)).isSome
            let nOk := decide (1 ≤ odNopnd d) && decide (odNopnd d ≤ 8) && here
            let (b4, st4, recs) := if nOk then b3.shapeRead t (odOpnd d) (32 * odNopnd d) else (b3, 0, [])
            if st4 ≠ 0 then b4.finishLaunch t l (0x21 + 256 * st4) 0xFF 0
            else
              let os := operands recs
              let pg := pgTile t
              let st := staticStatus d os here (b4.eff pg F.TIL_SPILL.SPILL_BASE) (b4.eff pg F.TIL_SPILL.SPILL_TILES)
                (decide (b4.eff pg F.TIL_ASSIGN.PINNED = 1))
              let l := { l with recs := recs }
              if st ≠ 0 then b4.finishLaunch t l st 0xFF 0
              else
                let (b5, s0, n0) := if odNb d 0 = 0 then (b4, 0, 1) else b4.sizeOf t bd (odSrc d 0)
                if s0 ≠ 0 then b5.finishLaunch t l s0 0xFF 0
                else
                  let (b6, s1, n1) := if odNb d 1 = 0 then (b5, 0, 1) else b5.sizeOf t bd (odSrc d 1)
                  let l := { l with n0 := if odNb d 0 = 0 then 0 else n0 }
                  if s1 ≠ 0 then b6.finishLaunch t l s1 0xFF 0
                  else
                    let l := { l with n1 := if odNb d 1 = 0 then 0 else n1 }
                    b6.launchSized t bd l n0 n1

/-- A due retirement can take effect: it takes precedence over a program start in the same cycle (R125, R129). -/
def Tile.retireReady (x : Tile) : Bool :=
  x.retireNow && (decide (x.seq = .idle) || decide (x.seq = .err))

/-- A tile's registers and accumulators are zero: after a Knock run (R125). -/
def Tile.clearRegs (x : Tile) : Tile :=
  { x with sregs := [], vregs := [], acc := [], wbuf0 := none, wbuf1 := none, rowCtx := none }

/-- PROG_START: the oldest fired program start of a tile sets up its program (R94, R121, R125) and runs the shape layer. -/
def Block.progStart (b : Block) (t : Nat) : Block :=
  let x := b.tile t
  if x.seq = .run ∨ x.seq = .retired ∨ x.retireReady then b
  else
    match b.takeFired t 1 with
    | none => b
    | some (e, b1) =>
      let fail := if e.waitBar = 0 then 0 else b.barFailed e.part e.waitBar
      let y := if x.seq = .knock then x.clearRegs else x
      let late := b.hearthAt t - e.launch
      let pg := pgTile t
      let b0 := if x.seq = .knock then (b1.bump pgFlt F.FLT_KERR.KNOCK_ABORTS).trace 4 0x0F05 pg t (some (b.tilePart t)) 2 else b1
      let b2 := b0.setTile t { y with
        seq := .run, wait := none, launch := none, pc := b.eff pg F.TIL_PROG.PROG_BASE * 8
        sregs := [(1, BitVec.ofNat 64 e.desc), (2, BitVec.ofNat 64 e.launch)], vregs := [], rowCtx := none
        tenant := 0, zpW := [], zpA := [], launchTick := e.launch, lateness := late }
      let b3 := if 4 < late then
          (((b2.bump pg F.TIL_LATE.LATE_CNT).put pg F.TIL_LATE.LATE_MAX (max (b2.eff pg F.TIL_LATE.LATE_MAX) (min late 0xFFFF))).raise pg 2).trace
            1 0x0F02 pg t (some (b.tilePart t)) (min late 0xFFFF)
        else b2
      (b3.riseStart t e).shapeLaunch t e fail

/-! ### Waiting for transfers, and END (R118) -/

/-- The tags of a mask all have no transfer in flight. -/
def Tile.tagsIdle (x : Tile) (mask : Nat) : Bool := (bitIndices 16 mask).all (fun g => decide ((x.tag g).inflight = 0))

/-- The program tags. -/
def progTags : Nat := 0xFFF

/-- WAITT's result, and the statuses cleared. -/
def Tile.waitDone (x : Tile) (mask rd : Nat) : Tile :=
  let st := ((bitIndices 16 mask).find? (fun g => decide ((x.tag g).status ≠ 0))).map (fun g => (x.tag g).status)
  let y := (bitIndices 16 mask).foldl (fun (x : Tile) g => x.setTag g { x.tag g with status := 0 }) x
  y.resume rd (st.getD 0)

/-- The program of a pass has ended: the next pass, or the end of the launch. -/
def Block.endProgram (b : Block) (t : Nat) : Block :=
  let x := b.tile t
  match x.launch with
  | none => b.tileIdle t
  | some l =>
    match l.passes with
    | _ :: p :: rest => b.startPass t { l with passes := p :: rest, past := l.bucket }
    | _ => b.finishLaunch t l 0 l.bucket l.total

/-- A tile whose wait for transfers is over goes on. -/
def Block.wakeTile (b : Block) (t : Nat) : Block :=
  let x := b.tile t
  match x.wait with
  | some (.ufence _) => if x.tagsIdle progTags then b.setTile t { x with wait := none, pc := x.pc + 8 } else b
  | some (.waitt mask rd) => if x.tagsIdle mask then b.setTile t (x.waitDone mask rd) else b
  | some .ending => if x.tagsIdle progTags then b.endProgram t else b
  | _ => b

/-- A waiting instruction: it waits, and goes on at once when nothing is in flight. -/
def Block.waitInsn (b : Block) (t : Nat) (w : TWait) : Block :=
  if !b.canIssue t ∨ sramSize ≤ (b.tile t).pc then b.insnReg t (fun x => .ok x 0)
  else (b.tileWait t w).wakeTile t

/-- UFENCE: only DMA can still run when it issues; matrix, vector and Score push operations complete as they issue. -/
def Block.ufence (b : Block) (t : Nat) (imm : Nat) : Block :=
  if bit imm 2 then b.waitInsn t (.ufence (imm % 16)) else b.insnReg t (fun x => .ok x 0)

/-- WAITT. -/
def Block.waitt (b : Block) (t sd imm : Nat) : Block := b.waitInsn t (.waitt (imm % 2 ^ 16) sd)

/-- END. -/
def Block.endInsn (b : Block) (t : Nat) : Block := b.waitInsn t .ending

end Sys2Proof.Machine
end

