-- ==== Sys2Proof/Machine/Link.lean ====
section
/-! DEFINITION. The links of the fabric: training, peer identification, narrowing (R335 to R343) and flits (R344 to R347).
Log entry 49 (DESIGN CHOICE, unsafe). -/
namespace Sys2Proof.Machine

/-- The code of a width in LINK_STATE (R370). -/
def widthCode (w : Nat) : Nat := if w = 0 then 0 else if w = 1 then 1 else if w = 2 then 2 else if w = 4 then 3 else 4

/-- A link enters a state. -/
def Block.enterLink (b : Block) (n st : Nat) : Block :=
  ((b.setLk n F.FAB_LSTAT.LSTATE st).setLink n { b.link n with since := b.now }).trace 3 0x0F04 (linkPage n) (pageIsland (linkPage n)) none
    (n + 256 * widthCode (b.lk n F.FAB_LSTAT.WIDTH))

/-- The quad and the physical lane of a logical lane (R335). -/
def laneAt (n lane : Nat) : Nat × Nat :=
  if n < 3 then (9 * n + lane / 4, lane % 4) else (linkQuad n, 2 * linkPos n + lane)

/-- Set the LANE_UP and LANE_DIS bits of a link's lanes. -/
def Block.showLanes (b : Block) (n up dis : Nat) : Block :=
  (List.range (linkLanes n)).foldl (fun b l =>
    let (q, c) := laneAt n l
    (b.putBit (pgQuad q) F.FAB_QLANE.LANE_UP c (up.testBit l)).putBit (pgQuad q) F.FAB_QLANE.LANE_DIS c (dis.testBit l)) b

/-- The lanes of a link that LANE_DIS shows. -/
def Block.disabledLanes (b : Block) (n : Nat) : Nat :=
  (List.range (linkLanes n)).foldl (fun m l =>
    let (q, c) := laneAt n l
    if (b.eff (pgQuad q) F.FAB_QLANE.LANE_DIS).testBit c then setBits m l 1 1 else m) 0

/-- The mask of all lanes of a link. -/
def allLanes (n : Nat) : Nat := 2 ^ linkLanes n - 1

/-- The lane groups of a link, widest first, lowest first (R342). -/
def laneGroups (n : Nat) : List (Nat × Nat) :=
  if n < 3 then
    [(8, 0xFF), (4, 0x0F), (4, 0xF0), (2, 0x03), (2, 0x0C), (2, 0x30), (2, 0xC0)] ++ (List.range 8).map (fun i => (1, 2 ^ i))
  else [(2, 3), (1, 1), (1, 2)]

/-- The group that a link takes from the usable lanes: width and mask. -/
def chooseGroup (n usable : Nat) : Option (Nat × Nat) := (laneGroups n).find? (fun g => decide (g.2 &&& usable = g.2))

/-- The lanes of a mask, given by the lanes of this end that receive them, in the peer's numbering (R340). A lane whose LANE value has not
been read yet has no number of the peer's.
Log entry 49 (DESIGN CHOICE, unsafe). -/
def LinkX.peerLanes (x : LinkX) (mask : Nat) : Nat :=
  x.order.foldl (fun m e => if mask.testBit e.1 then setBits m e.2 1 1 else m) 0

/-- The lanes of this end that receive the peer's lanes of a mask. -/
def LinkX.ownLanes (x : LinkX) (n mask : Nat) : Nat :=
  (List.range (linkLanes n)).foldl (fun m l =>
    match SMap.find x.order l with
    | some p => if mask.testBit p then setBits m l 1 1 else m
    | none => m) 0

/-- GOOD of the IDENT sets that an end sends: the lanes it receives well, in the peer's numbering. -/
def LinkX.good (x : LinkX) (n : Nat) : Nat := x.peerLanes x.trained &&& allLanes n

/-- The usable lanes: both ends report them good (R342). -/
def LinkX.usable (x : LinkX) (n : Nat) : Nat := x.good n &&& x.peerGood

/-- The lane order of a link is not the identity. -/
def LinkX.permuted (x : LinkX) : Bool := x.order.any (fun e => decide (e.1 ≠ e.2))

/-- The IDENT set that a lane of a link sends. -/
def Block.identOf (b : Block) (n lane : Nat) (refuse : Bool) : IdentSet :=
  { slot := b.slotId, linkNo := n, lane := lane, good := (b.link n).good n, safe := b.safe, refuse := refuse
    serial := b.eff pgBoot F.BOOT_SERIAL.SERIAL }

/-- The IDENT sets that a link sends, one on each enabled lane (R340). -/
def Block.identSet (b : Block) (n : Nat) (refuse : Bool) : Block :=
  (bitIndices (linkLanes n) (b.link n).trained).foldl (fun b l => b.emit (.ident n (b.identOf n l refuse))) b

/-- A link in DETECT: its lanes are re-enabled. What FAB_LSTAT says of the peer stands until the next IDENT. -/
def Block.linkDetect (b : Block) (n : Nat) : Block :=
  let b1 := b.setLk n F.FAB_LSTAT.REFUSED_BY_PEER 0
  ((b1.setLink n { linkReset with dupRefused := (b.link n).dupRefused }).showLanes n 0 0).enterLink n lsDETECT

/-- The link carries nothing: no width, no lane, and an empty replay buffer (R339, R347). A disabled lane stays so until DETECT (R343). -/
def Block.linkQuiet (b : Block) (n : Nat) : Block :=
  let x := b.link n
  let b1 := (b.setLk n F.FAB_LSTAT.WIDTH 0).setLk n F.FAB_LEXP.LANE_MASK 0
  (b1.setLink n { linkReset with dupRefused := x.dupRefused }).showLanes n 0 (b.disabledLanes n)

/-- A link goes DOWN; `code` is the fault to report, 0 for none. -/
def Block.linkDown (b : Block) (n code : Nat) : Block :=
  let up := b.linkUp n
  let b1 := ((b.linkQuiet n).bump (linkPage n) F.FAB_LERR2.DOWN_CNT (linkPos n)).enterLink n lsDOWN
  let b2 := if up then b1.raise (linkPage n) 2 else b1
  if code = 0 then b2 else b2.reportPage (linkPage n) code n

/-- A link is REFUSED (R341). -/
def Block.linkRefuse (b : Block) (n code : Nat) : Block :=
  let b1 := ((b.setLk n F.FAB_LSTAT.WIDTH 0).setLk n F.FAB_LEXP.LANE_MASK 0).enterLink n lsREFUSED
  (b1.identSet n true).reportPage (linkPage n) code n

/-- LANE_SIGNAL_DETECT. -/
def Block.laneSignal (b : Block) (n : Nat) : Block := if b.lstate n = lsDETECT then b.enterLink n lsTRAIN else b

/-- DETECT_TIMEOUT: no signal for 100 ms. -/
def Block.detectTimeout (b : Block) (n : Nat) : Block :=
  if b.lstate n = lsDETECT ∧ (b.link n).since + 100000000 ≤ b.now then b.linkDown n 0 else b

/-- TRAIN_DONE: the lanes that trained and those whose polarity was corrected. -/
def Block.trainDone (b : Block) (n lanes pol : Nat) : Block :=
  if b.lstate n ≠ lsTRAIN then b
  else
    let good := lanes &&& allLanes n
    if good = 0 then b.linkDown n 0x0B01
    else
      ((((b.setLk n F.FAB_LEXP.POL_INV (pol &&& good)).showLanes n 0 (allLanes n - good)).setLink n { b.link n with trained := good }).enterLink
        n lsALIGN)

/-- ALIGN_LOCK: the link enters IDENT and sends its IDENT sets. -/
def Block.alignLock (b : Block) (n : Nat) : Block :=
  if b.lstate n = lsALIGN then (b.enterLink n lsIDENT).identSet n false else b

/-- A link has learnt its peer in its present training: it has read an IDENT set, or has left IDENT. -/
def Block.knowsPeer (b : Block) (n : Nat) : Bool :=
  decide (b.lk n F.FAB_LSTAT.PEER_VALID = 1)
    && (b.linkUp n || decide (b.lstate n = lsREFUSED) || (decide (b.lstate n = lsIDENT) && !(b.link n).order.isEmpty))

/-- Every link to a slot that two links report with different serials is REFUSED until reset (R341). -/
def Block.slotDup (b : Block) (s : Nat) : Block :=
  let ls := (List.range 63).filter (fun n => b.knowsPeer n && decide (b.peerOf n = s))
  let b1 := ls.foldl (fun b n =>
    let up := b.linkUp n
    let b2 := ((b.setLk n F.FAB_LSTAT.SLOT_DUP 1).setLink n { b.link n with dupRefused := true })
    let b3 := if up then b2.raise (linkPage n) 2 else b2
    b3.linkRefuse n 0x0B05) b
  b1.raise pgGfab 4

/-- A link whose GOOD is not what it was sends its IDENT sets anew. -/
def Block.identNews (b : Block) (n : Nat) (old : LinkX) : Block := if (b.link n).good n = old.good n then b else b.identSet n false

/-- IDENT_SET: a set that one enabled lane receives. Its LANE puts the lane in order, and LANE_PERM shows an order that is not the identity
(R340); then the checks of R341 in order. A link that now receives a lane in order says so in the sets that it sends on. -/
def Block.identRx (b : Block) (n at' : Nat) (s : IdentSet) : Block :=
  if b.lstate n ≠ lsIDENT ∨ !(b.link n).trained.testBit at' then b
  else
    let p := linkPage n
    let slot := s.slot % 64
    let b1 := { b with occupied := setBits b.occupied slot 1 1 }
    if s.refuse then (b1.setLk n F.FAB_LSTAT.REFUSED_BY_PEER 1).linkRefuse n 0x0B04
    else
      let x := { b.link n with peerGood := s.good, order := SMap.set (b.link n).order at' s.lane }
      let b2 := (((b1.setLk n F.FAB_LSTAT.PEER_SLOT slot).setLk n F.FAB_LPSER.PEER_SERIAL s.serial).setLk n
        F.FAB_LSTAT.LANE_PERM (b2n x.permuted)).setLk n F.FAB_LSTAT.PEER_VALID 1
      let b3 := ((b2.setLink n x).setLk n F.FAB_LSTAT.LOOPBACK (b2n (slot = b.slotId))).setLk
        n F.FAB_LSTAT.PEER_MISMATCH 0
      if slot = b.slotId then b3.linkRefuse n 0x0B04
      else if (List.range 63).any (fun m => decide (m ≠ n) && b.knowsPeer m && decide (b.peerOf m = slot)
          && decide (b.lk m F.FAB_LPSER.PEER_SERIAL ≠ s.serial % 2 ^ 64)) then b3.slotDup slot
      else if slot ≠ expectedPeer b.slotId n then
        let b4 := ((b3.setLk n F.FAB_LSTAT.PEER_MISMATCH 1).raise p 4).reportPage p 0x0B03 n
        if b.lk n F.FAB_LCFG.STRICT_SLOT = 1 then b4.linkRefuse n 0x0B04 else b4.identNews n (b.link n)
      else b3.identNews n (b.link n)

/-- The link runs on a lane group. -/
def Block.linkGroup (b : Block) (n : Nat) (g : Nat × Nat) : Block :=
  ((b.setLk n F.FAB_LSTAT.WIDTH g.1).setLk n F.FAB_LEXP.LANE_MASK g.2).showLanes n ((b.link n).ownLanes n g.2)
    (allLanes n - (allLanes n &&& (b.link n).trained))

/-- IDENT_DONE: the width is chosen and the link comes UP with all its credits; `asym` is the calibrated asymmetry (R339, R342, R346). -/
def Block.identDone (b : Block) (n asym : Nat) : Block :=
  if b.lstate n ≠ lsIDENT ∨ !b.knowsPeer n then b
  else
    match chooseGroup n ((b.link n).usable n) with
    | none => b
    | some g =>
      (((((b.setLink n { b.link n with credit := fullCredit n }).setLk n F.FAB_LTIME.ASYM asym).linkGroup n g).enterLink n lsUP).raise
        (linkPage n) 1)

/-- The link starts to narrow: it proposes the lanes that remain. -/
def Block.narrowStart (b : Block) (n mask : Nat) : Block :=
  let b1 := (b.enterLink n lsNARROW).raise (linkPage n) 3
  (b1.setLink n { b1.link n with narrowMask := mask, narrowSets := 0 }).emit (.narrow n mask)

/-- LANE_RETIRE: a lane of an UP link lost its signal or exceeded its error ratio (R343). -/
def Block.laneRetire (b : Block) (n lane : Nat) : Block :=
  let x := b.link n
  if b.lstate n ≠ lsUP ∨ linkLanes n ≤ lane ∨ !x.trained.testBit lane then b
  else
    let left := setBits x.trained lane 1 0
    let (q, c) := laneAt n lane
    let b1 := ((b.setLink n { x with trained := left }).putBit (pgQuad q) F.FAB_QLANE.LANE_UP c false).putBit (pgQuad q)
      F.FAB_QLANE.LANE_DIS c true
    let b2 := b1.reportPage (linkPage n) 0x0B02 n
    let usable := ({ x with trained := left } : LinkX).usable n
    if chooseGroup n usable = none then b2.linkDown n 0x0B01 else b2.narrowStart n usable

/-- NARROW_SET: a NARROW ordered set of the peer. Both ends adopt the intersection of the masks; after 16 matching sets the
link has restriped, is UP again and sends what waited. -/
def Block.narrowRx (b : Block) (n mask : Nat) : Block :=
  if !b.linkUp n then b
  else
    let b0 := if b.lstate n = lsUP then b.narrowStart n ((b.link n).usable n) else b
    let x := b0.link n
    let m := x.narrowMask &&& mask
    let sets := if m = x.narrowMask ∧ m = mask then x.narrowSets + 1 else 0
    let b1 := b0.setLink n { x with narrowMask := m, narrowSets := sets }
    match chooseGroup n m with
    | none => b1.linkDown n 0x0B01
    | some g =>
      if sets < 16 then b1
      else (((b1.setLink n { b1.link n with peerGood := x.peerGood &&& m }).linkGroup n g).enterLink n lsUP).pump n

/-- LINK_LOSS: all lanes are lost, of an UP link or of one in NARROW, in which no valid group then remains (R339). -/
def Block.linkLoss (b : Block) (n : Nat) : Block := if b.linkUp n then b.linkDown n 0x0B01 else b

/-- RETRAIN_REQ of a link (R339). -/
def Block.linkRetrain (b : Block) (n : Nat) : Block :=
  if b.linkUp n then b.linkDown n 0
  else if b.lstate n = lsDOWN then b.linkDetect n
  else if b.lstate n = lsREFUSED ∧ !(b.link n).dupRefused then b.linkDetect n
  else b

/-- DOWN_RETRY: 1 s in DOWN, or in REFUSED by the peer. -/
def Block.downRetry (b : Block) (n : Nat) : Block :=
  let x := b.link n
  if x.since + 1000000000 ≤ b.now then
    if b.lstate n = lsDOWN then b.linkDetect n
    else if b.lstate n = lsREFUSED ∧ b.lk n F.FAB_LSTAT.REFUSED_BY_PEER = 1 ∧ !x.dupRefused then b.linkDetect n
    else b
  else b

/-- A link goes OFF: its lanes are quiet and its replay buffer is empty (R339). -/
def Block.linkOff (b : Block) (n : Nat) : Block :=
  if b.lstate n = lsOFF then b
  else
    let b1 := (b.linkQuiet n).enterLink n lsOFF
    if b.linkUp n then b1.raise (linkPage n) 2 else b1

/-- The function of a quad page stops (R32): its links are OFF until a commit of the page. -/
def Block.linksOff (b : Block) (quad : Nat) : Block := ([0, 1].filterMap (fun pos => linkAt quad pos)).foldl Block.linkOff b

/-- A commit of a quad page acts on its links (R339): LINK_EN and a change of STRICT_SLOT.
Log entry 49 (DESIGN CHOICE, unsafe). -/
def Block.linkCommit (b : Block) (quad : Nat) (strictOld : Nat → Nat) : Block :=
  ([0, 1].filterMap (fun pos => linkAt quad pos)).foldl (fun b n =>
    if b.lk n F.FAB_LCFG.LINK_EN = 0 then b.linkOff n
    else if b.lstate n = lsOFF then b.linkDetect n
    else if b.lstate n = lsREFUSED ∧ strictOld (linkPos n) ≠ b.lk n F.FAB_LCFG.STRICT_SLOT ∧ !(b.link n).dupRefused then b.linkDetect n
    else b) b

/-! ### Flits (R344 to R347) -/

/-- What the FEC says of a flit. -/
def fecClean : Nat := 0
def fecCorrected : Nat := 1

/-- A link sends a LINK unit: the last FSEQ received in order, NAK, and the units freed since the one before (R345). -/
def Block.linkUnitOut (b : Block) (n : Nat) (x : LinkX) (nak : Bool) : Block :=
  (b.setLink n { x with sinceAck := 0, freed := [0, 0, 0, 0, 0] }).emit (.linkUnit n { ack := (x.rxSeq + 1023) % 1024, cred := x.freed } nak)

/-- FLIT_RX: a flit of KIND with FSEQ; `fec` is 0 clean, 1 corrected, 2 uncorrectable. -/
def Block.flitRx (b : Block) (n kind fseq fec : Nat) (crcOk : Bool) : Block :=
  if !b.linkUp n then b
  else
    let p := linkPage n
    let i := linkPos n
    let b0 := if fec = fecCorrected then b.bumpWrap p F.FAB_LERR0.FEC_CORR_CNT i
      else if fec = fecClean then b else b.bump p F.FAB_LERR1.FEC_UNCORR_CNT i
    let bad := decide (1 < fec)
    let b1 := if !bad && (!crcOk || decide (kind = 3)) then b0.bump p F.FAB_LERR2.CRC_ERR_CNT i else b0
    let x := b1.link n
    if kind = 1 then
      if !bad && crcOk && decide (fseq = x.rxSeq) then
        (b1.setLink n { x with rxSeq := (x.rxSeq + 1) % 1024, nakSent := false, sinceAck := x.sinceAck + 1 }).bumpWrap p
          F.FAB_LRX.RX_UNITS i 20
      else if x.nakSent then b1
      else b1.linkUnitOut n { x with nakSent := true } true
    else b1

/-- A LINK unit returns its credits; its ACK_SEQ takes flits out of the replay buffer if it names one of them (R345, R347). -/
def LinkX.took (x : LinkX) (u : LinkAck) : LinkX :=
  let y := { x with credit := (List.range 5).map (fun v => x.credit.getD v 0 + u.cred.getD v 0) }
  let n := (u.ack + 1024 - x.ackSeq) % 1024
  if n = 0 ∨ x.unacked < n then y else { y with ackSeq := u.ack, replays := 0 }

/-- LINK_UNIT: credits, ACK_SEQ and NAK of a received LINK unit; a NAK replays, and what may now leave leaves (R345 to R347). -/
def Block.linkUnitRx (b : Block) (n : Nat) (u : LinkAck) (nak : Bool) : Block :=
  if !b.linkUp n then b
  else
    let x := (b.link n).took u
    if nak then
      (((b.setLink n { x with replays := x.replays + 1 }).bump (linkPage n) F.FAB_LERR1.REPLAY_CNT (linkPos n)).raise (linkPage n) 6).pump n
    else (b.setLink n x).pump n

/-- LINK_UNIT_SEND. -/
def Block.linkUnitTx (b : Block) (n : Nat) : Block := if b.linkUp n then b.linkUnitOut n (b.link n) false else b

/-- REPLAY_EXHAUST: a flit of an UP link was sent REPLAY_MAX times without acknowledgement. -/
def Block.replayExhaust (b : Block) (n : Nat) : Block :=
  if b.lstate n = lsUP ∧ b.eff (linkPage n) F.FAB_X_LINK.REPLAY_MAX ≤ (b.link n).replays + 1 then b.linkDown n 0x0B08 else b

end Sys2Proof.Machine
end

