-- ==== Sys2Proof/Machine/Packets.lean ====
section
/-! DEFINITION. Packets at their destination and at their source (R348 to R354), control messages (R370), routes and
reachability (R360 to R363), paths that die (R366, R367), the safe state on the fabric (R371), region keys (R358).
Log entry 48 (DEDUCED, unsafe). -/
namespace Sys2Proof.Machine

/-! ### Arrival -/

/-- Types that carry a request (R349, R367). -/
def isRequest (t : Nat) : Bool := [ptRD_REQ, ptWR, ptATOM, ptLEASE_REQ, ptLEASE_REL, ptPFLUSH, ptSEG, ptCTRL].contains t

/-- A packet of another slot goes on to its next hop, or is dropped (R362). -/
def Block.relay (b : Block) (q : Nat) (p : Packet) : Block :=
  let drop := b.bump (pgQuad q) F.FAB_QCNT1.RELAY_DROP_CNT
  if b.safe ∨ (p.vc ≠ 0 ∧ p.vc ≠ 2 ∧ p.vc ≠ 4) then drop
  else
    match b.linksTo p.dst with
    | n :: _ => b.sendOn n { p with vc := if p.vc = 4 then 4 else p.vc + 1 }
    | [] => drop

/-- A request is too old (R367). -/
def Block.stalePacket (b : Block) (p : Packet) : Bool := isRequest p.type && decide (b.maxAge < b.age32 p.injTick)

/-- A packet reaches an open quad, which frees its units: it is not too old, and it is for this package; then `go`. -/
def Block.packetIn (b0 : Block) (q : Nat) (p : Packet) (go : Block → Block) : Block :=
  let b := b0.freeUnits q p
  if !b0.islandOpen (360 + q) then b0
  else if b.stalePacket p then (b.bump (pgQuad q) F.FAB_QCNT1.STALE_PKT_CNT).reportPage (pgQuad q) 0x0B0A
  else if p.dst ≠ b.slotId then b.relay q p
  else go b

/-- BAD_PACKET: a type that R349 does not list. -/
def Block.badPacket (b : Block) (q : Nat) (p : Packet) : Block :=
  if packetTypes.contains p.type then b else b.bump (pgQuad q) F.FAB_QCNT0.BAD_PKT_CNT

/-! ### The destination -/

/-- The key of the acknowledgements owed to a path of a source. -/
def ackKey (p : Packet) : Nat := (p.src * 8 + p.rslot) * 4 + p.gen

/-- Send the acknowledgement owed to a path (R364). -/
def Block.ackSend (b : Block) (k : Nat) : Block :=
  match SMap.find b.ackq k with
  | some a => ({ b with ackq := SMap.erase b.ackq k }).reply { respond a.pkt ptWR_ACK stOK with len := a.count }
  | none => b

/-- ACK_COALESCE_EXPIRE. -/
def Block.ackExpire (b : Block) (k : Nat) : Block :=
  match SMap.find b.ackq k with
  | some a => if a.since + b.eff pgGfab F.FAB_X_ACK.ACK_COALESCE ≤ b.now then b.ackSend k else b
  | none => b

/-- A write of a path was accepted: its acknowledgement waits for others, up to 64. -/
def Block.ackOwe (b : Block) (p : Packet) : Block :=
  let k := ackKey p
  let a := match SMap.find b.ackq k with
    | some a => { a with count := a.count + 1, pkt := p }
    | none => { count := 1, since := b.now, pkt := p }
  let b1 := { b with ackq := SMap.set b.ackq k a }
  if 64 ≤ a.count then b1.ackSend k else b1

/-- A write that ends with a nonzero status is acknowledged alone, after those before it. -/
def Block.ackBad (b : Block) (p : Packet) (st : Nat) : Block :=
  (b.ackSend (ackKey p)).reply { respond p ptWR_ACK st with len := 1 }

/-- RD_REQ. -/
def Block.rdReq (b : Block) (q : Nat) (p : Packet) : Block :=
  b.packetIn q p fun b =>
    if b.safe then b.reply (respond p ptRD_CPL stSAFE)
    else if b.asleep then b.reply (respond p ptRD_CPL stISLAND)
    else
      let cache := (framesOf p.addr p.len).all (fun f => decide (b.frame f = frFROZEN))
      let (b1, st, bs) := b.readLocal p.addr (min p.len 4096) p.tenant p.priv p.part (pgQuad q)
      let r := { respond p ptRD_CPL st with payload := bs, len := bs.length, addr := p.addr, injTick := b.now % 2 ^ 32 }
      if st = stOK ∧ cache then (b1.emit (.event "cacheable" [p.src, p.tag])).reply r else b1.reply r

/-- The frames that a lease covers, for its holder. -/
def Block.leaseOf (b : Block) (src lease : Nat) : List Nat :=
  match SMap.find b.rleases lease with
  | some l => if l.src = src then l.frames else []
  | none => []

/-- Bytes that a write in flight leaves undefined (R354).
Log entry 8 (DESIGN CHOICE, safe). -/
def Block.undefine (b : Block) (off len : Nat) : Block :=
  let (n, b1) := b.draw
  b1.store off ((List.range len).map (fun i => Config.freeByte n (off + i)))

/-- The queue of the freeze engine has no room for the records of a doorbell write, which then stays where it is (R200). -/
def Block.doorFull (b : Block) (bs : List Byte) : Bool := decide (256 < b.frzQueue.length + b.frzHeld.length + bs.length / 32)

/-- WR: applied under its lease, or a record of the doorbell, which holds the packet while the queue is full. A write that no lease covers is
a refused one: counted and reported as every WRITE_FROZEN (R198, R352). -/
def Block.wrPacket (b : Block) (q : Nat) (p : Packet) : Block :=
  b.packetIn q p fun b =>
    let bs := p.payload.take 4096
    let covered := (framesOf p.addr bs.length).all (fun f => (b.leaseOf p.src p.lease).contains f)
    if b.safe then
      (if covered ∧ !isDoorbell p.addr bs.length then b.undefine p.addr bs.length else b).ackBad p stSAFE
    else if b.asleep then b.ackBad p stISLAND
    else if isDoorbell p.addr bs.length then
      (if b.groupRetired 31 then (b.reportRange (pgQuad q)).ackBad p stRANGE
       else if b.doorFull bs then b
       else (b.doorbellWrite p.priv bs).ackOwe p)
    else if covered then ((b.store p.addr bs).countWrite p.addr bs.length).ackOwe p
    else
      let f := (framesOf p.addr bs.length).find? (fun f => !(b.leaseOf p.src p.lease).contains f)
      (b.writeFrozen (f.getD (p.addr / 4096))).ackBad p stFROZEN

/-- An atomic packet of a code (R353). -/
def Block.atomPacket (b : Block) (q code : Nat) (p : Packet) : Block :=
  b.packetIn q p fun b =>
    if b.safe then b.reply (respond p ptATOM_CPL stSAFE)
    else if b.asleep then b.reply (respond p ptATOM_CPL stISLAND)
    else
      let c := if 10 ≤ p.acode then p.acode else code
      let opd := leNat (p.payload.take 8)
      let cmp := leNat ((p.payload.drop 8).take 8)
      let (b1, st, old) := b.atomicLocal c p.addr p.tenant p.priv (pgQuad q) opd cmp
      b1.reply { respond p ptATOM_CPL st with payload := leBytes 8 old ++ List.replicate 24 0, len := 32 }

/-- An atomic of a code: DATOM of a tile, which acts where the tile fetches it, or an ATOM packet. A reserved code in the source stands
(R353). -/
def Block.atomOp (b : Block) (code : Nat) (src : AtomSrc) : Block :=
  match src with
  | .datom t sa sb tag off => b.issue t (some (atomOf code src)) fun b => b.datom t sa.toNat sb.toNat tag.toNat off.toNat
  | .packet q p => b.atomPacket q code p

/-- The existing lease of a requester's TAG. -/
def Block.leaseFor (b : Block) (src tag : Nat) : Option Nat :=
  (b.rleases.find? (fun e => decide (e.2.src = src) && decide (e.2.tag = tag))).map Prod.fst

/-- LEASE_REQ (R352): every frame is checked, then one lease is granted, or the first status that applies is answered. -/
def Block.leaseReq (b : Block) (q : Nat) (p : Packet) : Block :=
  b.packetIn q p fun b =>
    if b.safe then b.reply (respond p ptLEASE_RSP stSAFE)
    else if b.asleep then b.reply (respond p ptLEASE_RSP stISLAND)
    else
      match b.leaseFor p.src p.tag with
      | some l => b.reply { respond p ptLEASE_RSP stOK with lease := l }
      | none =>
        let first := p.addr / 4096
        let n := p.len
        let (b1, st) := b.writeCheck (first * 4096) (n * 4096) p.tenant p.priv (pgQuad q)
        if st ≠ stOK then b1.reply (respond p ptLEASE_RSP st)
        else
          let fs := (List.range n).map (· + first)
          let (b2, st2) := b1.takeLeases fs
          if st2 ≠ stOK then b2.reply (respond p ptLEASE_RSP st2)
          else
            let l := ((List.range 65536).find? (fun i => (SMap.find b2.rleases ((b2.nextId + i) % 65536)).isNone)).getD 0
            let id := (b2.nextId + l) % 65536
            ({ b2 with rleases := SMap.set b2.rleases id { src := p.src, tag := p.tag, frames := fs }, nextId := b2.nextId + 1 }).reply
              { respond p ptLEASE_RSP stOK with lease := id }

/-- End a lease that another package holds. -/
def Block.endLease (b : Block) (id : Nat) : Block :=
  match SMap.find b.rleases id with
  | some l => ({ b with rleases := SMap.erase b.rleases id }).unlease l.frames
  | none => b

/-- LEASE_REL. -/
def Block.leaseRel (b : Block) (q : Nat) (p : Packet) : Block :=
  b.packetIn q p fun b =>
    match SMap.find b.rleases p.lease with
    | some l => if l.src = p.src then b.endLease p.lease else b
    | none => b

/-- The leases of a source end (R352). -/
def Block.endLeasesOf (b : Block) (src : Nat) : Block :=
  ((b.rleases.filter (fun e => decide (e.2.src = src))).map Prod.fst).foldl Block.endLease b

/-- PFLUSH: the echo follows the acknowledgements of every earlier write of the path. -/
def Block.pflush (b : Block) (q : Nat) (p : Packet) : Block :=
  b.packetIn q p fun b => (b.ackSend (ackKey p)).reply (respond p ptPFLUSH_ECHO stOK)

/-! ### The source -/

/-- The request of this package that a response answers: the same slot and tag. -/
def Block.reqOf (b : Block) (p : Packet) : Option Req :=
  b.reqs.find? (fun r => decide (r.pkt.tag = p.tag) && decide (r.pkt.dst = p.src) && decide (r.pkt.rkind ≠ 4)
    && decide (r.pkt.type ≠ ptCTRL) && decide (r.pkt.type ≠ ptLEASE_REL))

/-- A request is answered. -/
def Block.dropReq (b : Block) (r : Req) : Block := { b with reqs := b.reqs.erase r }

/-- One request of a transfer is over with a status. -/
def Block.pieceOver (b : Block) (id st : Nat) : Block :=
  match b.xfer? id with
  | none => b
  | some x => b.setXfer { x with outstanding := x.outstanding - 1, status := if x.status = 0 then st else x.status }

/-- A write all of whose requests are over ends; its leases are given back. -/
def Block.writeSettle (b : Block) (id : Nat) : Block :=
  match b.xfer? id with
  | some x => if x.outstanding = 0 ∧ x.phase = .running ∧ !b.doorHolds id then (b.releaseLeases id).endXfer { x with leases := [], remote := [] } 0 else b
  | none => b

/-- The lines of a cacheable completion start fills (R204, R210). -/
def Block.farFills (b : Block) (slot off part tick : Nat) (bs : List Byte) : Block :=
  let ls := (linesOf off bs.length).filter (fun l => decide (off ≤ l * 128) && decide (l * 128 + 128 ≤ off + bs.length))
  { b with fills := b.fills ++ ls.map (fun l =>
      { slice := homeSlice slot (l * 128), line := lineKey slot (l * 128), part := part, pin := false, readTick := tick
        data := (bs.drop (l * 128 - off)).take 128 }) }

/-- The home slices count the lines of a remote read that they did not hold: a miss where the line may be kept, else a bypass (R225). -/
def Block.countFarRead (b : Block) (slot off len : Nat) (cacheable : Bool) : Block :=
  (linesOf off len).foldl (fun b l =>
    let s := pgSlice (homeSlice slot (l * 128))
    if cacheable then b.bumpWrap s F.SLC_PERF.MISS else b.bumpWrap s F.SLC_PERF.BYPASS) b

/-- The tick that 32 bits name: the latest at or before now. -/
def Block.tick32 (b : Block) (t : Nat) : Nat := b.now - min b.now (b.age32 t)

/-- RD_CPL: data and status (R349). `cacheable`: the serving controller marked the lines so. -/
def Block.rdCpl (b : Block) (q : Nat) (p : Packet) (cacheable : Bool) : Block :=
  b.packetIn q p fun b =>
    match b.reqOf p with
    | none => b
    | some r =>
      if r.pkt.type ≠ ptRD_REQ then b
      else
        let b1 := (b.dropReq r).pieceOver r.xfer p.status
        match b1.xfer? r.xfer with
        | none => b1
        | some x =>
          let tick := b.tick32 p.injTick
          let b2 := (b1.countFarRead r.pkt.dst r.pkt.addr r.pkt.len cacheable).setXfer
            { x with data := setAt x.data r.piece (p.payload.take r.pkt.len), uncached := x.uncached || !cacheable
                     readTick := some (match x.readTick with | some t => min t tick | none => tick) }
          let proof : Bool := match x.owner with
            | .proof _ _ _ => true
            | _ => false
          let b3 := if p.status = 0 ∧ cacheable ∧ !proof then
              b2.farFills r.pkt.dst r.pkt.addr x.part tick (p.payload.take r.pkt.len) else b2
          b3.readSettle r.xfer

/-- WR_ACK: the oldest LEN writes of the path are acknowledged (R364, R365). -/
def Block.wrAck (b : Block) (q : Nat) (p : Packet) : Block :=
  b.packetIn q p fun b =>
    let k := pathKey p.src p.rslot p.gen
    let rs := ((b.pathReqs k).filter (fun r => decide (r.pkt.type = ptWR))).take p.len
    let b1 := rs.foldl (fun b r => ((b.dropReq r).pieceOver r.xfer p.status).writeSettle r.xfer) (b.ackPath k rs.length)
    b1.settleFences

/-- ATOM_CPL: the prior value and the status. -/
def Block.atomCpl (b : Block) (q : Nat) (p : Packet) : Block :=
  b.packetIn q p fun b =>
    match b.reqOf p with
    | none => b
    | some r =>
      if r.pkt.type ≠ ptATOM then b
      else
        let b0 := b.dropReq r
        if p.status = stRETRY then b0.leaseRefused r.xfer stRETRY
        else
          let b1 := b0.pieceOver r.xfer p.status
          match b1.xfer? r.xfer with
          | none => b1
          | some x => (b1.setXfer { x with data := [p.payload.take 8] }).readSettle r.xfer

/-- LEASE_RSP: the write goes on, asks again later, or ends (R197, R352). -/
def Block.leaseRsp (b : Block) (q : Nat) (p : Packet) : Block :=
  b.packetIn q p fun b =>
    match b.reqOf p with
    | none => b
    | some r =>
      if r.pkt.type ≠ ptLEASE_REQ then b
      else
        let b0 := b.dropReq r
        match b0.xfer? r.xfer with
        | none =>
          if p.status = 0 then b0.sendOneWay { r.pkt with type := ptLEASE_REL, lease := p.lease, len := 0 } r.pkt.dst r.pkt.rslot else b0
        | some x =>
          if p.status ≠ 0 then b0.leaseRefused r.xfer p.status
          else
            let y := { x with outstanding := x.outstanding - 1
                              remote := x.remote ++ [{ slot := r.pkt.dst, lease := p.lease, first := r.pkt.addr / 4096, count := r.pkt.len }] }
            let b1 := b0.setXfer y
            if y.outstanding = 0 then (b1.sendWrites r.xfer).writeSettle r.xfer else b1

/-- A path is SETTLED: what it carried without a completion has arrived. -/
def Block.settlePath (b : Block) (k : Nat) : Block :=
  { b with paths := SMap.set b.paths k { b.path k with st := .settled }
           reqs := b.reqs.filter (fun r => !(decide (r.xfer = 0) && decide (r.pkt.type = ptCTRL ∨ r.pkt.type = ptLEASE_REL)
             && decide (r.pkt.rkind ≠ 4) && decide (pathKey r.pkt.dst r.pkt.rslot r.pkt.gen = k))) }

/-- PFLUSH_ECHO (R366). -/
def Block.pflushEcho (b : Block) (q : Nat) (p : Packet) : Block :=
  b.packetIn q p fun b =>
    let k := pathKey p.src p.rslot p.gen
    if (b.path k).st = .flushing then (b.settlePath k).settleFences else b

/-! ### Paths that die (R354, R366, R367) -/

/-- A request whose path died leaves again on its slot's current route. -/
def Block.reissue (b : Block) (k : Nat) (r : Req) : Block :=
  let (b1, q) := b.inject r.pkt r.pkt.dst r.pkt.rslot
  let b2 := (b1.bumpWrap pgGfab F.FAB_GCNT2.REISSUE_CNT)
  let b3 := { b2 with reqs := b2.reqs ++ [{ r with pkt := q, dead := k :: r.dead }] }
  if (q.type = ptWR ∨ q.type = ptSEG) ∧ q.rkind ≠ 4 then b3.countPath q else b3

/-- An atomic whose path died completes with ISLAND_DOWN; its prior value is undefined (R354). -/
def Block.atomLost (b : Block) (r : Req) : Block :=
  let b1 := ((b.bump pgGfab F.FAB_GCNT3.ATOM_LOST_CNT).reportPage pgGfab 0x0B0C)
  match b1.xfer? r.xfer with
  | none => b1
  | some x =>
    let (n, b2) := b1.draw
    let b3 := match x.intoTile with
      | some t => b2.setTile t ((b2.tile t).land x.pieces [leBytes 8 (Config.freeWord n).toNat])
      | none => b2
    b3.endXfer { x with outstanding := 0 } stISLAND

/-- A path becomes DEAD: its requests without a completion are reissued, its atomics are lost. -/
def Block.killPath (b : Block) (k : Nat) : Block :=
  let rs := b.pathReqs k
  let b1 := { b with paths := SMap.set b.paths k { b.path k with st := .dead }
                     reqs := b.reqs.filter (fun r => !rs.contains r) }
  let b2 := { b1 with fences := b1.fences.map (fun (f : Fence) => { f with lost := b1.fenceLost f }) }
  (rs.foldl (fun b r => if r.pkt.type = ptATOM then b.atomLost r else b.reissue k r) b2).settleFences

/-- PATH_DEAD: a superseded path that is not SETTLED after FENCE_PATH_TIMEOUT. -/
def Block.pathDead (b : Block) (d r g : Nat) : Block :=
  let k := pathKey d r g
  let x := b.path k
  if x.st = .flushing ∧ x.since + b.eff pgGfab F.FAB_AGE.FENCE_PATH_TIMEOUT * 1000 ≤ b.now then b.killPath k else b

/-! ### Routes (R361) -/

/-- Lanes counted for a link. -/
def Block.width (b : Block) (n : Nat) : Nat := b.lk n F.FAB_LSTAT.WIDTH

/-- The advertised width of a slot to another. -/
def Block.advWidth (b : Block) (v d : Nat) : Nat := SMap.get 0 b.adv (v * 64 + d)

/-- A slot can relay to another. -/
def Block.relayOk (b : Block) (v d : Nat) : Bool :=
  decide (v ≠ d) && decide (v ≠ b.slotId) && !(b.linksTo v).isEmpty && decide (0 < b.advWidth v d)
    && !bit (b.eff pgGfab F.FAB_SAFE_SEEN.SAFE) v

/-- The relays to a destination, and whether they are tray peers. -/
def Block.relays (b : Block) (d : Nat) : List Nat × Bool :=
  let s := b.slotId
  let tray := ((List.range 3).map (fun i => expectedPeer s i)).filter (fun v => b.relayOk v d)
  if tray.isEmpty then
    ((((List.range 64).map (fun j => (s + d + 1 + 13 * j) % 64)).filter (fun v => b.isOccupied v && b.relayOk v d)).take 4, false)
  else (tray, true)

/-- The route of slot `i` of a destination under the fill of R361, without its generation. -/
def Block.fillSlot (b : Block) (d i : Nat) : Route :=
  let l := b.linksTo d
  let w := l.foldl (fun s n => s + b.width n) 0
  let n := if w = 0 then 0 else if w = 1 then 4 else 8 - b.eff pgGfab F.FAB_GCFG.SPREAD
  let (c, tray) := b.relays d
  if i < n ∧ !l.isEmpty then { rkind := 0, via := 0, link := l.getD (i % l.length) 0, gen := 0 }
  else if !c.isEmpty then { rkind := if tray then 1 else 2, via := c.getD ((i - n) % c.length) 0, link := 0, gen := 0 }
  else routeNone

/-- The flush marker of a superseded path leaves on its old route when that route's first link is up (R366). -/
def Block.sendFlush (b : Block) (d i : Nat) (r : Route) : Block :=
  let l := b.routeLink r
  if b.linkUp l then
    b.sendOn l { packet0 with type := ptPFLUSH, src := b.slotId, dst := d, rslot := i, rkind := r.rkind, gen := r.gen
                              via := r.via, injTick := b.now % 2 ^ 32 }
  else b

/-- The waiting requests of a route slot leave on its new route. -/
def Block.sendWaiting (b : Block) (d i : Nat) : Block :=
  let wait (r : Req) : Bool := decide (r.pkt.dst = d) && decide (r.pkt.rslot = i) && decide (r.pkt.rkind = 4)
  if (b.route d i).rkind = 4 then b
  else
    (b.reqs.filter wait).foldl (fun b r =>
      let (b1, q) := b.inject r.pkt d i
      let b2 := { b1 with reqs := b1.reqs ++ [{ r with pkt := q }] }
      if q.type = ptWR ∨ q.type = ptSEG then b2.countPath q else b2) { b with reqs := b.reqs.filter (fun r => !wait r) }

/-- A route slot takes a new route: the next generation, and the earlier one is superseded (R361, R366). -/
def Block.changeRoute (b : Block) (d i : Nat) (r : Route) : Block :=
  let old := b.route d i
  let g := (old.gen + 1) % 4
  let k0 := pathKey d i old.gen
  let k1 := pathKey d i g
  let b0 := { b with routes := SMap.set b.routes (d * 8 + i) { r with gen := g } }
  let b1 := if (b0.path k1).st = .flushing then b0.killPath k1 else b0
  let x1 := b1.path k1
  let b2 := { b1 with paths := SMap.set b1.paths k1 { x1 with acked := x1.pwseq, st := .live } }
  let b3 := if old.rkind = 4 then b2
    else ({ b2 with paths := SMap.set b2.paths k0 { b2.path k0 with st := .flushing, since := b.now } }).sendFlush d i old
  ((b3.bumpWrap pgGfab F.FAB_GCNT0.ROUTE_CHG_CNT).raise pgGfab 0).sendWaiting d i

/-- The same way to travel, whatever the generation. -/
def sameRoute (a c : Route) : Bool := decide (a.rkind = c.rkind) && decide (a.via = c.via) && decide (a.link = c.link)

/-- Some route to a slot exists. -/
def Block.hasRoute (b : Block) (d : Nat) : Bool := (List.range 8).any (fun i => decide ((b.route d i).rkind ≠ 4))

/-- A slot is reachable once a route exists and a LINK_STATE of it has arrived (R363). One that becomes reachable again may have counted this
package as having acknowledged its thaws, so every line of a remote frame goes first (R205). -/
def Block.reachCheck (b : Block) (d : Nat) : Block :=
  let b1 := if b.hasRoute d then { b with noneSince := SMap.erase b.noneSince d }
    else match SMap.find b.noneSince d with
      | some _ => b
      | none => { b with noneSince := SMap.set b.noneSince d b.now }
  if b1.hasRoute d ∧ bit b1.lsFrom d then
    (if bit (b1.eff pgGfab F.FAB_REACH.REACH) d then b1 else b1.dropRemote).putBit pgGfab F.FAB_REACH.REACH d true
  else b1

/-- ROUTE_REFILL: the route table of a destination. -/
def Block.routeRefill (b : Block) (d : Nat) : Block :=
  if d = b.slotId then b
  else
    ((List.range 8).foldl (fun b i =>
      let r := b.fillSlot d i
      if sameRoute r (b.route d i) then b else b.changeRoute d i r) b).reachCheck d

/-! ### Reachability and LINK_STATE (R363) -/

/-- A request to an unreachable slot is over with ISLAND_DOWN. -/
def Block.reqLost (b : Block) (r : Req) : Block :=
  if r.pkt.type = ptWR then
    (((if r.pkt.rkind = 4 then b else b.ackPath (pathKey r.pkt.dst r.pkt.rslot r.pkt.gen) 1).pieceOver r.xfer stISLAND).writeSettle r.xfer)
  else if r.pkt.type = ptRD_REQ ∨ r.pkt.type = ptATOM then (b.pieceOver r.xfer stISLAND).readSettle r.xfer
  else if r.pkt.type = ptLEASE_REQ then b.leaseRefused r.xfer stISLAND
  else if r.pkt.type = ptSEG then
    let b1 := if r.pkt.rkind = 4 then b else b.ackPath (pathKey r.pkt.dst r.pkt.rslot r.pkt.gen) 1
    { b1 with segs := b1.segs.map (fun s => if s.id = r.xfer then { s with failed := true } else s) }
  else b

/-- UNREACHABLE: no route, or no message, for UNREACH_TIMEOUT. -/
def Block.unreachable (b : Block) (d : Nat) : Block :=
  let lim := b.eff pgGfab F.FAB_UNREACH.UNREACH_TIMEOUT * 1000
  let late (m : Option Nat) : Bool := match m with
    | some t => decide (t + lim ≤ b.now)
    | none => false
  if d ≠ b.slotId ∧ b.reachable d ∧ (late (SMap.find b.noneSince d) ∨ late (SMap.find b.lastHeard d)) then
    let rs := b.reqs.filter (fun r => decide (r.pkt.dst = d))
    let b1 := { b with reqs := b.reqs.filter (fun r => decide (r.pkt.dst ≠ d)), lsFrom := setBits b.lsFrom d 1 0 }
    let b2 := b1.putBit pgGfab F.FAB_REACH.REACH d false
    let b3 := ((rs.foldl Block.reqLost b2).endLeasesOf d).ackUnreachable d
    (((b3.bump pgGfab F.FAB_GCNT1.UNREACH_CNT).raise pgGfab 2).reportPage pgGfab 0x0B09 d).settleFences
  else b

/-- The body of LINK_STATE: a 4-bit width code per slot and the SAFE flag (R370). -/
def linkStateBytes (widths : List Nat) (safe : Bool) : List Byte :=
  (List.range 32).map (fun i => BitVec.ofNat 8 (widths.getD (2 * i) 0 % 16 + 16 * (widths.getD (2 * i + 1) 0 % 16))) ++ leBytes 1 (b2n safe)

/-- The body that this package sends: the code of its widest link to each slot.
Log entry 50 (DEDUCED, unsafe). -/
def Block.linkStateBody (b : Block) : List Byte :=
  linkStateBytes ((List.range 64).map (fun s => widthCode ((b.linksTo s).foldl (fun w n => max w (b.width n)) 0))) b.safe

/-- LINK_STATE_SEND. -/
def Block.linkStateSend (b : Block) : Block := b.castCtrl (2 ^ 64 - 1) ckLINK_STATE b.linkStateBody

/-- A control message that repeats one of the last PKT_MAX_AGE (R370). -/
def Block.ctrlRepeated (b : Block) (src kind : Nat) (body : List Nat) : Bool :=
  b.ctrlSeen.any (fun c => decide (c.1 = src) && decide (c.2.1 = kind) && decide (c.2.2.1 = body) && decide (b.now ≤ c.2.2.2 + b.maxAge))

/-- The packet that carries a control message. -/
def ctrlPacket (h : CtrlIn) (kind : Nat) (body : List Byte) : Packet :=
  { packet0 with type := ptCTRL, vc := 4, src := h.src, dst := h.dst, addr := kind, injTick := h.injTick, priv := true
                 payload := body, len := body.length }

/-- A control message reaches the package: discarded when it is too old, repeated, or, but for LINK_STATE, in the safe
state; else `go` takes it (R367, R370, R371). -/
def Block.ctrlIn (b : Block) (h : CtrlIn) (kind : Nat) (body : List Byte) (go : Block → Block) : Block :=
  b.packetIn h.quad (ctrlPacket h kind body) fun b =>
    let nums := body.map BitVec.toNat
    if b.safe ∧ kind ≠ ckLINK_STATE then b
    else if b.ctrlRepeated h.src kind nums then b
    else
      go { b with ctrlSeen := (h.src, kind, nums, b.now) :: b.ctrlSeen.filter (fun c => decide (b.now ≤ c.2.2.2 + b.maxAge)) }

/-- LINK_STATE of a package: its widths and its SAFE flag. -/
def Block.linkState (b : Block) (src : Nat) (widths : List Nat) (safe : Bool) : Block :=
  let named := (List.range 64).foldl (fun m d => if widths.getD d 0 ≠ 0 then setBits m d 1 1 else m) (2 ^ src)
  let b1 := { b with
    adv := (List.range 64).foldl (fun m d => SMap.put 0 m (src * 64 + d) (widths.getD d 0 % 5)) b.adv
    lastHeard := SMap.set b.lastHeard src b.now
    lsFrom := setBits b.lsFrom src 1 1
    occupied := b.occupied ||| named }
  let b2 := b1.putBit pgGfab F.FAB_SAFE_SEEN.SAFE src safe
  (if safe then b2.endLeasesOf src else b2).reachCheck src

/-! ### Region keys (R358) -/

/-- FAB_KEY_VAL: the key of the tenant in FAB_KEY_IDX. -/
def Block.keyWrite (b : Block) (v : Nat) : Block :=
  { b with keys := SMap.put 0 b.keys (b.eff pgGfab F.FAB_KEY_IDX.TENANT) (v % 2 ^ 32) }

/-- The regions of a GO whose tags are written: those that are not in a device-reserved block. -/
def tagRegions (first n : Nat) : List Nat :=
  ((List.range n).map (· + first)).filter (fun r => decide (r * 2 ^ 20 % winSize < resvPos))

/-- GO: the write of the tags starts, or is discarded with CFG_REJECT. -/
def Block.tagGo (b : Block) : Block :=
  let base := b.eff pgGfab F.FAB_TAG_BASE.BASE
  let n := b.eff pgGfab F.FAB_TAG_CNT.COUNT
  let len := n * 2 ^ 20
  if b.eff pgGfab F.FAB_TAG_CMD.BUSY = 1 ∨ spaceSize < base + len
      ∨ (windowsOf base len).any (fun w => b.groupRetired w) then b.cfgReject pgGfab
  else
    ({ b with tagJob := some (base / 2 ^ 20, n, b.eff pgGfab F.FAB_TAG_VAL.VAL) }).put pgGfab F.FAB_TAG_CMD.BUSY 1

/-- TAG_DONE: every tag cache has dropped the old values. -/
def Block.tagDoneEv (b : Block) : Block :=
  match b.tagJob with
  | none => b
  | some (first, n, v) =>
    let inside (r : Nat) : Bool := decide (first ≤ r) && decide (r < first + n)
    let kept := SMap.dropKeys (fun r => inside r && decide (r * 2 ^ 20 % winSize < resvPos)) b.rtags
    let tags := if v = 0xFFFFFFFF then kept
      else (tagRegions first n).foldl (fun m r => SMap.set m r v) kept
    (({ b with tagJob := none, rtags := tags }).put pgGfab F.FAB_TAG_CMD.BUSY 0).raise pgGfab 3

end Sys2Proof.Machine
end

