-- ==== Sys2Proof/Machine/Moe.lean ====
section
/-! DEFINITION. Expert routing: layer records (R256 to R260), the placement table (R263 to R269), the plan of a layer (R275 to
R280), rows on the fabric (R259) and load records (R286, R287).
Log entry 39 (DEDUCED, unsafe). -/
namespace Sys2Proof.Machine

/-! ### The layer record (R258) -/

def lrPLC (r : List Byte) : Nat := field r 0 2
def lrK (r : List Byte) : Nat := field r 2 1
def lrGate (r : List Byte) : Nat := field r 3 1
def lrDrop (r : List Byte) : Bool := bit (lrGate r) 3
def lrExperts (r : List Byte) : Nat := field r 4 2
def lrEloc (r : List Byte) : Nat := field r 6 1
def lrMaxRounds (r : List Byte) : Nat := field r 7 1
def lrDispFmt (r : List Byte) : Nat := field r 8 1
def lrRetFmt (r : List Byte) : Nat := field r 9 1
def lrKch (r : List Byte) : Nat := field r 0xA 2
def lrCap (r : List Byte) : Nat := field r 0xC 4
def lrCountIdx (r : List Byte) : Nat := field r 0x10 4
def lrRoundIdx (r : List Byte) : Nat := field r 0x14 4
def lrPerm (r : List Byte) : Nat := field r 0x20 8 % 2 ^ 41
def lrHist (r : List Byte) : Nat := field r 0x28 8 % 2 ^ 41
def lrAct (r : List Byte) : Nat := field r 0x30 8 % 2 ^ 41
def lrStat (r : List Byte) : Nat := field r 0x38 8 % 2 ^ 41
def lrRet (r : List Byte) : Nat := field r 0x40 8 % 2 ^ 41
def lrCnt (r : List Byte) : Nat := field r 0x48 8 % 2 ^ 41
def lrIn (r : List Byte) : Nat := field r 0x50 8 % 2 ^ 41
def lrOut (r : List Byte) : Nat := field r 0x58 8 % 2 ^ 41
def lrInStride (r : List Byte) : Nat := field r 0x60 4
def lrOutStride (r : List Byte) : Nat := field r 0x64 4

/-- The addresses of a layer record. -/
def lrAddrs (r : List Byte) : List Nat :=
  [0x18, 0x20, 0x28, 0x30, 0x38, 0x40, 0x48, 0x50, 0x58].map (fun o => field r o 8) ++ (if bit (lrGate r) 2 then [field r 0x68 8] else [])

/-- HIST_BYTES. -/
def histBytes (r : List Byte) : Nat := ceilDiv (64 * lrEloc r * 4) 128 * 128

/-- Bytes of `n` rows of a format with KCH chunks, in engine-ready tiles. -/
def rowsBytes (fmt kch n : Nat) : Nat := ceilDiv n 128 * kch * tileBytes (Fmt.ofCode (fmt % 16)) false

/-- A format that rows may have: not GLO4, FMT[4] = 0. -/
def rowFmtOk (f : Nat) : Bool := decide (f < 16) && decide (f ≠ 0xB)

/-- The bounds of R256 and the conditions of R260 on one record alone. -/
def lrOk (r : List Byte) : Bool :=
  decide (lrPLC r < 1024) && decide (1 ≤ lrK r) && decide (lrK r ≤ 16) && decide (lrGate r < 16)
    && decide (1 ≤ lrExperts r) && decide (lrExperts r ≤ 1024) && decide (1 ≤ lrEloc r) && decide (lrEloc r ≤ 64)
    && decide (1 ≤ lrMaxRounds r) && decide (lrMaxRounds r ≤ 9) && rowFmtOk (lrDispFmt r) && rowFmtOk (lrRetFmt r)
    && decide (1 ≤ lrKch r) && decide (lrKch r ≤ 512) && decide (128 ≤ lrCap r) && decide (lrCap r ≤ 65536)
    && decide (lrCap r % 128 = 0) && decide (rowsBytes (lrDispFmt r) (lrKch r) (lrCap r) ≤ lrInStride r)
    && decide (rowsBytes (lrRetFmt r) (lrKch r) (lrMaxRounds r * lrCap r) ≤ lrOutStride r)
    && decide (field r 0x70 8 = 0) && decide (field r 0x78 8 = 0)

/-- The count-array entries of a record. -/
def lrEntries (r : List Byte) : List Nat := lrRoundIdx r :: (List.range (lrEloc r)).map (· + lrCountIdx r)

/-! ### Rows (R59, R259) -/

/-- A row of a buffer as it travels: elements in K order, then scales in K order. -/
def Block.rowGet (b : Block) (base fmt kch i : Nat) : List Byte :=
  let f := Fmt.ofCode (fmt % 16)
  let t (kc : Nat) : Nat := base + ((i / 128) * kch + kc) * tileBytes f false
  let el := (List.range kch).flatMap (fun kc => b.mem.read (t kc + i % 128 * rowBytes f) (rowBytes f))
  el ++ (if f.scaled then (List.range kch).flatMap (fun kc => b.mem.read (t kc + scaleBase f + 4 * (i % 128)) 4) else [])

/-- Bytes of a row on the fabric. -/
def rowLen (fmt kch : Nat) : Nat :=
  let f := Fmt.ofCode (fmt % 16)
  kch * (rowBytes f + if f.scaled then 4 else 0)

/-- A row that landed is written into the engine-ready layout. -/
def Block.rowPut (b : Block) (base fmt kch i : Nat) (bs : List Byte) : Block :=
  let f := Fmt.ofCode (fmt % 16)
  let t (kc : Nat) : Nat := base + ((i / 128) * kch + kc) * tileBytes f false
  let w := rowBytes f
  (List.range kch).foldl (fun b kc =>
    let b1 := (b.privWrite (t kc + i % 128 * w) ((bs.drop (kc * w)).take w)).1
    if f.scaled then (b1.privWrite (t kc + scaleBase f + 4 * (i % 128)) ((bs.drop (kch * w + 4 * kc)).take 4)).1 else b1) b

/-! ### The placement table in force (R263 to R267) -/

/-- EPOCH of a partition; 0 for no table. -/
def Block.epoch (b : Block) (k : Nat) : Nat := b.eff pgMoe F.MOE_EPOCH.EPOCH k

/-- LAYERS and STRIDE of a table. -/
def Block.plcLayers (b : Block) (t : Nat) : Nat := b.m16 (t + 8)
def Block.plcStride (b : Block) (t : Nat) : Nat := b.m16 (t + 0xA)

/-- The table in force. -/
def Block.plcActive (b : Block) (k : Nat) : Nat := b.eff pgMoe F.MOE_PLC_ACTIVE.PLC_ACTIVE k % 2 ^ 41

/-- The address of an entry. -/
def plcEntry (t stride l e : Nat) : Nat := t + 64 + (l * stride + e) * 32

/-- The holders of an entry: slot and local slot. -/
def Block.holders (b : Block) (a : Nat) : List (Nat × Nat) :=
  (List.range (min 8 (b.byteAt (a + 0x10)))).map (fun h => (b.byteAt (a + 2 * h), b.byteAt (a + 2 * h + 1)))

/-- One entry of a table passes R263 and R264. -/
def Block.plcEntryOk (b : Block) (a e : Nat) : Bool :=
  let n := b.byteAt (a + 0x10)
  let hs := b.holders a
  decide (1 ≤ n) && decide (n ≤ 8) && hs.all (fun h => decide (h.1 < 64) && decide (h.2 < 64))
    && decide ((hs.map Prod.fst).eraseDups.length = hs.length)
    && (List.range (16 - 2 * n)).all (fun i => decide (b.byteAt (a + 2 * n + i) = 0))
    && decide (b.byteAt (a + 0x11) < 2) && decide (b.m16 (a + 0x12) = 0) && decide (b.m16 (a + 0x14) = e)
    && (List.range 10).all (fun i => decide (b.byteAt (a + 0x16 + i) = 0))

/-- The layer records of the models of a partition that are WARM or HOT. -/
def Block.residentLayers (b : Block) (k : Nat) : List (List Byte) :=
  (b.bread.filter (fun m => decide (m.2.part = k) && decide (2 ≤ m.2.st) && decide (m.2.st ≤ 5))).flatMap (fun m =>
    let tab := field m.2.desc 0x38 8 % 2 ^ 41
    if field m.2.desc 0x38 8 = 0 then [] else (List.range (field m.2.desc 0x50 4)).map (fun i => b.mem.read (tab + 128 * i) 128))

/-- The holders of the experts of a resident model have local slots that its layer can hold (R256). -/
def Block.slotsHeld (b : Block) (t stride : Nat) (r : List Byte) : Bool :=
  (List.range (lrExperts r)).all (fun e => (b.holders (plcEntry t stride (lrPLC r) e)).all (fun h => decide (h.2 < lrEloc r)))

/-- The whole table at an offset passes the check of R264. -/
def Block.plcOk (b : Block) (k t : Nat) : Bool :=
  let layers := b.plcLayers t
  let stride := b.plcStride t
  decide (t % 4096 = 0) && !b.poisoned t (64 + layers * stride * 32) && decide (b.byteAt t = 1) && (List.range 3).all (fun i => decide (b.byteAt (t + 1 + i) = 0))
    && decide (b.m32 (t + 4) ≠ 0) && decide (b.m32 (t + 4) ≠ b.epoch k)
    && decide (1 ≤ layers) && decide (layers ≤ 1024) && decide (1 ≤ stride) && decide (stride ≤ 1024)
    && (List.range 52).all (fun i => decide (b.byteAt (t + 0xC + i) = 0))
    && b.usable t (64 + layers * stride * 32)
    && (List.range layers).all (fun l =>
      let es := (List.range stride).map (fun e => plcEntry t stride l e)
      (List.range stride).all (fun e => b.plcEntryOk (plcEntry t stride l e) e)
        && (let all := es.flatMap b.holders; decide (all.eraseDups.length = all.length)))
    && (b.residentLayers k).all (fun r => decide (lrExperts r ≤ stride) && decide (lrPLC r < layers) && b.slotsHeld t stride r)

/-- SUM: the sum modulo 2^64 of the table's 64-bit words. -/
def Block.plcSumOf (b : Block) (t : Nat) : Nat :=
  (List.range ((64 + b.plcLayers t * b.plcStride t * 32) / 8)).foldl (fun s i => (s + b.m64 (t + 8 * i)) % 2 ^ 64) 0

/-- A failed arm or swap (R264, R265). -/
def Block.swapErr (b : Block) (k : Nat) : Block :=
  ((((b.put pgMoe F.MOE_PCTL.ARM 0 k).put pgMoe F.MOE_PCTL.CHECKED 0 k).put pgMoe F.MOE_PCTL.SWAP_ERR 1 k).raise pgMoe 4).reportPart
    pgMoe 0x0801 k

/-- The load record of a layer and a local slot in a bank (R286). -/
def Block.loadRec (b : Block) (k bank l e : Nat) : Nat :=
  b.eff pgMoe F.MOE_LOAD_BASE.LOAD_BASE k % 2 ^ 41 + bank * 0x100000 + (l * 64 + e) * 16

/-- The armed table comes into force (R265, R287). -/
def Block.plcSwap (b : Block) (k : Nat) : Block :=
  let t := b.eff pgMoe F.MOE_PLC_NEXT.PLC_NEXT k
  let ep := b.m32 (t % 2 ^ 41 + 4)
  let b1 := ((((b.put pgMoe F.MOE_PLC_ACTIVE.PLC_ACTIVE t k).put pgMoe F.MOE_EPOCH.EPOCH ep k).put pgMoe F.MOE_PCTL.ARM 0 k).put pgMoe
    F.MOE_PCTL.CHECKED 0 k).bumpWrap pgMoe F.MOE_EPOCH_CNT.EPOCH_CNT
  let b2 := { b1 with plcSum := SMap.set b1.plcSum k (SMap.get 0 b1.plcNext k) }
  let b3 := if (b2.bake k).active then b2.pw ((b2.bake k).desc + 4) 4 ep else b2
  let b4 := if b3.eff pgMoe F.MOE_LOAD_BASE.LOAD_BASE k = 0 then b3
    else { b3 with mem := b3.mem.zero (b3.loadRec k (ep % 2) 0 0) 0x100000 }
  b4.raise pgMoe 0

/-- ARM (R264): 1 starts the check, 0 abandons a staged swap. -/
def Block.armWrite (b : Block) (k v : Nat) : Block :=
  if v % 2 = 1 then
    if b.eff pgMoe F.MOE_PCTL.ARM k = 1 then b
    else ((b.put pgMoe F.MOE_PCTL.ARM 1 k).put pgMoe F.MOE_PCTL.SWAP_ERR 0 k).put pgMoe F.MOE_PCTL.CHECKED 0 k
  else (b.put pgMoe F.MOE_PCTL.ARM 0 k).put pgMoe F.MOE_PCTL.CHECKED 0 k

/-- PLC_CHECK_DONE: the check of an armed table ends (R264, R265). -/
def Block.plcCheckDone (b : Block) (k : Nat) : Block :=
  if b.eff pgMoe F.MOE_PCTL.ARM k ≠ 1 ∨ b.eff pgMoe F.MOE_PCTL.CHECKED k = 1 ∨ b.safe ∨ !b.runs pgMoe then b
  else
    let t := b.eff pgMoe F.MOE_PLC_NEXT.PLC_NEXT k % 2 ^ 41
    let ok := b.plcOk k t
    let b := b.watch t (64 + b.plcLayers t * b.plcStride t * 32)
    if !ok then b.swapErr k
    else
      let b1 := ({ b with plcNext := SMap.set b.plcNext k (b.plcSumOf t) }.put pgMoe F.MOE_PCTL.CHECKED 1 k).raise pgMoe 6
      if b1.epoch k = 0 then b1.plcSwap k else b1

/-- Item 3 of R49: the staged table of a partition (R265). -/
def Block.plcBoundary (b : Block) (k bakeNo : Nat) : Block :=
  let swap := b.eff pgMoe F.MOE_SWAP_BAKE.SWAP_BAKE k
  if b.eff pgMoe F.MOE_PCTL.ARM k ≠ 1 ∨ b.epoch k = 0 ∨ !b.runs pgMoe then b
  else if bakeNo < swap then b
  else if swap = bakeNo ∧ b.eff pgMoe F.MOE_PCTL.CHECKED k = 1 then b.plcSwap k
  else b.swapErr k

/-! ### The plan (R275, R276) -/

/-- The key of the plan of a layer of a partition. -/
def planKey (k l : Nat) : Nat := k * 1024 + l

/-- The plan of a layer, if its count exchange has ended. -/
def Block.plan? (b : Block) (k l : Nat) : Option MoePlan := SMap.find b.plans (planKey k l)

/-- RLIM (R274). -/
def Block.rlimOf (b : Block) (k : Nat) (r : List Byte) : Nat :=
  if lrDrop r then 0 else min (b.eff pgMoe F.MOE_PCTL.OVERFLOW_ROUNDS_MAX k) (lrMaxRounds r - 1)

/-- HIST_s[d][e]. -/
def MoePlan.h (p : MoePlan) (s d e : Nat) : Nat := SMap.get 0 p.hist ((s * 64 + d) * 64 + e)

/-- The members in the order of R276. -/
def MoePlan.order (p : MoePlan) : List Nat :=
  let o := (p.bakeNo + lrPLC p.rec128) % 64
  ((List.range 64).map (fun i => (o + i) % 64)).filter (fun s => bit p.members s)

/-- ROWBASE[d][e][s]. -/
def MoePlan.rowBase (p : MoePlan) (d e s : Nat) : Nat :=
  (p.order.takeWhile (· ≠ s)).foldl (fun n x => n + p.h x d e) 0

/-- N[d][e]. -/
def MoePlan.total (p : MoePlan) (d e : Nat) : Nat := p.order.foldl (fun n x => n + p.h x d e) 0

/-- CAP, at least 1. -/
def MoePlan.cap (p : MoePlan) : Nat := max 1 (lrCap p.rec128)

/-- need[d][e]. -/
def MoePlan.need (p : MoePlan) (d e : Nat) : Nat :=
  let n := p.total d e
  if n = 0 then 0 else min p.rlim (ceilDiv n p.cap - 1)

/-- The vote of the package. -/
def MoePlan.vote (p : MoePlan) (self : Nat) : Nat := (List.range (lrEloc p.rec128)).foldl (fun m e => max m (p.need self e)) 0

/-- A position is not dropped. -/
def MoePlan.live (p : MoePlan) (pos : Nat) : Bool := decide (pos / p.cap ≤ p.rlim)

/-- QB[d][e] of a sender: the running sum of its histogram in ascending key order. -/
def MoePlan.qb (p : MoePlan) (s d e : Nat) : Nat :=
  (List.range (d * 64 + e)).foldl (fun n key => n + p.h s (key / 64) (key % 64)) 0

/-- The copies of `s` to `d`, in ascending local slot and copy number: (local slot, sorted index, position). -/
def MoePlan.copies (p : MoePlan) (s d : Nat) : List (Nat × Nat × Nat) :=
  (List.range (lrEloc p.rec128)).flatMap (fun e =>
    let base := p.rowBase d e s
    let q := p.qb s d e
    (List.range (p.h s d e)).map (fun i => (e, q + i, base + i)))

/-- The copies of `s` to `d` of a DATA round. -/
def MoePlan.dataCopies (p : MoePlan) (s d round : Nat) : List (Nat × Nat × Nat) :=
  (p.copies s d).filter (fun c => p.live c.2.2 && decide (c.2.2 / p.cap = round))

/-- The copies of `s` to `d` that return. -/
def MoePlan.retCopies (p : MoePlan) (s d : Nat) : List (Nat × Nat × Nat) := (p.copies s d).filter (fun c => p.live c.2.2)

/-- The MoE expectations of a layer complete as failed (R275). -/
def Block.failExpects (b : Block) (k l : Nat) : Block :=
  let hit (s : SegAct) : Bool := !s.send && decide (s.moe.skind ≠ 0) && decide (s.moe.layer = l) && decide (s.e.part = k)
  let gone := b.segs.filter hit
  gone.foldl (fun b s => b.arriveEntry s.e true) { b with segs := b.segs.filter (fun s => !hit s) }

/-- The count exchange of a layer fails, once in a bake; every expectation of it completes as failed (R275). -/
def Block.countFailed (b : Block) (k l : Nat) (r : List Byte) : Block :=
  let p : MoePlan := { rec128 := r, rlim := b.rlimOf k r, members := (b.bake k).members, bakeNo := (b.bake k).bakeNo, hist := []
                       failed := true, countAt := b.now }
  if (match b.plan? k l with | some q => q.failed | none => false) then b.failExpects k l
  else
    ((({ b with plans := SMap.set b.plans (planKey k l) p }.bump pgMoe F.MOE_ERR_CNT.COUNT_MISS_CNT).reportPart pgMoe 0x0805 k)).failExpects k l

/-- The table in force routes a layer (R260, R288). -/
def Block.routes? (b : Block) (k : Nat) (r : List Byte) : Bool :=
  decide (b.epoch k ≠ 0) && decide (lrExperts r ≤ b.plcStride (b.plcActive k)) && decide (lrPLC r < b.plcLayers (b.plcActive k))

/-- A layer that the table in force cannot route: its count exchange fails, and with a table ROUTE_BAD is reported (R260, R288). -/
def Block.notRouted (b : Block) (k l : Nat) (r : List Byte) : Block :=
  (if b.epoch k = 0 then b else b.reportPart pgMoe 0x0806 k).countFailed k l r

/-- The expectations of COUNT segments that are missing for good: the barrier of the entry has failed (R169, R275). -/
def Block.missed (b : Block) : List SegAct :=
  b.segs.filter (fun s => !s.send && decide (s.moe.skind = 1) && decide (s.e.arriveBar ≠ 0) && decide (b.barFailed s.e.part s.e.arriveBar ≠ 0))

/-- What misses its COUNT segments fails (R275). -/
def Block.missCounts (b : Block) : Block :=
  b.missed.foldl (fun b s => b.countFailed s.e.part s.moe.layer (b.mem.read (s.moe.lrec % 2 ^ 41) 128)) b

/-- An entry of a layer names a member whose local slot is out of E_LOC_MAX (R269). -/
def Block.badHolder (b : Block) (k : Nat) (r : List Byte) : Bool :=
  let t := b.plcActive k
  let st := b.plcStride t
  (List.range (lrExperts r)).any (fun e => (b.holders (plcEntry t st (lrPLC r) e)).any (fun h =>
    bit (b.bake k).members h.1 && decide (lrEloc r ≤ h.2)))

/-- The histograms that landed, as the plan keeps them. -/
def Block.readHists (b : Block) (r : List Byte) (members : Nat) : SMap Nat :=
  let el := lrEloc r
  let hb := histBytes r
  (bitIndices 64 members).flatMap (fun s => (List.range 64).flatMap (fun d => (List.range el).filterMap (fun e =>
    let v := b.m32 (lrCnt r + s * hb + (d * el + e) * 4)
    if v = 0 then none else some ((s * 64 + d) * 64 + e, v))))

/-- The status bytes of the own copies (R278). -/
def Block.writeStats (b : Block) (p : MoePlan) : Block :=
  let self := b.slotId
  let st (pos : Nat) : Nat := if p.live pos then 0 else if lrDrop p.rec128 then 2 else 3
  (bitIndices 64 p.members).foldl (fun b d => (p.copies self d).foldl (fun b c => b.pw (lrStat p.rec128 + c.2.1) 1 (st c.2.2)) b) b

/-- Copies that this package receives: in rounds past 0, and dropped (R278). -/
def MoePlan.lateCopies (p : MoePlan) (self e : Nat) : Nat := p.total self e - p.cap
def MoePlan.dropCopies (p : MoePlan) (self e : Nat) : Nat := p.total self e - (p.rlim + 1) * p.cap

/-- The counters and events of R278 at the receiver. -/
def Block.countPlan (b : Block) (k : Nat) (p : MoePlan) : Block :=
  let el := List.range (lrEloc p.rec128)
  let late := el.foldl (fun n e => n + p.lateCopies b.slotId e) 0
  let drop := el.foldl (fun n e => n + p.dropCopies b.slotId e) 0
  let b1 := b.bumpWrap pgMoe F.MOE_DEFROW_CNT.DEFROW_CNT 0 late
  if drop = 0 then b1
  else if lrDrop p.rec128 then (b1.bumpWrap pgMoe F.MOE_DROP_CNT.DROP_CNT 0 drop).raise pgMoe 2
  else ((b1.bumpWrap pgMoe F.MOE_LIMIT_CNT.LIMIT_CNT 0 drop).raise pgMoe 3).reportPart pgMoe 0x0803 k

/-- The COUNT windows of a layer in the bake. -/
def Block.countWindows (b : Block) (k l : Nat) : List Window :=
  b.windows.filter (fun w => decide (w.cls = 1) && decide (w.moe.skind = 1) && decide (w.moe.layer = l) && decide (bits w.key 24 4 = k))

/-- A COUNT segment of every member has landed (R275). -/
def Block.countComplete (b : Block) (k l : Nat) : Bool :=
  (bitIndices 64 (b.bake k).members).all (fun s => (b.countWindows k l).any (fun w => decide (w.src = s) && w.whole))

/-- MOE_PLAN (R276). -/
def Block.moePlan (b : Block) (k l : Nat) : Block :=
  match b.plan? k l, b.countWindows k l with
  | none, w :: _ =>
    if b.safe ∨ !b.runs pgMoe ∨ !b.countComplete k l then b
    else
      let r := b.mem.read (w.moe.lrec % 2 ^ 41) 128
      if !b.routes? k r then b.notRouted k l r
      else
        let p : MoePlan := { rec128 := r, rlim := b.rlimOf k r, members := (b.bake k).members, bakeNo := (b.bake k).bakeNo
                             hist := b.readHists r (b.bake k).members, failed := false, countAt := b.now }
        (({ b with plans := SMap.set b.plans (planKey k l) p }).countPlan k p).writeStats p
  | _, _ => b

/-- The count-array entries of a round (R280). -/
def Block.writeCounts (b : Block) (k : Nat) (p : MoePlan) (round : Nat) : Block :=
  let d := (b.bake k).desc
  let base := b.m64 (d + 0x30) % 2 ^ 41
  let len := b.m32 (d + 0x38)
  let put (b : Block) (i v : Nat) : Block := if i < len then b.pw (base + 4 * i) 4 v else b
  let b1 := (List.range (lrEloc p.rec128)).foldl (fun b e =>
    put b (lrCountIdx p.rec128 + e) (min p.cap (p.total b.slotId e - round * p.cap))) b
  put b1 (lrRoundIdx p.rec128) round

/-- The load records of the bake that ends (R286). -/
def Block.addLoads (b : Block) (k : Nat) : Block :=
  if b.eff pgMoe F.MOE_LOAD_BASE.LOAD_BASE k = 0 ∨ b.safe ∨ !b.runs pgMoe then b
  else
    let bank := b.epoch k % 2
    let ps := (b.plans.filter (fun e => decide (e.1 / 1024 = k) && !e.2.failed)).map Prod.snd
    ps.foldl (fun b p =>
      let self := b.slotId
      (List.range (lrEloc p.rec128)).foldl (fun b e =>
        let a := b.loadRec k bank (lrPLC p.rec128) e
        let n := p.total self e
        let drop := p.dropCopies self e
        let got := n - drop
        let add (b : Block) (o v : Nat) : Block := if v = 0 then b else b.pw (a + o) 4 (satAdd 32 (b.m32 (a + o)) v)
        let b1 := add (add b 0 got) 4 (got - p.cap)
        if lrDrop p.rec128 then add b1 8 drop else add b1 12 drop) b) b

end Sys2Proof.Machine
end

