-- ==== Sys2Proof/Machine/Seg.lean ====
section
/-! DEFINITION. Segments (R272, R273, R279 to R283, R327, R368, R369): lists, sends, receive windows and pieces.
Log entry 39 (DEDUCED, unsafe). -/
namespace Sys2Proof.Machine

/-- The MoE part of an action that has none. -/
def noMoe : SegMoe := { skind := 0, lrec := 0, layer := 0, round := 0 }

/-- A segment action in progress. -/
def Block.seg? (b : Block) (id : Nat) : Option SegAct := b.segs.find? (fun s => decide (s.id = id))
def Block.setSeg (b : Block) (s : SegAct) : Block := { b with segs := b.segs.map (fun x => if x.id = s.id then s else x) }
def Block.dropSeg (b : Block) (id : Nat) : Block := { b with segs := b.segs.filter (fun x => decide (x.id ≠ id)) }

/-- A segment action ends: a send that succeeds runs its fence first (R366, R369). -/
def Block.segEnd (b : Block) (s : SegAct) (failed : Bool) : Block :=
  let b1 := (b.dropSeg s.id).orphan s.id
  if failed then b1.arriveEntry s.e true
  else if s.send then b1.startFence (fun _ => .action s.island s.e) (actionGroup s.island s.e)
  else b1.arriveEntry s.e false

/-- Read the list of a fired action: its header of 32 bytes, then all of it. -/
def Block.segFire (b : Block) (f : Nat) (send : Bool) : Block :=
  match b.takeFired (360 + f) (if send then 0x10 else 0x11) with
  | none => b
  | some (e, b1) =>
    if e.desc % 32 ≠ 0 then b1.discardBad e
    else
      let (n, b2) := b1.newId
      let s : SegAct := { id := n, island := 360 + f, e := e, send := send, moe := noMoe, pieces := [], waitRead := 0, failed := false }
      ({ b2 with segs := b2.segs ++ [s] }).newXfer
        { xfer0 (.segList n) .read with pieces := [{ addr := e.desc, len := 32, sram := 0 }], priv := true, part := e.part, page := pgQuad f }

/-! ### The list (R368) -/

def slCount (l : List Byte) : Nat := field l 0 4
def slClass (l : List Byte) : Nat := field l 4 1
def slKind (l : List Byte) : Nat := field l 5 1
def slId (l : List Byte) : Nat := field l 6 2
def slRec (l : List Byte) : Nat := field l 8 8

/-- A header that R368 allows: COUNT, CLASS and reserved bytes. -/
def slOk (l : List Byte) : Bool :=
  decide (1 ≤ slCount l) && decide (slCount l ≤ 64) && decide (slClass l ≤ 2)
    && (if slClass l = 1 then decide (1 ≤ slKind l) && decide (slKind l ≤ 3) && decide (slId l < 1024)
        else decide (slKind l = 0) && decide (slRec l = 0))
    && decide (field l 16 8 = 0) && decide (field l 24 8 = 0)

/-- Record `i` of a list: PEER, TENANT, ADDR, LEN. -/
def slPeer (l : List Byte) (i : Nat) : Nat := field l (32 + 32 * i) 1 % 64
def slTenant (l : List Byte) (i : Nat) : Nat := field l (32 + 32 * i + 2) 2 % 4096
def slAddr (l : List Byte) (i : Nat) : Nat := field l (32 + 32 * i + 8) 8
def slLen (l : List Byte) (i : Nat) : Nat := field l (32 + 32 * i + 16) 4

/-- The segment key without the piece offset (R368). -/
def segKey (cls skind id part tag round : Nat) : Nat :=
  id % 65536 + tag % 256 * 2 ^ 16 + part * 2 ^ 24 + cls * 2 ^ 28 + skind % 16 * 2 ^ 32 + round % 16 * 2 ^ 36

/-- The next round of a quad's DATA lists of a kind in the bake (R279). -/
def Block.nextRound (b : Block) (k f layer : Nat) (send : Bool) : Nat × Block :=
  let key := ((k * 36 + f) * 2 + b2n send) * 1024 + layer
  let n := SMap.get 0 b.moeCnt key
  (n, { b with moeCnt := SMap.set b.moeCnt key (n + 1) })

/-! ### Sending -/

/-- One piece of a segment leaves: its tag counts it as a request of the action. -/
def Block.sendPiece (b : Block) (s : SegAct) (p : Packet) (dst : Nat) : Block :=
  let off := p.addr / 2 ^ 40 * 128
  let tag := b.nextId % 65536
  let b1 := b.sendReq s.id 0 p dst (off / 4096 % 8)
  match b1.seg? s.id with
  | some x => b1.setSeg { x with pieces := x.pieces ++ [({ p with dst := dst, tag := tag }, none)] }
  | none => b1

/-- A segment leaves for a slot in pieces of 4,096 bytes, the last with LAST (R368). -/
def Block.sendSegment (b : Block) (id dst key tenant : Nat) (priv : Bool) (bs : List Byte) : Block :=
  match b.seg? id with
  | none => b
  | some s =>
    let n := max 1 (ceilDiv bs.length 4096)
    (List.range n).foldl (fun b i =>
      let chunk := (bs.drop (4096 * i)).take 4096
      b.sendPiece s { packet0 with type := ptSEG, priv := priv, last := decide (i + 1 = n), tenant := tenant, part := s.e.part
                                   addr := key + 32 * i * 2 ^ 40, len := chunk.length, fence := actionGroup s.island s.e
                                   payload := chunk } dst) b

/-- The header of a MoE segment (R272). -/
def moeHeader (skind part tag round layer src dst epoch rlim rows sum : Nat) : List Byte :=
  leBytes 1 skind ++ leBytes 1 part ++ leBytes 1 tag ++ leBytes 1 round ++ leBytes 2 layer ++ leBytes 1 src ++ leBytes 1 dst
    ++ leBytes 4 epoch ++ leBytes 1 rlim ++ leBytes 3 0 ++ leBytes 4 rows ++ leBytes 4 0 ++ leBytes 8 sum ++ List.replicate 96 0

/-- The rows that the package sends to `d` (R279, R282), one list of bytes a row. -/
def Block.moeRows (b : Block) (p : MoePlan) (skind round d : Nat) : List (List Byte) :=
  let r := p.rec128
  if skind = 2 then
    (p.dataCopies b.slotId d round).map (fun c =>
      b.rowGet (lrAct r) (lrDispFmt r) (lrKch r) (b.m32 (lrPerm r + 4 * c.2.1) / 16))
  else (p.retCopies d b.slotId).map (fun c => b.rowGet (lrOut r + c.1 * lrOutStride r) (lrRetFmt r) (lrKch r) c.2.2)

/-- The bytes of a MoE segment to `d` (R272, R273): the histogram for COUNT, rows for DATA and RETURN; no row without a plan. -/
def Block.moeSegment (b : Block) (k d : Nat) (m : SegMoe) (r : List Byte) : List Byte :=
  let self := b.slotId
  let hd (rows : Nat) : List Byte := moeHeader m.skind k ((b.bake k).bakeNo % 256) m.round m.layer self d (b.epoch k) (b.rlimOf k r) rows
    (SMap.get 0 b.plcSum k)
  if m.skind = 1 then hd 0 ++ b.mem.read (lrHist r) (histBytes r)
  else
    match b.plan? k m.layer with
    | some p =>
      if p.failed then hd 0
      else
        let rows := b.moeRows p m.skind m.round d
        hd rows.length ++ rows.flatten
    | none => hd 0

/-- A draft segment record (R327). -/
def Block.draftRecord (b : Block) (k : Nat) (d : Draft) (toks : List Nat) : List Byte :=
  let desc := (b.bake k).desc
  let lenBase := b.m64 (desc + 0x20) % 2 ^ 41
  let cnt := b.m32 (desc + 0x28)
  let up (x : Nat) : Nat := ceilDiv x 128 * 128
  let keep := b.slotId * 2 ^ 41 + lenBase + up (16 * cnt) + up (4 * cnt) + 4 * d.idx
  leBytes 2 d.homeSeq ++ leBytes 1 d.n ++ leBytes 1 d.c ++ List.replicate 12 0 ++ leBytes 8 (if d.n = 0 then 0 else keep)
    ++ (List.range 8).flatMap (fun i => leBytes 4 (if i < d.n then toks.getD i 0 else 0)) ++ List.replicate 8 0

/-- The draft segment to a home: the records of the requests it sent, in ascending HOME_SEQ. `toks` gives the tokens that
the draft plans proposed, by home slot × 16,384 + HOME_SEQ. -/
def Block.draftSegment (b : Block) (k peer : Nat) (toks : List (Nat × List Nat)) : List Byte :=
  let ds := (match SMap.find b.serv k with | some s => s.drafts | none => []).filter (fun d => decide (d.src = peer))
  (sortBy (fun x y => decide (x.homeSeq ≤ y.homeSeq)) ds).flatMap (fun d =>
    b.draftRecord k d (((toks.find? (fun t => decide (t.1 = peer * 16384 + d.homeSeq))).map Prod.snd).getD []))

/-- A send is over when nothing of it is left. -/
def Block.segSettle (b : Block) (id : Nat) : Block :=
  match b.seg? id with
  | some s =>
    if s.failed then b.segEnd s true
    else if s.send ∧ s.pieces.isEmpty ∧ s.waitRead = 0 then b.segEnd s false
    else b
  | none => b

/-- Send the segments of a list, in order (R369). -/
def Block.segSend (b : Block) (id : Nat) (l : List Byte) (toks : List (Nat × List Nat)) : Block :=
  match b.seg? id with
  | none => b
  | some s =>
    let k := s.e.part
    let cls := slClass l
    let f := s.island - 360
    let (round, b0) := if cls = 1 ∧ slKind l = 2 then b.nextRound k f (slId l) true else (0, b)
    let m : SegMoe := { skind := slKind l, lrec := slRec l, layer := slId l, round := round }
    let b1 := b0.setSeg { s with moe := m, waitRead := 1 }
    let key := segKey cls (slKind l) (if cls = 2 then 0 else slId l) k s.e.bakeTag round
    let b2 := (List.range (slCount l)).foldl (fun b i =>
      let peer := slPeer l i
      if cls = 0 then
        if slLen l i = 0 then b.sendSegment id peer key (slTenant l i) false []
        else
          match b.seg? id with
          | none => b
          | some s => (b.setSeg { s with waitRead := s.waitRead + 1 }).newXfer
              { xfer0 (.segData id peer (slTenant l i) key) .read with
                pieces := [{ addr := slAddr l i, len := slLen l i, sram := 0 }], tenant := slTenant l i, part := k, page := pgQuad f }
      else if cls = 1 then b.sendSegment id peer key 0 true (b.moeSegment k peer m (b.mem.read (slRec l % 2 ^ 41) 128))
      else b.sendSegment id peer key 0 true (b.draftSegment k peer toks)) b1
    match b2.seg? id with
    | some s2 => (b2.setSeg { s2 with waitRead := s2.waitRead - 1 }).segSettle id
    | none => b2

/-- The source data of a RAW segment has been read. -/
def Block.segDataDone (b : Block) (id dst tenant key st : Nat) (bs : List Byte) : Block :=
  match b.seg? id with
  | none => b
  | some s =>
    let b1 := b.setSeg { s with waitRead := s.waitRead - 1, failed := s.failed || decide (st ≠ 0) }
    (if st = 0 then b1.sendSegment id dst key tenant false bs else b1).segSettle id

/-- SEG_ACK (R369): an OK piece is done, NO_WINDOW waits for its resend, any other status ends the send as failed. -/
def Block.segAck (b : Block) (q : Nat) (p : Packet) : Block :=
  b.packetIn q p fun b =>
    match b.reqOf p with
    | none => b
    | some r =>
      if r.pkt.type ≠ ptSEG then b
      else
        let b1 := (b.dropReq r).ackPath (pathKey r.pkt.dst r.pkt.rslot r.pkt.gen) 1
        let b2 := match b1.seg? r.xfer with
          | none => b1
          | some s =>
            let mine (x : Packet × Option Nat) : Bool := decide (x.1.tag = p.tag) && decide (x.1.dst = p.src)
            if p.status = 0 then (b1.setSeg { s with pieces := s.pieces.filter (fun x => !mine x) }).segSettle r.xfer
            else if p.status = stNOWIN then
              let at_ := b.now + b.eff pgGfab F.FAB_SEG.SEG_RETRY * 1000
              b1.setSeg { s with pieces := s.pieces.map (fun x => if mine x then (x.1, some at_) else x) }
            else (b1.setSeg { s with failed := true }).segSettle r.xfer
        b2.settleFences

/-- SEG_RESEND: the pieces of a quad whose retry is due leave again; a send whose barrier failed gives up (R369). -/
def Block.segResend (b : Block) (f : Nat) : Block :=
  (b.segs.filter (fun s => s.send && decide (s.island = 360 + f))).foldl (fun b s0 =>
    if s0.e.arriveBar ≠ 0 ∧ b.barFailed s0.e.part s0.e.arriveBar ≠ 0 then (b.dropSeg s0.id).orphan s0.id
    else
      let due (x : Packet × Option Nat) : Bool := match x.2 with
        | some t => decide (t ≤ b.now)
        | none => false
      let ps := s0.pieces.filter due
      let b1 := b.setSeg { s0 with pieces := s0.pieces.filter (fun x => !due x) }
      ps.foldl (fun b x =>
        match b.seg? s0.id with
        | some s => b.sendPiece s x.1 x.1.dst
        | none => b) b1) b

/-! ### Receiving -/

/-- SEG_EXPECT: one window per record, or none (R369). A MoE exchange without a plan completes as failed (R275). The
first COUNT list of a layer in the bake reports a holder whose local slot the layer cannot hold (R269). -/
def Block.segExpect (b : Block) (id : Nat) (l : List Byte) : Block :=
  match b.seg? id with
  | none => b
  | some s =>
    let k := s.e.part
    let cls := slClass l
    let f := s.island - 360
    let n := slCount l
    let (round, b0) := if cls = 1 ∧ slKind l = 2 then b.nextRound k f (slId l) false else (0, b)
    if 4096 < b.windows.length + n then (b0.reportPage (islandPage s.island) 0x0B0D).segEnd s true
    else
      let m : SegMoe := { skind := slKind l, lrec := slRec l, layer := slId l, round := round }
      let r := b.mem.read (slRec l % 2 ^ 41) 128
      let planned : Bool := match b.plan? k m.layer with
        | some p => !p.failed
        | none => false
      if cls = 1 ∧ m.skind = 1 ∧ !b.routes? k r then
        (b0.setSeg { s with moe := m }).notRouted k m.layer r
      else if cls = 1 ∧ m.skind ≠ 1 ∧ !planned then b0.segEnd s true
      else
        let key := segKey cls m.skind (if cls = 2 then 0 else slId l) k s.e.bakeTag round
        let ws : List Window := (List.range n).map (fun i =>
          { src := slPeer l i, key := key, cls := cls, addr := slAddr l i, len := slLen l i, parts := [], total := none, whole := false
            expect := s.id, moe := m })
        let b1 := if cls = 1 ∧ m.skind = 1 ∧ (b0.countWindows k m.layer).isEmpty ∧ b0.badHolder k r then b0.reportPart pgMoe 0x0806 k else b0
        ({ b1 with windows := b1.windows ++ ws }).setSeg { s with moe := m }

/-- The list of a segment action has been read: first its header, then all of it. `toks`: as for `draftSegment`. -/
def Block.segListRead (b : Block) (id st : Nat) (bs : List Byte) (toks : List (Nat × List Nat)) : Block :=
  match b.seg? id with
  | none => b
  | some s =>
    if st ≠ 0 then b.segEnd s true
    else if bs.length = 32 then
      if !slOk bs then (b.dropSeg id).discardBad s.e
      else b.newXfer { xfer0 (.segList id) .read with pieces := [{ addr := s.e.desc, len := 32 + 32 * slCount bs, sram := 0 }], priv := true
                                                      part := s.e.part, page := islandPage s.island }
    else if s.send then b.segSend id bs toks
    else b.segExpect id bs

/-- An expectation completes once every window of it is whole; the counts of a DATA round are written first (R280). -/
def Block.expectSettle (b : Block) (id : Nat) : Block :=
  match b.seg? id with
  | none => b
  | some s =>
    if s.failed then b.segEnd s true
    else if !s.send && (b.windows.filter (fun w => decide (w.expect = id))).all (fun w => w.whole) then
      let b1 := if s.moe.skind = 2 then
          match b.plan? s.e.part s.moe.layer with
          | some p => b.writeCounts s.e.part p s.moe.round
          | none => b
        else b
      b1.segEnd s false
    else b

/-- Change the window of a sender and key. -/
def Block.setWindow (b : Block) (w : Window) : Block :=
  { b with windows := b.windows.map (fun x => if x.src = w.src ∧ x.key = w.key then w else x) }

/-- An expectation has failed. -/
def Block.failExpect (b : Block) (id : Nat) : Block :=
  match b.seg? id with
  | some s => (b.setSeg { s with failed := true }).expectSettle id
  | none => b

/-- A window refuses its segment: nothing more of it is written (R283, R369). -/
def Block.rejectWindow (b : Block) (w : Window) : Block := (b.setWindow { w with whole := true, parts := [] }).failExpect w.expect

/-- SEG_MISMATCH (R283). -/
def Block.segMismatch (b : Block) (w : Window) : Block :=
  (((b.bump pgMoe F.MOE_ERR_CNT.SEG_ERR_CNT).raise pgMoe 5).reportPart pgMoe 0x0804 (bits w.key 24 4)).rejectWindow w

/-- The bytes of a whole segment from its pieces. -/
def Window.bytes (w : Window) : List Byte := ((sortBy (fun x y => decide (x.1 ≤ y.1)) w.parts).map (fun p => p.2.2)).flatten

/-- The agreed DEFER rounds of a layer: those of the tick plan layer record at the layer's place in the model's MOE_TAB (R171, R179). -/
def Block.agreedRounds (b : Block) (k layer : Nat) : Nat :=
  match SMap.find b.bread (b.eff (pgPart k) F.SRV_MODEL.ACTIVE_MODEL) with
  | none => 0
  | some x =>
    match (List.range (field x.desc 0x50 4)).find? (fun i => decide (b.m16 (field x.desc 0x38 8 % 2 ^ 41 + 128 * i) = layer)) with
    | some l => SMap.get 0 (b.bake k).rounds l
    | none => 0

/-- A DATA or RETURN segment comes out of order: DATA rounds of a sender come in ascending order and before its RETURN, which follows the
last of them (R279, R282, R283). -/
def Block.outOfOrder (b : Block) (w : Window) : Bool :=
  let k := bits w.key 24 4
  let same (x : Window) : Bool := decide (x.src = w.src) && decide (x.cls = 1) && decide (bits x.key 16 12 = bits w.key 16 12)
    && decide (x.moe.layer = w.moe.layer)
  let landed (n : Nat) : Bool := b.windows.any (fun x => same x && decide (x.moe.skind = 2) && decide (x.moe.round = n) && x.whole)
  let returned := b.windows.any (fun x => same x && decide (x.moe.skind = 3) && x.whole)
  if w.moe.skind = 2 then returned || !(List.range w.moe.round).all landed
  else !(List.range (b.agreedRounds k w.moe.layer + 1)).all landed

/-- A whole MoE segment is checked and its rows land (R275, R279, R282, R283); the status of its last piece. -/
def Block.moeLand (b : Block) (w : Window) : Block × Nat :=
  let k := bits w.key 24 4
  let tag := bits w.key 16 8
  let m := w.moe
  let bs := w.bytes
  let body := bs.drop 128
  let r := b.mem.read (m.lrec % 2 ^ 41) 128
  let hd (rows : Nat) : List Byte := moeHeader m.skind k tag m.round m.layer w.src b.slotId (b.epoch k) (b.rlimOf k r) rows (SMap.get 0 b.plcSum k)
  let done (b : Block) : Block := (b.setWindow { w with whole := true, parts := [] }).expectSettle w.expect
  if m.skind = 1 then
    let other := moeHeader 1 k tag 0 m.layer w.src b.slotId (field bs 8 4) (field bs 0xC 1) 0 (field bs 0x18 8)
    if bs.take 128 ≠ other ∨ body.length ≠ histBytes r then ((b.segMismatch w).countFailed k m.layer r, stREJECT)
    else if bs.take 128 ≠ hd 0 then
      (((b.setWindow { w with whole := true, parts := [] }).reportPart pgMoe 0x0802 k).countFailed k m.layer r, stOK)
    else
      let (b1, st) := b.privWrite (lrCnt r + w.src * histBytes r) body
      if st ≠ 0 then ((b1.segMismatch w).countFailed k m.layer r, stREJECT) else (done b1, stOK)
  else
    match b.plan? k m.layer with
    | none => (b.segMismatch w, stREJECT)
    | some p =>
      let cs := if m.skind = 2 then p.dataCopies w.src b.slotId m.round else p.retCopies b.slotId w.src
      let (fmt, base) := if m.skind = 2 then (lrDispFmt p.rec128, lrIn p.rec128) else (lrRetFmt p.rec128, lrRet p.rec128)
      let n := rowLen fmt (lrKch p.rec128)
      if p.failed ∨ b.outOfOrder w ∨ bs.take 128 ≠ hd cs.length ∨ body.length ≠ n * cs.length then (b.segMismatch w, stREJECT)
      else
        let b1 := ((List.range cs.length).zip cs).foldl (fun b x =>
          let (i, e, q, pos) := x
          let row := (body.drop (n * i)).take n
          if m.skind = 2 then
            b.rowPut (base + e * lrInStride p.rec128) fmt (lrKch p.rec128) (pos - m.round * p.cap) row
          else b.rowPut base fmt (lrKch p.rec128) q row) b
        (done b1, stOK)

/-- A piece at a window: landed, a duplicate, or refused; the status of the acknowledgement. -/
def Block.segPiece (b : Block) (q : Nat) (w : Window) (p : Packet) : Block × Nat :=
  let off := p.addr / 2 ^ 40 * 128
  let bs := p.payload.take 4096
  if w.whole ∨ w.parts.any (fun x => decide (x.1 = off) && decide (x.2.1 = bs.length)) then (b, stOK)
  else
    let total := if p.last then some (off + bs.length) else w.total
    if w.cls = 1 then
      let w1 := { w with parts := w.parts ++ [(off, bs.length, bs)], total := total }
      let got := w1.parts.foldl (fun n x => n + x.2.1) 0
      if total = some got then (b.setWindow w1).moeLand w1 else (b.setWindow w1, stOK)
    else if w.len < off + bs.length then (b.rejectWindow w, stREJECT)
    else
      match b.localOff w.addr with
      | none => (b.rejectWindow w, stREJECT)
      | some base =>
        if !b.usable (base + off) bs.length then (b.rejectWindow w, stREJECT)
        else
          let (b1, st) := if bs.isEmpty then (b, stOK) else b.writeNow (base + off) p.tenant p.priv (pgQuad q) bs
          if st ≠ stOK then (b1, st)
          else
            let w1 := { w with parts := w.parts ++ [(off, bs.length, [])], total := total }
            let got := w1.parts.foldl (fun n x => n + x.2.1) 0
            let whole := if w.cls = 0 then decide (got = w.len) else decide (total = some got)
            ((b1.setWindow { w1 with whole := whole }).expectSettle w.expect, stOK)

/-- SEG (R369). -/
def Block.segPacket (b : Block) (q : Nat) (p : Packet) : Block :=
  b.packetIn q p fun b =>
    if b.safe then b.reply (respond p ptSEG_ACK stSAFE)
    else if b.asleep then b.reply (respond p ptSEG_ACK stISLAND)
    else
      match b.windows.find? (fun w => decide (w.src = p.src) && decide (w.key = p.addr % 2 ^ 40)) with
      | none => (b.reportPage (pgQuad q) 0x0B0B).reply (respond p ptSEG_ACK stNOWIN)
      | some w =>
        let (b1, st) := b.segPiece q w p
        b1.reply (respond p ptSEG_ACK st)

/-- The windows and expectations of a partition's bake are freed (item 1 of R49, R369). -/
def Block.freeWindows (b : Block) (k : Nat) : Block :=
  let gone (w : Window) : Bool := decide (bits w.key 24 4 = k)
  { b with windows := b.windows.filter (fun w => !gone w)
           segs := b.segs.filter (fun s => !(decide (s.e.part = k)))
           plans := SMap.dropKeys (fun x => decide (x / 1024 = k)) b.plans
           moeCnt := SMap.dropKeys (fun x => decide (x / 73728 = k)) b.moeCnt }

end Sys2Proof.Machine
end

