-- ==== Sys2Proof/Machine/Proof.lean ====
section
/-! DEFINITION. XFER actions (R162), proof lists (R207 to R209) and KV prefetch lists (R243).
Log entry 36 (DEDUCED, unsafe). -/
namespace Sys2Proof.Machine

/-! ### XFER -/

/-- An XFER descriptor that has been read: direction, piece and tenant; `none` when a reserved byte or bit is nonzero. -/
def xferParse (bs : List Byte) : Option (Bool × Piece × Nat) :=
  if 2 ≤ field bs 0x10 1 ∨ field bs 0x11 1 ≠ 0 ∨ 4096 ≤ field bs 0x12 2 ∨ field bs 0x14 12 ≠ 0 then none
  else some (bit (field bs 0x10 1) 0, { addr := field bs 0 8, len := field bs 0xC 4, sram := field bs 8 4 }, field bs 0x12 2)

/-- A transfer of an action ends before it moves anything: its status is on the tag and the action arrives. -/
def Block.xferEnd (b : Block) (t tag st : Nat) (e : ScoreEntry) : Block := (b.tagAtOnce t tag st).arriveEntry e false

/-- XFER: the oldest fired XFER of a tile reads its descriptor (R162). -/
def Block.xferAction (b : Block) (t : Nat) : Block :=
  match b.takeFired t 3 with
  | none => b
  | some (e, b1) =>
    let tag := 12 + e.arg % 4
    if e.desc % 32 ≠ 0 then b1.xferEnd t tag stALIGN e
    else
      let s := (b1.tile t).tag tag
      (b1.setTile t ((b1.tile t).setTag tag { s with inflight := s.inflight + 1 })).newXfer
        { xfer0 (.xferDesc t tag) .read with pieces := [{ addr := e.desc, len := 32, sram := 0 }], group := actionGroup t e
                                             part := b1.tilePart t, page := tileClu t, entry := some e }

/-- The descriptor of an XFER has been read. -/
def Block.xferDescDone (b : Block) (t tag : Nat) (x : Xfer) : Block :=
  let s := (b.tile t).tag tag
  let b1 := b.setTile t ((b.tile t).setTag tag { s with inflight := s.inflight - 1 })
  match x.entry with
  | none => b1
  | some e =>
    if x.status ≠ 0 then b1.xferEnd t tag x.status e
    else
      match xferParse x.data.flatten with
      | none => b1.xferEnd t tag stRANGE e
      | some (write, p, tenant) => b1.dmaMove t tag write [p] tenant (actionGroup t e) (some e)

/-- The descriptor of a walk has been read. -/
def Block.walkDescDone (b : Block) (t tag dst limit : Nat) (x : Xfer) : Block :=
  let s := (b.tile t).tag tag
  let b1 := b.setTile t ((b.tile t).setTag tag { s with inflight := s.inflight - 1 })
  if x.status ≠ 0 then b1.tagAtOnce t tag x.status else b1.walkRun t tag dst limit (walkDesc x.data.flatten)

/-! ### Actions with a list -/

/-- An action that runs a list. -/
def Block.act? (b : Block) (id : Nat) : Option Act := b.acts.find? (fun a => decide (a.id = id))
def Block.setAct (b : Block) (a : Act) : Block := { b with acts := b.acts.map (fun x => if x.id = a.id then a else x) }
def Block.dropAct (b : Block) (id : Nat) : Block := { b with acts := b.acts.filter (fun x => decide (x.id ≠ id)) }

/-- One part of an action is over; with the last the action arrives. -/
def Block.actPart (b : Block) (id : Nat) : Block :=
  match b.act? id with
  | none => b
  | some a => if a.left ≤ 1 then (b.dropAct id).arriveEntry a.e false else b.setAct { a with left := a.left - 1 }

/-- Start reading the list of an action of a memory controller: the header of 16 bytes. -/
def Block.listStart (b : Block) (island : Nat) (e : ScoreEntry) : Block :=
  if e.desc % 16 ≠ 0 then b.discardBad e
  else
    let (n, b1) := b.newId
    let a : Act := { id := n, island := island, e := e, left := 0, hdr := [] }
    ({ b1 with acts := b1.acts ++ [a] }).newXfer
      { xfer0 (.list n) .read with pieces := [{ addr := e.desc, len := 16, sram := 0 }], priv := true, part := e.part, page := islandPage island }

/-- PROOF and KVPF: the oldest fired action of a memory controller. -/
def Block.proofAction (b : Block) (k : Nat) : Block :=
  match b.takeFired (344 + k) 0x20 with
  | some (e, b1) => b1.listStart (344 + k) e
  | none => b
def Block.kvpfAction (b : Block) (k : Nat) : Block :=
  match b.takeFired (344 + k) 0x21 with
  | some (e, b1) => b1.listStart (344 + k) e
  | none => b

/-! ### Records -/

/-- The controller page of an action. -/
def Act.page (a : Act) : Nat := islandPage a.island

/-- A record is skipped and counted. -/
def Block.proofSkip (b : Block) (a : Act) : Block := (b.bump a.page F.MEM_PROOF.PROOF_SKIP_CNT).actPart a.id

/-- A record is refused: PROOF_REJECT (R208). -/
def Block.proofReject (b : Block) (a : Act) : Block :=
  (((b.bump a.page F.MEM_PROOF.PROOF_REJECT_CNT).raise a.page 4).reportPart a.page 0x0608 a.e.part).actPart a.id

/-- Install lines read at `tick` in their home slices (R204, R208): a pinned install that finds every pin way pinned is counted. -/
def Block.proofInstall (b : Block) (a : Act) (slot off tick : Nat) (pin : Bool) (bs : List Byte) : Block :=
  (linesOf off bs.length).foldl (fun b l =>
    let key := lineKey slot (l * 128)
    let s := homeSlice slot (l * 128)
    if b.islandOpen (312 + s) && b.fillOk s key tick then
      let (b1, ok) := b.installLine s key a.e.part pin ((bs.drop (l * 128 - off)).take 128)
      if pin && !ok then b1.bump a.page F.MEM_PROOF.PROOF_SKIP_CNT else b1
    else b.bumpWrap (pgSlice s) F.SLC_PERF.NOFILL) b

/-- The pin marks of a range go (UNPIN). -/
def Block.unpinRange (b : Block) (slot off len : Nat) : Block :=
  let ks := (linesOf off len).map (fun l => lineKey slot (l * 128))
  { b with lines := SMap.mapVals (fun k l => if ks.contains k then { l with pinned := false } else l) b.lines }

/-- The data of a proof record was read at `tick`. A retired or gated tile takes nothing: its crossing discards the bytes (R41). -/
def Block.proofLand (b : Block) (a : Act) (kind dst slot off tick : Nat) (bs : List Byte) : Block :=
  if kind = 2 then
    let t := bits dst 2 9
    let sram := bits dst 11 15 * 128
    if !b.isUp t ∨ (b.tile t).seq = .retired then b.actPart a.id
    else if inSram sram bs.length then (b.landTag t 15 sram bs).actPart a.id else (b.tagAtOnce t 15 stALIGN).actPart a.id
  else (b.proofInstall a slot off tick (decide (kind = 1)) bs).actPart a.id

/-- One record of a proof list (R207, R208). -/
def Block.proofRecord (b : Block) (a : Act) (r : List Byte) : Block :=
  let src := field r 0 8
  let len := field r 8 4
  let dst := field r 12 4
  let kind := dst % 4
  if src % 128 ≠ 0 ∨ len < 128 ∨ 65536 < len ∨ len % 128 ≠ 0 ∨ 2 ^ 26 ≤ dst ∨ (kind ≠ 2 ∧ 4 ≤ dst) then b.proofReject a
  else if kind = 2 ∧ (288 ≤ bits dst 2 9 ∨ b.tilePart (bits dst 2 9) ≠ a.e.part
      ∨ b.eff (pgTile (bits dst 2 9)) F.TIL_ASSIGN.PINNED = 1) then b.proofReject a
  else
    match b.resolve src len with
    | none => (b.reportRange a.page).actPart a.id
    | some (.here off) =>
      if !b.allFrames off len frFROZEN then b.proofSkip a
      else if kind = 3 then (b.unpinRange b.slotId off len).actPart a.id
      else if !b.readOpen a.page off len then b.actPart a.id
      else if b.poisoned off len then (b.reportPoison off len).actPart a.id
      else (b.countReads off len).proofLand a kind dst b.slotId off b.now (b.mem.read off len)
    | some (.far slot off) =>
      if kind = 3 then (b.unpinRange slot off len).actPart a.id
      else if b.farHit slot off len then b.proofLand a kind dst slot off b.now (b.farBytes slot off len)
      else
        b.newXfer { xfer0 (.proof a.id kind dst) .read with
          pieces := [{ addr := src, len := len, sram := 0 }], priv := true, part := a.e.part, page := a.page }

/-- The remote data of a proof record has come, or an error that ends only its record. -/
def Block.proofDone (b : Block) (id kind dst : Nat) (x : Xfer) : Block :=
  match b.act? id with
  | none => b
  | some a =>
    if x.status ≠ 0 then b.actPart id
    else if x.uncached then b.proofSkip a
    else
      let p := x.pieces.headD { addr := 0, len := 0, sram := 0 }
      b.proofLand a kind dst (bits p.addr 41 6) (p.addr % 2 ^ 41) (x.readTick.getD b.now) x.data.flatten

/-- A walk descriptor of a KVPF record (R243). -/
def kvpfDesc (r : List Byte) : WalkDesc :=
  { seq := field r 0 2 % 16384, layer := field r 2 2, first := field r 4 4, count := field r 8 4, lineFirst := field r 12 1
    lineCount := field r 13 1, mode := 0, dir := false, fieldOff := 0, fieldLen := 1
    badResv := decide (16384 ≤ field r 0 2) || decide (field r 14 2 ≠ 0) }

/-- One record of a KVPF list: page by page, the frozen pages' lines (R243). A record that the checks of a walk refuse, its 4 MiB among them, is
skipped whole (R240). -/
def Block.kvpfRecord (b : Block) (a : Act) (r : List Byte) : Block :=
  let d := kvpfDesc r
  let rec_ := b.seqRec d.seq
  let q := b.pool rec_.pool
  if d.badResv || decide (d.lineCount = 0) || !rec_.valid || decide (q.layers ≤ d.layer)
      || decide (rec_.held * q.pageTokens < d.first + d.count) || decide (q.recLines < d.lineFirst + d.lineCount)
      || decide (0x400000 < d.count * d.lineCount * 128) then b.proofReject a
  else
    let toks := (List.range d.count).map (fun j => (b.plEntry d.seq ((d.first + j) / q.pageTokens), j))
    let pages := (toks.map Prod.fst).eraseDups
    let b1 := pages.foldl (fun b p =>
      if (q.pageFrames p).all (fun f => decide (b.frame f = frFROZEN)) then
        (toks.filter (fun x => decide (x.1 = p))).foldl (fun b x =>
          let off := b.walkOff d x.2
          if !b.readOpen a.page off (d.lineCount * 128) then b
          else if b.poisoned off (d.lineCount * 128) then b.reportPoison off (d.lineCount * 128)
          else (b.countReads off (d.lineCount * 128)).proofInstall a b.slotId off b.now false (b.mem.read off (d.lineCount * 128))) b
      else b.bump a.page F.MEM_PROOF.PROOF_SKIP_CNT) b
    b1.actPart a.id

/-- The list of an action has been read: the header, then header and records. -/
def Block.listRead (b : Block) (id st : Nat) (bs : List Byte) : Block :=
  match b.act? id with
  | none => b
  | some a =>
    let count := field bs 0 4
    if st ≠ 0 then (b.dropAct id).arriveEntry a.e false
    else if bs.length = 16 then
      if count = 0 ∨ 4096 < count ∨ field bs 4 12 ≠ 0 then (b.dropAct id).discardBad a.e
      else b.newXfer { xfer0 (.list id) .read with pieces := [{ addr := a.e.desc, len := 16 + 16 * count, sram := 0 }], priv := true
                                                   part := a.e.part, page := a.page }
    else
      let recs := (List.range count).map (fun i => (bs.drop (16 + 16 * i)).take 16)
      let b1 := b.setAct { a with left := count, hdr := bs.take 16 }
      recs.foldl (fun b r => if a.e.code = 0x21 then b.kvpfRecord a r else b.proofRecord a r) b1

/-! ### Ends of transfers that belong to no tag -/

/-- A transfer that has ended and that no TRANSFER_DONE retires. -/
def Xfer.settles (x : Xfer) : Bool :=
  decide (x.phase = .done) && (match x.owner with
    | .tag _ _ => false
    | _ => true)

/-- A BAR2 read ends: all ones, counted and reported, where its status is not OK (R504). -/
def Block.bar2ReadOver (b : Block) (st : Nat) (bs : List Byte) : Block :=
  (if st = 0 then b else ((b.bump pgPci F.PCI_CNT0.RD_ERR_CNT).raise pgPci 0).reportPage pgPci 0x0E02).emit (.bar2Read bs)

/-- A write of the BAR2 window begins: it waits for earlier local writes of the window to be acknowledged (R505). -/
def Block.bar2WriteStart (b : Block) (a : Nat) (bs : List Byte) : Block :=
  b.newXfer { xfer0 (.bar2 a) .write with pieces := [{ addr := a, len := bs.length, sram := 0 }], data := [bs], priv := true, group := 341
                                          page := pgPci }

/-- A BAR2 write ends: a refused one is discarded and counted, and the next local one of the window starts (R504, R505). -/
def Block.bar2WriteOver (b : Block) (a st : Nat) : Block :=
  let b1 := if st = 0 then b else (b.bump pgPci F.PCI_CNT0.WR_DROP_CNT).raise pgPci 0
  match b1.localOff a, b1.pciq with
  | some _, w :: ws => ({ b1 with pciq := ws }).bar2WriteStart w.1 w.2
  | _, _ => b1

/-- What the end of a transfer gives its owner. -/
def Block.xferOver (b : Block) (x : Xfer) (toks : List (Nat × List Nat)) : Block :=
  match x.owner with
  | .tag _ _ => b
  | .stage t =>
    let b1 := b.stageDone t x.status
    b1
  | .zeroFill t => b.fillDone t x.status
  | .xferDesc t tag => b.xferDescDone t tag x
  | .walkDesc t tag dst limit => b.walkDescDone t tag dst limit x
  | .bar2 id => if x.kind = .read then b.bar2ReadOver x.status (if x.status = 0 then x.data.flatten else
      List.replicate ((x.pieces.map Piece.len).foldl (· + ·) 0) 0xFF) else b.bar2WriteOver id x.status
  | .rdma q => { b with wldEv := b.wldEv ++ [.rdmaOver q x.status x.data.flatten] }
  | .proof act kind dst => b.proofDone act kind dst x
  | .list act => b.listRead act x.status x.data.flatten
  | .segList act => b.segListRead act x.status x.data.flatten toks
  | .segData act dst tenant key => b.segDataDone act dst tenant key x.status x.data.flatten
  | .relay s i n => { b with wldEv := b.wldEv ++ [.relayed s i n x.status] }
  | .pull s i off => { b with wldEv := b.wldEv ++ [.pulled s i off x.status x.data.flatten] }
  | .member s m => { b with wldEv := b.wldEv ++ [.recordSent s m] }
  | .engine => b

/-- Retire the transfers that have ended, and what their ends start in turn. -/
def Block.settleWith (b : Block) (toks : List (Nat × List Nat)) : Nat → Block
  | 0 => b
  | n + 1 =>
    match b.xfers.find? Xfer.settles with
    | none => b
    | some x => (((b.releaseLeases x.id).dropXfer x.id).xferOver x toks).settleWith toks n

/-- Every transfer that has ended is retired. The bound is above what one command can start. -/
def Block.settle (b : Block) : Block := b.settleWith [] 4096

end Sys2Proof.Machine
end

