-- ==== Sys2Proof/Machine/Timebase.lean ====
section
/-! DEFINITION. Hearth time (R148 to R156), step announcements (R176 to R178), DEFER votes and shifts (R179 to R181) and the
expansion of the tick plan (R171 to R174).
Log entries 51 (DESIGN CHOICE, unsafe), 52 (DEDUCED, unsafe). -/
namespace Sys2Proof.Machine

/-! ### Time -/

/-- SYNC of the timebase (R154). -/
def tbFREE : Nat := 0
def tbACQUIRE : Nat := 1
def tbLOCKED : Nat := 2
def tbHOLDOVER : Nat := 3
def tbMASTER : Nat := 4
def tbLOST : Nat := 5

def Block.sync (b : Block) : Nat := b.eff pgTbs F.TBS_STATUS.SYNC
def Block.isReady (b : Block) : Bool := decide (b.eff pgBoot F.BOOT_STAT.READY = 1)

/-- The timebase enters a state; a change of master counts for the HOLDOVER it falls into alone. -/
def Block.enterSync (b : Block) (st : Nat) : Block :=
  let b1 := b.put pgTbs F.TBS_STATUS.SYNC st
  { b1 with tb := { b1.tb with since := b.now, lockRun := 0, changed := false } }

/-- The clocks of the tiles run: the package is not in Rest, where they are gated (R100, R432). -/
def Block.tilesClocked (b : Block) : Bool := decide (b.eff pgPwr F.PWR_REST.REST_STATE = 0) || decide (b.eff pgPwr F.PWR_REST.REST_STATE = 3)

/-- One tick of Hearth time: a correction that slews adds or holds back one tick in a thousand of the oscillator (R155); the replicas of
the open islands follow, and those of closed ones stand still (R37, R148, R149).
Log entry 1 (DESIGN CHOICE, unsafe). -/
def Block.tick (b : Block) : Block :=
  let s := b.tb.slew
  let turn := decide (b.tb.osc % 1000 = 999)
  let d : Nat := if turn && decide (0 < s) then 2 else if turn && decide (s < 0) then 0 else 1
  let s' : Int := if turn && decide (0 < s) then s - 1 else if turn && decide (s < 0) then s + 1 else s
  let now := (b.now + d) % 2 ^ 64
  let each (i v : Nat) : Nat := if b.isUp i then (v + d) % 2 ^ 64 else v
  ({ b with now := now
            tb := { b.tb with slew := s', replica := (b.tb.replica + d) % 2 ^ 64, replicas := SMap.mapVals each b.tb.replicas
                              osc := b.tb.osc + 1, clocked := b.tb.clocked + b2n b.tilesClocked } }).wakeScwait

/-- TIME_WORD (R149): the replicas converge on the package time; from READY on they never decrease. The crossing of a closed island
discards the word (R41), and its replica stays as it is. -/
def Block.timeWord (b : Block) : Block :=
  let r := if b.isReady then max b.tb.replica b.now else b.now
  let far (i v : Nat) : Bool := b.isUp i && !(b.isReady && decide (r < v))
  ({ b with tb := { b.tb with replica := r, replicas := b.tb.replicas.filter (fun e => !far e.1 e.2) } }).wakeScwait

/-- A read of TBS_NOW_LO latches the high word (R149). -/
def Block.nowLoRead (b : Block) (agent : Agent) : Block :=
  ({ b with tb := { b.tb with nowHi := some (b.now / 2 ^ 32 % 2 ^ 32) } }).emit (.read agent [b.now % 2 ^ 32])

/-- Time steps by `d` ticks. -/
def Block.stepTime (b : Block) (d : Int) : Block := { b with now := wrapInt 64 ((b.now : Int) + d), tb := { b.tb with slew := 0 } }

/-- A correction by `d` ticks: before READY the time of a follower in ACQUIRE steps; from READY on it steps forward by more than 1 µs;
every other correction slews (R155). -/
def Block.correct (b : Block) (d : Int) : Block :=
  if (!b.isReady ∧ b.sync = tbACQUIRE) ∨ (b.isReady ∧ 1000 < d) then b.stepTime d
  else { b with tb := { b.tb with slew := d } }

/-- A step of the control loop moves the frequency correction (R154, R185).
Log entry 51 (DESIGN CHOICE, unsafe). -/
def Block.loopStep (b : Block) (off : Int) : Block :=
  b.put pgTbs F.TBS_FREQ.FREQ
    (Config.loopStep (b.eff pgTbs F.TBS_X_LOOP.PGAIN) (b.eff pgTbs F.TBS_X_LOOP.IGAIN) off (b.eff pgTbs F.TBS_FREQ.FREQ)).toNat

/-- What an offset in 1/256 ns asks time to move by, in whole ticks: less than a tick asks for nothing.
Log entry 51 (DESIGN CHOICE, unsafe). -/
def ticksOf (off : Int) : Int := -(off.tdiv 256)

/-! ### Timestamp sets (R150, R151) -/

/-- PART_EN of the package (R178): zero in FREE, ACQUIRE and LOST, and in the safe state (R450). -/
def Block.partEn (b : Block) : Nat :=
  if b.synced && !b.safe then (List.range 16).foldl (fun m k => if b.enabled (pgPart k) then setBits m k 1 1 else m) 0 else 0

/-- The serving state of a partition before it is enabled. -/
def servNone : Serv :=
  { cancels := [], tenQ := [], order := [], badTen := [], due := [], finals := [], pf := [], drafts := [], draftsIn := []
    asked := [], lused := [], prevMembers := 0, skewFor := 0xFF, ltab := [], delivered := true, want := false, drained := false, polled := none }

def Block.srv (b : Block) (k : Nat) : Serv := SMap.get servNone b.serv k
def Block.setSrv (b : Block) (k : Nat) (x : Serv) : Block := { b with serv := SMap.set b.serv k x }

/-- PART_ACTIVE: active sequences or unread ring entries; only a synchronised package requests steps. -/
def Block.partActive (b : Block) : Nat :=
  if b.synced && !b.safe then
    (List.range 16).foldl (fun m k =>
      if b.enabled (pgPart k) && (decide (b.eff (pgPart k) F.SRV_STAT.ACTIVE ≠ 0) || (b.srv k).want) then setBits m k 1 1 else m) 0
  else 0

/-- TS_SEND: the set that a link sends. -/
def Block.tsSend (b : Block) (n : Nat) : Block :=
  if !b.linkUp n then b
  else
    let (etx, erx) := SMap.get (0, 0) b.tb.lastRx n
    b.emit (.tsSet n
      { srcSlot := b.slotId, masterSlot := b.eff pgTbs F.TBS_STATUS.MASTER_SLOT, tbmEn := b.tbmEn, isMaster := decide (b.sync = tbMASTER)
        sync := b.sync, stratum := b.eff pgTbs F.TBS_STATUS.STRATUM, partEn := b.partEn, partActive := b.partActive
        txTime := b.now % 2 ^ 56 * 256, echoTx := etx, echoRx := erx })

/-- The one-way delay and the offset of a link, in 1/256 ns (R151); `asym` is the asymmetry that training calibrated, in 1/16 ns, by which
the path towards this package is the longer one.
Log entry 51 (DESIGN CHOICE, unsafe). -/
def tsMeasure (t1 t2 t3 t4 : Nat) (asym : Int) : Int × Int :=
  let d1 := sext 64 (t2 + 2 ^ 64 - t1 % 2 ^ 64)
  let d2 := sext 64 (t4 + 2 ^ 64 - t3 % 2 ^ 64)
  let delay := (d2 + d1) / 2
  (delay, d1 - delay - asym * 16)

/-- The calibrated asymmetry of a link. -/
def Block.asymOf (b : Block) (n : Nat) : Int := sext 16 (b.lk n F.FAB_LTIME.ASYM)

/-- The set comes from the master by the direct link, or from a tray peer at stratum 1 when the direct link is lost. -/
def Block.follows (b : Block) (n : Nat) (s : TsSet) : Option Nat :=
  let m := b.eff pgTbs F.TBS_STATUS.MASTER_SLOT
  if b.eff pgTbs F.TBS_STATUS.MASTER_VALID = 0 then none
  else if s.srcSlot = m ∧ s.isMaster then some 1
  else if n < 3 ∧ s.stratum = 1 ∧ s.masterSlot = m ∧ (b.linksTo m).isEmpty then some 2
  else none

/-- A master is taken up: counted when it is another one. -/
def Block.takeMaster (b : Block) (m : Nat) : Block :=
  (b.put pgTbs F.TBS_STATUS.MASTER_SLOT m).put pgTbs F.TBS_STATUS.MASTER_VALID 1

/-- MASTER_CHG_EV. -/
def Block.masterChanged (b : Block) : Block := (b.bump pgTbs F.TBS_CNT0.MASTER_CHG_CNT).raise pgTbs 2

/-- The package becomes timebase and step master. -/
def Block.becomeMaster (b : Block) : Block :=
  (((b.takeMaster b.slotId).put pgTbs F.TBS_STATUS.STRATUM 0).enterSync tbMASTER).masterChanged

/-- The time of the master, by a set that the package follows (R154, R155). -/
def Block.followSet (b : Block) (stratum : Nat) (off : Int) : Block :=
  let b1 := (b.put pgTbs F.TBS_STATUS.STRATUM stratum).put pgTbs F.TBS_OFFSET.OFFSET (wrapInt 16 off)
  let within := decide (off.natAbs ≤ b.eff pgTbs F.TBS_X_LOCK.LOCK_THR * 16)
  let run := if within then b.tb.lockRun + 1 else 0
  let b2 := { b1 with tb := { b1.tb with lastSet := b.now, lockRun := run } }
  let b3 := (b2.loopStep off).correct (ticksOf off)
  let locked := decide (b.eff pgTbs F.TBS_X_LOCK.LOCK_COUNT ≤ run)
  if b.sync = tbACQUIRE ∧ locked then (b3.enterSync tbLOCKED).raise pgTbs 0
  else if b.sync = tbHOLDOVER ∧ locked then
    let b4 := b3.enterSync tbLOCKED
    if b.tb.changed then b4.masterChanged else b4
  else if b.sync = tbLOST then b3.enterSync tbACQUIRE
  else b3

/-- TS_SET: a timestamp set that a link received, `frac` the fraction of its receive time (R151, R153, R154). -/
def Block.tsRx (b : Block) (n : Nat) (s : TsSet) (frac : Nat) : Block :=
  if !b.linkUp n then b
  else
    let t2 := b.now * 256 + frac % 256
    let (delay, off) := tsMeasure s.txTime (t2 % 2 ^ 64) s.echoTx s.echoRx (b.asymOf n)
    let src := s.srcSlot % 64
    let h : Heard := { at_ := b.now, tbmEn := s.tbmEn, isMaster := s.isMaster, sync := s.sync, partEn := s.partEn, partActive := s.partActive
                       off := off }
    let b1 := { b with tb := { b.tb with lastRx := SMap.set b.tb.lastRx n (s.txTime, t2 % 2 ^ 64), heard := SMap.set b.tb.heard src h }
                       lastHeard := SMap.set b.lastHeard src b.now }
    let b2 := b1.setLk n F.FAB_LTIME.DELAY (delay.toNat / 256)
    let m := b.eff pgTbs F.TBS_STATUS.MASTER_SLOT
    let stale : Bool := match SMap.find b.tb.heard m with
      | some x => decide (x.at_ + b.eff pgTbs F.TBS_CFG.MASTER_LOSS * 1000 ≤ b.now) || !x.isMaster
      | none => true
    let b3 := if b2.sync = tbMASTER ∧ s.isMaster ∧ s.tbmEn ∧ src < b.slotId ∧ !b.isReady then
        (b2.takeMaster src).enterSync tbACQUIRE
      else if (b2.sync = tbHOLDOVER ∨ b2.sync = tbLOST ∨ b2.sync = tbACQUIRE) ∧ s.isMaster ∧ src ≠ m
          ∧ (src < m ∨ stale) then
        let b4 := b2.takeMaster src
        { b4 with tb := { b4.tb with lockRun := 0, changed := decide (b2.sync = tbHOLDOVER) } }
      else b2
    match b3.follows n s with
    | none => b3
    | some st => if b3.sync = tbMASTER ∨ b3.sync = tbFREE then b3 else b3.followSet st off

/-- A slot is still heard. -/
def Block.stillHeard (b : Block) (h : Heard) : Bool := decide (b.now < h.at_ + b.eff pgTbs F.TBS_CFG.MASTER_LOSS * 1000)

/-- ELECTION: 100 ms after fabric training (R152, R154). A package that hears a master joins it, so that a former master that returns
does not reclaim (R153, R474); one that follows steps its time to the master's.
Log entry 52 (DEDUCED, unsafe). -/
def Block.election (b : Block) : Block :=
  match b.tb.trainedAt with
  | none => b
  | some t =>
    if b.sync ≠ tbFREE ∨ b.tb.elected ∨ b.now < t + 100000000 then b
    else
      let masters := (b.tb.heard.filter (fun h => h.2.isMaster && b.stillHeard h.2)).map Prod.fst
      let cands := if !masters.isEmpty then masters else (if b.tbmEn then [b.slotId] else []) ++ (b.tb.heard.filter (fun h => h.2.tbmEn)).map Prod.fst
      let b1 := { b with tb := { b.tb with elected := true } }
      match cands with
      | [] => b1
      | c :: cs =>
        let m := cs.foldl min c
        if m = b.slotId then b1.becomeMaster
        else ((b1.takeMaster m).enterSync tbACQUIRE).stepTime (match SMap.find b.tb.heard m with
          | some h => ticksOf h.off
          | none => 0)

/-- The package is the claimant of R153. -/
def Block.claims (b : Block) : Bool :=
  b.tbmEn && (b.tb.heard.all (fun h => !(b.stillHeard h.2 && h.2.tbmEn && (decide (h.2.sync = 2) || decide (h.2.sync = 3))
    && decide (h.1 < b.slotId))))
    && !(b.tb.heard.any (fun h => b.stillHeard h.2 && h.2.isMaster))

/-- MASTER_LOSS: no set of the master for MASTER_LOSS (R153, R154). -/
def Block.masterLoss (b : Block) : Block :=
  let b1 := if b.sync = tbLOCKED ∧ b.tb.lastSet + b.eff pgTbs F.TBS_CFG.MASTER_LOSS * 1000 ≤ b.now then b.enterSync tbHOLDOVER else b
  if b1.sync = tbHOLDOVER ∧ b1.tb.lastSet + b.eff pgTbs F.TBS_CFG.MASTER_LOSS * 1000 ≤ b.now ∧ b1.claims then
    b1.becomeMaster.reportPage pgTbs 0x0404
  else b1

/-- HOLDOVER_TIMEOUT. -/
def Block.holdoverTimeout (b : Block) : Block :=
  if b.sync = tbHOLDOVER ∧ b.tb.since + b.eff pgTbs F.TBS_CFG.HOLDOVER_MAX * 1000000 ≤ b.now then
    (((b.enterSync tbLOST).bump pgTbs F.TBS_CNT0.LOCK_LOSS_CNT).raise pgTbs 1).reportPage pgTbs 0x0401
  else b

/-- The package uses its own reference inputs: it is no follower (R156). -/
def Block.usesRef (b : Block) : Bool := decide (b.sync = tbMASTER) || (decide (b.sync = tbFREE) && b.tbmEn)

/-- PPS_EDGE: an accepted rising edge of TB_PPS (R156). -/
def Block.ppsEdge (b : Block) : Block :=
  if !b.usesRef ∨ b.eff pgTbs F.TBS_CFG.PPS_EN = 0 then b
  else
    let d := sext 16 (b.eff pgTbs F.TBS_X_PPS.PPS_DELAY) / 16
    let stamp := wrapInt 64 ((b.now : Int) - d)
    let stamped (b : Block) (now stamp : Nat) : Block :=
      ({ b with tb := { b.tb with lastPps := some now, ppsMissed := false } }.put pgTbs F.TBS_LAST_PPS.LAST_PPS stamp).put pgTbs
        F.TBS_STATUS.PPS_OK 1
    let b1 := stamped b b.now stamp
    let r := stamp % 1000000000
    let up := (1000000000 - r) % 1000000000
    if b.eff pgTbs F.TBS_CFG.PPS_ALIGN = 0 then b1
    else if b.sync = tbFREE then
      if b.tb.ppsAligned then b1
      else
        stamped { b with now := (b.now + up) % 2 ^ 64, tb := { b.tb with ppsAligned := true } } ((b.now + up) % 2 ^ 64) ((stamp + up) % 2 ^ 64)
    else if b.isReady then
      { b1 with tb := { b1.tb with slew := if r ≤ 500000000 then -(r : Int) else ((1000000000 - r : Nat) : Int) } }
    else b1

/-- PPS_MISS: no edge for more than 1.1 s; before the first edge the time counts from reset.
Log entry 83 (DESIGN CHOICE, unsafe). -/
def Block.ppsMiss (b : Block) : Block :=
  if b.usesRef ∧ b.eff pgTbs F.TBS_CFG.PPS_EN = 1 ∧ !b.tb.ppsMissed ∧ b.tb.lastPps.getD 0 + 1100000000 < b.now then
    ((({ b with tb := { b.tb with ppsMissed := true } }.put pgTbs F.TBS_STATUS.PPS_OK 0).bump pgTbs F.TBS_CNT1.PPS_MISS_CNT).raise
      pgTbs 4).reportPage pgTbs 0x0403
  else b

/-- REF_LOSS and REF_OK (R156): with the reference in range a master locks its frequency to it, and without it the last one holds.
Log entry 51 (DESIGN CHOICE, unsafe). -/
def Block.refLoss (b : Block) : Block :=
  if b.usesRef ∧ b.eff pgTbs F.TBS_CFG.EXT_REF_EN = 1 ∧ b.eff pgTbs F.TBS_STATUS.REF_OK = 1 then
    ((b.put pgTbs F.TBS_STATUS.REF_OK 0).raise pgTbs 3).reportPage pgTbs 0x0402
  else b
def Block.refOk (b : Block) : Block :=
  if b.usesRef ∧ b.eff pgTbs F.TBS_CFG.EXT_REF_EN = 1 then
    let (n, b1) := b.draw
    (b1.put pgTbs F.TBS_STATUS.REF_OK 1).put pgTbs F.TBS_FREQ.FREQ (Config.refFreq n).toNat
  else b

/-! ### Announcements (R176, R177) -/

/-- An announced start of an index is recorded. -/
def Block.recordStart (b : Block) (k bakeNo start : Nat) : Block :=
  let a : StepAnn := { bakeNo := bakeNo, start := start, announcedAt := b.now, due := true }
  ({ b with tb := { b.tb with steps := SMap.set b.tb.steps k a, lastBakeNo := SMap.set b.tb.lastBakeNo k bakeNo } }).put pgTbs
    F.TBS_NEXT_START.NEXT_START start k

/-- An announcement of an index is still to come. -/
def Block.stepDue (b : Block) (k : Nat) : Bool := match SMap.find b.tb.steps k with
  | some a => a.due
  | none => false

/-- The body of STEP_ANNOUNCE: PART, BAKE_NO, START_TICK. -/
def stepBody (k bakeNo start : Nat) : List Byte := leBytes 1 k ++ leBytes 8 bakeNo ++ leBytes 8 start

/-- ANNOUNCE_NEXT_START: the step master announces the next start of an index that some present member asks for (R47, R176). -/
def Block.announce (b : Block) (k : Nat) : Block :=
  let asked := bit b.partActive k || b.tb.heard.any (fun h => bit h.2.partEn k && bit h.2.partActive k && b.stillHeard h.2)
  if b.sync ≠ tbMASTER ∨ b.stepDue k ∨ !asked ∨ b.safe then b
  else
    let start := max (b.eff pgTbs F.TBS_PLAN_END.PLAN_END k) (b.now + b.eff pgTbs F.TBS_STEP.ANNOUNCE_LEAD * 1000)
    let no := SMap.get 0 b.tb.lastBakeNo k + 1
    (b.recordStart k no start).castCtrl (2 ^ 64 - 1) ckSTEP_ANNOUNCE (stepBody k no start)

/-- STEP_ANNOUNCE: an announcement is final; one that repeats or goes back is no announcement. -/
def Block.stepAnnounced (b : Block) (k bakeNo start : Nat) : Block :=
  if bakeNo ≤ SMap.get 0 b.tb.lastBakeNo k then b else b.recordStart k bakeNo start

/-! ### The tick plan of a bake (R172 to R174) -/

/-- shift(x) of R174: the rounds agreed so far. -/
def Bake.shift (x : Bake) (off : Nat) : Nat :=
  ((List.range x.layers.length).zip x.layers).foldl (fun n p =>
    if p.2.insertOff ≤ off then n + SMap.get 0 x.rounds p.1 * p.2.roundTicks else n) 0

/-- shift(INSERT_OFF − 1). -/
def Bake.shiftBefore (x : Bake) (l : LayerRec) : Nat := if l.insertOff = 0 then 0 else x.shift (l.insertOff - 1)

/-- A layer record of the plan. -/
def Bake.layer (x : Bake) (l : Nat) : LayerRec := x.layers.getD l { voteOff := 0, closeOff := 0, insertOff := 0, roundTicks := 0 }

/-- The launch tick of a record; `j` is the DEFER round of a template, `base` the start of its plan. -/
def Bake.launch (x : Bake) (off layer : Nat) (j : Option Nat) (base : Nat) : Nat :=
  match j with
  | none => x.start + base + off + x.shift (base + off)
  | some r => let l := x.layer layer; x.start + l.insertOff + x.shiftBefore l + r * l.roundTicks + off

/-- The plan record at an offset as a Score entry. -/
def Block.planRec (b : Block) (a : Nat) : ScoreEntry :=
  { launch := b.m64 a, action := b.m32 (a + 8), target := b.m32 (a + 12), desc := b.m64 (a + 16), barw := b.m64 (a + 24) }

def ScoreEntry.selKind (e : ScoreEntry) : Nat := bits e.target 0 4
def ScoreEntry.selIsland (e : ScoreEntry) : Nat := bits e.target 4 9
def ScoreEntry.selTemplate (e : ScoreEntry) : Bool := bit e.target 23
def ScoreEntry.selLayer (e : ScoreEntry) : Nat := bits e.target 24 8

/-- The live tiles of a partition: assigned, enabled and not retired (R293), nor bound to retire (R129). -/
def Block.liveTiles (b : Block) (k : Nat) : List Nat :=
  (List.range 288).filter (fun t => b.enabled (pgTile t) && decide (b.tilePart t = k) && decide ((b.tile t).seq ≠ .retired)
    && !(b.tile t).retireNow && decide (SMap.find b.fcol.withheld k ≠ some t))

/-- The islands that a selector names (R172). -/
def Block.selIslands (b : Block) (k : Nat) (e : ScoreEntry) : List Nat :=
  match ScoreEntry.selKind e with
  | 0 => [ScoreEntry.selIsland e]
  | 1 =>
    let d := (b.bake k).desc
    let slots := b.m64 (d + 0x60) % 2 ^ 41 + b.m32 (e.desc % 2 ^ 41 + 0x5C)
    (b.liveTiles k).filter (fun t => decide (b.m16 (slots + 2 * t) ≠ 0xFFFF))
  | 2 => (b.srv k).pf
  | 3 => (b.liveTiles k).filter (fun t => !(b.srv k).pf.contains t)
  | 4 => (List.range 36).map (· + 360)
  | 5 => (List.range 16).map (· + 344)
  | _ => []

/-- The entry of a record on an island (R172, R174). -/
def Bake.entry (x : Bake) (k : Nat) (r : ScoreEntry) (q : PlanItem) : ScoreEntry :=
  { r with launch := x.launch r.launch (ScoreEntry.selLayer r) q.round q.base % 2 ^ 64
           target := q.island + k * 2 ^ 16
           barw := setBits r.barw 48 8 (x.bakeNo % 256) }

/-- The launch tick of a queued plan entry. -/
def Block.queuedLaunch (b : Block) (k : Nat) (q : PlanItem) : Nat :=
  let r := b.planRec q.record
  (b.bake k).launch r.launch (ScoreEntry.selLayer r) q.round q.base

/-- A Score is full, counting what is on its way in. -/
def Block.scoreFull (b : Block) (i : Nat) : Bool :=
  decide (scoreCap i ≤ (b.score i).entries.length + (b.score i).arriving.length + (b.score i).held.length)

/-- PLAN_PUSH: the plan entry that launches first is pushed to its Score, unless that Score is full (R174).
Log entry 32 (DEDUCED, unsafe). -/
def Block.planPush (b : Block) (k : Nat) : Block :=
  let x := b.bake k
  let open_ := x.pushQ.filter (fun q => !b.scoreFull q.island)
  match open_ with
  | [] => b
  | q0 :: qs =>
    let q := qs.foldl (fun a c => if b.queuedLaunch k c < b.queuedLaunch k a then c else a) q0
    (b.setBake k { x with pushQ := x.pushQ.erase q }).pushArriving q.island (x.entry k (b.planRec q.record) q) .serving

/-! ### DEFER rounds (R179, R180) -/

/-- The placement layer of tick plan layer record `l`: the record at position l of the model's MOE_TAB (R171, R179). -/
def Block.plcLayerOf (b : Block) (k l : Nat) : Nat :=
  match SMap.find b.bread (b.eff (pgPart k) F.SRV_MODEL.ACTIVE_MODEL) with
  | some m => lrPLC (b.mem.read (field m.desc 0x38 8 % 2 ^ 41 + 128 * l) 128)
  | none => l

/-- A vote of a member is recorded. -/
def Block.recordVote (b : Block) (k l slot r : Nat) : Block :=
  let x := b.bake k
  b.setBake k { x with votes := SMap.set x.votes (l * 64 + slot) r }

/-- VOTE_SEND. -/
def Block.voteSend (b : Block) (k l : Nat) : Block :=
  let x := b.bake k
  if !x.active ∨ x.layers.length ≤ l ∨ SMap.get false x.voteSent l ∨ (SMap.find x.rounds l).isSome then b
  else
    match b.plan? k (b.plcLayerOf k l) with
    | none => b
    | some p =>
      let lay := x.layer l
      if p.failed ∨ b.now < x.start + lay.voteOff + x.shift lay.voteOff then b
      else
        let r := p.vote b.slotId
        let body := leBytes 1 k ++ leBytes 8 x.bakeNo ++ leBytes 2 l ++ leBytes 1 r
        let dest := x.members ||| 2 ^ b.eff pgTbs F.TBS_STATUS.MASTER_SLOT
        ((b.setBake k { x with voteSent := SMap.set x.voteSent l true }).recordVote k l b.slotId r).castCtrl dest ckVOTE body

/-- VOTE: a vote of the bake in progress. -/
def Block.voteRx (b : Block) (k bakeNo l src r : Nat) : Block :=
  let x := b.bake k
  if (x.active ∨ x.watched) ∧ x.bakeNo = bakeNo ∧ l < x.layers.length then b.recordVote k l src r else b

/-- The records of a plan, by their offsets. -/
def Block.planRecords (b : Block) (plan : Nat) : List (Nat × ScoreEntry) :=
  let base := b.m64 (plan + 8) % 2 ^ 41
  (List.range (b.m32 (plan + 4))).map (fun i => (base + 32 * i, b.planRec (base + 32 * i)))

/-- The expansion of the template records of a layer for its rounds. -/
def Block.templates (b : Block) (k : Nat) (x : Bake) (l r : Nat) : List PlanItem :=
  let recs := (b.planRecords x.plan).filter (fun p => ScoreEntry.selTemplate p.2 && decide (ScoreEntry.selLayer p.2 = l))
  (List.range r).flatMap (fun j => recs.flatMap (fun p => (b.selIslands k p.2).map (fun i =>
    ({ island := i, record := p.1, round := some j, base := 0 } : PlanItem))))

/-- The votes of a layer at its close: how many are missing, and the rounds agreed (R179). -/
def Block.agreed (b : Block) (k l : Nat) : Nat × Nat :=
  let x := b.bake k
  let most := b.eff pgMoe F.MOE_PCTL.OVERFLOW_ROUNDS_MAX k
  let ms := bitIndices 64 (if x.active then x.members ||| 2 ^ b.slotId else x.members)
  ((ms.filter (fun s => (SMap.find x.votes (l * 64 + s)).isNone)).length,
   ms.foldl (fun m s => max m ((SMap.find x.votes (l * 64 + s)).getD most)) 0)

/-- VOTE_CLOSE (R179, R180). A step master that is no member moves PLAN_END_TICK alone (R176). -/
def Block.voteClose (b : Block) (k l : Nat) : Block :=
  let x := b.bake k
  let lay := x.layer l
  if (!x.active ∧ !x.watched) ∨ x.layers.length ≤ l ∨ (SMap.find x.rounds l).isSome ∨ b.now < x.start + lay.closeOff + x.shift lay.closeOff then b
  else
    let (missing, r) := b.agreed k l
    let b1 := (List.range missing).foldl (fun b _ =>
      ((b.bump pgTbs F.TBS_CNT2.VOTE_MISS_CNT).raise pgTbs 8).reportPart pgTbs 0x0409 k) b
    let delta := r * lay.roundTicks
    let start := x.start + lay.insertOff + x.shiftBefore lay
    let held := (b1.scores.filter (fun p => p.2.entries.any (fun e => decide (e.e.part = k)))).map Prod.fst
    let moved := { x with rounds := SMap.set x.rounds l r, planEnd := x.planEnd + delta }
    if !x.active then (b1.setBake k moved).put pgTbs F.TBS_PLAN_END.PLAN_END moved.planEnd k
    else
    let x' := { moved with pushQ := x.pushQ ++ b1.templates k x l r }
    let b2 := (b1.setBake k x').put pgTbs F.TBS_PLAN_END.PLAN_END x'.planEnd k
    let b3 := { b2 with shifts := b2.shifts ++ held.map (fun i => (i, k, x.bakeNo % 256, start, delta)) }
    let b4 := b3.pw (x.desc + 0x18) 8 x'.planEnd
    if r = 0 then b4 else (b4.bumpWrap pgMoe F.MOE_DEFER_CNT.DEFER_CNT 0 r).raise pgMoe 1

/-- SHIFT_CMD: the oldest shift command on its way to a Score (R180, R181). -/
def Block.shiftNext (b : Block) (i : Nat) : Block :=
  match b.shifts.find? (fun s => decide (s.1 = i)) with
  | some s => ({ b with shifts := b.shifts.erase s }).shiftCmd i s.2.1 s.2.2.1 s.2.2.2.1 s.2.2.2.2
  | none => b

end Sys2Proof.Machine
end

