-- ==== Sys2Proof/Machine/Commit.lean ====
section
/-! DEFINITION. What a commit of a page starts beyond the change of its settings (R31): pools, owners, links, rings and pins. -/
namespace Sys2Proof.Machine

/-- A tile page shows its owner's pin, and a tile that changes partition is in no pool until the next ratio governor run. -/
def Block.tileCommit (b : Block) (t : Nat) (old : PageRegs) : Block :=
  let p := pgTile t
  let was := SMap.get F.TIL_ASSIGN.PART.reset old.cmt (F.TIL_ASSIGN.PART.key 0)
  let k := b.tilePart t
  let b1 := b.put p F.TIL_ASSIGN.PINNED (b.eff (pgPart k) F.SRV_CFG.PINNED)
  if was = k then b1 else (b1.put p F.TIL_ASSIGN.POOL 2).noMoreBoundary

/-- The offset of a ring of a partition. -/
def Block.ringOff (b : Block) (k r : Nat) : Nat := b.fieldOff (pgPart k) F.SRV_RING_BASE.RING_BASE r

/-- RING_EN from 0 to 1 writes CONS and DONE as zero and clears ERR (R298, R302). -/
def Block.ringOpen (b : Block) (k r : Nat) : Block :=
  ((b.pw (b.ringOff k r + 0x40) 8 0).pw (b.ringOff k r + 0x48) 8 0).put (pgPart k) F.SRV_RING_CFG.ERR 0 r

/-- A commit of a partition's page (R296, R298): its tiles show the pin, and rings that become enabled start at zero. -/
def Block.srvCommit (b : Block) (k : Nat) (old : PageRegs) : Block :=
  let p := pgPart k
  let pin := b.eff p F.SRV_CFG.PINNED
  let b1 := (List.range 288).foldl (fun b t => if b.tilePart t = k then b.put (pgTile t) F.TIL_ASSIGN.PINNED pin else b) b
  (List.range 16).foldl (fun b r =>
    if SMap.get 0 old.cmt (F.SRV_RING_CFG.RING_EN.key r) = 0 ∧ b.eff p F.SRV_RING_CFG.RING_EN r = 1 then b.ringOpen k r else b) b1

/-- A telemetry ring that becomes enabled starts at record 0 (R462, R463). -/
def Block.telCommit (b : Block) (old : PageRegs) : Block :=
  (List.range 3).foldl (fun b c =>
    if SMap.get 0 old.cmt (F.TEL_CFG.EN.key c) = 0 ∧ b.eff pgFlt F.TEL_CFG.EN c = 1 then
      { b with fcol := { b.fcol with prod := SMap.set b.fcol.prod c 0, seq := SMap.set b.fcol.seq c 0
                                     cons := SMap.set b.fcol.cons c (b.m64 (b.fieldOff pgFlt F.TEL_BASE.TEL_BASE c + 0x40)) } }
    else b) b

/-- What a page does when its committed set has changed; `old` is the page before. -/
def Block.commitHook (b : Block) (p : Nat) (old : PageRegs) : Block :=
  let was (f : Field) (i : Nat) : Nat := SMap.get f.reset old.cmt (f.key i)
  match pageKind p with
  | .kvm => b.kvmCommit old.cmt
  | .mem => if p = pgMem 0 then b.remapOwners (fun g => was F.MEM_MAP_GRP.OWNER g) else b
  | .fab => b.linkCommit (p - 0x100) (fun pos => was F.FAB_LCFG.STRICT_SLOT pos)
  | .til => b.tileCommit (p - 0x200) old
  | .srv => b.srvCommit (p - 0x10) old
  | .flt => b.telCommit old
  | _ => b

/-- The shadow microcode store of a tile becomes the active one (R130). -/
def Block.switchUcode (b : Block) (p : Nat) : Block :=
  match pageKind p with
  | .til => let x := b.tile (p - 0x200); b.setTile (p - 0x200) { x with ucode := x.shadow, shadow := x.ucode }
  | _ => b

/-- A page that the update engine holds runs the new version once it has committed (R16, R488). -/
def Block.updCommit (b0 : Block) (p : Nat) : Block :=
  if b0.upd.held.contains p then
    let b := b0.switchUcode p
    let v := b.upd.version
    { b with upd := { b.upd with held := b.upd.held.filter (fun q => decide (q ≠ p)), loaded := b.upd.loaded.filter (fun q => decide (q ≠ p)) } }.modHdr p
      (fun h => { h with ucMajor := v / 65536 % 256, ucMinor := v / 256 % 256, ucBuild := v % 256 })
  else b0

/-- Microcode waits: a tile page that the update engine holds commits with its sequencer IDLE, a controller page with none of its
groups retraining (R130, R488). -/
def Block.updWaits (b : Block) (p : Nat) : Bool :=
  b.upd.held.contains p && (match pageKind p with
    | .til => decide ((b.tile (p - 0x200)).seq ≠ .idle)
    | .mem => b.retraining (2 * (p - 0xC0)) || b.retraining (2 * (p - 0xC0) + 1)
    | _ => false)

/-- A page commits its pending set and what depends on it follows (R31, R32). -/
def Block.commitWhole (b : Block) (p : Nat) : Block :=
  if b.updWaits p then b else ((b.commitPage p).commitHook p (b.page p)).updCommit p

/-- The pages that a package implements. -/
def allPages : List Nat :=
  [0, 1, 2, 3, 4, 5, 6, 8, 9] ++ (List.range 16).map (· + 0x10) ++ [0x20, 0x21, 0x22] ++ (List.range 24).map (· + 0x40)
    ++ (List.range 32).map (· + 0x80) ++ (List.range 16).map (· + 0xC0) ++ (List.range 36).map (· + 0x100) ++ [0x130]
    ++ (List.range 288).map (· + 0x200)

/-- A staged page shared by the partitions (R31). -/
def isShared (p : Nat) : Bool :=
  isStaged (pageKind p) && (match pageKind p with
    | .srv | .til => false
    | _ => true)

/-- A step start tick commits the shared pages whose COMMIT_PENDING was set before it was announced (R31, R48). Set in the tick of the
announcement, it counts as set before.
Log entry 90 (DESIGN CHOICE, unsafe). -/
def Block.commitShared (b : Block) (announcedAt : Nat) : Block :=
  (allPages.filter (fun p => isShared p && (b.hdr p).commitPending && decide ((b.hdr p).pendingAt ≤ announcedAt))).foldl Block.commitWhole b

/-- Item 2 of R49: the partition's page and its tiles' pages. -/
def Block.commitPart (b : Block) (k : Nat) : Block :=
  (pgPart k :: ((List.range 288).filter (fun t => decide (b.tilePart t = k))).map pgTile).foldl (fun b p =>
    if (b.hdr p).commitPending then b.commitWhole p else b) b

/-- A bake of a partition is in progress: from its step start tick to the end of its phase 7, with shifts (R31). -/
def Block.bakeRuns (b : Block) (k : Nat) : Bool := (b.bake k).active && decide (b.now < (b.bake k).planEnd)

/-- IDLE_COMMIT: a page commits although no bake or step is in progress (R31): of its partition for partition and tile pages,
of any partition for shared pages. -/
def Block.idleCommit (b : Block) (p : Nat) : Block :=
  if !(b.hdr p).commitPending then b
  else
    let busy : Bool := match pageKind p with
      | .srv => b.bakeRuns (p - 0x10)
      | .til => b.bakeRuns (b.tilePart (p - 0x200)) && b.enabled (pgPart (b.tilePart (p - 0x200)))
      | _ => (List.range 16).any b.bakeRuns
    if busy then b else b.commitWhole p

end Sys2Proof.Machine
end

