-- ==== Sys2Proof/Machine/Breadbox.lean ====
section
/-! DEFINITION. Contexts and tenants of serving control (R304, R307) and the breadbox (R312 to R314).
Log entries 40 (DESIGN CHOICE, unsafe), 41 (DEDUCED, unsafe). -/
namespace Sys2Proof.Machine

/-! ### Sequence contexts (R304) -/

/-- Context states. -/
def cxFREE : Nat := 0
def cxPREFILL : Nat := 1
def cxDECODE : Nat := 2
def cxRETIRING : Nat := 3

/-- A field of the page of a partition. -/
def Block.sv (b : Block) (k : Nat) (f : Field) : Nat := b.eff (pgPart k) f

/-- The offset of a context. -/
def Block.ctxOff (b : Block) (k s : Nat) : Nat :=
  b.fieldOff (pgPart k) F.SRV_CTX_BASE.CTX_BASE + 128 * (s - b.sv k F.SRV_SEQ.SEQ_FIRST)

/-- An `n`-byte field at byte `o` of the context of a sequence. -/
def Block.cx (b : Block) (k s o n : Nat) : Nat := leNat (b.mem.read (b.ctxOff k s + o) n)
def Block.setCx (b : Block) (k s o n v : Nat) : Block := b.pw (b.ctxOff k s + o) n v

def Block.cxReqId (b : Block) (k s : Nat) : Nat := b.cx k s 0 4
def Block.cxTenant (b : Block) (k s : Nat) : Nat := b.cx k s 4 2 % 4096
def Block.cxState (b : Block) (k s : Nat) : Nat := b.cx k s 6 1
def Block.cxFlags (b : Block) (k s : Nat) : Nat := b.cx k s 7 1
def Block.cxModel (b : Block) (k s : Nat) : Nat := b.cx k s 9 1
def Block.cxDeadline (b : Block) (k s : Nat) : Nat := b.cx k s 0x10 8
def Block.cxPLen (b : Block) (k s : Nat) : Nat := b.cx k s 0x20 4
def Block.cxPDone (b : Block) (k s : Nat) : Nat := b.cx k s 0x24 4
def Block.cxMaxNew (b : Block) (k s : Nat) : Nat := b.cx k s 0x28 4
def Block.cxGen (b : Block) (k s : Nat) : Nat := b.cx k s 0x2C 4
def Block.cxOut (b : Block) (k s : Nat) : Nat := b.cx k s 0x30 8
def Block.cxLast (b : Block) (k s : Nat) : Nat := b.cx k s 0x38 4

/-- Entry flags that the context keeps: MINI, GREEDY, NO_DRAFT, NO_PREFIX, SEQ_FIX; and COMPANION. -/
def Block.isMini (b : Block) (k s : Nat) : Bool := bit (b.cxFlags k s) 0
def Block.isCompanion (b : Block) (k s : Nat) : Bool := bit (b.cxFlags k s) 5

/-- The sequences of a partition's range. -/
def Block.seqRange (b : Block) (k : Nat) : List Nat := (List.range (b.sv k F.SRV_SEQ.SEQ_COUNT)).map (· + b.sv k F.SRV_SEQ.SEQ_FIRST)

/-- The partition whose range holds a SEQ_ID; the ranges of enabled partitions are disjoint (R294). -/
def Block.seqPart (b : Block) (s : Nat) : Option Nat :=
  (List.range 16).find? (fun k => b.enabled (pgPart k) && decide (b.sv k F.SRV_SEQ.SEQ_FIRST ≤ s)
    && decide (s < b.sv k F.SRV_SEQ.SEQ_FIRST + b.sv k F.SRV_SEQ.SEQ_COUNT))

/-- The sequences whose context is not FREE. -/
def Block.activeSeqs (b : Block) (k : Nat) : List Nat := (b.seqRange k).filter (fun s => decide (b.cxState k s ≠ cxFREE))

/-- A context runs: PREFILL or DECODE. -/
def Block.ctxRuns (b : Block) (k s : Nat) : Bool := decide (b.cxState k s = cxPREFILL) || decide (b.cxState k s = cxDECODE)

/-- ACTIVE of a partition. -/
def Block.setActive (b : Block) (k n : Nat) : Block :=
  let b1 := b.put (pgPart k) F.SRV_STAT.ACTIVE n
  if n = 0 then b1 else b1.setSrv k { b1.srv k with drained := false }

/-- DRAINED: ACTIVE has reached 0 with ADMIT_STOP = 1 (R297). -/
def Block.drainedEv (b : Block) (k : Nat) : Block :=
  if b.enabled (pgPart k) ∧ b.sv k F.SRV_STAT.ACTIVE = 0 ∧ b.sv k F.SRV_CFG.ADMIT_STOP = 1 ∧ !(b.srv k).drained then
    (b.setSrv k { b.srv k with drained := true }).raise (pgPart k) 7
  else b

/-! ### Tenants (R307) -/

/-- An `n`-byte field of the active record of a tenant. -/
def Block.ten (b : Block) (k t o n : Nat) : Nat := leNat (b.mem.read (b.fieldOff (pgPart k) F.SRV_TEN_ACT.TEN_ACT + 64 * t + o) n)
def Block.tenFlags (b : Block) (k t : Nat) : Nat := b.ten k t 0 1
def Block.tenValid (b : Block) (k t : Nat) : Bool := bit (b.tenFlags k t) 0
def Block.tenStarter (b : Block) (k t : Nat) : Bool := bit (b.tenFlags k t) 1
def Block.tenLateDrop (b : Block) (k t : Nat) : Bool := bit (b.tenFlags k t) 2
def Block.tenDraftEn (b : Block) (k t : Nat) : Bool := bit (b.tenFlags k t) 3
def Block.tenDraftMax (b : Block) (k t : Nat) : Nat := b.ten k t 1 1
def Block.tenDraftSlot (b : Block) (k t : Nat) : Nat := b.ten k t 2 1 % 64
def Block.tenDraftModel (b : Block) (k t : Nat) : Nat := b.ten k t 3 1
def Block.tenDraftPool (b : Block) (k t : Nat) : Nat := b.ten k t 4 1 % 16

/-- A tenant record that R308 copies: no reserved bit, DRAFT_MAX at most 8, STARTER_LAYERS at most 256, STARTER_BASE on this package (R543). -/
def Block.tenRecOk (b : Block) (r : List Byte) : Bool :=
  decide (field r 0 1 < 16) && decide (field r 1 1 ≤ 8) && decide (field r 2 1 < 64) && decide (field r 4 1 < 16)
    && decide (field r 6 2 ≤ 256) && (r.drop 0x10).all (fun v => decide (v = 0))
    && (b.localOff (field r 8 8)).isSome

/-- TEN_UPD: a tenant joins the update queue of 256 (R308). -/
def Block.tenUpd (b : Block) (k t : Nat) : Block :=
  let q := (b.srv k).tenQ
  if 256 ≤ q.length then b.cfgReject (pgPart k)
  else (b.setSrv k { b.srv k with tenQ := q ++ [t] }).put (pgPart k) F.SRV_TEN_Q.QUEUED (q.length + 1)

/-- One queued update is taken (R308). -/
def Block.tenTake (b : Block) (k : Nat) : Block :=
  match (b.srv k).tenQ with
  | [] => b
  | t :: q =>
    let b1 := ((b.setSrv k { b.srv k with tenQ := q }).put (pgPart k) F.SRV_TEN_Q.QUEUED q.length).watch
      (b.fieldOff (pgPart k) F.SRV_TEN_PEND.TEN_PEND + 64 * t) 64
    let a := b1.fieldOff (pgPart k) F.SRV_TEN_PEND.TEN_PEND + 64 * t
    let r := b1.mem.read a 64
    if b1.poisoned a 64 || !b1.tenRecOk r then (b1.bump (pgPart k) F.SRV_MISC_CNT.TEN_ERR_CNT).reportPart (pgPart k) 0x0902 k |>.raise (pgPart k) 1
    else
      let b2 := (b1.privWrite (b1.fieldOff (pgPart k) F.SRV_TEN_ACT.TEN_ACT + 64 * t) r).1
      if bit (field r 0 1) 0 then b2 else b2.setSrv k { b2.srv k with badTen := (b2.srv k).badTen ++ [t] }

/-- Up to `n` queued updates in order. -/
def Block.tenTakes (b : Block) (k : Nat) : Nat → Block
  | 0 => b
  | n + 1 => (b.tenTake k).tenTakes k n

/-! ### The breadbox (R312 to R314) -/

/-- States of a model descriptor. -/
def bbEMPTY : Nat := 0
def bbCHECKING : Nat := 1
def bbWARM : Nat := 2
def bbPROMOTING : Nat := 3
def bbHOT : Nat := 4
def bbDEMOTING : Nat := 5
def bbFREEING : Nat := 6

def breadNone : Bread := { st := bbEMPTY, part := 0, chkErr := 0, desc := [], job := 0 }
def Block.brd (b : Block) (i : Nat) : Bread := SMap.get breadNone b.bread i
def Block.setBrd (b : Block) (i : Nat) (x : Bread) : Block := { b with bread := SMap.set b.bread i x }

/-- Fields of a model descriptor. -/
def mdKind (d : List Byte) : Nat := field d 1 1
def mdVocab (d : List Byte) : Nat := field d 8 4
def mdOps (d : List Byte) : Nat := field d 0xC 4
def mdOptab (d : List Byte) : Nat := field d 0x10 8
def mdPlan (d : List Byte) (i : Nat) : Nat := field d (0x18 + 8 * i) 8
def mdMoe (d : List Byte) : Nat := field d 0x38 8
def mdMoeCount (d : List Byte) : Nat := field d 0x50 4
def mdDraftMax (d : List Byte) : Nat := field d 0x54 1

/-- A descriptor whose weights are resident: WARM or HOT, or on the way between the two. A request is admitted on one that is WARM or HOT
(R322). -/
def Bread.resident (x : Bread) : Bool := decide (bbWARM ≤ x.st) && decide (x.st ≤ bbDEMOTING)
def Bread.ready (x : Bread) : Bool := decide (x.st = bbWARM) || decide (x.st = bbHOT)
def Bread.isMain (x : Bread) : Bool := x.resident && decide (mdKind x.desc = 0)
def Bread.isDraft (x : Bread) : Bool := x.resident && decide (mdKind x.desc = 1)

/-- USERS (R314): contexts, partitions and the draft exchange that name the descriptor. 0xFF names none (R333). A partition that is disabled
has no context left (R297), but its registers still name a model. -/
def Block.bbUsers (b : Block) (i : Nat) : Nat :=
  (List.range 16).foldl (fun n k =>
    n + (if b.enabled (pgPart k) then ((b.activeSeqs k).filter (fun s => decide (b.cxModel k s = i))).length else 0)
      + b2n (decide (i ≠ 0xFF) && (decide (b.sv k F.SRV_MODEL.MODEL = i) || decide (b.sv k F.SRV_MODEL.ACTIVE_MODEL = i)))
      + b2n (b.bakeRuns k && (b.srv k).drafts.any (fun d => decide (d.model = i)))) 0

/-- A command of the breadbox that its table does not list (R314). -/
def Block.bbError (b : Block) (k i : Nat) : Block := (b.setBrd i { b.brd i with chkErr := 5 }).raise (pgPart k) 3

/-- Check 1: the descriptor's fields (R312, R543). MOE_TAB may name none. Reserved bytes that R312 does not state as zero are ignored (R12). -/
def Block.mdFieldsOk (b : Block) (d : List Byte) : Bool :=
  let here (a : Nat) : Bool := (b.localOff a).isSome
  decide (d.length = 128) && decide (field d 0 1 = 1) && decide (mdKind d ≤ 1) && decide (1 ≤ field d 2 2) && decide (field d 2 2 ≤ 256)
    && decide (1 ≤ mdVocab d) && decide (mdVocab d ≤ 262144) && (d.drop 0x60).all (fun v => decide (v = 0))
    && (if mdKind d = 0 then decide (mdPlan d 0 ≠ 0) && decide (mdPlan d 1 ≠ 0)
        else decide (mdPlan d 3 ≠ 0) && decide (1 ≤ mdDraftMax d) && decide (mdDraftMax d ≤ 8))
    && here (mdOptab d) && (decide (mdMoe d = 0) || here (mdMoe d)) && here (field d 0x40 8) && here (field d 0x48 8)

/-- The operation descriptor of index `j`. -/
def Block.opDesc (b : Block) (optab j : Nat) : List Byte := b.mem.read (optab % 2 ^ 41 + 128 * j) 128

/-- Check 2 on one operation (R145): its residency column, with the committed TIL_SPILL of every tile of the partition. Records that cannot
be read, by an uncorrectable line or a retired group, refuse residency. -/
def Block.opResident (b : Block) (k : Nat) (o : List Byte) : Bool :=
  let here := (b.localOff (odOpnd o)).isSome
  let os := operands (b.mem.read (odOpnd o % 2 ^ 41) (32 * odNopnd o))
  let spills := match (b.liveTiles k) with
    | [] => [(0, 0)]
    | ts => ts.map (fun t => (b.eff (pgTile t) F.TIL_SPILL.SPILL_BASE, b.eff (pgTile t) F.TIL_SPILL.SPILL_TILES))
  b.usable (odOpnd o % 2 ^ 41) (32 * odNopnd o) && !b.poisoned (odOpnd o % 2 ^ 41) (32 * odNopnd o) && spills.all (fun sp =>
    decide (staticStatus o os here sp.1 sp.2 (decide (b.sv k F.SRV_CFG.PINNED = 1)) = 0)
      && (List.range (max 1 (odNb o 0))).all (fun i => decide (accNeed o i ≤ sp.2)))

/-- Check 2: every operation descriptor. -/
def Block.opsResident (b : Block) (k : Nat) (d : List Byte) : Bool :=
  b.usable (mdOptab d % 2 ^ 41) (128 * mdOps d) && !b.poisoned (mdOptab d % 2 ^ 41) (128 * mdOps d)
    && (List.range (mdOps d)).all (fun j => b.opResident k (b.opDesc (mdOptab d) j))

/-- Non-decreasing. -/
def nonDecreasing : List Nat → Bool
  | a :: c :: l => decide (a ≤ c) && nonDecreasing (c :: l)
  | _ => true

/-- Layer records as they lie in memory. -/
def Block.layerRecs (b : Block) (plan : Nat) : List LayerRec :=
  let base := b.m64 (plan + 0x20) % 2 ^ 41
  (List.range (b.m16 (plan + 0x28))).map (fun l =>
    let a := base + 16 * l
    { voteOff := b.m32 a, closeOff := b.m32 (a + 4), insertOff := b.m32 (a + 8), roundTicks := b.m32 (a + 12) })

/-- A plan's header, records or layer records cannot be read (R218). -/
def Block.planPoisoned (b : Block) (p : Nat) : Bool :=
  b.poisoned p 64 || b.poisoned (b.m64 (p + 8) % 2 ^ 41) (32 * b.m32 (p + 4)) || b.poisoned (b.m64 (p + 0x20) % 2 ^ 41) (16 * b.m16 (p + 0x28))

/-- Check 3 on one plan (R171 to R173, R543). Reserved bits that the tables do not state as zero are ignored (R12). -/
def Block.planOk (b : Block) (d : List Byte) (addr : Nat) : Bool :=
  let p := addr % 2 ^ 41
  let layers := b.layerRecs p
  let recs := (b.planRecords p).map Prod.snd
  let offs (f : ScoreEntry → Bool) : List Nat := (recs.filter f).map ScoreEntry.launch
  let sel (e : ScoreEntry) : Bool :=
    decide (ScoreEntry.selKind e ≤ 5) && (decide (ScoreEntry.selKind e ≠ 0) || isScoreIsland (ScoreEntry.selIsland e))
      && decide (e.bakeTag = 0)
      && (!ScoreEntry.selTemplate e || decide (ScoreEntry.selLayer e < layers.length))
  (b.localOff addr).isSome && !b.planPoisoned p && decide (addr % 64 = 0) && decide (b.byteAt p = 1) && (List.range 3).all (fun i => decide (b.byteAt (p + 1 + i) = 0))
    && decide (1 ≤ b.m32 (p + 4)) && decide (b.m32 (p + 4) ≤ 1048576) && decide (b.m16 (p + 0x18) ≤ 4095)
    && decide (b.m16 (p + 0x28) ≤ 256) && (b.mem.read (p + 0x2A) 22).all (fun v => decide (v = 0))
    && [8, 0x10, 0x20].all (fun o => (b.localOff (b.m64 (p + o))).isSome)
    && recs.all sel && nonDecreasing (offs (fun e => !ScoreEntry.selTemplate e))
    && (List.range layers.length).all (fun l => nonDecreasing (offs (fun e => ScoreEntry.selTemplate e && decide (ScoreEntry.selLayer e = l))))
    && decide (layers.length ≤ mdMoeCount d)
    && layers.all (fun r => decide (r.voteOff + b.eff pgTbs F.TBS_PLAN.VOTE_WINDOW * 1000 ≤ r.closeOff)
        && decide (r.closeOff + b.eff pgTbs F.TBS_PLAN.SHIFT_LEAD * 1000 ≤ r.insertOff))
    && ascending 0 (layers.map (fun r => r.insertOff + 1))

/-- Check 4 (R260): every layer record. -/
def Block.layersOk (b : Block) (k : Nat) (d : List Byte) : Bool :=
  let rs := (List.range (mdMoeCount d)).map (fun l => b.mem.read (mdMoe d % 2 ^ 41 + 128 * l) 128)
  let ops := (List.range (mdOps d)).map (b.opDesc (mdOptab d))
  let ents := rs.flatMap lrEntries
  (decide (mdMoe d ≠ 0) || decide (mdMoeCount d = 0)) && rs.all (fun r => lrOk r && (lrAddrs r).all (fun a => (b.localOff a).isSome)
      && ops.all (fun o => [0, 1].all (fun i =>
          !(decide (odSrc o i % 16 = 2) && decide (lrCountIdx r ≤ odSrc o i / 16) && decide (odSrc o i / 16 < lrCountIdx r + lrEloc r))
            || decide (lrCap r ≤ odBmax o i)))
      && (decide (b.epoch k = 0) || (decide (lrExperts r ≤ b.plcStride (b.plcActive k)) && decide (lrPLC r < b.plcLayers (b.plcActive k)))))
    && decide (ents.eraseDups.length = ents.length)

/-- The residency check (R313): CHK_ERR, 0 when it passes. -/
def Block.residency (b : Block) (k : Nat) (d : List Byte) : Nat :=
  if !b.mdFieldsOk d then 1
  else if !b.opsResident k d then 2
  else if (List.range 4).any (fun i => decide (mdPlan d i ≠ 0) && !b.planOk d (mdPlan d i)) then 3
  else if !b.layersOk k d then 4
  else 0

/-- CHECK: the breadbox takes its own copy of the descriptor (R312, R314). -/
def Block.bbCheck (b : Block) (k i : Nat) : Block :=
  if (b.brd i).st ≠ bbEMPTY then b.bbError k i
  else
    let bytes := match b.localOff (b.sv k F.SRV_BB_DESC.DESC) with
      | some off => if b.usable off 128 ∧ !b.poisoned off 128 then b.mem.read off 128 else []
      | none => []
    (match b.localOff (b.sv k F.SRV_BB_DESC.DESC) with | some off => b.watch off 128 | none => b).setBrd i { st := bbCHECKING, part := k, chkErr := 0, desc := bytes, job := 0 }

/-- What the residency check reads: operation descriptors, plans and layer records (R218, R313). -/
def Block.watchModel (b : Block) (d : List Byte) : Block :=
  let plans := ((List.range 4).map (mdPlan d)).filter (fun a => decide (a ≠ 0))
  let b1 := (b.watch (mdOptab d % 2 ^ 41) (128 * mdOps d)).watch (mdMoe d % 2 ^ 41) (128 * mdMoeCount d)
  plans.foldl (fun b a =>
    let p := a % 2 ^ 41
    ((b.watch p 64).watch (b.m64 (p + 8) % 2 ^ 41) (32 * b.m32 (p + 4))).watch (b.m64 (p + 0x20) % 2 ^ 41) (16 * b.m16 (p + 0x28))) b1

/-- BB_CHECK_DONE (R313). -/
def Block.bbCheckDone (b : Block) (i : Nat) : Block :=
  let x := b.brd i
  if x.st ≠ bbCHECKING then b
  else
    let c := b.residency x.part x.desc
    let b := b.watchModel x.desc
    if c = 0 then (b.setBrd i { x with st := bbWARM }).raise (pgPart x.part) 2
    else ((b.setBrd i { x with st := bbEMPTY, chkErr := c, desc := [] }).raise (pgPart x.part) 3).reportPart (pgPart x.part) 0x0903 x.part

/-- A proof list runs for the breadbox on a memory controller that the spec leaves open. -/
def Block.bbList (b : Block) (k addr : Nat) : Block :=
  let (n, b1) := b.draw
  b1.listStart (344 + Config.victim n % 16) { launch := 0, action := 0x20, target := k * 2 ^ 16, desc := addr, barw := 0 }

/-- PROMOTE (R314). -/
def Block.promote (b : Block) (k i : Nat) : Block :=
  let x := b.brd i
  if x.st ≠ bbWARM ∨ x.part ≠ k then b.bbError k i
  else (b.setBrd i { x with st := bbPROMOTING, job := b.nextId }).bbList k (field x.desc 0x40 8)

/-- The list that a descriptor waits for has ended. -/
def Block.bbIdle (b : Block) (x : Bread) : Bool := !b.acts.any (fun a => decide (a.id = x.job))

/-- PROMOTE_DONE. -/
def Block.promoteDone (b : Block) (i : Nat) : Block :=
  let x := b.brd i
  if x.st = bbPROMOTING ∧ b.bbIdle x then (b.setBrd i { x with st := bbHOT }).raise (pgPart x.part) 2 else b

/-- DEMOTE. -/
def Block.demote (b : Block) (k i : Nat) : Block :=
  let x := b.brd i
  if x.st ≠ bbHOT ∨ x.part ≠ k ∨ b.bbUsers i ≠ 0 then b.bbError k i
  else (b.setBrd i { x with st := bbDEMOTING, job := b.nextId }).bbList k (field x.desc 0x48 8)

/-- DEMOTE_DONE. -/
def Block.demoteDone (b : Block) (i : Nat) : Block :=
  let x := b.brd i
  if x.st = bbDEMOTING ∧ b.bbIdle x then (b.setBrd i { x with st := bbWARM }).raise (pgPart x.part) 2 else b

/-- BB_FREE. -/
def Block.bbFree (b : Block) (k i : Nat) : Block :=
  let x := b.brd i
  if x.st ≠ bbWARM ∨ x.part ≠ k ∨ b.bbUsers i ≠ 0 then b.bbError k i
  else b.setBrd i { x with st := bbFREEING }

/-- FREE_DONE: every prefix entry of the index is invalid and the descriptor is empty (R251, R314). -/
def Block.bbFreeDone (b : Block) (i : Nat) : Block :=
  let x := b.brd i
  if x.st ≠ bbFREEING then b
  else
    let b1 := (List.range 16).foldl (fun b p =>
      if b.eff pgKvm F.KVM_PFX_BASE.PFX_BASE p = 0 then b else b.pfxInvalidate p (fun a => decide (b.byteAt (a + 0x12) = i))) b
    (b1.setBrd i breadNone).raise (pgPart x.part) 2

/-- A command word of SRV_BB_CMD (R333). -/
def Block.bbCommand (b : Block) (k op i : Nat) : Block :=
  match op with
  | 1 => b.bbCheck k i
  | 2 => b.promote k i
  | 3 => b.demote k i
  | 4 => b.bbFree k i
  | _ => b.bbError k i

end Sys2Proof.Machine
end

