-- ==== Sys2Proof/Machine/Retire.lean ====
section
/-! DEFINITION. The end of a bake: final records (R321, R322), failures (R323), KEEP and pages (R237, R244), and item 1 of R49.
Log entry 44 (DEDUCED, unsafe). -/
namespace Sys2Proof.Machine

/-! ### Request statuses (R322) -/

def rqDONE_MAX : Nat := 0x00
def rqDONE_STOP : Nat := 0x01
def rqCANCELLED : Nat := 0x02
def rqDEADLINE : Nat := 0x03
def rqBAD_ENTRY : Nat := 0x10
def rqBAD_TENANT : Nat := 0x11
def rqNO_MODEL : Nat := 0x12
def rqKV_LIMIT : Nat := 0x14
def rqKV_POOL : Nat := 0x15
def rqOP_FAILED : Nat := 0x20
def rqKV_EXHAUSTED : Nat := 0x21
def rqNO_COMMIT : Nat := 0x22
def rqBAD_KEEP : Nat := 0x23
def rqPART_DISABLED : Nat := 0x30
def rqABORTED : Nat := 0x31

/-- An output record (R321). -/
def outRecord (req token index flags detail : Nat) : List Byte :=
  leBytes 4 req ++ leBytes 4 token ++ leBytes 4 index ++ leBytes 2 flags ++ leBytes 2 detail

/-- DONE of a ring counts the final records of its requests (R298). -/
def Block.ringDone (b : Block) (k r : Nat) : Block :=
  let a := b.ringOff k r + 0x48
  b.pw a 8 (b.m64 a + 1)

/-- A write of an output record: its status, RANGE where OUT is not on this package. -/
def Block.outWrite (b : Block) (out i : Nat) (bs : List Byte) : Block × Nat :=
  match b.localOff (out + 16 * i) with
  | some off => b.privWrite off bs
  | none => (b, stRANGE)

/-- A final record at OUT + 16 × MAX_NEW, and the ring's DONE: the block, and the status with which the request retires. A record that is
refused counts in FAIL_REQ_CNT, and the request retires with OP_FAILED (R321). -/
def Block.finalAt (b : Block) (k ring out maxNew req gen status detail : Nat) : Block × Nat :=
  let (b1, st) := b.outWrite out maxNew (outRecord req 0xFFFFFFFF gen (0x8200 + status) detail)
  let b2 := if st = 0 then (b1.bumpWrap (pgPart k) F.SRV_DONE_CNT.DONE_CNT).ringDone k ring
    else b1.bumpWrap (pgPart k) F.SRV_FAIL_CNT.FAIL_REQ_CNT
  (if status = rqDEADLINE then b2.raise (pgPart k) 5 else b2, if st = 0 then status else rqOP_FAILED)

/-- The final record of a request, and the status with which it retires; a companion has none (R326). -/
def Block.finalRecord (b : Block) (k s status detail : Nat) : Block × Nat :=
  if b.isCompanion k s then (b, status)
  else b.finalAt k (b.cx k s 8 1 % 16) (b.cxOut k s) (b.cxMaxNew k s) (b.cxReqId k s) (b.cxGen k s) status detail

/-- The home context on this package of a companion names it no more (R304). -/
def Block.unpair (b : Block) (k s : Nat) : Block :=
  let home := b.cx k s 0x50 2
  match b.seqPart home with
  | some j =>
    if b.isCompanion k s ∧ b.cx k s 0x52 1 % 64 = b.slotId ∧ b.cxState j home ≠ cxFREE ∧ b.cx j home 0x50 2 = s then b.setCx j home 0x50 2 0xFFFF
    else b
  | none => b

/-- A context becomes FREE: its KV pages are released and it leaves every list (R237, R306). -/
def Block.freeCtx (b : Block) (k s : Nat) : Block :=
  let b1 := ((b.unpair k s).dropSeq s).setCx k s 6 1 cxFREE
  let x := b1.srv k
  let gone (l : List Nat) : List Nat := l.filter (fun y => decide (y ≠ s))
  (b1.setSrv k { x with order := gone x.order, finals := gone x.finals, due := x.due.filter (fun y => decide (y.1 ≠ s))
                        asked := SMap.erase x.asked s, lused := SMap.erase x.lused s }).setActive k (b1.sv k F.SRV_STAT.ACTIVE - 1)

/-- A request retires at item 1 with its final record (R306). -/
def Block.retireNow (b : Block) (k s status detail : Nat) : Block := (b.finalRecord k s status detail).1.freeCtx k s

/-- A request becomes RETIRING with a status. -/
def Block.toRetiring (b : Block) (k s status : Nat) : Block := (b.setCx k s 6 1 cxRETIRING).setCx k s 0xE 1 status

/-- A final record is written and the request becomes RETIRING. -/
def Block.finish (b : Block) (k s status detail : Nat) : Block :=
  let (b1, st) := b.finalRecord k s status detail
  b1.toRetiring k s st

/-- A request ends at item 1: its final record is written, and its pages go with those of the other retired sequences (R237). -/
def Block.endNow (b : Block) (k s status detail : Nat) : Block :=
  let b1 := b.finish k s status detail
  b1.setSrv k { b1.srv k with due := (b1.srv k).due.filter (fun y => decide (y.1 ≠ s)) }

/-- Its final record is due in phase 7 (R303, R319). -/
def Block.finalLater (b : Block) (k s status : Nat) : Block :=
  let b1 := b.toRetiring k s status
  b1.setSrv k { b1.srv k with finals := (b1.srv k).finals ++ [s] }

/-! ### The length area of a bake (R234) -/

/-- Rounded up to 128 bytes. -/
def up128 (n : Nat) : Nat := ceilDiv n 128 * 128

/-- Offsets of the length table's four arrays for `n` entries at `base`. -/
def lenRow (base n i : Nat) : Nat := base + up128 (16 * n) + 4 * i
def lenKeep (base n i : Nat) : Nat := base + up128 (16 * n) + up128 (4 * n) + 4 * i
def lenTok (base n r : Nat) : Nat := base + up128 (16 * n) + 2 * up128 (4 * n) + 4 * r

/-- LEN_BASE and LEN_COUNT of the bake of a partition. -/
def Block.lenBase (b : Block) (k : Nat) : Nat := b.m64 ((b.bake k).desc + 0x20) % 2 ^ 41
def Block.lenCount (b : Block) (k : Nat) : Nat := b.m32 ((b.bake k).desc + 0x28)

/-- A length-table entry. -/
structure LenEntry where
  seq : Nat
  kind : Nat
  tenant : Nat
  draft : Nat
  qLen : Nat
  ctx : Nat
  step : Nat
deriving DecidableEq, Repr

/-- Its 16 bytes. -/
def LenEntry.bytes (e : LenEntry) : List Byte :=
  leBytes 2 (e.seq % 16384 + e.kind * 16384) ++ leBytes 2 (e.tenant % 4096 + e.draft * 4096) ++ leBytes 4 e.qLen ++ leBytes 4 e.ctx ++ leBytes 4 e.step

/-- Entry `i` of the length table of the bake. -/
def Block.lenEntry (b : Block) (k i : Nat) : LenEntry :=
  let a := b.lenBase k + 16 * i
  { seq := b.m16 a % 16384, kind := b.m16 a / 16384, tenant := b.m16 (a + 2) % 4096, draft := b.m16 (a + 2) / 4096
    qLen := b.m32 (a + 4), ctx := b.m32 (a + 8), step := b.m32 (a + 12) }

/-- The entries of the finishing bake in table order. -/
def Block.lenEntries (b : Block) (k : Nat) : List (Nat × LenEntry) := (List.range (b.srv k).ltab.length).map (fun i => (i, b.lenEntry k i))

/-! ### Failures (R323) -/

/-- The failing completion records of the bake: the length-table entry they name, if any, and the status. -/
def Block.failRecords (b : Block) (k : Nat) : List (Option Nat × Nat) :=
  let d := (b.bake k).desc
  let comp := b.m64 (d + 0x58) % 2 ^ 41
  (List.range (b.m32 (d + 0x48))).flatMap (fun j =>
    let o := b.opDesc (b.m64 (d + 0x40)) j
    let src := odSrc o 0
    (List.range (odWorkers o)).filterMap (fun slot =>
      let st := b.m16 (comp + odCompOff o + 16 * slot + 4)
      if st % 256 < 16 then none else some (if src % 16 = 3 ∨ src % 16 = 4 then some (src / 16) else none, st)))

/-- The failing status that applies to entry `i`. -/
def failFor (recs : List (Option Nat × Nat)) (i : Nat) : Option Nat :=
  (recs.find? (fun r => decide (r.1 = none) || decide (r.1 = some i))).map Prod.snd

/-- A request fails at item 1. -/
def Block.failRequest (b : Block) (k s detail : Nat) : Block :=
  (((b.bumpWrap (pgPart k) F.SRV_FAIL_CNT.FAIL_REQ_CNT).raise (pgPart k) 4).reportPart (pgPart k) 0x0905 k).endNow k s rqOP_FAILED detail

/-- The requests that failed operations touch: sequence and first status. -/
def Block.failedSeqs (b : Block) (k : Nat) : List (Nat × Nat) :=
  let d := (b.bake k).desc
  let n := b.m64 (d + 0x70)
  if n = 0 then []
  else
    let recs := b.failRecords k
    let lost := decide (recs.length < n)
    let other := bits (b.m64 (d + 0x68)) 32 16
    (b.lenEntries k).filterMap (fun p =>
      if !b.ctxRuns k p.2.seq then none
      else
        match failFor recs p.1 with
        | some st => if p.2.qLen = 0 ∧ failFor (recs.filter (fun r => decide (r.1 ≠ none))) p.1 = none then none else some (p.2.seq, st)
        | none => if lost && decide (p.2.qLen ≠ 0) then some (p.2.seq, other) else none)

/-! ### KEEP (R237 item 1, R244, R250) -/

/-- Status of a request that KEEP retires. -/
def keepStatus (code : Nat) : Nat := if code = 0x0A04 then rqNO_COMMIT else rqBAD_KEEP

/-- KEEP of one entry: the sequence record, the token area, STEP and P_DONE follow. Requests already retired are skipped. -/
def Block.keepEntry (b : Block) (k : Nat) (p : Nat × LenEntry) (failed : List Nat) : Block :=
  let (i, e) := p
  if failed.contains e.seq ∨ e.qLen = 0 ∨ b.cxState k e.seq = cxFREE then b
  else
    let keep := b.m32 (lenKeep (b.lenBase k) (b.lenCount k) i)
    let row := b.m32 (lenRow (b.lenBase k) (b.lenCount k) i)
    if b.cxState k e.seq = cxRETIRING ∧ keep = 0xFFFFFFFF then b
    else
      let (b1, code) := b.applyKeep e.seq e.kind e.qLen e.ctx keep
      let b2 := b1.setCx k e.seq 0x3C 4 (e.step + 1)
      if code ≠ 0 then (if b.ctxRuns k e.seq then b2.endNow k e.seq (keepStatus code) 0 else b2)
      else
        let b3 := b2.setCx k e.seq 0x24 4 (min (b2.cxPLen k e.seq) (b2.cxPDone k e.seq + keep))
        b3.keepTokens e.seq (e.ctx - e.qLen) ((List.range keep).map (fun j => b.m32 (lenTok (b.lenBase k) (b.lenCount k) (row + j))))

/-! ### Item 1 (R49, R237) -/

/-- A continuing sequence keeps the pages below KV_LEN (R237 item 3). -/
def Block.trimSeq (b : Block) (s : Nat) : Block :=
  let r := b.seqRec s
  b.trimPages s (ceilDiv r.kvLen (b.pool r.pool).pageTokens)

/-- A sequence that has waited KV_WAIT_MAX bakes retires (R238). -/
def Block.exhausted (b : Block) (k s : Nat) : Block :=
  (((b.bump pgKvm F.KVM_WAIT_CNT.EXHAUST_CNT).raise pgKvm 1).reportPart pgKvm 0x0A01 k).endNow k s rqKV_EXHAUSTED 0

/-- The status with which a request retires at item 1 on grounds other than its bake (R238, R308, R324). -/
def Block.dueStatus (b : Block) (k s : Nat) : Option Nat :=
  match (b.srv k).due.find? (fun x => decide (x.1 = s)) with
  | some x => some x.2
  | none => if b.ctxRuns k s && (b.srv k).badTen.contains (b.cxTenant k s) then some rqBAD_TENANT else none

/-- A sequence ends at item 1 on grounds other than its bake: its final record is written. A companion has none. -/
def Block.endSeq (b : Block) (k s : Nat) : Block :=
  match b.dueStatus k s with
  | some st => b.endNow k s st 0
  | none =>
    if b.cxState k s = cxRETIRING then b
    else if b.eff pgKvm F.KVM_ADMIT.KV_WAIT_MAX ≤ (b.seqRec s).waitBakes then b.exhausted k s
    else if b.isCompanion k s ∧ b.sv k F.SRV_X_DRAFT.DRAFT_IDLE ≤ b.cx k s 0x54 4 then b.toRetiring k s 0
    else b

/-- The active sequences in the order of item 1: the length table of the finishing bake, then any that it does not list. -/
def Block.item1Order (b : Block) (k : Nat) : List Nat :=
  let t := (b.srv k).ltab
  t ++ (b.activeSeqs k).filter (fun s => !t.contains s)

/-- Every retired sequence gives its pages back and becomes FREE (R237 item 2). -/
def Block.freeRetired (b : Block) (k : Nat) (ss : List Nat) : Block :=
  ss.foldl (fun b s => if b.cxState k s = cxRETIRING then b.freeCtx k s else b) b

/-- Item 1 of R49 for a bake numbered `bakeNo`: requests end, the KVM does items 1 to 4 of R237, each over the length table in its order, loads are added, barriers
close, stale entries go (R175) and receive windows are freed (R369). -/
def Block.item1 (b : Block) (k bakeNo : Nat) : Block :=
  let es := b.lenEntries k
  let bad := b.failedSeqs k
  let b1 := bad.foldl (fun b x => b.failRequest k x.1 x.2) b
  let b2 := es.foldl (fun b p => b.keepEntry k p (bad.map Prod.fst)) b1
  let ord := b2.item1Order k
  let b3 := (ord.foldl (fun b s => b.endSeq k s) b2).freeRetired k ord
  let ran := (es.map (fun p => p.2.seq)).filter (b3.ctxRuns k)
  let b4 := ran.foldl Block.freezePages (ran.foldl Block.trimSeq b3)
  let b5 := (b4.addLoads k).closeBars k
  let b6 := b5.discardEntries (fun _ e => decide (e.part = k) && decide (e.bakeTag ≠ bakeNo % 256))
  (b6.freeWindows k).setSrv k { (b6.freeWindows k).srv k with badTen := [], ltab := [], drafts := [], finals := [] }

end Sys2Proof.Machine
end

