-- ==== Sys2Proof/Machine/Boundary.lean ====
section
/-! DEFINITION. The boundary of a bake (R49): tenants and models, admission (R301, R322), companions (R326), the ratio governor
(R318), the length table and the bake descriptor (R132, R234, R317) and the plan expansion (R172 to R174).
Log entries 33 (DESIGN CHOICE, safe), 37 (DEDUCED, unsafe), 75 (DEDUCED, unsafe). -/
namespace Sys2Proof.Machine

/-- The members of rack partition `k` at a step start tick (R46, R178): the packages that say so in their timestamp sets, are
heard and reachable, and are not in the safe state. -/
def Block.membersOf (b : Block) (k : Nat) : Nat :=
  let own := if b.enabled (pgPart k) && b.synced && !b.safe then 2 ^ b.slotId else 0
  (b.tb.heard.filter (fun h => bit h.2.partEn k && b.stillHeard h.2 && b.reachable h.1
    && !bit (b.eff pgGfab F.FAB_SAFE_SEEN.SAFE) h.1)).foldl (fun m h => setBits m h.1 1 1) own

/-- Item 2: a staged MODEL is switched in when it is HOT (R315). -/
def Block.modelSwitch (b : Block) (k bakeNo : Nat) : Block :=
  let p := pgPart k
  let m := b.sv k F.SRV_MODEL.MODEL
  if m = 0xFF ∨ m = b.sv k F.SRV_MODEL.ACTIVE_MODEL ∨ bakeNo < b.sv k F.SRV_MODEL_BAKE.MODEL_BAKE then b.put p F.SRV_MODEL.SWITCHING 0
  else if (b.brd m).st = bbHOT ∧ (b.brd m).isMain ∧ (b.brd m).part = k then
    ((b.put p F.SRV_MODEL.ACTIVE_MODEL m).put p F.SRV_MODEL.SWITCHING 0).setSrv k { b.srv k with skewFor := 0xFF }
  else
    let b1 := b.put p F.SRV_MODEL.SWITCHING 1
    if (b.srv k).skewFor = m then b1
    else ((b1.setSrv k { b1.srv k with skewFor := m }).raise p 6).reportPart p 0x0906 k

/-- Item 2 of R49 beside the commits: tenant updates and the model switch. -/
def Block.item2 (b : Block) (k bakeNo : Nat) : Block :=
  ((b.commitPart k).tenTakes k (b.sv k F.SRV_X_ADMIT.TEN_UPD_MAX)).modelSwitch k bakeNo

/-! ### Draft lengths (R325) -/

/-- DRAFT_MAX of a draft model on a slot. -/
def Block.draftMaxOf (b : Block) (slot m : Nat) : Nat :=
  if slot = b.slotId then (if (b.brd m).isDraft then mdDraftMax (b.brd m).desc else 0) else min 8 (Config.peerDraftMax slot m)

/-- Lmax of a request with entry flags `flags`. -/
def Block.lmax (b : Block) (k t flags : Nat) : Nat :=
  if bit flags 0 || bit flags 2 || !b.tenDraftEn k t then 0
  else min (min (b.tenDraftMax k t) (b.draftMaxOf (b.tenDraftSlot k t) (b.tenDraftModel k t))) (b.sv k F.SRV_CFG.DRAFT_CAP)

/-- Lused that a DECODE context asks for in its next bake. -/
def Block.nextLused (b : Block) (k s : Nat) : Nat :=
  let l := b.cx k s 0xA 1
  let lm := b.lmax k (b.cxTenant k s) (b.cxFlags k s)
  let u := if 0 < l then l else if 0 < lm ∧ b.sv k F.SRV_SPEC.PROBE_BAKES ≤ b.cx k s 0xC 2 then 1 else 0
  min u (b.cxMaxNew k s - b.cxGen k s - 1)

/-! ### Admission (R301, R305, R322) -/

/-- The fields of a ring entry (R299). -/
structure RingEntry where
  op : Nat
  flags : Nat
  tenant : Nat
  reqId : Nat
  deadline : Nat
  prompt : Nat
  pLen : Nat
  maxNew : Nat
  out : Nat
  model : Nat
  pool : Nat
  topK : Nat
  invTemp : Nat
  topP : Nat
  stop : Nat
  seqReq : Nat
  badResv : Bool
deriving DecidableEq, Repr

/-- The entry in 64 bytes. -/
def ringEntry (e : List Byte) : RingEntry :=
  { op := field e 0 1, flags := field e 1 1, tenant := field e 2 2 % 4096, reqId := field e 4 4, deadline := field e 8 8
    prompt := field e 0x10 8, pLen := field e 0x18 4, maxNew := field e 0x1C 4, out := field e 0x20 8, model := field e 0x28 1
    pool := field e 0x29 1 % 16, topK := field e 0x2A 2, invTemp := field e 0x2C 4, topP := field e 0x30 4, stop := field e 0x34 4
    seqReq := field e 0x38 2
    badResv := decide (32 ≤ field e 1 1) || decide (4096 ≤ field e 2 2) || decide (16 ≤ field e 0x29 1)
      || decide (16384 ≤ field e 0x38 2) || decide (field e 0x3A 2 ≠ 0) || decide (field e 0x3C 4 ≠ 0) }

def RingEntry.mini (e : RingEntry) : Bool := bit e.flags 0
def RingEntry.seqFix (e : RingEntry) : Bool := bit e.flags 4

/-- The model that serves an entry: the tenant's distilled model with MINI. -/
def Block.entryModel (b : Block) (k : Nat) (e : RingEntry) : Nat := if e.mini then b.tenDraftModel k e.tenant else e.model

/-- A pool that a partition may use: ON and its own. -/
def Block.poolUsable (b : Block) (k p : Nat) : Bool := decide (b.poolState p = poON) && decide ((b.pool p).part = k)

/-- A pool has a geometry: it is not OFF. -/
def Block.poolKnown (b : Block) (p : Nat) : Bool := decide (b.poolState p ≠ poOFF)

/-- BAD_ENTRY (R322). A bound by a pool or model that does not exist is not tested here. -/
def Block.badRingEntry (b : Block) (k : Nat) (e : RingEntry) : Bool :=
  let m := b.brd (b.entryModel k e)
  let first := b.sv k F.SRV_SEQ.SEQ_FIRST
  decide (e.op ≠ 1) || e.badResv || decide (e.pLen = 0) || (b.poolKnown e.pool && decide (b.maxContext e.pool < e.pLen))
    || decide (e.maxNew = 0) || decide (1048575 < e.maxNew) || decide (e.prompt % 128 ≠ 0) || decide (e.out % 16 ≠ 0)
    || (b.localOff e.prompt).isNone || (b.localOff e.out).isNone || decide (1024 < e.topK)
    || (m.resident && decide (mdVocab m.desc < e.topK))
    || (decide (0 < e.topK) && (decide (e.topP = 0) || decide (0x3F800000 < e.topP)))
    || (e.seqFix && (decide (e.seqReq < first) || decide (first + b.sv k F.SRV_SEQ.SEQ_COUNT ≤ e.seqReq)))

/-- The admission checks in their order (R322): the status of a rejection. -/
def Block.checkEntry (b : Block) (k tick : Nat) (e : RingEntry) : Option Nat :=
  let m := b.brd (b.entryModel k e)
  if b.badRingEntry k e then some rqBAD_ENTRY
  else if !b.tenValid k e.tenant || (!e.mini && b.tenStarter k e.tenant && decide (b.ten k e.tenant 5 1 ≠ e.model)) then some rqBAD_TENANT
  else if (if e.mini then decide (b.tenDraftSlot k e.tenant ≠ b.slotId) || !m.ready || !m.isDraft || decide (m.part ≠ k)
      else !m.ready || !m.isMain || decide (m.part ≠ k)) then some rqNO_MODEL
  else if e.deadline ≠ 0 ∧ e.deadline ≤ tick then some rqDEADLINE
  else if b.poolKnown e.pool ∧ b.maxContext e.pool < e.pLen + e.maxNew then some rqKV_LIMIT
  else if !b.poolUsable k e.pool then some rqKV_POOL
  else none

/-- A rejected entry: its final record and the counts. -/
def Block.rejectEntry (b : Block) (k r : Nat) (e : RingEntry) (st : Nat) : Block :=
  let b1 := (b.finalAt k r e.out e.maxNew e.reqId 0 st 0).1.bumpWrap (pgPart k) F.SRV_REJECT_CNT.REJECT_CNT
  if st = rqKV_POOL then b1.reportPart pgKvm 0x0A07 k else b1

/-- The SEQ_ID that a request takes (R305): the lowest FREE one, or the one it asks for. -/
def Block.pickSeq (b : Block) (k : Nat) (fix : Option Nat) : Option Nat :=
  match fix with
  | some s => if b.cxState k s = cxFREE then some s else none
  | none => (b.seqRange k).find? (fun s => decide (b.cxState k s = cxFREE))

/-- Pages that a sequence needs to reach a context length (R238). -/
def Block.pagesFor (b : Block) (s ctx : Nat) : Nat :=
  let r := b.seqRec s
  ceilDiv ctx (b.pool r.pool).pageTokens - r.held

/-- The KV manager takes records and page lists: it has cleared the records, and has a place for both (R253, R254). -/
def Block.kvmReady (b : Block) : Bool :=
  b.enabled pgKvm && b.kvmZeroed && decide (b.eff pgKvm F.KVM_SEQ_BASE.SEQ_BASE ≠ 0) && decide (b.eff pgKvm F.KVM_PL_BASE.PL_BASE ≠ 0)

/-- A KV record with the pages of the first bake (R237 item 5, R238); `none` when the pool's reserve would be touched. `prompt`
is none where no prompt tokens can be chained. -/
def Block.kvAdmit (b : Block) (k s pool tenant model pLen : Nat) (prompt : Option Nat) (first deadline : Nat) : Option Block :=
  let b1 := match prompt with
    | some a => b.newSeq k s pool tenant model pLen a deadline
    | none => let b2 := b.newSeq 16 s pool tenant model pLen 0 deadline; b2.setSeqRec s { b2.seqRec s with flags := 1 }
  let m := (b1.seqRec s).kvLen
  let n := b1.pagesFor s (m + min (pLen - m) first)
  if b1.free pool < n + (b1.pool pool).reserve then none else some (b1.growPages s n)

/-- The bytes of a new context. -/
def ctxBytes (req tenant state flags ring model l deadline prompt pLen pDone maxNew out last topK invTemp topP stop peer slot : Nat) : List Byte :=
  leBytes 4 req ++ leBytes 2 tenant ++ leBytes 1 state ++ leBytes 1 flags ++ leBytes 1 ring ++ leBytes 1 model ++ leBytes 1 l
    ++ List.replicate 5 0 ++ leBytes 8 deadline ++ leBytes 8 prompt ++ leBytes 4 pLen ++ leBytes 4 pDone ++ leBytes 4 maxNew
    ++ leBytes 4 0 ++ leBytes 8 out ++ leBytes 4 last ++ leBytes 4 0 ++ leBytes 2 topK ++ leBytes 2 0 ++ leBytes 4 invTemp
    ++ leBytes 4 topP ++ leBytes 4 stop ++ leBytes 2 peer ++ leBytes 1 slot ++ List.replicate 45 0

/-- A context is taken. -/
def Block.openCtx (b : Block) (k s : Nat) (bytes : List Byte) : Block :=
  let b1 := (b.privWrite (b.ctxOff k s) bytes).1
  (b1.setSrv k { b1.srv k with order := (b1.srv k).order ++ [s] }).setActive k (b1.sv k F.SRV_STAT.ACTIVE + 1)

/-- A request is admitted (R306), and cancelled at once when a held cancel matches it (R303). -/
def Block.admitCtx (b : Block) (k r s : Nat) (e : RingEntry) : Block :=
  let m := (b.seqRec s).kvLen
  let one := decide (e.pLen = 1)
  let tok := b.m32 (e.prompt % 2 ^ 41)
  let b1 := b.openCtx k s (ctxBytes e.reqId e.tenant (if one then cxDECODE else cxPREFILL) (e.flags % 32) r (b.entryModel k e)
    (b.lmax k e.tenant e.flags) e.deadline e.prompt e.pLen m e.maxNew e.out (if one then tok else 0)
    e.topK e.invTemp e.topP e.stop 0xFFFF (b.tenDraftSlot k e.tenant))
  let b2 := b1.bumpWrap (pgPart k) F.SRV_ADMIT_CNT.ADMIT_CNT
  let x := b2.srv k
  match x.cancels.find? (fun c => decide (c.1 = e.tenant) && decide (c.2.1 = e.reqId)) with
  | some c =>
    ((b2.setSrv k { x with cancels := x.cancels.erase c }).finalLater k s rqCANCELLED).bumpWrap (pgPart k) F.SRV_CANCEL_CNT.CANCEL_CNT
  | none => b2

/-- CANCEL (R303): an active request is cancelled, one that is RETIRING already takes no notice (R306), and with none the cancel is held. -/
def Block.cancelEntry (b : Block) (k : Nat) (e : RingEntry) : Block :=
  match (b.activeSeqs k).find? (fun s => !b.isCompanion k s && decide (b.cxTenant k s = e.tenant) && decide (b.cxReqId k s = e.reqId)) with
  | some s => if b.ctxRuns k s then (b.finalLater k s rqCANCELLED).bumpWrap (pgPart k) F.SRV_CANCEL_CNT.CANCEL_CNT else b
  | none => b.setSrv k { b.srv k with cancels := (b.srv k).cancels ++ [(e.tenant, e.reqId, b.sv k F.SRV_X_ADMIT.CANCEL_HOLD)] }

/-- One entry of a ring: the block, and whether it was consumed. Requests wait until the KV manager is ready (R253). -/
def Block.ringStep (b : Block) (k r tick : Nat) (e : RingEntry) : Block × Bool :=
  if e.op = 0 then (b, true)
  else if e.op = 2 then (b.cancelEntry k e, true)
  else if !b.kvmReady then (b, false)
  else
    match b.checkEntry k tick e with
    | some st => (b.rejectEntry k r e st, true)
    | none =>
        match b.pickSeq k (if e.seqFix then some e.seqReq else none) with
        | none => (b, false)
        | some s =>
          let prompt := if bit e.flags 3 then none else some (e.prompt % 2 ^ 41)
          match b.kvAdmit k s e.pool e.tenant (b.entryModel k e) e.pLen prompt (b.sv k F.SRV_PF0.PF_CHUNK)
              (tick + b.eff pgKvm F.KVM_ADMIT.LOOKUP_DEADLINE * 1000) with
          | some b1 => (b1.admitCtx k r s e, true)
          | none => (b, false)

/-- The entries of a ring from CONS on, at most `n`: the block and the new CONS. -/
def Block.ringLoop (b : Block) (k r tick size : Nat) : Nat → Nat → Block × Nat
  | 0, cons => (b, cons)
  | n + 1, cons =>
    let a := b.ringOff k r + 128 + 64 * (cons % size)
    if b.sv k F.SRV_CFG.ADMIT_STOP = 1 then (b, cons)
    else if b.poisoned a 64 then (b.reportPoison a 64, cons)
    else
      let e := ringEntry (b.mem.read a 64)
      let (b1, ok) := b.ringStep k r tick e
      if ok then b1.ringLoop k r tick size n (cons + 1) else (b, cons)

/-- A broken ring (R302). -/
def Block.ringError (b : Block) (k r : Nat) : Block :=
  (((b.put (pgPart k) F.SRV_RING_CFG.ERR 1 r).bump (pgPart k) F.SRV_ERR_CNT.RING_ERR_CNT).reportPart (pgPart k) 0x0901 k).raise (pgPart k) 0

/-- A ring at item 4. A ring or an entry that cannot be read is reported, and waits (R218).
Log entry 93 (DESIGN CHOICE, unsafe). -/
def Block.readRing (b : Block) (k tick r : Nat) : Block :=
  let p := pgPart k
  if b.eff p F.SRV_RING_CFG.RING_EN r = 0 ∨ b.eff p F.SRV_RING_CFG.ERR r = 1 then b
  else
    let a := b.ringOff k r
    if b.poisoned a 128 then b.reportPoison a 128
    else
    let size := 2 ^ b.eff p F.SRV_RING_CFG.SIZE_LOG2 r
    let prod := b.m64 a
    let cons := b.m64 (a + 0x40)
    if prod < cons ∨ size < prod - cons then b.ringError k r
    else
      let (b1, c) := b.ringLoop k r tick size (prod - cons) cons
      b1.pw (a + 0x40) 8 c

/-- Held cancels expire (R303). -/
def Block.ageCancels (b : Block) (k : Nat) : Block :=
  let x := b.srv k
  let gone := (x.cancels.filter (fun c => decide (c.2.2 = 0))).length
  let b1 := b.setSrv k { x with cancels := (x.cancels.filter (fun c => decide (c.2.2 ≠ 0))).map (fun c => (c.1, c.2.1, c.2.2 - 1)) }
  if gone = 0 then b1 else b1.bump (pgPart k) F.SRV_ERR_CNT.CANCEL_MISS_CNT 0 gone

/-! ### Companions (R326) -/

/-- The companion of a draft request. -/
def Block.findCompanion (b : Block) (k : Nat) (d : Draft) : Option Nat :=
  (b.activeSeqs k).find? (fun s => b.ctxRuns k s && b.isCompanion k s && decide (b.cx k s 0x52 1 % 64 = d.src) && decide (b.cx k s 0x50 2 = d.homeSeq)
    && decide (b.cxTenant k s = d.tenant) && decide (b.cxModel k s = d.model))

/-- A companion context is admitted by the checks and the KV test of a ring entry. A home on this package names it from then on (R304). -/
def Block.admitCompanion (b : Block) (k tick : Nat) (d : Draft) : Block × Option Nat :=
  let m := b.brd d.model
  if b.sv k F.SRV_CFG.ADMIT_STOP = 1 ∨ !b.tenValid k d.tenant ∨ !m.ready ∨ !m.isDraft ∨ m.part ≠ k ∨ b.tenDraftSlot k d.tenant ≠ b.slotId
      ∨ b.tenDraftModel k d.tenant ≠ d.model ∨ !b.poolUsable k d.pool
      ∨ b.maxContext d.pool < d.homeLen + 1 + d.lused ∨ !b.kvmReady then (b, none)
  else
    match b.pickSeq k none with
    | none => (b, none)
    | some s =>
      match b.kvAdmit k s d.pool d.tenant d.model d.homeLen none (b.sv k F.SRV_PF0.PF_CHUNK) tick with
      | none => (b, none)
      | some b1 =>
        let b2 := b1.openCtx k s (ctxBytes 0 d.tenant cxPREFILL 32 0 d.model 0 0 0 d.homeLen 0 0 0 0 0 0 0 0xFFFFFFFF d.homeSeq d.src)
        (match b2.seqPart d.homeSeq with
          | some j => if d.src = b.slotId then b2.setCx j d.homeSeq 0x50 2 s else b2
          | none => b2, some s)

/-- A draft request of the bake: its companion, which counts the bakes without a request. -/
def Block.takeDraft (b : Block) (k tick : Nat) (d : Draft) : Block :=
  let (b1, c) := match b.findCompanion k d with
    | some s => (b, some s)
    | none => b.admitCompanion k tick d
  let b2 : Block := match c with
    | some s =>
      let have_ := (b1.seqRec s).kvLen
      let st := if 2 < d.homeLen + 1 - have_ then cxPREFILL else cxDECODE
      (((b1.setCx k s 0x54 4 0).setCx k s 6 1 st).setCx k s 0x20 4 d.homeLen).setCx k s 0x24 4 have_
    | none => b1
  b2.setSrv k { b2.srv k with drafts := (b2.srv k).drafts ++ [{ d with comp := c }] }

/-- Draft requests come in order of home slot and home SEQ_ID. -/
def draftBefore (x y : Draft) : Bool := decide (x.src < y.src) || (decide (x.src = y.src) && decide (x.homeSeq ≤ y.homeSeq))

/-- Companions first: each one has been without a request for one bake more, unless it has one. -/
def Block.companions (b : Block) (k tick : Nat) : Block :=
  let idle := (b.activeSeqs k).filter (fun s => b.isCompanion k s)
  let b1 := idle.foldl (fun b s => b.setCx k s 0x54 4 (b.cx k s 0x54 4 + 1)) b
  let ds := sortBy draftBefore (b1.srv k).draftsIn
  ds.foldl (fun b d => b.takeDraft k tick d) (b1.setSrv k { b1.srv k with draftsIn := [], drafts := [] })

/-- DRAFT_REQ: a draft request of a home for the next bake (R326); the last one of a sequence counts.
Log entries 32 (DEDUCED, unsafe), 38 (DESIGN CHOICE, unsafe). -/
def Block.draftReq (b : Block) (k : Nat) (d : Draft) : Block :=
  let x := b.srv k
  b.setSrv k { x with draftsIn := x.draftsIn.filter (fun y => !(decide (y.src = d.src) && decide (y.homeSeq = d.homeSeq))) ++ [d] }

/-- Item 4 of R49 at tick `tick`. -/
def Block.item4 (b : Block) (k tick : Nat) : Block :=
  ((List.range 16).foldl (fun b r => b.readRing k tick r) (b.companions k tick)).ageCancels k

/-! ### The ratio governor (R318) -/

/-- The draft request that a companion serves in the bake. -/
def Block.draftOf (b : Block) (k s : Nat) : Option Draft := (b.srv k).drafts.find? (fun d => decide (d.comp = some s))

/-- Draft models with companion or MINI entries, ascending. -/
def Block.draftModels (b : Block) (k : Nat) : List Nat :=
  let mini := ((b.activeSeqs k).filter (fun s => b.ctxRuns k s && b.isMini k s)).map (b.cxModel k)
  let comp := ((b.srv k).drafts.filter (fun d => d.comp.isSome)).map Draft.model
  (sortBy (fun x y => decide (x ≤ y)) (mini ++ comp)).eraseDups

/-- The active main model's descriptor. -/
def Block.mainDesc (b : Block) (k : Nat) : Option (List Byte) :=
  let m := b.sv k F.SRV_MODEL.ACTIVE_MODEL
  if m ≠ 0xFF ∧ (b.brd m).isMain then some (b.brd m).desc else none

/-- PLAN_LEN of a plan. -/
def Block.planLen (b : Block) (plan : Nat) : Nat := b.m32 (plan % 2 ^ 41 + 0x1C)

/-- The draft plans of the bake (R327): model, plan and start from T, those that end within the draft window. -/
def Block.draftPlans (b : Block) (k : Nat) : List (Nat × Nat × Nat) :=
  match b.mainDesc k with
  | none => []
  | some d =>
    let off := field d 0x58 4
    let len := field d 0x5C 4
    ((b.draftModels k).foldl (fun (a : List (Nat × Nat × Nat) × Nat) m =>
      let plan := mdPlan (b.brd m).desc 3
      let n := b.planLen plan
      if (b.brd m).isDraft ∧ a.2 + n ≤ len then (a.1 ++ [(m, plan % 2 ^ 41, off + a.2)], a.2 + n) else a) (([] : List (Nat × Nat × Nat)), 0)).1

/-- The model of a sequence runs in the bake (R315, R327, R331). -/
def Block.modelRuns (b : Block) (k s : Nat) : Bool :=
  if b.isCompanion k s then (b.draftOf k s).isSome && (b.draftPlans k).any (fun p => decide (p.1 = b.cxModel k s))
  else if b.isMini k s then (b.draftPlans k).any (fun p => decide (p.1 = b.cxModel k s))
  else decide (b.cxModel k s = b.sv k F.SRV_MODEL.ACTIVE_MODEL)

/-- The deadline of a running request has passed at the step start tick (R319). -/
def Block.deadlinePast (b : Block) (k tick s : Nat) : Bool := decide (b.cxDeadline k s ≠ 0) && decide (b.cxDeadline k s ≤ tick)

/-- A sequence will run in the bake that starts. -/
def Block.willRun (b : Block) (k tick s : Nat) : Bool := b.ctxRuns k s && !b.deadlinePast k tick s && b.modelRuns k s

/-- Lused of the bake (R325): what was asked for, if DRAFT_SLOT was a member at the previous step start tick. -/
def Block.lusedOf (b : Block) (k s : Nat) : Nat :=
  if bit (b.srv k).prevMembers (b.tenDraftSlot k (b.cxTenant k s)) then SMap.get 0 (b.srv k).asked s else 0

/-- C of a companion (R326). -/
def Block.catchUp (b : Block) (s : Nat) (d : Draft) : Nat := d.homeLen + 1 - (b.seqRec s).kvLen

/-- Query positions of a DECODE entry. -/
def Block.decodeLen (b : Block) (k s : Nat) : Nat :=
  match b.draftOf k s with
  | some d => b.catchUp s d + d.lused - 1
  | none => if b.isMini k s then 1 else 1 + b.lusedOf k s

/-- Order of the live tiles (R182, R318). -/
def rankedTiles (ts : List Nat) : List Nat := sortBy (fun x y => decide (riseRank x ≤ riseRank y)) ts

/-- The size of the prefill pool (R318). -/
def Block.ratio (b : Block) (k n cur dp dd : Nat) : Nat :=
  let t0 := if dp = 0 ∧ dd = 0 then cur else n * 16 * dp / (16 * dp + b.sv k F.SRV_RATIO1.DEC_WEIGHT * dd)
  let t1 := if ((t0 : Int) - cur).natAbs < b.sv k F.SRV_RATIO1.HYST then cur else t0
  let step := b.sv k F.SRV_RATIO1.STEP_MAX
  let t2 := max (min t1 (cur + step)) (cur - step)
  let t3 := max (b.sv k F.SRV_RATIO0.PF_MIN) (min t2 (min (b.sv k F.SRV_RATIO0.PF_MAX) n))
  let t4 := if 0 < dp then max t3 1 else t3
  if 0 < dd then min t4 (n - 1) else t4

/-- The overdue tile that the ratio governor withholds for the bake (R459): the one overdue longest, then the lowest; the tile
withheld before rejoins. It takes its whole bake as a declared idle window. -/
def Block.withholdTile (b : Block) (k tick : Nat) : Block :=
  let b0 := match SMap.find b.fcol.withheld k with
    | some t => { b.setTile t { b.tile t with idleWin := none } with fcol := { b.fcol with withheld := SMap.erase b.fcol.withheld k } }
    | none => b
  if b.eff pgFlt F.FLT_KNOCK.KNOCK_FORCE = 0 ∨ b.eff pgFlt F.FLT_KNOCK.KNOCK_EN = 0 then b0
  else
    let late := b0.fcol.overdue.filter (fun e => (b0.liveTiles k).contains e.1)
    match late with
    | [] => b0
    | e :: es =>
      let t := (es.foldl (fun (m : Nat × Nat) x => if x.2 < m.2 then x else m) e).1
      let b1 := b0.setTile t { b0.tile t with idleWin := some (tick, 2 ^ 64) }
      { b1 with fcol := { b1.fcol with withheld := SMap.set b1.fcol.withheld k t } }

/-- Item 5 of R49: due tiles leave their pool (R129), and the governor splits the live tiles (R318). -/
def Block.item5 (b : Block) (k tick : Nat) : Block :=
  let b1 := (List.range 288).foldl (fun b t =>
    let x := b.tile t
    if b.tilePart t = k ∧ b.enabled (pgTile t) ∧ x.retireDue ≠ 0 then b.setTile t x.fallDue else b) (b.withholdTile k tick)
  let live := rankedTiles (b1.liveTiles k)
  let run := (b1.activeSeqs k).filter (b1.willRun k tick)
  let pre := run.filter (fun s => decide (b1.cxState k s = cxPREFILL))
  let dec := run.filter (fun s => decide (b1.cxState k s = cxDECODE))
  let dp := min (b1.sv k F.SRV_PF1.PF_BUDGET) (pre.foldl (fun n s => n + (b1.cxPLen k s - b1.cxPDone k s)) 0)
  let dd := dec.foldl (fun n s => n + b1.decodeLen k s) 0
  let cur := (live.filter (fun t => (b1.srv k).pf.contains t)).length
  let t := b1.ratio k live.length cur dp dd
  let pf := live.take t
  let b2 := (List.range 288).foldl (fun b i =>
    if b.tilePart i ≠ k then b
    else b.put (pgTile i) F.TIL_ASSIGN.POOL (if pf.contains i then 0 else if live.contains i then 1 else 2)) b1
  ((b2.setSrv k { b2.srv k with pf := pf }).put (pgPart k) F.SRV_POOLS.PF_TILES pf.length).put (pgPart k) F.SRV_POOLS.DEC_TILES (live.length - pf.length)

/-! ### The length table (R234, R317) -/

/-- A length table as it is built: entries, their first rows, tokens, rows so far and prefill rows so far. -/
structure LenBuild where
  entries : List LenEntry
  rows : List Nat
  toks : List Nat
  total : Nat
  pfTotal : Nat
deriving DecidableEq, Repr

/-- The order of R317: DECODE entries (and those that wait to be freed) from a SEQ_ID that rotates with BAKE_NO, then PREFILL
entries in admission order. -/
def Block.lenOrder (b : Block) (k bakeNo : Nat) : List Nat :=
  let n := b.sv k F.SRV_SEQ.SEQ_COUNT
  let all := b.seqRange k
  let rot := all.drop (bakeNo % max n 1) ++ all.take (bakeNo % max n 1)
  rot.filter (fun s => decide (b.cxState k s = cxDECODE) || decide (b.cxState k s = cxRETIRING))
    ++ (b.srv k).order.filter (fun s => decide (b.cxState k s = cxPREFILL))

/-- Query positions that an entry wants. -/
def Block.wantLen (b : Block) (k tick s pfRows : Nat) : Nat :=
  if !b.willRun k tick s then 0
  else if b.cxState k s = cxDECODE then b.decodeLen k s
  else min (min (b.sv k F.SRV_PF0.PF_CHUNK) (b.cxPLen k s - b.cxPDone k s)) (b.sv k F.SRV_PF1.PF_BUDGET - pfRows)

/-- The committed token of a home sequence of this package at a position: from the token area, and last the context (R326). -/
def Block.homeToken (b : Block) (home pos : Nat) : Nat :=
  let r := b.seqRec home
  let q := b.pool r.pool
  if pos < r.kvLen then b.m32 (q.tokArea (b.plEntry home (pos / q.pageTokens)) + 4 * (pos % q.pageTokens)) else
    match b.seqPart home with
    | some k => b.cxLast k home
    | none => 0

/-- The input tokens of an entry (R235, R316, R317, R326). `toks` gives the tokens that homes on other packages hold, by home
slot × 16,384 + SEQ_ID. -/
def Block.inputToks (b : Block) (k s q : Nat) (toks : List (Nat × List Nat)) : List Nat :=
  let have_ := (b.seqRec s).kvLen
  match b.draftOf k s with
  | some d =>
    if d.src = b.slotId then (List.range q).map (fun j => b.homeToken d.homeSeq (have_ + j))
    else
      let l := ((toks.find? (fun t => decide (t.1 = d.src * 16384 + d.homeSeq))).map Prod.snd).getD []
      (List.range q).map (fun j => l.getD j (l.getLastD 0))
  | none =>
    if b.cxState k s = cxPREFILL then
      (List.range q).map (fun j => b.m32 (b.cx k s 0x18 8 % 2 ^ 41 + 4 * (b.cxPDone k s + j)))
    else List.replicate q (b.cxLast k s)

/-- Growth of a sequence (R238): the block, and whether its pages are there. -/
def Block.growSeq (b : Block) (s ctx : Nat) : Block × Bool :=
  let r := b.seqRec s
  let n := b.pagesFor s ctx
  if n ≤ b.free r.pool then
    let b1 := b.growPages s n
    (b1.setSeqRec s { b1.seqRec s with flags := setBits r.flags 1 1 0, waitBakes := 0 }, true)
  else
    ((b.setSeqRec s { r with flags := setBits r.flags 1 1 1, waitBakes := r.waitBakes + 1 }).bump pgKvm F.KVM_WAIT_CNT.KV_WAIT_CNT, false)

/-- A sequence whose context would pass the largest one retires at the next boundary (R238). -/
def Block.kvLimit (b : Block) (k s : Nat) : Block :=
  (b.setSrv k { b.srv k with due := (b.srv k).due ++ [(s, rqKV_LIMIT)] }).reportPart pgKvm 0x0A02 k

/-- Query positions that an entry gets: room, the largest context and pages decide (R238, R317). -/
def Block.giveLen (b : Block) (k s want total : Nat) : Block × Nat :=
  let r := b.seqRec s
  if want = 0 then (b, 0)
  else if b.eff pgMoe F.MOE_CFG.MAX_ROWS < total + want then (b.setCx k s 0x58 4 (b.cx k s 0x58 4 + 1), 0)
  else
    let b1 := b.setCx k s 0x58 4 0
    if b1.maxContext r.pool < r.kvLen + want then (b1.kvLimit k s, 0)
    else
      let (b2, ok) := b1.growSeq s (r.kvLen + want)
      (b2, if ok then want else 0)

/-- The draft request of an entry learns its place in the table and what its companion proposes (R327). -/
def Block.markDraft (b : Block) (k s idx q : Nat) : Block :=
  let x := b.srv k
  b.setSrv k { x with drafts := x.drafts.map (fun (d : Draft) => if d.comp = some s then
    { d with idx := idx, n := if b.cxState k s = cxDECODE ∧ 0 < q then d.lused else 0, c := b.catchUp s d % 256 } else d) }

/-- One entry of the length table. -/
def Block.addEntry2 (b : Block) (k tick : Nat) (toks : List (Nat × List Nat)) (a : LenBuild) (s : Nat) : Block × LenBuild :=
  let st := b.cxState k s
  let (b1, q) := b.giveLen k s (b.wantLen k tick s a.pfTotal) a.total
  let i := a.entries.length
  let kind := if st = cxPREFILL then 1 else if st = cxDECODE then 2 else 0
  let e : LenEntry := { seq := s, kind := kind, tenant := b1.cxTenant k s, draft := if kind = 2 then q - 1 else 0, qLen := q
                        ctx := (b1.seqRec s).kvLen + q, step := b1.cx k s 0x3C 4 }
  let b2 := ((b1.setCx k s 0xF 1 i).setCx k s 0x5C 4 i).markDraft k s i q
  let b3 := b2.setSrv k { b2.srv k with lused := SMap.set (b2.srv k).lused s (if kind = 2 ∧ (b2.draftOf k s).isNone then q - 1 else 0) }
  (b3, { entries := a.entries ++ [e], rows := a.rows ++ [a.total], toks := a.toks ++ b3.inputToks k s q toks, total := a.total + q
         pfTotal := if kind = 1 then a.pfTotal + q else a.pfTotal })

/-- The whole table. -/
def Block.buildLen (b : Block) (k tick : Nat) (toks : List (Nat × List Nat)) (ss : List Nat) : Block × LenBuild :=
  ss.foldl (fun x s => x.1.addEntry2 k tick toks x.2 s) (b, { entries := [], rows := [], toks := [], total := 0, pfTotal := 0 })

/-- KEEP as preset (R234). -/
def keepPreset (e : LenEntry) : Nat := if e.qLen = 0 then 0 else if e.kind = 1 then e.qLen else 0xFFFFFFFF

/-- The four arrays at `base` (R234). -/
def Block.writeLen (b : Block) (base : Nat) (a : LenBuild) : Block :=
  let n := a.entries.length
  let words (l : List Nat) : List Byte := l.flatMap (leBytes 4)
  let put (b : Block) (off : Nat) (bs : List Byte) : Block := if bs.isEmpty then b else (b.privWrite off bs).1
  put (put (put (put b base (a.entries.flatMap LenEntry.bytes)) (lenRow base n 0) (words a.rows)) (lenKeep base n 0)
    (words (a.entries.map keepPreset))) (lenTok base n 0) (words a.toks)

/-! ### The bake descriptor and the plan (R132, R133, R172 to R174) -/

/-- COUNT_LEN: one more than the highest count-array entry that an operation or a layer record of the model names. -/
def Block.countLen (b : Block) (d : List Byte) : Nat :=
  let ops := (List.range (mdOps d)).map (b.opDesc (mdOptab d))
  let recs := (List.range (mdMoeCount d)).map (fun l => b.mem.read (mdMoe d % 2 ^ 41 + 128 * l) 128)
  let named := ops.flatMap (fun o => [0, 1].filterMap (fun i => if odSrc o i % 16 = 2 then some (odSrc o i / 16) else none)) ++ recs.flatMap lrEntries
  min 1048576 (named.foldl (fun n i => max n (i + 1)) 0)

/-- The slot table of an operation: WORKERS slots over the live tiles (R133). -/
def slotTable (order : List Nat) (workers : Nat) : List Byte :=
  let ts := order.take workers
  (List.range 288).flatMap (fun t => match ts.findIdx? (fun x => decide (x = t)) with
    | some j => leBytes 2 j
    | none => [0xFF, 0xFF])

/-- The tiles that an operation draws its slots from: the pool that the plan starts it on, where it names one pool alone, and else every
live tile (R133, R172, R318).
Log entry 33 (DESIGN CHOICE, safe). -/
def Block.opTiles (b : Block) (k : Nat) (recs : List ScoreEntry) (op : Nat) : List Nat :=
  let starts := recs.filter (fun e => decide (e.action = 1) && decide (e.desc % 2 ^ 41 = op))
  match (starts.map ScoreEntry.selKind).eraseDups with
  | [2] => (b.srv k).pf
  | [3] => (b.liveTiles k).filter (fun t => !(b.srv k).pf.contains t)
  | _ => b.liveTiles k

/-- Slot tables of every operation that `recs` may start, and completion records cleared. -/
def Block.writeSlots (b : Block) (k n comp slots : Nat) (recs : List ScoreEntry) (d : List Byte) : Block :=
  (List.range (mdOps d)).foldl (fun b j =>
    let o := b.opDesc (mdOptab d) j
    let ts := b.opTiles k recs (mdOptab d % 2 ^ 41 + 128 * j)
    let order := sortBy (fun x y => decide (Config.slotKey n (j * 288 + x) ≤ Config.slotKey n (j * 288 + y))) ts
    ((b.privWrite (slots + odSlotOff o) (slotTable order (odWorkers o))).1.privWrite (comp + odCompOff o)
      (List.replicate (16 * odWorkers o) 0)).1) b

/-- The plan of a bake by its flags (R317): a bake of both kinds without a MIXED plan, and one of neither, leave the choice
between DECODE and PREFILL open. -/
def pickPlan (d : List Byte) (pre dec : Bool) (free : Nat) : Nat :=
  let either := if free % 2 = 0 then mdPlan d 0 else mdPlan d 1
  if pre && dec then (if mdPlan d 2 ≠ 0 then mdPlan d 2 else either)
  else if pre then mdPlan d 1
  else if dec then mdPlan d 0
  else either

/-- The entries of a plan that are no templates, in array order. -/
def Block.expandPlan (b : Block) (k plan base : Nat) : List PlanItem :=
  ((b.planRecords plan).filter (fun p => !ScoreEntry.selTemplate p.2)).flatMap (fun p => (b.selIslands k p.2).map (fun i =>
    ({ island := i, record := p.1, round := none, base := base } : PlanItem)))

/-- Skipped draft plans count their companions (R327). -/
def Block.countSkips (b : Block) (k : Nat) : Block :=
  let run := (b.draftPlans k).map Prod.fst
  let n := ((b.srv k).drafts.filter (fun d => d.comp.isSome && !run.contains d.model)).length
  if n = 0 then b else b.bump (pgPart k) F.SRV_MISC_CNT.DRAFT_SKIP_CNT 0 n

/-- Requests whose deadline has passed are left out of the bake (R319). -/
def Block.leaveOutLate (b : Block) (k tick : Nat) : Block :=
  (b.activeSeqs k).foldl (fun b s => if b.ctxRuns k s && b.deadlinePast k tick s then b.finalLater k s rqDEADLINE else b) b

/-- Item 6 of R49. -/
def Block.item6 (b : Block) (k bakeNo tick members : Nat) (toks : List (Nat × List Nat)) : Block :=
  let b0 := (b.leaveOutLate k tick).countSkips k
  let (n, b1) := b0.draw
  let area (i : Nat) : Nat := Config.bakeArea n i * 128 % 2 ^ 41
  let desc := area 0
  let (b2, a) := b1.buildLen k tick toks (b1.lenOrder k bakeNo)
  let b3 := b2.writeLen (area 1) a
  let pre := a.entries.any (fun e => decide (e.kind = 1) && decide (0 < e.qLen))
  let dec := a.entries.any (fun e => decide (e.kind = 2) && decide (0 < e.qLen))
  let md := (b3.mainDesc k).getD []
  let plan := if md = [] then 0 else pickPlan md pre dec (Config.freeWord n).toNat
  let po := plan % 2 ^ 41
  let len := if plan = 0 then 0 else b3.planLen plan
  let recs := (if plan = 0 then [] else b3.planRecords po).map Prod.snd
  let drafts := (b3.draftPlans k).map (fun p => ((b3.brd p.1).desc, (b3.planRecords p.2.1).map Prod.snd))
  let b4 := drafts.foldl (fun b p => b.writeSlots k n (area 3) (area 4) p.2 p.1) (b3.writeSlots k n (area 3) (area 4) recs md)
  let live := (b4.liveTiles k).length
  let pf := ((b4.srv k).pf).length
  let b5 := (b4.privWrite desc
    (leBytes 1 1 ++ leBytes 1 k ++ leBytes 1 (b4.sv k F.SRV_MODEL.ACTIVE_MODEL)
      ++ leBytes 1 (b2n pre + 2 * b2n dec + 4 * b4.sv k F.SRV_CFG.PINNED) ++ leBytes 4 (b4.epoch k) ++ leBytes 8 bakeNo ++ leBytes 8 tick
      ++ leBytes 8 (tick + len) ++ leBytes 8 (localAddr (area 1)) ++ leBytes 4 a.entries.length ++ leBytes 4 a.total
      ++ leBytes 8 (localAddr (area 2)) ++ leBytes 4 (b4.countLen md) ++ leBytes 2 pf ++ leBytes 2 (live - pf)
      ++ leBytes 8 (if md = [] then 0 else mdOptab md) ++ leBytes 4 (mdOps md) ++ leBytes 4 0 ++ leBytes 8 plan ++ leBytes 8 (localAddr (area 3))
      ++ leBytes 8 (localAddr (area 4)) ++ List.replicate 8 0xFF ++ leBytes 8 0 ++ leBytes 8 0)).1
  let x : Bake := { active := true, watched := false, bakeNo := bakeNo, start := tick, planEnd := tick + len, desc := desc, members := members, plan := po
                    barCount := if plan = 0 then 0 else b5.m16 (po + 0x18), layers := if plan = 0 then [] else b5.layerRecs po
                    rounds := [], votes := [], voteSent := [], pushQ := [] }
  let b6 := (b5.setBake k x).openBars k (b5.m64 (po + 0x10) % 2 ^ 41) x.barCount
  let q := (if plan = 0 then [] else b6.expandPlan k po 0) ++ (b6.draftPlans k).flatMap (fun p => b6.expandPlan k p.2.1 p.2.2)
  let b7 := ((b6.setBake k { b6.bake k with pushQ := q }).put pgTbs F.TBS_PLAN_END.PLAN_END (tick + len) k).put (pgPart k) F.SRV_BAKE_NO.BAKE_NO bakeNo
  let b8 := (b7.liveTiles k).foldl (fun b t => b.setTile t { b.tile t with bakeDesc := some (localAddr desc) }) b7
  b8.setSrv k { b8.srv k with ltab := a.entries.map LenEntry.seq, asked := [], delivered := false, want := false, prevMembers := members }

/-- A step master that is no member of the rack partition follows its bake for PLAN_END_TICK (R176).
Log entry 82 (DESIGN CHOICE, safe). -/
def Block.watchBake (b : Block) (k : Nat) (a : StepAnn) : Block :=
  if b.sync ≠ tbMASTER then b
  else
    let w (i : Nat) : Nat := Config.peerPlan (k + 16 * a.bakeNo) i % 2 ^ 32
    let layers := (List.range (w 1 % 257)).map (fun l =>
      ({ voteOff := w (2 + 4 * l), closeOff := w (3 + 4 * l), insertOff := w (4 + 4 * l), roundTicks := w (5 + 4 * l) } : LayerRec))
    let x := { bakeNone with watched := true, bakeNo := a.bakeNo, start := a.start, planEnd := a.start + w 0, members := b.membersOf k
                             layers := layers }
    (b.setBake k x).put pgTbs F.TBS_PLAN_END.PLAN_END x.planEnd k

/-- STEP_START_TICK (R46 to R49): the boundary work of partition index `k` in order. The shared pages commit on every package; the
rest is the work of a member. A boundary follows the delivery of the bake before it (R51).
Log entries 34 (DESIGN CHOICE, unsafe), 35 (DEDUCED, unsafe). -/
def Block.stepStart (b : Block) (k : Nat) (toks : List (Nat × List Nat)) : Block :=
  match SMap.find b.tb.steps k with
  | none => b
  | some a =>
    let member := b.enabled (pgPart k) && b.synced && !b.safe
    if !a.due ∨ b.now < a.start ∨ (member ∧ !(b.srv k).delivered) then b
    else
      let b1 := { b with stepTick := some b.now, tb := { b.tb with steps := SMap.set b.tb.steps k { a with due := false } } }
      let b2 := if b.safe then b1 else b1.commitShared a.announcedAt
      if !member then b2.watchBake k a
      else
        let b3 := (((b2.trace 2 0x0F03 (pgPart k) 399 (some k) (a.bakeNo % 65536)).item1 k a.bakeNo).item2 k a.bakeNo).plcBoundary k a.bakeNo
        ((b3.item4 k a.start).item5 k a.start).item6 k a.bakeNo a.start (b3.membersOf k) toks

/-- The idle poll of a partition is due: IDLE_POLL has passed since the last one (R47, R300). -/
def Block.pollDue (b : Block) (k : Nat) : Bool :=
  match (b.srv k).polled with
  | some t => decide (t + b.sv k F.SRV_POLL.IDLE_POLL * 1000 ≤ b.now)
  | none => true

/-- IDLE_POLL: a partition without active sequences reads PROD of its rings every IDLE_POLL (R47, R300). -/
def Block.idlePoll (b : Block) (k : Nat) : Block :=
  if !b.enabled (pgPart k) ∨ b.sv k F.SRV_STAT.ACTIVE ≠ 0 ∨ b.safe ∨ !b.pollDue k then b
  else
    let work := (List.range 16).any (fun r =>
      decide (b.eff (pgPart k) F.SRV_RING_CFG.RING_EN r = 1) && decide (b.eff (pgPart k) F.SRV_RING_CFG.ERR r = 0)
        && decide (b.m64 (b.ringOff k r) ≠ b.m64 (b.ringOff k r + 0x40)))
    b.setSrv k { b.srv k with want := (b.srv k).want || work, polled := some b.now }

end Sys2Proof.Machine
end

