-- ==== Sys2Proof/Machine/Serving.lean ====
section
/-! DEFINITION. Phases 6 and 7 of a bake (R316, R319 to R321, R328 to R330), and the enabling and disabling of a partition
(R294, R297). -/
namespace Sys2Proof.Machine

/-! ### The phases of a bake (R50) -/

/-- The phases of a bake. -/
inductive Phase where
  | boundary | draft | embed | layers | head | verify | deliver
deriving DecidableEq, Repr

/-- The phases that an entry of the length table passes through, in order: prefill sequences skip the draft and verify phases, and decode
sequences without a draft the draft phase (R50). -/
def LenEntry.phases (e : LenEntry) : List Phase :=
  [.boundary] ++ (if e.kind = 2 ∧ 0 < e.draft then [.draft] else []) ++ [.embed, .layers, .head]
    ++ (if e.kind = 2 then [.verify] else []) ++ [.deliver]

/-- An entry belongs to the bake in progress of a partition. -/
def Block.ofBake (b : Block) (k : Nat) (e : ScoreEntry) : Bool :=
  decide (e.part = k) && decide (e.bakeTag = (b.bake k).bakeNo % 256)

/-- Work of the phases before phase 6 is left on this package: plan records to push, entries that have not fired, actions and programs that
have not ended, and transfers of such actions (R50). An island that is closed does no work.
Log entry 92 (DEDUCED, unsafe). -/
def Block.bakeBusy (b : Block) (k : Nat) : Bool :=
  !(b.bake k).pushQ.isEmpty
    || b.scores.any (fun p => b.islandOpen p.1 && (p.2.entries.any (fun x => b.ofBake k x.e) || p.2.fired.any (b.ofBake k)
        || (p.2.arriving ++ p.2.held).any (fun a => b.ofBake k a.e)))
    || b.tiles.any (fun p => decide (p.2.seq = .run) && (match p.2.launch with | some l => b.ofBake k l.entry | none => false))
    || b.xfers.any (fun x => match x.entry with | some e => b.ofBake k e | none => false)

/-! ### Phase 6 -/

/-- The loop of R328: sample after sample is emitted, until the last row or one that is not the draft token of the next row. Where the samples
end before the loop does, the sampler has not ended and emits nothing. -/
def verifyLoop : List Nat → List Nat → List Nat
  | _, [] => []
  | [], t :: _ => [t]
  | d :: ds, t :: ts => if d = t then (match verifyLoop ds ts with | [] => [] | r => t :: r) else [t]

/-- The draft tokens of a DECODE entry: the input tokens of its rows 1 to DRAFT. -/
def Block.draftToks (b : Block) (k i : Nat) (e : LenEntry) : List Nat :=
  let row := b.m32 (lenRow (b.lenBase k) (b.lenCount k) i)
  (List.range e.draft).map (fun j => b.m32 (lenTok (b.lenBase k) (b.lenCount k) (row + 1 + j)))

/-- The tokens that phase 5 or 6 emits for an entry (R316, R328); `toks` are the samples of its rows, in order. -/
def Block.sampled (b : Block) (k i : Nat) (e : LenEntry) (toks : List (Nat × List Nat)) : List Nat :=
  let l := ((toks.find? (fun t => decide (t.1 = i))).map Prod.snd).getD []
  if e.qLen = 0 ∨ b.isCompanion k e.seq ∨ !b.ctxRuns k e.seq then []
  else if e.kind = 2 then verifyLoop (b.draftToks k i e) l
  else if e.ctx = b.cxPLen k e.seq then l.take 1
  else []

/-- The draft segment record that answers the request of a home sequence: N, C and KEEP_ADDR (R327). -/
def Block.draftAnswer (b : Block) (k s : Nat) : Option (Nat × Nat × Nat) :=
  let slot := b.tenDraftSlot k (b.cxTenant k s)
  let recs := (b.windows.filter (fun w => decide (w.cls = 2) && decide (w.src = slot) && decide (bits w.key 24 4 = k) && w.whole)).flatMap (fun w =>
    (List.range (w.total.getD 0 / 64)).map (fun i => w.addr % 2 ^ 41 + 64 * i))
  (recs.find? (fun a => decide (b.m16 a % 16384 = s))).map (fun a => (b.byteAt (a + 2), b.byteAt (a + 3), b.m64 (a + 0x10)))

/-- KEEP of the companion (R329). The answer tells the home that it has a companion; on another package, no message states which SEQ_ID that is
(R304).
Log entry 97 (DESIGN CHOICE, safe). -/
def Block.companionKeep (b : Block) (k s a : Nat) : Block :=
  match b.draftAnswer k s with
  | some (n, c, addr) =>
    let slot := b.tenDraftSlot k (b.cxTenant k s)
    let (f, b0) := b.draw
    let b := if slot = b.slotId ∨ b.cx k s 0x50 2 ≠ 0xFFFF then b else b0.setCx k s 0x50 2 ((Config.freeWord f).toNat % 16384)
    if n = 0 then b
    else
      b.newXfer { xfer0 .engine .write with
        pieces := [{ addr := addr, len := 4, sram := 0 }], data := [leBytes 4 (c - 1 + min (a + 1) n)], priv := true, group := 340
        part := k, page := pgPart k }
  | none => b

/-- Phase 6 of an entry: KEEP, LAST_TOKEN, the state after a prompt's last chunk and the companion's KEEP. -/
def Block.phase6 (b : Block) (k : Nat) (p : Nat × LenEntry) (l : List Nat) : Block :=
  let (i, e) := p
  if l.isEmpty then b
  else
    let b1 := b.setCx k e.seq 0x38 4 (l.getLastD 0)
    if e.kind = 2 then
      let b2 := b1.pw (lenKeep (b.lenBase k) (b.lenCount k) i) 4 l.length
      if b.isMini k e.seq then b2 else b2.companionKeep k e.seq (l.length - 1)
    else b1.setCx k e.seq 6 1 cxDECODE

/-! ### Phase 7 -/

/-- The tokens that are delivered: none past MAX_NEW, none after STOP (R321). -/
def Block.deliverable (b : Block) (k s : Nat) (l : List Nat) : List Nat :=
  let stop := b.cx k s 0x4C 4
  let l1 := l.take (b.cxMaxNew k s - b.cxGen k s)
  if stop = 0xFFFFFFFF then l1
  else
    match l1.findIdx? (fun t => decide (t = stop)) with
    | some j => l1.take (j + 1)
    | none => l1

/-- Token records in index order: the block, and the status of the first write that was refused. -/
def Block.tokenRecords (b : Block) (k s flags drafted : Nat) : List Nat → Block × Nat
  | [] => (b, 0)
  | t :: l =>
    let g := b.cxGen k s
    let (b1, st) := b.outWrite (b.cxOut k s) g (outRecord (b.cxReqId k s) t g (flags + (if 0 < drafted then 0x400 else 0)) 0)
    if st ≠ 0 then (b1, st) else (b1.setCx k s 0x2C 4 (g + 1)).tokenRecords k s flags (drafted - 1) l

/-- What completes a request with the tokens `l` of the bake. -/
def Block.doneStatus (b : Block) (k s : Nat) (l : List Nat) : Option Nat :=
  let stop := b.cx k s 0x4C 4
  if stop ≠ 0xFFFFFFFF ∧ l.contains stop then some rqDONE_STOP
  else if b.cxMaxNew k s ≤ b.cxGen k s + l.length then some rqDONE_MAX
  else none

/-- Phase 7 of a request that ran in the bake (R319 to R321); the tokens are those it sampled. -/
def Block.phase7 (b : Block) (k : Nat) (e : LenEntry) (l : List Nat) : Block :=
  let s := e.seq
  if e.qLen = 0 ∨ b.isCompanion k s ∨ !b.ctxRuns k s then b
  else
    let late := decide (b.cxDeadline k s ≠ 0) && decide (b.cxDeadline k s < (b.bake k).planEnd)
    let out := b.deliverable k s l
    if late && b.tenLateDrop k (b.cxTenant k s) then
      (b.bumpWrap (pgPart k) F.SRV_LDROP_CNT.LATE_DROP_CNT 0 out.length).finish k s rqDEADLINE 0
    else
      let done := b.doneStatus k s out
      let (b1, st) := b.tokenRecords k s (0x8000 + (if late then 0x100 else 0)) (if e.kind = 2 then l.length - 1 else 0) out
      let b2 := if late then b1.bumpWrap (pgPart k) F.SRV_LATE_CNT.LATE_CNT 0 (b1.cxGen k s - b.cxGen k s) else b1
      if st ≠ 0 then (b2.bumpWrap (pgPart k) F.SRV_FAIL_CNT.FAIL_REQ_CNT).finish k s rqOP_FAILED st
      else
        match done with
        | some d => b2.finish k s d 0
        | none => if late then b2.finish k s rqDEADLINE 0 else b2

/-- The draft state of a DECODE context (R330). -/
def Block.adapt (b : Block) (k s lused n a : Nat) : Block :=
  let l := b.cx k s 0xA 1
  let zr := b.cx k s 0xB 1 % 16
  let full := b.cx k s 0xB 1 / 16
  let probe := b.cx k s 0xC 2
  let set (b : Block) (l zr full probe : Nat) : Block := ((b.setCx k s 0xA 1 l).setCx k s 0xB 1 (zr + full * 16)).setCx k s 0xC 2 probe
  if lused = 0 then (if l = 0 then set b l zr full (min 65535 (probe + 1)) else b)
  else if n = 0 then b
  else
    let b1 := (b.bumpWrap (pgPart k) F.SRV_DRAFT_PROP.DRAFT_PROP 0 n).bumpWrap (pgPart k) F.SRV_DRAFT_ACC.DRAFT_ACC 0 (min a n)
    if l = 0 then (if 1 ≤ a then set b1 1 0 0 0 else set b1 0 zr full 0)
    else if a = 0 then (if zr + 1 = 2 then set b1 (l / 2) 0 0 0 else set b1 l (zr + 1) 0 probe)
    else
      let f := if a = n then full + 1 else 0
      let grow := b.sv k F.SRV_SPEC.GROW_RUN
      if 0 < grow ∧ f = grow then set b1 (min (l + 1) (b.lmax k (b.cxTenant k s) (b.cxFlags k s))) 0 0 probe
      else set b1 l 0 (min f 15) probe

/-- The draft state of a DECODE context of a home after the bake, one that sat it out included (R330). -/
def Block.adaptEntry (b : Block) (k : Nat) (e : LenEntry) (l : List Nat) : Block :=
  if e.kind ≠ 2 ∨ b.isCompanion k e.seq ∨ (l.isEmpty ∧ e.qLen ≠ 0) then b
  else
    let n := match b.draftAnswer k e.seq with
      | some x => x.1
      | none => 0
    b.adapt k e.seq (SMap.get 0 (b.srv k).lused e.seq) n (l.length - 1)

/-- The body of DRAFT_REQ (R326): home SEQ_ID, TENANT, DRAFT_MODEL, DRAFT_POOL, Lused, the home's KV_LEN, in this order. -/
def draftBody (seq tenant model pool lused len : Nat) : List Byte :=
  leBytes 2 seq ++ leBytes 2 tenant ++ leBytes 1 model ++ leBytes 1 pool ++ leBytes 1 lused ++ leBytes 1 0 ++ leBytes 4 len ++ List.replicate 20 0

/-- DRAFT_REQ: a draft request of a home reaches the partition that its DRAFT_POOL belongs to (R326). -/
def Block.draftRx (b : Block) (src seq tenant model pool lused len : Nat) : Block :=
  b.draftReq (b.pool pool).part
    { src := src, homeSeq := seq, tenant := tenant, model := model, pool := pool, lused := min lused 8, homeLen := len, comp := none, n := 0, c := 0, idx := 0 }

/-- A draft request for the next bake (R326). `len` is the home's KV_LEN after the boundary. -/
def Block.askDraft (b : Block) (k s len : Nat) : Block :=
  let u := b.nextLused k s
  if b.cxState k s ≠ cxDECODE ∨ b.isCompanion k s ∨ u = 0 then b
  else
    let t := b.cxTenant k s
    let slot := b.tenDraftSlot k t
    let m := b.tenDraftModel k t
    let pool := b.tenDraftPool k t
    let b1 := b.setSrv k { b.srv k with asked := SMap.set (b.srv k).asked s u }
    if slot = b.slotId then b1.draftRx slot s t m pool u len
    else b1.sendCtrl slot ckDRAFT_REQ (draftBody s t m pool u len)

/-- KV_LEN of a sequence after the boundary that ends the bake (R244). -/
def Block.lenAfter (b : Block) (k : Nat) (p : Nat × LenEntry) : Nat :=
  let keep := b.m32 (lenKeep (b.lenBase k) (b.lenCount k) p.1)
  if p.2.qLen = 0 ∨ p.2.qLen < keep then (b.seqRec p.2.seq).kvLen else p.2.ctx - p.2.qLen + keep

/-- The final record of a request that was left out of the bake (R303, R319). -/
def Block.lateFinal (b : Block) (k s : Nat) : Block :=
  let (b1, st) := b.finalRecord k s (b.cx k s 0xE 1) 0
  b1.setCx k s 0xE 1 st

/-- DELIVER: phases 6 and 7 of the bake in progress, once the earlier phases have completed (R50). `toks` gives, by length-table index, the tokens that the serving programs
sampled.
Log entries 34 (DESIGN CHOICE, unsafe), 38 (DESIGN CHOICE, unsafe). -/
def Block.deliver (b : Block) (k : Nat) (toks : List (Nat × List Nat)) : Block :=
  if !(b.bake k).active ∨ (b.srv k).delivered ∨ b.safe ∨ !b.enabled (pgPart k) ∨ b.bakeBusy k then b
  else
    let es := (b.lenEntries k).map (fun p => (p, b.sampled k p.1 p.2 toks))
    let b1 := es.foldl (fun b x => b.phase6 k x.1 x.2) b
    let b2 := (b1.srv k).finals.foldl (fun b s => b.lateFinal k s) b1
    let b3 := b2.setSrv k { b2.srv k with finals := [] }
    let b4 := es.foldl (fun b x => (b.phase7 k x.1.2 x.2).adaptEntry k x.1.2 x.2) b3
    let b5 := es.foldl (fun b x => b.askDraft k x.1.2.seq (b.lenAfter k x.1)) b4
    b5.setSrv k { b5.srv k with delivered := true }

/-! ### Enabling and disabling a partition (R294, R297, R444) -/

/-- The conditions of R294 on a partition whose committed set is in place. -/
def Block.partOk (b : Block) (k : Nat) : Bool :=
  let first := b.sv k F.SRV_SEQ.SEQ_FIRST
  let n := b.sv k F.SRV_SEQ.SEQ_COUNT
  let others := (List.range 16).filter (fun j => decide (j ≠ k) && b.enabled (pgPart j))
  let ways (s j : Nat) : Nat := b.eff (pgSlice s) F.SLC_MASK.ALLOC_WAYS j
  let base (f : Field) : Bool := decide (b.sv k f ≠ 0) && decide (b.sv k f % 4096 = 0)
  !(b.liveTiles k).isEmpty && (List.range 32).any (fun g => decide (b.owner g = k)) && decide (n ≠ 0)
    && others.all (fun j => decide (first + n ≤ b.sv j F.SRV_SEQ.SEQ_FIRST)
        || decide (b.sv j F.SRV_SEQ.SEQ_FIRST + b.sv j F.SRV_SEQ.SEQ_COUNT ≤ first))
    && (List.range 32).all (fun s => others.all (fun j => decide (ways s k &&& ways s j = 0)))
    && base F.SRV_CTX_BASE.CTX_BASE && base F.SRV_TEN_ACT.TEN_ACT && base F.SRV_TEN_PEND.TEN_PEND

/-- ENABLE 0 to 1 of a partition's page, whose registers are given as committed: accepted with its tables cleared, or `none`.
Log entry 35 (DEDUCED, unsafe). -/
def Block.partOpen (b : Block) (k : Nat) : Option Block :=
  if !b.partOk k then none
  else
    let m1 := b.mem.zero (b.fieldOff (pgPart k) F.SRV_CTX_BASE.CTX_BASE) (128 * b.sv k F.SRV_SEQ.SEQ_COUNT)
    let m2 := m1.zero (b.fieldOff (pgPart k) F.SRV_TEN_ACT.TEN_ACT) 0x40000
    some ((({ b with mem := m2 }).setSrv k servNone).setActive k 0)

/-- The refusal of R294. -/
def Block.partRefuse (b : Block) (k : Nat) : Block := ((b.cfgReject (pgPart k)).raise (pgPart k) 8).reportPart (pgPart k) 0x0907 k

/-- A partition is disabled (R297) or stopped (R444): every context gets its final record and is freed, the KV pages return, the
Scores discard the partition's entries, its barriers close and its windows are freed. -/
def Block.partClose (b : Block) (k status : Nat) : Block :=
  let b1 := (b.activeSeqs k).foldl (fun b s => b.retireNow k s status 0) b
  let b2 := ((b1.discardEntries (fun _ e => decide (e.part = k))).closeBars k).freeWindows k
  let b3 := b2.setBake k { b2.bake k with active := false, pushQ := [] }
  b3.setSrv k { servNone with pf := (b3.srv k).pf }

/-- What the safe state does to serving (R324): the bakes end without delivery, and every request that is active retires with
ABORTED at item 1 of the first boundary after exit. -/
def Block.servSafe (b : Block) : Block :=
  (List.range 16).foldl (fun b k =>
    if !b.enabled (pgPart k) then b
    else
      let x := b.srv k
      let live := (b.activeSeqs k).filter (fun s => b.ctxRuns k s || x.finals.contains s)
      let b1 := b.setSrv k { x with due := live.map (fun s => (s, rqABORTED)), finals := [], ltab := [], drafts := [], draftsIn := [], asked := []
                                    delivered := true, want := true }
      b1.setBake k { b1.bake k with pushQ := [] }) b

/-- KV_FREEZE_DONE: the freeze of a KV page has ended (R245, R250). The leading frozen pages grow in order; an aborted one is
requested again at the next boundary. -/
def Block.kvFreezeDone (b : Block) (s i page : Nat) : Block :=
  if !b.kvmWorks then b
  else
    match b.takeDone (.kvPage s i page) with
    | none => b
    | some st =>
      let r := b.seqRec s
      if st ≠ 0 ∨ !r.valid ∨ r.held ≤ i ∨ b.plEntry s i ≠ page then b.dropDone (.kvPage s i page)
      else if r.frozen ≠ i then b
      else
        let b1 := (b.dropDone (.kvPage s i page)).setSeqRec s { r with frozen := i + 1 }
        let k := (b1.pool r.pool).part
        b1.pfxInsert k s i (b1.cxModel k s) ((b1.bake k).bakeNo)

end Sys2Proof.Machine
end

