-- ==== Sys2Proof/Machine/Rdma.lean ====
section
/-! DEFINITION. The Ethernet ports (R516) and the RoCEv2 responder queue pairs of the front-end servers (R517, R518).
Log entry 46 (DEDUCED, unsafe). -/
namespace Sys2Proof.Machine

/-- The page of Ethernet port `p`. -/
def pgEth (p : Nat) : Nat := 8 + p

/-- Entry `i` of the table at ETH_QP_BASE. -/
def Block.qpEntry (b : Block) (i : Nat) : List Byte := b.mem.read (b.eff (pgEth 0) F.ETH_QP_BASE.QP_BASE % 2 ^ 41 + 64 * i) 64

/-- An entry that opens a queue pair: valid, its reserved bytes zero, and its region as R517 gives it. -/
def Block.qpEntryOk (b : Block) (e : List Byte) : Bool :=
  bit (field e 0 1) 0 && decide (field e 0 1 < 32) && decide (field e 0x36 10 = 0) && decide (field e 0x10 8 % 128 = 0)
    && (b.localOff (field e 0x10 8)).isSome && bit (field e 0x10 8) 47 && decide (128 ≤ field e 0x18 4) && decide (field e 0x18 4 ≤ 2 ^ 30)

/-- QP_OPEN: entry `i` opens the queue pair 0x100 + i, or is refused with CFG_REJECT (R517). -/
def Block.qpOpen (b : Block) (i : Nat) : Block :=
  let e := b.qpEntry i
  if b.eff (pgEth 0) F.ETH_QP_RESV.RESP_MAX ≤ i ∨ !b.qpEntryOk e then b.cfgReject (pgEth 0)
  else
    let x : Qp := { flags := field e 0 1, tenant := field e 2 2 % 4096, rkey := field e 0x0C 4, base := field e 0x10 8, len := field e 0x18 4
                    psn := field e 8 4 % 2 ^ 24, err := false, waiting := [], busy := false }
    { b with qps := SMap.set b.qps i x }

/-- QP_CLOSE. Entries at and above RESP_MAX are refused. -/
def Block.qpClose (b : Block) (i : Nat) : Block :=
  if b.eff (pgEth 0) F.ETH_QP_RESV.RESP_MAX ≤ i then b.cfgReject (pgEth 0) else { b with qps := SMap.erase b.qps i }

/-- Change a queue pair. -/
def Block.setQp (b : Block) (i : Nat) (x : Qp) : Block := { b with qps := SMap.set b.qps i x }

/-- A remote access error: NAK, and the queue pair enters the error state (R518). -/
def Block.qpNak (b : Block) (i : Nat) (x : Qp) (psn : Nat) : Block :=
  ((((b.setQp i { x with err := true, waiting := [], busy := false }).bump (pgEth 0) F.ETH_QP_ERR.QP_ERR_CNT).raise
    (pgEth (b2n (bit x.flags 1))) 2).reportPage (pgEth (b2n (bit x.flags 1))) 0x0E04).emit (.event "rdma-nak" [i, psn])

/-- The first request that waits starts: its bytes move as a non-privileged access under the queue pair's tenant. -/
def Block.qpStart (b : Block) (i : Nat) : Block :=
  match SMap.find b.qps i with
  | none => b
  | some x =>
    match x.waiting with
    | [] => b
    | r :: _ =>
      if x.busy ∨ x.err then b
      else
        (b.setQp i { x with busy := true }).newXfer
          { xfer0 (.rdma i) (if r.write then .write else .read) with
            pieces := if r.len = 0 then [] else [{ addr := x.base + r.va, len := r.len, sram := 0 }]
            data := if r.write then [r.bytes] else [], tenant := x.tenant, page := pgEth (b2n (bit x.flags 1)) }

/-- A request arrives: the operation must be allowed, the key must match and the range must lie in the region. Requests run in
PSN order; another PSN is answered as a sequence error and changes nothing. -/
def Block.qpRequest (b : Block) (i rkey : Nat) (r : QpReq) : Block :=
  match SMap.find b.qps i with
  | none => b
  | some x =>
    if x.err then b
    else if r.psn ≠ x.psn then b.emit (.event "rdma-sequence" [i, x.psn])
    else if rkey ≠ x.rkey ∨ x.len < r.va + r.len ∨ !bit x.flags (if r.write then 3 else 4) then b.qpNak i x r.psn
    else (b.setQp i { x with psn := (x.psn + 1) % 2 ^ 24, waiting := x.waiting ++ [r] }).qpStart i

/-- RDMA_WRITE and RDMA_READ (R518). -/
def Block.rdmaWrite (b : Block) (i psn rkey va : Nat) (bs : List Byte) : Block :=
  b.qpRequest i rkey { psn := psn % 2 ^ 24, va := va, write := true, len := bs.length, bytes := bs }
def Block.rdmaRead (b : Block) (i psn rkey va len : Nat) : Block :=
  b.qpRequest i rkey { psn := psn % 2 ^ 24, va := va, write := false, len := len, bytes := [] }

/-- The request under way has ended: a WRITE is acknowledged once it is visible, a READ returns its data, a refusal gets the NAK; the
next one starts. -/
def Block.qpOver (b : Block) (i st : Nat) (data : List Byte) : Block :=
  match SMap.find b.qps i with
  | none => b
  | some x =>
    match x.waiting with
    | [] => b
    | r :: rest =>
      if !x.busy then b
      else if st ≠ 0 then b.qpNak i x r.psn
      else
        ((b.setQp i { x with waiting := rest, busy := false }).emit
          (if r.write then .event "rdma-ack" [i, r.psn] else .blob "rdma-read" data)).qpStart i

/-- Queue pairs enter the error state: those of a port, or all of them (R399, R516). -/
def Block.qpsDown (b : Block) (hit : Qp → Bool) : Block :=
  { b with qps := SMap.mapVals (fun _ (x : Qp) => if hit x then { x with err := true, waiting := [], busy := false } else x) b.qps }

/-- ETH_LINK_UP and ETH_LINK_DOWN (R516). -/
def Block.ethUp (b : Block) (p : Nat) : Block := (b.put (pgEth p) F.ETH_STAT.LINK_UP 1).raise (pgEth p) 0
def Block.ethDown (b : Block) (p : Nat) : Block :=
  (((b.qpsDown (fun x => decide (b2n (bit x.flags 1) = p))).put (pgEth p) F.ETH_STAT.LINK_UP 0).raise (pgEth p) 1).reportPage (pgEth p) 0x0E03

/-- ETH_DISCARD: an unsupported protocol. -/
def Block.ethDiscard (b : Block) (p : Nat) : Block := b.bump (pgEth p) F.ETH_CNT.DISCARD_CNT

/-- The station address: 02:4B:4E:00:slot:port until software writes it (R521).
Log entry 47 (DEDUCED, unsafe). -/
def Block.ethMac (b : Block) (p : Nat) : Nat :=
  match SMap.find (b.page (pgEth p)).imm (F.ETH_MAC.MAC.key 0) with
  | some m => m
  | none => 0x024B4E000000 + 256 * b.slotId + p

/-- ARP_REQUEST and NEIGHBOR_SOLICIT: answered for the port's own address; address 0 is off (R516). -/
def Block.arp (b : Block) (p ip : Nat) : Block :=
  let a := b.eff (pgEth p) F.ETH_IP4.IP4
  if a ≠ 0 ∧ ip = a then b.emit (.response "arp-reply" [p, a, b.ethMac p]) else b
def Block.neighbor (b : Block) (p ip : Nat) : Block :=
  let a := b.eff (pgEth p) F.ETH_IP6.IP6
  if a ≠ 0 ∧ ip = a then b.emit (.response "neighbor-advert" [p, a, b.ethMac p]) else b

end Sys2Proof.Machine
end

