-- ==== Sys2Proof/Machine/Wld.lean ====
section
/-! DEFINITION. Loading model weights (R377 to R405): manifests and plans, load slots, attempts, the peel relay, reports and
masking.
Log entry 45 (DESIGN CHOICE, unsafe). -/
namespace Sys2Proof.Machine

/-! ### Load slots -/

/-- States of a load slot (R387). -/
def ldIDLE : Nat := 0
def ldCHECK : Nat := 1
def ldFETCH : Nat := 2
def ldREPORT : Nat := 3
def ldFINAL : Nat := 4
def ldDONE : Nat := 5
def ldFAILED : Nat := 6

/-- Statuses of a load. -/
def lsBAD_DESC : Nat := 1
def lsSIG_FAIL : Nat := 2
def lsBAD_PLAN : Nat := 3
def lsDEST_OVERLAP : Nat := 4
def lsDEST_FROZEN : Nat := 5
def lsPLC_BUSY : Nat := 6
def lsTGT_BAD : Nat := 7
def lsSHARD_MISSING : Nat := 8
def lsMEMBER_LOST : Nat := 9
def lsMEMBER_MISMATCH : Nat := 10
def lsABORTED : Nat := 11
def lsMEMBER_FAILED : Nat := 12

def loadNone : Load :=
  { desc := [], policy := 0, recheck := false, retryMax := 0, shardTimeout := 0, reportTimeout := 0, digest := [], shards := [], since := 0 }

def Block.load (b : Block) (s : Nat) : Load := SMap.get loadNone b.loads s
def Block.setLoad (b : Block) (s : Nat) (l : Load) : Block := { b with loads := SMap.set b.loads s l }
def Block.ldState (b : Block) (s : Nat) : Nat := b.eff pgWld F.WLD_LSTAT.STATE s
def Block.setLdState (b : Block) (s st : Nat) : Block := b.put pgWld F.WLD_LSTAT.STATE st s

/-- A load slot that no load runs in. -/
def ldIdle (st : Nat) : Bool := decide (st = ldIDLE) || decide (st = ldDONE) || decide (st = ldFAILED)

/-- Fields of a load descriptor (R384). -/
def Load.manifest (l : Load) : Nat := field l.desc 0 8 % 2 ^ 41
def Load.plan (l : Load) : Nat := field l.desc 8 8 % 2 ^ 41
def Load.area (l : Load) : Nat := field l.desc 0x10 8 % 2 ^ 41
def Load.plc (l : Load) : Nat := field l.desc 0x18 8
def Load.id (l : Load) : Nat := field l.desc 0x20 4
def Load.part (l : Load) : Nat := field l.desc 0x24 1 % 16

/-- The record of shard `i` in the manifest (R381). -/
def Load.shardRec (l : Load) (i : Nat) : Nat := l.manifest + 512 + 64 * i

def Block.shardCount (b : Block) (l : Load) : Nat := b.m32 (l.manifest + 4)
def Block.shardLen (b : Block) (l : Load) (i : Nat) : Nat := b.m32 (l.shardRec i + 4)
def Block.shardClass (b : Block) (l : Load) (i : Nat) : Nat := b.byteAt (l.shardRec i + 8)
def Block.shardDigest (b : Block) (l : Load) (i : Nat) : List Byte := b.mem.read (l.shardRec i + 0x10) 32

/-- The plan record of shard `i`, its destination and target (R383). -/
def Load.planRec (l : Load) (i : Nat) : Nat := l.plan + 64 + 32 * i
def Block.shardDest (b : Block) (l : Load) (i : Nat) : Nat := b.m64 (l.planRec i)
def Block.shardTarget (b : Block) (l : Load) (i : Nat) : Nat := b.byteAt (l.planRec i + 0x14)

/-- The slots of a chain, in order. -/
def Block.chainAt (b : Block) (l : Load) (c : Nat) : List Nat :=
  ((b.mem.read (l.plan + 64 + 32 * b.shardCount l + 64 * c) 64).map BitVec.toNat).takeWhile (· ≠ 0xFF)
def Block.chain (b : Block) (l : Load) (i : Nat) : List Nat := b.chainAt l (b.m16 (l.planRec i + 0x16))

/-- The chain predecessor and successor of this package. -/
def Block.chainPos (b : Block) (l : Load) (i : Nat) : Nat := ((b.chain l i).takeWhile (· ≠ b.slotId)).length
def Block.chainPred (b : Block) (l : Load) (i : Nat) : Option Nat := if b.chainPos l i = 0 then none else (b.chain l i)[b.chainPos l i - 1]?
def Block.chainSucc (b : Block) (l : Load) (i : Nat) : Option Nat := (b.chain l i)[b.chainPos l i + 1]?

/-- The shards of this package, and the members of the load. -/
def Block.ownShards (b : Block) (l : Load) : List Nat := (List.range (b.shardCount l)).filter (fun i => (b.chain l i).contains b.slotId)
def Block.loadMembers (b : Block) (l : Load) : List Nat :=
  let all := (List.range (b.shardCount l)).map (b.chain l)
  (List.range 64).filter (fun s => all.any (fun c => c.contains s))

def shardNone : Shard :=
  { phase := .landing, src := 0, begun := 0, counted := 0, landed := 0, got := [], frames := [], lastLand := 0, relayed := 0
    relayOn := false, relayBusy := false }

/-- A shard of a load on this package. -/
def Block.shard? (b : Block) (s i : Nat) : Option Shard := if b.ldState s = ldFETCH then SMap.find (b.load s).shards i else none
def Block.setShard (b : Block) (s i : Nat) (x : Shard) : Block :=
  b.setLoad s { b.load s with shards := SMap.set (b.load s).shards i x }

/-! ### The checks (R386) -/

/-- An address of the descriptor: LOCAL, 4 KiB aligned, `n` usable bytes. -/
def Block.loadArea (b : Block) (a n : Nat) : Bool :=
  decide (a / 2 ^ 41 = 64) && decide (a % 4096 = 0) && b.usable (a % 2 ^ 41) n

/-- Bytes of the load area (R385). -/
def areaLen (n : Nat) : Nat := ceilDiv (2 ^ 20 + 8 * n) 4096 * 4096

/-- Check 1. -/
def Block.loadDescOk (b : Block) (l : Load) : Bool :=
  let n := b.shardCount l
  decide (l.desc.length = 64) && b.loadArea (field l.desc 0 8) 512 && decide (l.id ≠ 0) && decide (field l.desc 0x24 1 < 16)
    && (l.desc.drop 0x25).all (fun v => decide (v = 0))
    && (decide (65536 < n) || decide (n = 0) ||
      (b.loadArea (field l.desc 0 8) (896 + 64 * n) && b.loadArea (field l.desc 8 8) (64 + 32 * n)
        && b.loadArea (field l.desc 0x10 8) (areaLen n) && b.allFrames l.area (areaLen n) frWRITABLE))
    && (decide (l.plc = 0) || (b.localOff l.plc).isSome)

/-- The fields of the manifest (R381). -/
def Block.manifestOk (b : Block) (l : Load) : Bool :=
  let m := l.manifest
  let zero (a n : Nat) : Bool := (b.mem.read a n).all (fun v => decide (v = 0))
  let n := b.shardCount l
  decide (b.byteAt m = 1) && zero (m + 1) 3 && decide (1 ≤ n) && decide (n ≤ 65536) && zero (m + 0x14) 44 && zero (m + 0x1C0) 64
    && (List.range n).all (fun i =>
      let a := l.shardRec i
      let len := b.m32 (a + 4)
      decide (b.m32 a = i) && decide (len % 4096 = 0) && decide (4096 ≤ len) && decide (len ≤ 2 ^ 30) && decide (b.byteAt (a + 8) ≤ 1)
        && zero (a + 9) 1 && zero (a + 0xE) 2 && zero (a + 0x30) 16
        && (if b.byteAt (a + 8) = 1 then decide (b.m16 (a + 0xA) < 1024) && decide (b.m16 (a + 0xC) < 1024) else decide (b.m16 (a + 0xC) = 0xFFFF)))

/-- The signed part and the signature (R382). -/
def Block.signedPart (b : Block) (l : Load) : List Byte := b.mem.read l.manifest (512 + 64 * b.shardCount l)
def Block.manifestSigned (b : Block) (l : Load) : Bool :=
  let modulus := b.mem.read (l.manifest + 0x40) 384
  let key := leNat (sha256 modulus)
  (List.range 4).any (fun k => decide (b.eff pgWld F.WLD_MKEY.MKEY k ≠ 0) && decide (b.eff pgWld F.WLD_MKEY.MKEY k = key))
    && rsaVerify modulus (b.mem.read (l.manifest + 512 + 64 * b.shardCount l) 384) (sha256 (b.signedPart l))

/-- DEST + LEN lies inside one window's usable space. -/
def Block.destOk (b : Block) (off len : Nat) : Bool :=
  b.usable off len && decide (off / winSize = (off + len - 1) / winSize)

/-- Two ranges share a byte. -/
def overlaps (a n c m : Nat) : Bool := decide (a < c + m) && decide (c < a + n)

/-- The destination ranges of this package. -/
def Block.destRanges (b : Block) (l : Load) : List (Nat × Nat) := (b.ownShards l).map (fun i => (b.shardDest l i, b.shardLen l i))

/-- Ranges that share no byte, pair by pair. -/
def disjointRanges : List (Nat × Nat) → Bool
  | [] => true
  | r :: rs => rs.all (fun q => !overlaps r.1 r.2 q.1 q.2) && disjointRanges rs

/-- Check 3: the plan (R383). -/
def Block.planFieldsOk (b : Block) (l : Load) : Bool :=
  let p := l.plan
  let n := b.shardCount l
  let zero (a k : Nat) : Bool := (b.mem.read a k).all (fun v => decide (v = 0))
  let chains := b.m16 p
  decide (1 ≤ chains) && decide (chains ≤ 4096) && zero (p + 2) 62 && b.usable p (64 + 32 * n + 64 * chains)
    && (List.range chains).all (fun c =>
      let ss := b.chainAt l c
      decide (1 ≤ ss.length) && ss.all (fun s => decide (s < 64)) && decide (ss.eraseDups.length = ss.length))
    && (List.range n).all (fun i =>
      let a := l.planRec i
      decide (b.m64 a < 2 ^ 41) && decide (b.m64 a % 4096 = 0) && decide (b.byteAt (a + 0x14) < 32) && zero (a + 0x15) 1
        && decide (b.m16 (a + 0x16) < chains) && zero (a + 0x18) 8)
    && (b.destRanges l).all (fun r => b.destOk r.1 r.2) && disjointRanges (b.destRanges l)

/-- The offset of a target entry (R379). -/
def Block.target (b : Block) (t : Nat) : Nat := b.fieldOff pgWld F.WLD_TGT_BASE.TGT_BASE + 256 * t

/-- A target entry that may be used. -/
def Block.targetOk (b : Block) (t : Nat) : Bool :=
  let a := b.target t
  let kato := b.m32 (a + 0x14)
  decide (t < b.eff pgWld F.WLD_TGT_CNT.TGT_COUNT) && decide (1 ≤ b.byteAt (a + 0x10)) && decide (b.byteAt (a + 0x10) < 4)
    && decide (1 ≤ b.byteAt (a + 0x11)) && decide (b.byteAt (a + 0x11) ≤ 64) && decide (2 ≤ b.byteAt (a + 0x12)) && decide (b.byteAt (a + 0x12) ≤ 128)
    && decide (b.byteAt (a + 0x13) = 0) && decide (1000 ≤ kato) && decide (kato ≤ 60000) && decide (b.m64 (a + 0x18) = 0)
    && (b.mem.read (a + 0x20) 224).any (fun v => decide (v = 0))

/-- The targets of this package's shards. -/
def Block.loadTargets (b : Block) (l : Load) : List Nat := ((b.ownShards l).map (b.shardTarget l)).eraseDups

/-- Check 4: targets and I/O queues per port. -/
def Block.targetsOk (b : Block) (l : Load) : Bool :=
  let ts := b.loadTargets l
  ts.all b.targetOk && [0, 1].all (fun p =>
    decide (((ts ++ b.conns.map Prod.fst).eraseDups.filter (fun t => bit (b.byteAt (b.target t + 0x10)) p)).foldl
      (fun n t => n + b.byteAt (b.target t + 0x11)) 0 ≤ 64))

/-- Check 5: another running load's destinations. -/
def Block.destFree (b : Block) (s : Nat) (l : Load) : Bool :=
  ((List.range 4).filter (fun o => decide (o ≠ s) && !ldIdle (b.ldState o))).all (fun o =>
    (b.destRanges l).all (fun r => (b.destRanges (b.load o)).all (fun q => !overlaps r.1 r.2 q.1 q.2)))

/-- Check 6: frames all WRITABLE or all FROZEN. -/
def Block.destFrames (b : Block) (l : Load) : Bool :=
  (b.destRanges l).all (fun r => b.allFrames r.1 r.2 frWRITABLE || b.allFrames r.1 r.2 frFROZEN)

/-- Check 7: the placement table is not in use. -/
def Block.plcFree (b : Block) (l : Load) : Bool :=
  let t := l.plc % 2 ^ 41
  decide (l.plc = 0) || (!(decide (b.epoch l.part ≠ 0) && decide (b.plcActive l.part = t))
    && !(decide (b.eff pgMoe F.MOE_PCTL.ARM l.part = 1) && decide (b.eff pgMoe F.MOE_PLC_NEXT.PLC_NEXT l.part % 2 ^ 41 = t)))

/-- The first check that fails, 0 for none. -/
def Block.loadStatus (b : Block) (s : Nat) (l : Load) : Nat :=
  if !b.loadDescOk l then lsBAD_DESC
  else if !b.manifestOk l || !b.manifestSigned l then lsSIG_FAIL
  else if !b.planFieldsOk l then lsBAD_PLAN
  else if !b.targetsOk l then lsTGT_BAD
  else if !b.destFree s l then lsDEST_OVERLAP
  else if !b.destFrames l then lsDEST_FROZEN
  else if !b.plcFree l then lsPLC_BUSY
  else 0

/-! ### Member records (R385, R395) -/

/-- A rack address of an offset on a slot. -/
def rackAddr (slot off : Nat) : Nat := slot * 2 ^ 41 + off

/-- The shards missing at this package. -/
def Load.missing (l : Load) : List Nat := (l.shards.filter (fun p => decide (p.2.phase = .missing))).map Prod.fst

/-- The bytes 0x08 to 0x203F of the member record. -/
def Load.recordBody (l : Load) : List Byte :=
  let m := l.missing
  l.digest ++ leBytes 4 m.length ++ List.replicate 20 0
    ++ leBytes 8192 (m.foldl (fun n i => n + 2 ^ i) 0)

/-- HEAD of the member record. -/
def Load.recordHead (l : Load) (state status : Nat) : Nat :=
  l.id + state * 2 ^ 32 + l.policy * 2 ^ 40 + status * 2 ^ 48

/-- A privileged write of the loader. -/
def Block.wldWrite (b : Block) (owner : XOwner) (a : Nat) (bs : List Byte) : Block :=
  b.newXfer { xfer0 owner .write with pieces := [{ addr := a, len := bs.length, sram := 0 }], data := [bs], priv := true, group := 340, page := pgWld }

/-- A SWAP of the loader. -/
def Block.wldSwap (b : Block) (a v : Nat) : Block :=
  b.newXfer { xfer0 .engine (.atomic 4 v 0) with pieces := [{ addr := a, len := 8, sram := 0 }], priv := true, group := 340, page := pgWld }

/-- The member record goes to every member: its body, a fence, then HEAD. -/
def Block.sendRecords (b : Block) (s : Nat) : Block :=
  let l := b.load s
  (b.loadMembers l).foldl (fun b m => b.wldWrite (.member s m) (rackAddr m (l.area + 16384 * b.slotId + 8)) l.recordBody) b

/-- The state that HEAD shows: 1 OK, 2 MISSING, 3 FAILED. -/
def Block.recordState (b : Block) (s : Nat) : Nat :=
  if b.ldState s = ldFAILED then 3 else if (b.load s).missing.isEmpty then 1 else 2

/-- A load ends FAILED: its leases end, and its record tells the members where one is due. -/
def Block.loadFail (b : Block) (s status : Nat) (record : Bool) : Block :=
  let l := b.load s
  let b1 := l.shards.foldl (fun b p => b.unlease p.2.frames) b
  let b2 := b1.setLoad s { l with shards := l.shards.map (fun p => (p.1, { p.2 with frames := [], got := [], relayOn := false })) }
  let b3 := (b2.setLdState s ldFAILED).put pgWld F.WLD_LSTAT.STATUS status s
  if record then b3.sendRecords s else b3

/-! ### Attempts (R388 to R394) -/

/-- Bytes of a piece. -/
def Block.pieceLen (b : Block) : Nat := 2 ^ b.eff pgWld F.WLD_X_PIECE.PIECE_LOG2

/-- The length of the piece at `landed`. -/
def Block.nextPiece (b : Block) (l : Load) (i landed : Nat) : Nat := min (b.pieceLen - landed % b.pieceLen) (b.shardLen l i - landed)

/-- The progress word of a shard, as its predecessor wrote it, where it carries this load's tag (R385). -/
def Block.progress (b : Block) (l : Load) (i : Nat) : Nat :=
  let w := b.m64 (l.area + 2 ^ 20 + 8 * i)
  if bits w 40 16 = l.id % 65536 then w else 0

/-- Set the progress word of the successor. -/
def Block.setProgress (b : Block) (s i bytes : Nat) (verified gaveUp : Bool) : Block :=
  let l := b.load s
  match b.chainSucc l i with
  | some d => b.wldSwap (rackAddr d (l.area + 2 ^ 20 + 8 * i)) (bytes + l.id % 65536 * 2 ^ 40 + b2n verified * 2 ^ 62 + b2n gaveUp * 2 ^ 63)
  | none => b

/-- The relay of a shard stops: GAVE_UP (R391). -/
def Block.giveUp (b : Block) (s i : Nat) : Block :=
  match SMap.find (b.load s).shards i with
  | some x => if x.relayOn then (b.setShard s i { x with relayOn := false }).setProgress s i x.relayed false true else b
  | none => b

/-- The next landed piece goes to the successor. -/
def Block.relayNext (b : Block) (s i : Nat) : Block :=
  let l := b.load s
  match SMap.find l.shards i, b.chainSucc l i with
  | some x, some d =>
    if x.relayOn ∧ !x.relayBusy ∧ x.relayed < x.landed then
      let n := min (b.nextPiece l i x.relayed) (x.landed - x.relayed)
      let off := b.shardDest l i + x.relayed
      (b.setShard s i { x with relayBusy := true }).wldWrite (.relay s i (x.relayed + n)) (rackAddr d off) (b.mem.read off n)
    else b
  | _, _ => b

/-- Every shard of the package is VERIFIED or missing: REPORT (R387, R395). -/
def Block.checkReport (b : Block) (s : Nat) : Block :=
  let l := b.load s
  if b.ldState s = ldFETCH ∧ l.shards.all (fun p => decide (p.2.phase = .verified) || decide (p.2.phase = .missing)) then
    ((b.setLoad s { l with since := b.now }).setLdState s ldREPORT).sendRecords s
  else b

/-- The piece in flight takes its leases, and a pull asks for its bytes (R389, R393). -/
def Block.beginPiece (b : Block) (s i : Nat) : Block :=
  let l := b.load s
  match b.shard? s i with
  | none => b
  | some x =>
    let n := b.nextPiece l i x.landed
    if x.phase ≠ .landing ∨ x.src = 1 ∨ x.src = 3 ∨ !x.frames.isEmpty ∨ n = 0 then b
    else
      let fs := framesOf (b.shardDest l i + x.landed) n
      let (b1, st) := b.takeLeases fs
      if st = stFROZEN then b1.loadFail s lsDEST_FROZEN true
      else if st ≠ stOK then b1
      else
        let b2 := b1.setShard s i { x with frames := fs, got := [] }
        match x.src, b.chainPred l i with
        | 2, some p =>
          b2.newXfer { xfer0 (.pull s i x.landed) .read with
            pieces := [{ addr := rackAddr p (b.shardDest l i + x.landed), len := n, sram := 0 }], priv := true, group := 340, page := pgWld }
        | _, _ => b2

/-- An attempt begins from a source; the first one relays to a successor. -/
def Block.beginAttempt (b : Block) (s i src : Nat) : Block :=
  let l := b.load s
  match SMap.find l.shards i with
  | none => b
  | some x =>
    let first := decide (x.begun = 0) && decide (src ≠ 3)
    (b.setShard s i { x with phase := .landing, src := src, begun := x.begun + 1, landed := if src = 3 then b.shardLen l i else 0, got := [], frames := []
                             lastLand := b.now, relayed := 0, relayOn := first && (b.chainSucc l i).isSome }).beginPiece s i

/-- The source of a retry (R393). -/
def Block.retrySource (b : Block) (l : Load) (i : Nat) : Nat :=
  if (b.chainPred l i).isSome ∧ bit (b.progress l i) 62 then 2 else 0

/-- A shard is missing (R394). -/
def Block.shardMissing (b : Block) (s i : Nat) (x : Shard) : Block :=
  let b1 := ((b.setShard s i { x with phase := .missing, frames := [], got := [] }).bumpWrap pgWld F.WLD_LMISS.SHARDS_MISSING s).raise pgWld 2
  let b2 := b1.reportPage pgWld 0x0C03 i
  if b.shardClass (b.load s) i = 0 ∨ (b.load s).policy = 1 then b2.loadFail s lsSHARD_MISSING true else b2.checkReport s

/-- An attempt ends without VERIFIED (R388, R393, R394). -/
def Block.endAttempt (b : Block) (s i : Nat) (counts : Bool) : Block :=
  match b.shard? s i with
  | none => b
  | some x =>
    let b1 := (b.unlease x.frames).giveUp s i
    let y := { x with counted := x.counted + b2n counts, frames := [], got := [], relayOn := false }
    if (b.load s).retryMax < y.counted then b1.shardMissing s i y
    else
      let b2 := b1.setShard s i y
      (if counts then b2.bump pgWld F.WLD_LRET.RETRY_CNT s else b2).beginAttempt s i (b.retrySource (b.load s) i)

/-- Bytes landed up to `n`: the leases of the piece end and the relay and the next piece go on. -/
def Block.landTo (b : Block) (s i n : Nat) : Block :=
  match b.shard? s i with
  | none => b
  | some x =>
    (((b.unlease x.frames).setShard s i { x with landed := n, got := [], frames := [], lastLand := b.now }).relayNext s i).beginPiece s i

/-- LOAD_START (R387). -/
def Block.loadStart (b : Block) (s : Nat) : Block :=
  if !ldIdle (b.ldState s) ∨ b.safe ∨ !b.runs pgWld then b
  else
    let bytes := match b.localOff (b.eff pgWld F.WLD_LDESC.LOAD_DESC s) with
      | some off => if b.usable off 64 ∧ off % 64 = 0 then b.mem.read off 64 else []
      | none => []
    let l : Load := { desc := bytes, policy := b.eff pgWld F.WLD_CFG.MISSING_SHARD_POLICY, recheck := decide (b.eff pgWld F.WLD_CFG.RECHECK = 1)
                      retryMax := b.eff pgWld F.WLD_CFG.RETRY_MAX, shardTimeout := b.eff pgWld F.WLD_CFG.SHARD_TIMEOUT
                      reportTimeout := b.eff pgWld F.WLD_CFG.REPORT_TIMEOUT, digest := [], shards := [], since := 0 }
    let z (b : Block) (f : Field) : Block := b.put pgWld f 0 s
    (z (z (z (z (z (z (z (b.setLoad s l) F.WLD_LSTAT.STATUS) F.WLD_LSTAT.REPORTED) F.WLD_LOK.SHARDS_OK) F.WLD_LMISS.SHARDS_MISSING)
      F.WLD_LRET.RETRY_CNT) F.WLD_LRET.DIGEST_BAD_CNT) F.WLD_LUNAV.UNAVAIL_CNT).setLdState s ldCHECK

/-- LOAD_CHECK_DONE (R386, R387): the first attempts and the verifications in place begin, or the load fails. -/
def Block.loadCheckDone (b : Block) (s : Nat) : Block :=
  let l := b.load s
  if b.ldState s ≠ ldCHECK then b
  else
    let st := b.loadStatus s l
    if st ≠ 0 then
      let b1 := if st = lsSIG_FAIL then ((b.bump pgWld F.WLD_ERR_CNT.SIG_FAIL_CNT).raise pgWld 4).reportPage pgWld 0x0C01 else b
      let past3 := decide (st ≠ lsBAD_DESC) && decide (st ≠ lsSIG_FAIL) && decide (st ≠ lsBAD_PLAN)
      let b2 := if past3 then b1.setLoad s { l with digest := sha256 (b.signedPart l) } else b1
      ((b2.loadFail s st past3).raise pgWld 1).reportPage pgWld 0x0C04
    else
      let own := b.ownShards l
      let l' : Load := { l with digest := sha256 (b.signedPart l), shards := own.map (fun i => (i, shardNone)) }
      let b1 := { (b.setLoad s l').setLdState s ldFETCH with conns := (b.loadTargets l).foldl (fun m t => if (SMap.find m t).isSome then m else SMap.set m t b.now) b.conns }
      (own.foldl (fun b i =>
        b.beginAttempt s i (if b.allFrames (b.shardDest l i) (b.shardLen l i) frFROZEN then 3 else if b.chainPos l i = 0 then 0 else 1)) b1).checkReport s

/-- LOAD_ABORT (R387). -/
def Block.loadAbort (b : Block) (s : Nat) : Block :=
  if ldIdle (b.ldState s) then b else b.loadFail s lsABORTED (decide (b.ldState s ≠ ldCHECK))

/-- NVME_READ_CPL: an NVMe Read of a shard ends (R378): its bytes land within the piece in flight, or the attempt ends with
IO_ERROR. Bytes outside a registered region are refused. -/
def Block.nvmeReadCpl (b : Block) (s i off : Nat) (ok : Bool) (bytes : List Byte) : Block :=
  let l := b.load s
  match b.shard? s i with
  | none => if ok then b.bump pgWld F.WLD_REMOTE_REJ.REMOTE_REJ_CNT else b
  | some x =>
    let n := b.nextPiece l i x.landed
    let within := decide (x.phase = .landing) && decide (x.src = 0) && !x.frames.isEmpty && decide (x.landed ≤ off) && decide (off + bytes.length ≤ x.landed + n)
    if !ok then
      if x.phase = .landing ∧ x.src = 0 then
        ((b.bump pgWld F.WLD_ERR_CNT.NVME_ERR_CNT).reportPage pgWld 0x0C05).endAttempt s i true
      else b
    else if !within then (b.beginPiece s i).bump pgWld F.WLD_REMOTE_REJ.REMOTE_REJ_CNT
    else
      ((((b.store (b.shardDest l i + off) bytes).countWrite (b.shardDest l i + off) bytes.length).bumpWrap pgWld F.WLD_ETH_BYTES.ETH_BYTES 0 bytes.length).setShard
        s i { x with got := x.got ++ [(off, bytes.length)], lastLand := b.now })

/-- PIECE_LANDED: a piece of a shard has landed whole from storage, or the predecessor's relay has moved on (R388, R389, R391). -/
def Block.pieceLanded (b : Block) (s i : Nat) : Block :=
  let l := b.load s
  match b.shard? s i with
  | none => b
  | some x =>
    if x.phase ≠ .landing then b
    else if x.src = 0 then
      let n := b.nextPiece l i x.landed
      if x.frames.isEmpty then b.beginPiece s i
      else if 0 < n ∧ n ≤ x.got.foldl (fun m g => m + g.2) 0 then b.landTo s i (x.landed + n) else b
    else if x.src = 1 then
      let w := b.progress l i
      let upto := min (w % 2 ^ 40) (b.shardLen l i)
      if x.landed < upto then b.landTo s i upto
      else if x.landed = b.shardLen l i then b
      else if bit w 62 then b.endAttempt s i false
      else if bit w 63 then b.endAttempt s i true
      else b
    else b.beginPiece s i

/-- The load fails because frozen data under a destination is not the shard's (R390), or goes on with another attempt. -/
def Block.digestBad (b : Block) (s i : Nat) (x : Shard) : Block :=
  let b1 := ((b.bump pgWld F.WLD_LRET.DIGEST_BAD_CNT s).raise pgWld 3).reportPage pgWld 0x0C02 i
  if x.src = 3 then b1.loadFail s lsDEST_FROZEN true else b1.endAttempt s i true

/-- A shard is VERIFIED: the successor learns it (R391). -/
def Block.shardVerified (b : Block) (s i : Nat) (x : Shard) : Block :=
  let b1 := (b.setShard s i { x with phase := .verified }).bumpWrap pgWld F.WLD_LOK.SHARDS_OK s
  (b1.setProgress s i x.relayed true false).checkReport s

/-- HASH_DONE: a lane has hashed the whole shard (R390). -/
def Block.hashDone (b : Block) (s i : Nat) : Block :=
  let l := b.load s
  match b.shard? s i with
  | none => b
  | some x =>
    let off := b.shardDest l i
    let len := b.shardLen l i
    let good := decide (sha256 (b.mem.read off len) = b.shardDigest l i)
    if x.phase = .landing ∧ x.landed = len then
      if !good then b.digestBad s i x
      else if x.src = 3 then b.shardVerified s i x
      else (b.setShard s i { x with phase := .freezing }).askFreeze (.shard s i x.begun) 1 off (len / 4096)
    else if x.phase = .recheck then
      if good then b.shardVerified s i x
      else (b.digestBad s i x).askFreeze (.loadThaw s) 2 off (len / 4096)
    else b

/-- SHARD_FREEZE_DONE (R390). -/
def Block.shardFreezeDone (b : Block) (s i : Nat) : Block :=
  match b.shard? s i with
  | none => b
  | some x =>
    match b.takeDone (.shard s i x.begun) with
    | none => b
    | some st =>
      let b1 := b.dropDone (.shard s i x.begun)
      if st ≠ 0 ∨ x.phase ≠ .freezing then b1
      else if (b.load s).recheck then b1.setShard s i { x with phase := .recheck }
      else b1.shardVerified s i x

/-- SHARD_TIMEOUT (R388). -/
def Block.shardTimeout (b : Block) (s i : Nat) : Block :=
  let l := b.load s
  match b.shard? s i with
  | none => b
  | some x =>
    if x.phase = .landing ∧ x.landed < b.shardLen l i ∧ x.lastLand + l.shardTimeout * 100000000 ≤ b.now then b.endAttempt s i true else b

/-! ### Reports and masking (R395 to R398) -/

/-- The member record of a slot as it lies here. -/
def Load.record (l : Load) (m : Nat) : Nat := l.area + 16384 * m

/-- The record of a member has arrived. -/
def Block.recordHere (b : Block) (l : Load) (m : Nat) : Bool := decide (b.m32 (l.record m) = l.id) && decide (b.byteAt (l.record m + 4) ≠ 0)

/-- The records that are here are read: failures, mismatches and the count (R396). With all of them the load is FINAL. -/
def Block.scanRecords (b : Block) (s : Nat) : Block :=
  let l := b.load s
  if b.ldState s ≠ ldREPORT then b
  else
    let ms := b.loadMembers l
    let here := ms.filter (b.recordHere l)
    let b1 := b.put pgWld F.WLD_LSTAT.REPORTED here.length s
    if here.any (fun m => decide (b.byteAt (l.record m + 4) = 3)) then b1.loadFail s lsMEMBER_FAILED true
    else if here.any (fun m => decide (b.mem.read (l.record m + 8) 32 ≠ l.digest) || decide (b.byteAt (l.record m + 5) ≠ l.policy)) then
      b1.loadFail s lsMEMBER_MISMATCH true
    else if here.length = ms.length then b1.setLdState s ldFINAL
    else b1

/-- MEMBER_RECORD: the record of a member arrives. -/
def Block.memberRecord (b : Block) (s m : Nat) : Block := if b.recordHere (b.load s) m then b.scanRecords s else b

/-- REPORT_TIMEOUT (R396). -/
def Block.reportTimeout (b : Block) (s : Nat) : Block :=
  let l := b.load s
  if b.ldState s = ldREPORT ∧ l.since + l.reportTimeout * 100000000 ≤ b.now ∧ !(b.loadMembers l).all (b.recordHere l) then
    (b.loadFail s lsMEMBER_LOST true).reportPage pgWld 0x0C06
  else b

/-- The shards missing at some member: the union of the MISSING bitmaps. -/
def Block.unionMissing (b : Block) (l : Load) : List Nat :=
  let u := (b.loadMembers l).foldl (fun n m => n ||| leNat (b.mem.read (l.record m + 0x40) 8192)) 0
  (List.range (b.shardCount l)).filter (fun i => u.testBit i)

/-- Clear AVAIL of the expert of a shard in the table at PLC. -/
def Block.maskExpert (b : Block) (s : Nat) (l : Load) (i : Nat) : Block :=
  let t := l.plc % 2 ^ 41
  let layer := b.m16 (l.shardRec i + 0xA)
  let e := b.m16 (l.shardRec i + 0xC)
  if layer < b.plcLayers t ∧ e < b.plcStride t then
    let a := plcEntry t (b.plcStride t) layer e + 0x11
    (b.pw a 1 (b.byteAt a / 2 * 2)).bumpWrap pgWld F.WLD_LUNAV.UNAVAIL_CNT s
  else b

/-- LOAD_FINAL (R397). -/
def Block.loadFinal (b : Block) (s : Nat) : Block :=
  let l := b.load s
  if b.ldState s ≠ ldFINAL then b
  else
    let u := b.unionMissing l
    if u.any (fun i => decide (b.shardClass l i = 0)) || (!u.isEmpty && decide (l.policy = 1)) then b.loadFail s lsSHARD_MISSING true
    else if !b.plcFree l then (b.loadFail s lsPLC_BUSY true).raise pgWld 1
    else
      let b1 := if l.plc = 0 then b else u.foldl (fun b i => b.maskExpert s l i) b
      (b1.setLdState s ldDONE).raise pgWld 0

/-- The safe state ends every load (R399). -/
def Block.wldSafe (b : Block) : Block :=
  (List.range 4).foldl (fun b s => if ldIdle (b.ldState s) then b else b.loadFail s lsABORTED false) { b with conns := [] }

/-! ### What the fabric tells the loader -/

/-- One event of the loader or of a responder queue pair. -/
def Block.wldEvent (b : Block) (e : WldEv) : Block :=
  match e with
  | .relayed s i n st =>
    match SMap.find (b.load s).shards i with
    | none => b
    | some x =>
      let b1 := b.setShard s i { x with relayBusy := false }
      if !x.relayOn then b1
      else if st ≠ 0 then b1.giveUp s i
      else (b.setShard s i { x with relayBusy := true }).startFence (fun _ => .relay s i n) 340
  | .relayFenced s i n =>
    match SMap.find (b.load s).shards i with
    | none => b
    | some x =>
      let b1 := (b.setShard s i { x with relayBusy := false, relayed := n }).bumpWrap pgWld F.WLD_RELAY_BYTES.RELAY_BYTES 0 (n - x.relayed)
      if x.relayOn then (b1.setProgress s i n false false).relayNext s i else b1
  | .pulled s i off st data =>
    match b.shard? s i with
    | none => b
    | some x =>
      if x.src ≠ 2 ∨ x.landed ≠ off ∨ x.phase ≠ .landing then b
      else if st ≠ 0 then ((b.bump pgWld F.WLD_ERR_CNT.NVME_ERR_CNT).reportPage pgWld 0x0C05).endAttempt s i true
      else
        let a := b.shardDest (b.load s) i + off
        ((b.store a data).countWrite a data.length).landTo s i (off + data.length)
  | .rdmaOver q st data => b.qpOver q st data
  | .recordSent s m => b.startFence (fun _ => .member s m) 340
  | .recordFenced s m =>
    let l := b.load s
    b.wldSwap (rackAddr m (l.record b.slotId)) (l.recordHead (b.recordState s) (b.eff pgWld F.WLD_LSTAT.STATUS s))

/-- Transfers that have ended, and what the loader does about them, until nothing is left. -/
def Block.settleN : Nat → Block → Block
  | 0, b => b
  | n + 1, b =>
    let b1 := b.settle
    match b1.wldEv with
    | [] => b1
    | e :: rest => Block.settleN n (({ b1 with wldEv := rest }).wldEvent e)

/-- Everything that a command sets in motion at once comes to rest; count exchanges whose barrier has failed have failed (R275). -/
def Block.rest (b : Block) : Block := (Block.settleN 4096 b).missCounts

/-! ### Storage queue pairs (R377) -/

/-- The full send rate of a queue pair.
Log entry 45 (DESIGN CHOICE, unsafe). -/
def rateFull : Nat := 2 ^ 32

/-- The send rate of a queue pair and the last cut. -/
def Block.qpRate (b : Block) (q : Nat) : Nat × Nat := SMap.get (rateFull, 0) b.rates q

/-- CNP: the send rate of a queue pair is cut by CNP_CUT / 256. -/
def Block.cnp (b : Block) (port q : Nat) : Block :=
  let r := (b.qpRate q).1
  let cut := r * b.eff pgWld F.WLD_X_RATE.CNP_CUT / 256
  { b.bump (8 + port) F.ETH_CNT.CNP_RX_CNT with rates := SMap.put (rateFull, 0) b.rates q (r - cut, cut) }

/-- RATE_RECOVER: one sixteenth of the cut comes back. -/
def Block.rateRecover (b : Block) (q : Nat) : Block :=
  let (r, cut) := b.qpRate q
  let r' := min rateFull (r + ceilDiv cut 16)
  { b with rates := SMap.put (rateFull, 0) b.rates q (if r' = rateFull then (rateFull, 0) else (r', cut)) }

/-- KEEP_ALIVE: a Keep Alive to a connected target before its KATO runs out. -/
def Block.keepAlive (b : Block) (t : Nat) : Block :=
  match SMap.find b.conns t with
  | none => b
  | some _ => { b with conns := SMap.set b.conns t b.now }.emit (.event "nvme-keep-alive" [t])

/-- MKEY_LOCK: key slots become read-only until reset (R404). -/
def Block.mkeyLock (b : Block) (mask : Nat) : Block := b.put pgWld F.WLD_MKEY_LOCK.LOCK (b.eff pgWld F.WLD_MKEY_LOCK.LOCK ||| (mask % 16))

end Sys2Proof.Machine
end

