-- ==== Sys2Proof/Machine/Power.lean ====
section
/-! DEFINITION. The power governor (R406 to R438): the level and its sources, caps, alerts, droop, frequency, thermal control,
throttle reasons and the Rest state.
Log entry 54 (DEDUCED, unsafe). -/
namespace Sys2Proof.Machine

/-- The governor after reset (R435).
Log entry 6 (DESIGN CHOICE, unsafe). -/
def powerReset : Power :=
  { samples := [], calib := 0, raw := 0, gTrip := 16, gAlert := 16, gClamp := 16, gCap := 16, gEdc := 16, gQuad := [], g := []
    target := [], riseRef := [], capEff := 2400, overSince := none, edcTimed := false, edcAt := 0, quadAt := [], sampled := 0, failed := 0
    freq := .nominal, freqAt := 0, goodSince := none, lastDroop := none, quiet := none, avsFailed := false, alertEnd := none, lastBeat := 0
    wakePend := false, wakeAt := 0, acc := 0 }

/-- A field of the governor's page. -/
def Block.pw? (b : Block) (f : Field) (i : Nat := 0) : Nat := b.eff pgPwr f i
def Block.setPwr (b : Block) (x : Power) : Block := { b with power := x }

/-! ### Power and its averages (R408, R409) -/

/-- The floor level of a power. -/
def Block.floorLevel (b : Block) (w : Nat) : Nat :=
  min 16 (16 * (w - b.pw? F.PWR_X_MODEL.P_IDLE) / max 1 (b.pw? F.PWR_X_MODEL.P_FULL - b.pw? F.PWR_X_MODEL.P_IDLE))

/-- A mean kept as a sum and a count. -/
structure Mean where
  sum : Nat
  n : Nat

/-- The mean of the last `n` estimates. -/
def Power.mean (x : Power) (n : Nat) : Mean :=
  let l := x.samples.take n
  { sum := l.foldl (· + ·) 0, n := l.length }

def Mean.floor (m : Mean) : Nat := m.sum / max 1 m.n
def Mean.above (m : Mean) (w : Nat) : Bool := decide (w * m.n < m.sum)
def Mean.below (m : Mean) (w : Nat) : Bool := decide (m.sum < w * m.n)

def Power.p10 (x : Power) : Mean := x.mean 10
def Power.p1 (x : Power) : Nat := x.samples.headD 0
def Block.pWin (b : Block) : Mean := b.power.mean (b.pw? F.PWR_X_WIN.CAP_WINDOW * 100)

/-! ### The level (R406, R407) -/

/-- The applied level of a cluster. -/
def Block.gOf (b : Block) (c : Nat) : Nat := SMap.get 16 b.power.g c
def Block.targetOf (b : Block) (c : Nat) : Nat := SMap.get 16 b.power.target c

/-- The target of a cluster: the least of all sources. -/
def Block.levelTarget (b : Block) (c : Nat) : Nat :=
  let x := b.power
  min (if b.safe then 0 else 16) (min x.gTrip (min x.gAlert (min x.gClamp (min x.gCap (min x.gEdc
    (min (SMap.get 16 x.gQuad (c / 6)) (b.pw? F.PWR_CTEMP.G_THERM c)))))))

/-- G_MIN of the page. -/
def Block.showMin (b : Block) : Block := b.put pgPwr F.PWR_LEVEL.G_MIN ((List.range 24).foldl (fun m c => min m (b.gOf c)) 16)

/-- The agent of a cluster gives its tiles a new level, and their vector flag. -/
def Block.giveLevel (b : Block) (c g : Nat) : Block :=
  let vec := b2n (decide (g < 16) && decide (b.pw? F.PWR_MODE.VEC_GATE = 1))
  (List.range 12).foldl (fun b i => (b.put (pgTile (12 * c + i)) F.TIL_ISSUE.GOV_LEVEL g).put (pgTile (12 * c + i)) F.TIL_ISSUE.VEC_GOV vec)
    (b.setPwr { b.power with g := SMap.put 16 b.power.g c g })

/-- A target reaches the agent of a cluster: a fall applies at once, and a rise begins its steps. -/
def Block.retarget1 (b : Block) (c : Nat) : Block :=
  let x := b.power
  let t := b.levelTarget c
  let g := b.gOf c
  let begins := decide (g < t) && !decide (g < b.targetOf c)
  let b1 := b.setPwr { x with
    target := SMap.put 16 x.target c t
    riseRef := if begins then SMap.set x.riseRef c (max (16 * b.hearth) (SMap.get 0 x.riseRef c)) else x.riseRef }
  if t < g then b1.giveLevel c t else b1

/-- The governor sends its targets. -/
def Block.retarget (b : Block) : Block :=
  ((List.range 24).foldl Block.retarget1 b).showMin

/-! ### Throttle reasons (R430) -/

/-- The lowest terms of CAP_EFF: CAP or EMERG_CAP, and ORPHAN_CAP (R410). -/
def Block.capTerm (b : Block) : Nat :=
  min (b.pw? F.PWR_CAP.CAP) (if b.pw? F.PWR_ALERT.CAP_STEP = 1 then b.pw? F.PWR_EMERG.EMERG_CAP else 2400)
def Block.orphanTerm (b : Block) : Nat := if b.pw? F.PWR_ORPHAN.ORPHANED = 1 then b.pw? F.PWR_EMERG.ORPHAN_CAP else 2400
def Block.capNow (b : Block) : Nat := min b.capTerm b.orphanTerm

/-- The reasons that are active for a live tile. -/
def Block.tileReasons (b : Block) (t : Nat) : Nat :=
  let x := b.power
  let l := b.issueLevel t
  let c := t / 12
  if (b.tile t).seq = .retired ∨ 16 ≤ l then 0
  else
    b2n (decide (l = x.gCap) && decide (b.capTerm ≤ b.orphanTerm))
    + 2 * b2n (decide (l = b.pw? F.PWR_CTEMP.G_THERM c) || decide (l = x.gTrip))
    + 4 * b2n (decide (l = 8) && decide (b.eff (pgTile t) F.TIL_ISSUE.DROOP = 1))
    + 8 * b2n (decide (l = x.gEdc) || decide (l = SMap.get 16 x.gQuad (c / 6)))
    + 16 * b2n (decide (l = b.eff (pgTile t) F.TIL_ISSUE.RAMP_LEVEL))
    + 32 * b2n (decide (l = x.gAlert) && decide (b.pw? F.PWR_ALERT.PWR_ALERT = 1))
    + 64 * b2n (decide (l = x.gAlert) && decide (b.pw? F.PWR_ALERT.COOL_ALERT = 1))
    + 128 * b2n (decide (l = x.gClamp))
    + 256 * b2n (decide (l = x.gCap) && decide (b.pw? F.PWR_ORPHAN.ORPHANED = 1) && decide (b.orphanTerm ≤ b.capTerm))

/-- The active reasons. -/
def Block.reasons (b : Block) : Nat :=
  let tiles := (List.range 288).foldl (fun m t => m ||| b.tileReasons t) 0
  let rise := (List.range 24).any (fun c => decide (b.gOf c < b.targetOf c))
  tiles ||| (16 * b2n rise) ||| (512 * b2n b.power.quiet.isSome)

/-- The active reasons are shown, and remembered for the present microsecond. -/
def Block.noteReasons (b : Block) : Block :=
  let r := b.reasons
  let old := b.pw? F.PWR_REASON.REASON
  let b1 := b.setPwr { b.power with acc := b.power.acc ||| r ||| old }
  if r = old then b1 else (b1.put pgPwr F.PWR_REASON.REASON r).trace 0 0x0F01 pgPwr 399 none r

/-- A Hearth microsecond ends: the reasons seen in it count and stick. -/
def Block.countReasons (b : Block) : Block :=
  let r := b.power.acc ||| b.pw? F.PWR_REASON.REASON
  let b1 := (bitIndices 10 r).foldl (fun b i => b.bumpWrap pgPwr F.PWR_THR_US.DURATION i) b
  (b1.put pgPwr F.PWR_REASON_STICKY.STICKY (b.pw? F.PWR_REASON_STICKY.STICKY ||| r)).setPwr { b1.power with acc := 0 }

/-! ### Frequency (R420 to R424) -/

/-- A voltage request on the four core rails. -/
def Block.coreVolt (b : Block) (mv : Nat) : Block := (List.range 4).foldl (fun b q => b.emit (.voltage q mv)) b

/-- VNOM and VBOOST, fused per part; 0.75 V before the fuses are sensed (R421, R526).
Log entry 55 (DESIGN CHOICE, unsafe). -/
def Block.vnom (b : Block) : Nat := (b.boot.fuses.map Fuses.vnom).getD 750
def Block.vboost (b : Block) : Nat := (b.boot.fuses.map Fuses.vboost).getD 750

/-- The conditions of R421 hold now. -/
def Block.boostOk (b : Block) : Bool :=
  let m := b.pWin
  let margin := b.pw? F.PWR_X_BOOST.BOOST_MARGIN
  decide (b.pw? F.PWR_MODE.FIXED_FREQ = 0) && !b.power.avsFailed && !b.asleep && decide (b.pw? F.PWR_REASON.REASON = 0)
    && decide (margin ≤ b.power.capEff) && !m.above (b.power.capEff - margin)
    && (List.range 24).all (fun c => decide (b.pw? F.PWR_CTEMP.TEMP c + 5 ≤ b.pw? F.PWR_THERM.THERM_TARGET))
    && (List.range 24).all (fun c => decide (b.eff (pgTile (12 * c)) F.TIL_ISSUE.DROOP = 0))
    && decide (b.pw? F.PWR_ALERT.PWR_ALERT = 0) && decide (b.pw? F.PWR_ALERT.COOL_ALERT = 0) && decide (b.pw? F.PWR_ALERT.CAP_STEP = 0)

/-- The tiles return to 1.1 GHz and VNOM is requested. -/
def Block.leaveBoost (b : Block) : Block :=
  (((b.setPwr { b.power with freq := .leaving, freqAt := b.now, goodSince := none }).put pgPwr F.PWR_MODE.BOOST_ACTIVE 0).put pgPwr
    F.PWR_MODE.FREQ_BUSY 1).coreVolt b.vnom

/-- An entry is aborted (R423). -/
def Block.abortBoost (b : Block) : Block :=
  let b1 := ((b.leaveBoost.raise pgPwr 5).bump pgPwr F.PWR_FREQ_CNT.FREQ_ABORTS).reportPage pgPwr 0x0306
  (b1.setPwr { b1.power with quiet := some b.now }).noteReasons

/-- A condition that fails aborts an entry or forces the exit; the dwell is measured (R421 to R423). -/
def Block.freqCheck (b : Block) : Block :=
  let ok := b.boostOk
  let x := b.power
  if ok then b.setPwr { x with goodSince := some (x.goodSince.getD b.now) }
  else
    match x.freq with
    | .entering => b.abortBoost
    | .boost => b.leaveBoost
    | _ => b.setPwr { x with goodSince := none }

/-- What follows every change of a source of the level. -/
def Block.powerChanged (b : Block) : Block := b.retarget.noteReasons.freqCheck

/-- BOOST_ENTRY: after BOOST_DWELL of good conditions. -/
def Block.boostEntry (b : Block) : Block :=
  match b.power.goodSince with
  | none => b
  | some t =>
    if b.power.freq = .nominal ∧ b.boostOk ∧ t + b.pw? F.PWR_X_BOOST.BOOST_DWELL * 10000 ≤ b.now then
      ((b.setPwr { b.power with freq := .entering, freqAt := b.now }).put pgPwr F.PWR_MODE.FREQ_BUSY 1).coreVolt b.vboost
    else b

/-- VOLT_SETTLE: the regulators have acknowledged and the voltage has settled. The tiles switch to 1.25 GHz, or an exit is over.
Log entry 55 (DESIGN CHOICE, unsafe). -/
def Block.voltSettle (b : Block) : Block :=
  match b.power.freq with
  | .entering =>
    if b.boostOk ∧ b.power.freqAt + b.pw? F.PWR_X_BOOST.VOLT_SETTLE * 1000 ≤ b.now then
      (((b.setPwr { b.power with freq := .boost }).put pgPwr F.PWR_MODE.BOOST_ACTIVE 1).put pgPwr F.PWR_MODE.FREQ_BUSY 0).bump pgPwr
        F.PWR_FREQ_CNT.BOOST_ENTRIES
    else b
  | .leaving => (b.setPwr { b.power with freq := .nominal }).put pgPwr F.PWR_MODE.FREQ_BUSY 0
  | _ => b

/-- BOOST_EXIT and FREQ_ABORT: a condition of R421 has failed. -/
def Block.boostExit (b : Block) : Block := if b.power.freq = .boost ∧ !b.boostOk then b.leaveBoost else b
def Block.freqAbort (b : Block) : Block := if b.power.freq = .entering ∧ !b.boostOk then b.abortBoost else b

/-- FREQ_ABORT_CLEAR: 10 µs without a droop event. -/
def Block.freqAbortClear (b : Block) : Block :=
  match b.power.quiet with
  | none => b
  | some t => if max t (b.power.lastDroop.getD 0) + 10000 ≤ b.now then (b.setPwr { b.power with quiet := none }).noteReasons.freqCheck else b

/-- AVS_TIMEOUT: a voltage request without acknowledgement for 1 ms (R424). -/
def Block.avsTimeout (b : Block) : Block :=
  if (b.power.freq = .entering ∨ b.power.freq = .leaving) ∧ b.power.freqAt + 1000000 ≤ b.now then
    (((((b.setPwr { b.power with freq := .nominal, avsFailed := true, goodSince := none }).put pgPwr F.PWR_MODE.BOOST_ACTIVE 0).put pgPwr
      F.PWR_MODE.FREQ_BUSY 0).coreVolt b.vnom).raise pgPwr 9).reportPage pgPwr 0x0307
  else b

/-- A write of FIXED_FREQ (R420, R422). -/
def Block.fixedFreq (b : Block) (v : Nat) : Block := (b.put pgPwr F.PWR_MODE.FIXED_FREQ v).freqCheck

/-! ### Caps and loops (R409 to R417) -/

/-- CAP_EFF is formed anew; a fall below P_10 clamps the level, and the clamp is released once P_10 is back (R410, R412). -/
def Block.capPeriod (b : Block) : Block :=
  let x := b.power
  let eff := b.capNow
  let p10 := x.p10
  if eff < x.capEff ∧ p10.above eff then
    let fl := b.floorLevel eff
    let g := min fl x.gClamp
    (((((b.setPwr { x with capEff := eff, gClamp := g, gCap := fl }).put pgPwr F.PWR_LEVEL.CLAMP_LEVEL g).put pgPwr
      F.PWR_LEVEL.CLAMP_ON 1).raise pgPwr 0).bump pgPwr F.PWR_EV_CNT.OVERRUN_CNT).reportPage pgPwr 0x0301
  else if b.pw? F.PWR_LEVEL.CLAMP_ON = 1 ∧ !p10.above eff then
    ((b.setPwr { x with capEff := eff, gClamp := 16 }).put pgPwr F.PWR_LEVEL.CLAMP_LEVEL 16).put pgPwr F.PWR_LEVEL.CLAMP_ON 0
  else b.setPwr { x with capEff := eff }

/-- The EDC loop (R414). The forced level of EDC_TIME holds while P_10 stays above CAP_EFF. -/
def Block.edcPeriod (b : Block) : Block :=
  let x := b.power
  let above := x.p10.above x.capEff
  let since := if above then some (x.overSince.getD b.now) else none
  let timed := x.edcTimed && above
  let low := (List.range 24).foldl (fun m c => min m (b.gOf c)) 16
  if b.pw? F.PWR_X_EDC.EDC_W < x.p1 then b.setPwr { x with overSince := since, edcTimed := timed, gEdc := low - 2, edcAt := b.now }
  else if timed then b.setPwr { x with overSince := since, edcTimed := timed, edcAt := b.now }
  else if x.gEdc < 16 ∧ x.edcAt + 10000 ≤ b.now then
    b.setPwr { x with overSince := since, edcTimed := timed, gEdc := x.gEdc + 1, edcAt := b.now }
  else b.setPwr { x with overSince := since, edcTimed := timed }

/-- EDC_TIMEOUT: P_10 has exceeded CAP_EFF for 1 ms without a break. -/
def Block.edcTimeout (b : Block) : Block :=
  let x := b.power
  match x.overSince with
  | none => b
  | some t =>
    if x.edcTimed ∨ b.now < t + 1000000 then b
    else
      ((b.setPwr { x with edcTimed := true, gEdc := min x.gEdc (b.floorLevel x.capEff), edcAt := b.now }).reportPage pgPwr 0x0309).powerChanged

/-- The quadrant loop (R415). -/
def Block.quadPeriod (b : Block) (iq : List Nat) : Block :=
  (List.range 4).foldl (fun b q =>
    let x := b.power
    let i := iq.getD q 0
    let g := SMap.get 16 x.gQuad q
    let b1 := b.put pgPwr F.PWR_QCUR.I_Q (min i 1023) q
    if b.pw? F.PWR_X_EDC.IQ_MAX < i then b1.setPwr { x with gQuad := SMap.put 16 x.gQuad q (g - 2), quadAt := SMap.set x.quadAt q b.now }
    else if g < 16 ∧ SMap.get 0 x.quadAt q + 10000 ≤ b.now then
      b1.setPwr { x with gQuad := SMap.put 16 x.gQuad q (g + 1), quadAt := SMap.set x.quadAt q b.now }
    else b1) b

/-- An alert input holds the level (R425). -/
def Block.alertPeriod (b : Block) : Block :=
  if b.pw? F.PWR_ALERT.PWR_ALERT = 1 ∨ b.pw? F.PWR_ALERT.COOL_ALERT = 1 then b.setPwr { b.power with gAlert := b.floorLevel 600 } else b

/-- GOV_PERIOD: one governor period of 1 µs, with the estimate from the activity counters and the currents of the core rails
(R406, R409). In the Rest state only the estimate runs on (R433).
Log entry 53 (DESIGN CHOICE, unsafe). -/
def Block.govPeriod (b : Block) (est : Nat) (iq : List Nat) : Block :=
  let b0 := b.countReasons
  let x := b0.power
  let p1 := ((est : Int) + x.calib).toNat
  let b1 := b0.setPwr { x with raw := est, samples := (p1 :: x.samples).take 10000 }
  let b2 := (b1.put pgPwr F.PWR_NOW.P_FAST (min 4095 b1.power.p10.floor)).put pgPwr F.PWR_NOW.P_AVG (min 4095 b1.pWin.floor)
  if b2.asleep then b2 else ((b2.capPeriod.edcPeriod.quadPeriod iq).alertPeriod).powerChanged

/-- POWER_RECAL: the estimate is recalibrated against the regulators' readback (R409).
Log entry 53 (DESIGN CHOICE, unsafe). -/
def Block.powerRecal (b : Block) (w : Nat) : Block := b.setPwr { b.power with calib := (w : Int) - b.power.raw }

/-- G_RISE_STEP: the agent of a cluster raises its level by one (R406, R417). -/
def Block.gRiseStep (b : Block) (c : Nat) : Block :=
  let x := b.power
  let g := b.gOf c
  let due := SMap.get 0 x.riseRef c + b.rampTime
  if g < b.targetOf c ∧ due ≤ 16 * b.hearth then
    ((((b.setPwr { x with riseRef := SMap.set x.riseRef c due }).giveLevel c (g + 1)).showMin).noteReasons).freqCheck
  else b

/-- CAP_LOOP: every 10 µs (R411). STEP_W is (P_FULL − P_IDLE) / 16. -/
def Block.capLoop (b : Block) : Block :=
  let x := b.power
  let m := x.p10
  let span := b.pw? F.PWR_X_MODEL.P_FULL - b.pw? F.PWR_X_MODEL.P_IDLE
  if b.asleep then b
  else if m.above x.capEff then (b.setPwr { x with gCap := x.gCap - 1 }).powerChanged
  else if 16 * m.sum + span * m.n < 16 * x.capEff * m.n then (b.setPwr { x with gCap := min 16 (x.gCap + 1) }).powerChanged
  else b

/-- CAP_WRITE: a value outside 600 to 2,400 W is discarded with CFG_REJECT; CAP_EFF follows in the next governor period (R410). -/
def Block.capWrite (b : Block) (v : Nat) : Block :=
  if v < 600 ∨ 2400 < v then b.cfgReject pgPwr else b.put pgPwr F.PWR_CAP.CAP v

/-- The governor computes RAMP_TIME and PKG_OFFSET at a step start tick (R416). -/
def Block.rampAuto (b : Block) : Block :=
  if b.pw? F.PWR_RAMP.RAMP_AUTO = 0 then b
  else
    let reach := setBits (b.eff pgGfab F.FAB_REACH.REACH) b.slotId 1 1
    let w := popcount 64 reach * b.pw? F.PWR_RAMP_STEP.RAMP_STEP_W
    let rr := max 1 (b.pw? F.PWR_RAMP.RACK_RAMP)
    let below := popcount b.slotId reach
    if w ≤ 50 * rr then (b.putCmt pgTbs F.TBS_RISE.RAMP_TIME (max 1 (ceilDiv (2 * w) rr))).putCmt pgTbs F.TBS_RISE.PKG_OFFSET 0
    else (b.putCmt pgTbs F.TBS_RISE.RAMP_TIME 100).putCmt pgTbs F.TBS_RISE.PKG_OFFSET (below % 2 * 50000)

/-! ### Droop (R419) -/

/-- DROOP_ASSERT: the clamp reaches the twelve tiles of the cluster. -/
def Block.droopAssert (b : Block) (c : Nat) : Block :=
  let b1 := (List.range 12).foldl (fun b i => b.put (pgTile (12 * c + i)) F.TIL_ISSUE.DROOP 1) b
  let b2 := ((b1.bumpWrap pgPwr F.PWR_DROOP_CNT.DROOP_CNT).bumpWrap (pgClu c) F.CLU_DROOP.DROOP_CNT).raise pgPwr 2
  (b2.setPwr { b2.power with lastDroop := some b.now, goodSince := none }).noteReasons.freqCheck

/-- DROOP_RELEASE. -/
def Block.droopRelease (b : Block) (c : Nat) : Block :=
  ((List.range 12).foldl (fun b i => b.put (pgTile (12 * c + i)) F.TIL_ISSUE.DROOP 0) b).noteReasons.freqCheck

/-! ### Alerts, the emergency cap and the heartbeat (R413, R425, R426) -/

/-- The field of PWR_ALERT of an input: 0 PWR_ALERT_N, 1 COOL_ALERT_N, 2 CAP_STEP_N. -/
def alertField (i : Nat) : Field := if i = 0 then F.PWR_ALERT.PWR_ALERT else if i = 1 then F.PWR_ALERT.COOL_ALERT else F.PWR_ALERT.CAP_STEP

/-- An assertion of an alert input is counted and reported; it holds the level from the next governor period on. -/
def Block.alertOn (b : Block) : Block :=
  ((((b.setPwr { b.power with alertEnd := none }).bump pgPwr F.PWR_EV_CNT.ALERT_CNT).raise pgPwr 3).reportPage pgPwr 0x0304)

/-- The treated level of an input changes. In Rest the inputs are evaluated at the wake (R433). -/
def Block.inputTreated (b : Block) (i : Nat) (on : Bool) : Block :=
  if 3 ≤ i then b
  else
    let b1 := b.put pgPwr (alertField i) (b2n on)
    if i = 2 then b1.freqCheck
    else if b.asleep then b1
    else if on then b1.alertOn.freqCheck
    else if b1.pw? F.PWR_ALERT.PWR_ALERT = 0 ∧ b1.pw? F.PWR_ALERT.COOL_ALERT = 0 then
      (b1.setPwr { b1.power with alertEnd := some b.now }).noteReasons
    else b1.noteReasons

/-- ALERT_RELEASE: every alert input has stayed deasserted. -/
def Block.alertRelease (b : Block) : Block :=
  match b.power.alertEnd with
  | none => b
  | some t =>
    if t + b.pw? F.PWR_ALERT.ALERT_RELEASE * 100000 ≤ b.now then (b.setPwr { b.power with gAlert := 16, alertEnd := none }).powerChanged else b

/-- HEARTBEAT: any value arms the monitoring and clears ORPHANED. -/
def Block.heartbeat (b : Block) : Block :=
  ((b.setPwr { b.power with lastBeat := b.now }).put pgPwr F.PWR_ORPHAN.HB_SEEN 1).put pgPwr F.PWR_ORPHAN.ORPHANED 0

/-- ORPHAN_TIMEOUT. -/
def Block.orphanTimeout (b : Block) : Block :=
  if b.pw? F.PWR_ORPHAN.HB_SEEN = 1 ∧ b.pw? F.PWR_ORPHAN.ORPHANED = 0 ∧ !b.asleep
      ∧ b.power.lastBeat + b.pw? F.PWR_ORPHAN.ORPHAN_TIMEOUT * 1000000 ≤ b.now then
    ((b.put pgPwr F.PWR_ORPHAN.ORPHANED 1).raise pgPwr 4).reportPage pgPwr 0x0305
  else b

/-! ### Thermal (R427, R428) -/

/-- A report of the governor about a cluster. -/
def Block.reportClu (b : Block) (c code : Nat) : Block :=
  b.report { page := pgPwr, code := code, island := 288 + c, detail := 0, part := none }

/-- The hottest working sensor. -/
def Block.showHot (b : Block) : Block :=
  let x := b.power
  let hot := (List.range 24).foldl (fun (m : Option (Nat × Nat)) c =>
    if bit x.sampled c && !bit x.failed c then
      match m with
      | some (t, _) => if t < b.pw? F.PWR_CTEMP.TEMP c then some (b.pw? F.PWR_CTEMP.TEMP c, c) else m
      | none => some (b.pw? F.PWR_CTEMP.TEMP c, c)
    else m) none
  match hot with
  | none => b
  | some (t, c) =>
    ((b.put pgPwr F.PWR_TEMP.TJ_NOW t).put pgPwr F.PWR_TEMP.HOT_CLUSTER c).put pgPwr F.PWR_TEMP.TJ_MAX_SEEN (max t (b.pw? F.PWR_TEMP.TJ_MAX_SEEN))

/-- THERMAL_LOOP: a sample of a cluster's sensor in °C (R427).
Log entry 53 (DESIGN CHOICE, unsafe). -/
def Block.thermalLoop (b : Block) (c : Nat) (t : Int) : Block :=
  let x := b.power
  let prev := b.pw? F.PWR_CTEMP.TEMP c
  let bad := decide (t < 0) || decide (150 < t) || (bit x.sampled c && decide (20 < (t - prev).natAbs))
  let show' := min 255 t.toNat
  let b1 := (b.setPwr { x with sampled := setBits x.sampled c 1 1 }).put pgPwr F.PWR_CTEMP.TEMP show' c
  let g := b.pw? F.PWR_CTEMP.G_THERM c
  let target := b.pw? F.PWR_THERM.THERM_TARGET
  let b2 := if bit x.failed c then b1
    else if bad then
      ((b1.setPwr { b1.power with failed := setBits x.failed c 1 1 }).put pgPwr F.PWR_CTEMP.G_THERM 8 c).reportClu c 0x0308
    else if 105 ≤ t then ((b1.put pgPwr F.PWR_CTEMP.G_THERM 0 c).raise pgPwr 1).reportClu c 0x0302
    else if (target : Int) ≤ t then b1.put pgPwr F.PWR_CTEMP.G_THERM (g - 1) c
    else if t < (target : Int) - b.pw? F.PWR_THERM.THERM_HYST then b1.put pgPwr F.PWR_CTEMP.G_THERM (min 16 (g + 1)) c
    else b1
  b2.showHot.powerChanged

/-- THERMTRIP: the comparator of a sensor at 110 °C (R428). -/
def Block.thermtrip (b : Block) (c : Nat) : Block :=
  if b.power.gTrip = 0 then b
  else
    ((((b.setPwr { b.power with gTrip := 0 }).put pgDev F.DEV_SB_LEVEL.THERMTRIP_OUT 1).put pgDev F.DEV_SB_LEVEL.THERMTRIP_PAD 1).reportClu
      c 0x0303).powerChanged

/-! ### The Rest state (R431 to R434) -/

def restRUN : Nat := 0
def restENTERING : Nat := 1
def restREST : Nat := 2
def restWAKING : Nat := 3

/-- The conditions of R431. -/
def Block.restOk (b : Block) : Bool :=
  decide (b.eff pgFlt F.FLT_SAFE.SAFE_STATE = 0) && (List.range 16).all (fun k => !b.enabled (pgPart k))
    && (List.range 4).all (fun s => ldIdle (b.ldState s)) && b.frzQueue.isEmpty && b.frzRuns.isEmpty && b.frzHeld.isEmpty
    && (List.range 32).all (fun g => !b.retraining g)

/-- An island is up or not (R44). -/
def Block.islandUp (b : Block) (i : Nat) (on : Bool) : Block :=
  let b1 := b.putBit pgDev F.DEV_ISL_UP.UP (i % 32) on (i / 32)
  if !on && b.isUp i then { b1 with tb := { b1.tb with replicas := SMap.set b1.tb.replicas i (b.hearthAt i) } } else b1

/-- Tile, slice and controller islands. -/
def restIslands : List Nat := List.range 288 ++ (List.range 48).map (· + 312)

/-- The check of an armed placement table starts again at the exit (R288). -/
def Block.recheckTables (b : Block) : Block :=
  (List.range 16).foldl (fun b k => if b.eff pgMoe F.MOE_PCTL.ARM k = 1 then b.put pgMoe F.MOE_PCTL.CHECKED 0 k else b) b

/-- Every transfer and action under way is given up; leases are given back (R371).
Log entry 56 (DEDUCED, unsafe). -/
def Block.dropWork (b0 : Block) : Block :=
  let b := { (if b0.pciq.isEmpty then b0 else (b0.bump pgPci F.PCI_CNT0.WR_DROP_CNT 0 b0.pciq.length).raise pgPci 0) with pciq := [] }
  let b1 := b.xfers.foldl (fun b x =>
    let b' := (b.releaseLeases x.id).dropXfer x.id
    match x.owner, x.phase with
    | .bar2 _, .done => b'.xferOver x []
    | .bar2 _, _ => b'.xferOver { x with status := stSAFE } []
    | _, _ => b') b
  let pciBusy := b.fences.any (fun f => decide (f.owner = .pci))
  let b2 := { b1 with reqs := [], segs := [], acts := [], windows := [], fences := [], plans := [], wldEv := [] }
  if pciBusy then (b2.put pgPci F.PCI_FENCE.BUSY 0).put pgPci F.PCI_FENCE.LOST 1 else b2

/-- A tile stops: its sequencer is IDLE and nothing of its program is left; its SRAM stays. A Knock run leaves its registers zero.
Log entry 56 (DEDUCED, unsafe). -/
def Tile.halt (x : Tile) : Tile :=
  if x.seq = .retired then x
  else
    let y := if x.seq = .knock then x.clearRegs else x
    { y with seq := .idle, wait := none, launch := none, idleWin := none, tags := [] }

/-- A tile enters the safe state: it stops, and its weight buffers are empty from then on (R94, R124). -/
def Tile.safeHalt (x : Tile) : Tile := { x.halt with wbuf0 := none, wbuf1 := none }

/-- Every tile stops and every Score is empty: in the safe state (R124), or in Rest (R433). -/
def Block.haltTiles (b : Block) (stop : Tile → Tile) : Block := { b with tiles := SMap.mapVals (fun _ x => stop x) b.tiles, scores := [] }

/-- REST_REQ: entry into the Rest state starts, or the write is discarded (R431, R432). -/
def Block.restReq (b : Block) : Block :=
  if b.asleep then b
  else if !b.restOk then (b.cfgReject pgPwr).raise pgPwr 8
  else
    let b1 := if b.power.freq = .boost ∨ b.power.freq = .entering then b.leaveBoost else b
    let b2 := (restIslands.foldl (fun b i => b.islandUp i false) ((b1.dropWork.haltTiles Tile.halt).flushSlices)).coreVolt 650
    b2.put pgPwr F.PWR_REST.REST_STATE restENTERING

/-- The wake sequence starts. -/
def Block.startWake (b : Block) : Block :=
  ((b.setPwr { b.power with wakePend := false, wakeAt := b.now }).coreVolt b.vnom).put pgPwr F.PWR_REST.REST_STATE restWAKING

/-- REST_ENTRY_DONE. -/
def Block.restEntryDone (b : Block) : Block :=
  if b.pw? F.PWR_REST.REST_STATE ≠ restENTERING then b
  else
    let b1 := (b.put pgPwr F.PWR_REST.REST_STATE restREST).raise pgPwr 6
    if b.power.wakePend then b1.startWake else b1

/-- WAKE. -/
def Block.wake (b : Block) : Block :=
  let st := b.pw? F.PWR_REST.REST_STATE
  if st = restENTERING then b.setPwr { b.power with wakePend := true }
  else if st = restREST then b.startWake else b

/-- The package is back in RUN: its islands are open, its inputs are evaluated afresh and orphan monitoring starts anew. -/
def Block.wokenUp (b : Block) : Block :=
  let b1 := (restIslands.filter (fun i => decide (288 ≤ i) || decide ((b.tile i).seq ≠ .retired))).foldl (fun b i => b.islandUp i true) b
  let b2 := (b1.put pgPwr F.PWR_REST.REST_STATE restRUN).raise pgPwr 7
  let b3 := b2.setPwr { b2.power with lastBeat := b.now, gAlert := 16, alertEnd := none }
  let b4 := if b.pw? F.PWR_ALERT.PWR_ALERT = 1 then b3.alertOn else b3
  let b5 := if b.pw? F.PWR_ALERT.COOL_ALERT = 1 then b4.alertOn else b4
  b5.powerChanged

end Sys2Proof.Machine
end

