-- ==== Sys2Proof/Machine/Fcol.lean ====
section
/-! DEFINITION. The fault collector (R439 to R470): records and reactions, the history, telemetry, the safe state, injection, Knock
and the retirement of tiles (R125, R126, R129). -/
namespace Sys2Proof.Machine

/-- FCOL after reset (R468).
Log entry 6 (DESIGN CHOICE, unsafe). -/
def fcolReset : Fcol :=
  { quietFrom := 0, exits := [], stopPend := 0, prod := [], cons := [], seq := [], waiting := [], pldm := [], pldmWait := [], pldmSeq := 0
    lastStorm := 0, traces := [], kindCnt := [], rateMs := 0, rateCnt := 0, overdue := [], withheld := [] }

/-- The update engine after reset.
Log entry 6 (DESIGN CHOICE, unsafe). -/
def updReset : Upd :=
  { image := [], queue := [], cur := none, version := 0, since := 0, todo := [], held := [], loaded := [], alive := none, knockVer := 0, autoFlash := false
    flashSrc := [] }

def Block.flt (b : Block) (f : Field) (i : Nat := 0) : Nat := b.eff pgFlt f i
def Block.setFcol (b : Block) (x : Fcol) : Block := { b with fcol := x }

/-! ### Records and the history (R441, R447) -/

/-- The four words of a fault record. -/
def recordWords (tick : Nat) (r : Report) (sev react : Nat) (inj : Bool) : List Nat :=
  [tick % 2 ^ 32, tick / 2 ^ 32 % 2 ^ 32,
   r.code % 2 ^ 16 + sev % 4 * 2 ^ 16 + react % 4 * 2 ^ 18 + r.page % 2 ^ 12 * 2 ^ 20,
   r.island % 2 ^ 9 + (r.part.getD 0) % 16 * 2 ^ 9 + b2n r.part.isSome * 2 ^ 13 + b2n inj * 2 ^ 14 + r.detail % 2 ^ 16 * 2 ^ 16]

/-- Four words as one number. -/
def wordsNat (ws : List Nat) : Nat := ws.foldr (fun w n => w % 2 ^ 32 + 2 ^ 32 * n) 0
def wordsBytes (ws : List Nat) : List Byte := ws.flatMap (fun w => leBytes 4 w)

/-- A record reaches the history queue. -/
def Block.histPut (b : Block) (sev : Nat) (ws : List Nat) : Block :=
  if sev = 0 ∧ b.flt F.FLT_HCTL.HIST_CORR = 0 then b
  else if b.flt F.FLT_HSTAT.FROZEN = 1 then b.bump pgFlt F.FLT_HLOST.HIST_LOST
  else
    let n := b.flt F.FLT_HSTAT.NEXT
    let b1 := (b.put pgFlt F.FLT_HIST.RECORD (wordsNat ws) n).put pgFlt F.FLT_HSTAT.NEXT ((n + 1) % 32)
    let b2 := if n = 31 then b1.put pgFlt F.FLT_HSTAT.WRAPPED 1 else b1
    if 2 ≤ sev then ((b2.put pgFlt F.FLT_HSTAT.FROZEN 1).put pgFlt F.FLT_HSTAT.FREEZE_SLOT n).raise pgFlt 1 else b2

/-- UNFREEZE and CLEAR of the history. -/
def Block.unfreeze (b : Block) : Block := (b.put pgFlt F.FLT_HSTAT.FROZEN 0).put pgFlt F.FLT_HLOST.HIST_LOST 0
def Block.histClear (b : Block) : Block :=
  let b1 := (List.range 32).foldl (fun b i => b.put pgFlt F.FLT_HIST.RECORD 0 i) b
  (((b1.put pgFlt F.FLT_HSTAT.NEXT 0).put pgFlt F.FLT_HSTAT.WRAPPED 0).put pgFlt F.FLT_HSTAT.FROZEN 0).put pgFlt F.FLT_HLOST.HIST_LOST 0

/-! ### Telemetry (R461 to R467) -/

/-- STORM sets, or its window starts again (R467). -/
def Block.stormHit (b : Block) : Block :=
  let b1 := b.setFcol { b.fcol with lastStorm := b.now }
  if b.flt F.FLT_STORM.STORM = 1 then b1
  else (((b1.put pgFlt F.FLT_STORM.STORM 1).raise pgFlt 6).bump pgFlt F.FLT_STORM.STORM_CNT).reportPage pgFlt 0x0205

/-- STORM_CLEAR. -/
def Block.stormClear (b : Block) : Block :=
  if b.flt F.FLT_STORM.STORM = 1 ∧ b.fcol.lastStorm + b.flt F.FLT_STORM.STORM_WINDOW * 1000000 ≤ b.now then b.put pgFlt F.FLT_STORM.STORM 0 else b

/-- The ring of a class. -/
def Block.ringBase (b : Block) (c : Nat) : Nat := b.flt F.TEL_BASE.TEL_BASE c % 2 ^ 41
def Block.ringSize (b : Block) (c : Nat) : Nat := 2 ^ b.flt F.TEL_CFG.SIZE_LOG2 c
def Block.ringOn (b : Block) (c : Nat) : Bool := decide (b.flt F.TEL_CFG.EN c = 1)
def Block.ringUsed (b : Block) (c : Nat) : Nat := SMap.get 0 b.fcol.prod c - SMap.get 0 b.fcol.cons c

/-- A telemetry record (R463). -/
def telRecord (seq cls count last : Nat) (ws : List Nat) : List Byte :=
  leBytes 4 seq ++ leBytes 1 cls ++ leBytes 3 0 ++ leBytes 4 (min count (2 ^ 32 - 1)) ++ leBytes 4 last ++ wordsBytes ws

/-- A ring write was refused: the class is off, and TELEM_PATH goes into the history only (R462). -/
def Block.ringFail (b : Block) (c : Nat) : Block :=
  let r : Report := { page := pgFlt, code := 0x0206, island := 399, detail := 0, part := none }
  (b.putCmt pgFlt F.TEL_CFG.EN 0 c).histPut 1 (recordWords b.hearth r 1 0 false)

/-- CONS of a ring is read. -/
def Block.ringCons (b : Block) (c : Nat) : Block :=
  b.setFcol { b.fcol with cons := SMap.set b.fcol.cons c (b.m64 (b.ringBase c + 0x40)) }

/-- Write a record at PROD, and PROD; `false` where the write was refused. -/
def Block.ringWrite (b : Block) (c count last : Nat) (ws : List Nat) : Block × Bool :=
  let n := SMap.get 0 b.fcol.prod c
  let (b1, st) := b.privWrite (b.ringBase c + 128 + 32 * (n % b.ringSize c)) (telRecord (SMap.get 0 b.fcol.seq c) c count last ws)
  if st ≠ 0 then (b1.ringFail c, false)
  else
    let (b2, st2) := b1.privWrite (b.ringBase c) (leBytes 8 (n + 1))
    if st2 ≠ 0 then (b2.ringFail c, false)
    else
      let b3 := b2.setFcol { b2.fcol with prod := SMap.set b2.fcol.prod c (n + 1), seq := SMap.modify 0 b2.fcol.seq c (· + 1) }
      (b3.ringCons c, true)

/-- An alarm joins those that wait: on its key, or, once 256 wait, on its code with any page (R464). `true`: it coalesced. -/
def coalesce (l : List Alarm) (a : Alarm) : List Alarm × Bool :=
  let hit (p : Nat) (x : Alarm) : Bool := decide (x.code = a.code) && decide (x.page = p)
  let add (p : Nat) : List Alarm :=
    l.map (fun x => if hit p x then { x with count := min (x.count + a.count) (2 ^ 32 - 1), last := a.last } else x)
  if l.any (hit a.page) then (add a.page, true)
  else if l.length < 256 then (l ++ [a], false)
  else if l.any (hit 0xFFF) then (add 0xFFF, true)
  else (l ++ [{ a with page := 0xFFF }], false)

/-- An ALARM waits for its ring (R464, R467). -/
def Block.alarmWaits (b : Block) (a : Alarm) (full : Bool) : Block :=
  let (l, co) := coalesce b.fcol.waiting a
  let b1 := b.setFcol { b.fcol with waiting := l }
  let b2 := if co then b1.bumpWrap pgFlt F.FLT_TCNT1.ALARM_COAL_CNT else b1
  if full ∧ !co then b2.stormHit else b2

/-- Alarms that wait are written, oldest first, while the ring has space. -/
def Block.alarmDrain : Nat → Block → Block
  | 0, b => b
  | n + 1, b =>
    match b.fcol.waiting with
    | [] => b
    | a :: rest =>
      if !b.ringOn 0 ∨ b.ringSize 0 ≤ b.ringUsed 0 then b
      else
        let (b1, ok) := b.ringWrite 0 a.count a.last a.words
        if ok then Block.alarmDrain n (b1.setFcol { b1.fcol with waiting := rest }) else b1

/-- An ALARM record: written, or it waits. -/
def Block.alarmPut (b : Block) (a : Alarm) : Block :=
  if !b.ringOn 0 then b.alarmWaits a false
  else if !b.fcol.waiting.isEmpty ∨ b.ringSize 0 ≤ b.ringUsed 0 then b.alarmWaits a (decide (b.ringSize 0 ≤ b.ringUsed 0))
  else
    let (b1, ok) := b.ringWrite 0 a.count a.last a.words
    if ok then b1 else b1.alarmWaits a false

/-- A record of a class that overwrites (R465, R466): EVENT or TRACE. -/
def Block.eventPut (b : Block) (c : Nat) (last : Nat) (ws : List Nat) : Block :=
  let cnt := if c = 1 then F.FLT_TCNT0.EVENT_DROP_CNT else F.FLT_TCNT2.TRACE_SKIP_CNT
  if !b.ringOn c then b.bumpWrap pgFlt cnt
  else
    let full := decide (b.ringSize c ≤ b.ringUsed c)
    let (b1, ok) := b.ringWrite c 1 last ws
    if !ok then b1.bumpWrap pgFlt cnt
    else if full then
      let b2 := b1.bumpWrap pgFlt cnt
      if c = 1 then b2.stormHit else b2
    else b1

/-- The PLDM event queue of 64 alarm records (R514): it shows its length and raises an in-band interrupt. -/
def Block.pldmShow (b : Block) : Block :=
  let b1 := b.put pgMgt F.MGT_PLDM.EV_QUEUED b.fcol.pldm.length
  if b.fcol.pldm.isEmpty ∨ b.eff pgMgt F.MGT_PLDM.IBI_EN = 0 then b1 else b1.emit (.event "ibi" [0xAE])

/-- Alarms that wait for the PLDM queue enter it as it drains. -/
def Block.pldmFill (b : Block) : Block :=
  let x := b.fcol
  let n := 64 - x.pldm.length
  (b.setFcol { x with pldm := x.pldm ++ x.pldmWait.take n, pldmWait := x.pldmWait.drop n }).pldmShow

/-- An alarm record enters the PLDM queue, or coalesces while it is full.
Log entry 58 (DEDUCED, unsafe). -/
def Block.pldmPut (b : Block) (a : Alarm) : Block :=
  let x := b.fcol
  if x.pldm.length < 64 then ((b.setFcol { x with pldm := x.pldm ++ [a] }).raise pgMgt 2).pldmShow
  else
    let (l, co) := coalesce x.pldmWait a
    let b1 := b.setFcol { x with pldmWait := l }
    if co then b1.bumpWrap pgFlt F.FLT_TCNT1.ALARM_COAL_CNT else b1

/-- The trace events that reached FCOL: sampling, the rate limit, then the ring (R466). -/
def Block.tracePut (b : Block) (t : Trace) : Block :=
  let x := b.fcol
  let n := SMap.get 0 x.kindCnt t.kind
  let ms := t.tick / 1000000
  let cnt := if ms = x.rateMs then x.rateCnt else 0
  let b1 := b.setFcol { x with kindCnt := SMap.set x.kindCnt t.kind (n + 1), rateMs := ms, rateCnt := cnt }
  if n % 2 ^ b.flt F.FLT_TRACE.TRACE_SAMPLE ≠ 0 ∨ b.flt F.FLT_TRACE.TRACE_RATE ≤ cnt then b1.bumpWrap pgFlt F.FLT_TCNT2.TRACE_SKIP_CNT
  else
    (b1.setFcol { b1.fcol with rateCnt := cnt + 1 }).eventPut 2 (t.tick % 2 ^ 32)
      (recordWords t.tick { page := t.page, code := t.code, island := t.island, detail := t.detail, part := t.part } 0 0 false)

/-- Every trace event that waits. -/
def Block.traceDrain (b : Block) : Block :=
  let l := b.fcol.traces
  l.foldl Block.tracePut (b.setFcol { b.fcol with traces := [] })

/-- TEL_POLL: every 100 µs FCOL reads CONS and writes the alarms that wait; trace events are written too.
Log entry 58 (DEDUCED, unsafe). -/
def Block.telPoll (b : Block) : Block :=
  let b1 := ([0, 1, 2].filter b.ringOn).foldl Block.ringCons b
  (Block.alarmDrain 512 b1).traceDrain

/-! ### Stopping a partition (R444) -/

/-- A partition leaves RUN at once, with a status for its contexts. -/
def Block.partOff (b : Block) (k status : Nat) : Block :=
  if !b.enabled (pgPart k) then b
  else
    let b1 := b.partClose k status
    let r := b1.page (pgPart k)
    (b1.setPage (pgPart k) { r with
      pnd := if r.hdr.st = .run then r.cmt else r.pnd
      hdr := { r.hdr with enable := false, st := .off, commitPending := false } }).noMoreBoundary

/-- STOP of a partition: in the safe state it waits for the exit (R454). -/
def Block.stopPart (b : Block) (k : Nat) : Block :=
  let b1 := b.put pgFlt F.FLT_STOPPED.STOPPED (setBits (b.flt F.FLT_STOPPED.STOPPED) k 1 1)
  let st := b.flt F.FLT_SAFE.SAFE_STATE
  if st = 0 then (b1.raise pgFlt 5).partOff k rqABORTED
  else if st = 1 then (b1.raise pgFlt 5).setFcol { b1.fcol with stopPend := setBits b1.fcol.stopPend k 1 1 }
  else b1

/-! ### The safe state (R449 to R455) -/

def sfRUN : Nat := 0
def sfSAFE : Nat := 1
def sfLATCHED : Nat := 2

/-- Every pending set is discarded and every key disarmed (R32). -/
def PageRegs.safe (r : PageRegs) : PageRegs :=
  let stops := decide (r.hdr.st = .quiescing) || decide (r.hdr.st = .quiesced)
  { r with pnd := if stops then r.cmt else r.pnd
           hdr := { r.hdr with st := if stops then .run else r.hdr.st, keyArmed := false, commitPending := false } }

/-- A component of an update in progress is abandoned (R487). -/
def Block.updSafe (b : Block) : Block :=
  if b.eff pgBoot F.BOOT_UPD_STAT.UPD_STATE ≠ 3 then b
  else
    { b with upd := { b.upd with queue := [], cur := none, todo := [], held := [], loaded := [], alive := none } }.put pgBoot
      F.BOOT_UPD_STAT.UPD_STATE 2

/-- The safe state takes effect on the package (R124, R205, R246, R288, R324, R371, R399, R450).
Log entry 56 (DEDUCED, unsafe). -/
def Block.safeNow (b : Block) : Block :=
  if b.safe then b
  else
    let b1 := (({ b with safe := true }).dropWork.recheckTables.haltTiles Tile.safeHalt).flushSlices.abortFreezes.servSafe.wldSafe
    let b2 := (b1.qpsDown (fun _ => true)).updSafe
    ({ b2 with pages := SMap.mapVals (fun _ (r : PageRegs) => r.safe) b2.pages }).retarget.noteReasons.freqCheck.linkStateSend

/-- FAULT_N (R455). -/
def Block.faultPin (b : Block) (on : Bool) : Block :=
  (b.put pgDev F.DEV_SB_LEVEL.FAULT_OUT (b2n on)).put pgDev F.DEV_SB_LEVEL.FAULT_PAD (b2n on)

/-- The quiet timer starts again. -/
def Block.quietStart (b : Block) : Block := b.setFcol { b.fcol with quietFrom := b.now }

/-- Entry into the safe state, or into LATCHED where the cause is FATAL or parity. In the Rest state the effect waits for RUN.
Log entry 57 (DEDUCED, unsafe). -/
def Block.enterSafe (b : Block) (cause : Nat) (fatal : Bool) : Block :=
  let st := b.flt F.FLT_SAFE.SAFE_STATE
  let latch (b : Block) : Block := ((b.put pgFlt F.FLT_SAFE.SAFE_STATE sfLATCHED).raise pgFlt 4).put pgFlt F.FLT_SAFE.LAST_CAUSE cause
  if st = sfRUN then
    let b1 := ((((b.put pgFlt F.FLT_SAFE.SAFE_STATE sfSAFE).put pgFlt F.FLT_SAFE.LAST_CAUSE cause).put pgFlt F.FLT_SAFE_TICK.SAFE_TICK
      b.now).faultPin true).quietStart.raise pgFlt 2
    let b2 := if fatal then latch b1 else b1
    if b2.asleep then b2 else b2.safeNow
  else if st = sfSAFE ∧ fatal then latch b
  else b

/-- SAFE_REQ and RELEASE (R451). -/
def Block.safeReq (b : Block) : Block :=
  let st := b.flt F.FLT_SAFE.SAFE_STATE
  if st = sfRUN then (b.put pgFlt F.FLT_SAFE.HOLD 1).enterSafe 4 false
  else if st = sfSAFE then b.put pgFlt F.FLT_SAFE.HOLD 1
  else b
def Block.release (b : Block) : Block :=
  if b.flt F.FLT_SAFE.SAFE_STATE = sfSAFE then (b.put pgFlt F.FLT_SAFE.HOLD 0).quietStart else b

/-! ### Taking a record (R443 to R446) -/

/-- The lowest valid override entry of a code (R445). -/
def Block.override? (b : Block) (code : Nat) : Option Nat :=
  (List.range 64).find? (fun i => decide (b.flt F.FLT_X_OVR.VALID i = 1) && decide (b.flt F.FLT_X_OVR.CODE i = code % 2 ^ 16))

/-- The reaction of a record: STOP that names no partition acts as INTERRUPT, and FATAL is always SAFE. -/
def Block.reactionOf (b : Block) (r : Report) (sev : Nat) : Nat :=
  let x := match b.override? r.code with
    | some i => b.flt F.FLT_X_OVR.REACT i
    | none => if sev = 0 then b.flt F.FLT_REACT.R_CORR else if sev = 1 then b.flt F.FLT_REACT.R_DEFER else b.flt F.FLT_REACT.R_UNCORR
  if sev = 3 then 3 else if x = 2 ∧ r.part = none then 1 else x

/-- The telemetry class of a record (R461). -/
def Block.classOf (b : Block) (r : Report) (sev : Nat) : Nat :=
  let d := if 2 ≤ sev then 0 else 1
  match b.override? r.code with
  | some i => if b.flt F.FLT_X_OVR.CLASS_EN i = 1 then b.flt F.FLT_X_OVR.CLASS i else d
  | none => d

/-- A record goes to telemetry. -/
def Block.telPut (b : Block) (r : Report) (sev : Nat) (ws : List Nat) : Block :=
  let last := ws.headD 0
  let a : Alarm := { code := r.code, page := r.page, count := 1, last := last, words := ws }
  let c := b.classOf r sev
  if c = 0 then (b.alarmPut a).pldmPut a else b.eventPut (if c = 2 then 2 else 1) last ws

/-- What a record's severity does to the safe state in progress (R451). -/
def Block.sevEffect (b : Block) (sev react cause : Nat) : Block :=
  if 3 ≤ sev then b.enterSafe cause true
  else if react = 3 then
    let b1 := b.enterSafe 1 false
    if sev = 2 ∧ b.flt F.FLT_SAFE.SAFE_STATE = sfSAFE then b1.quietStart else b1
  else if sev = 2 ∧ b.flt F.FLT_SAFE.SAFE_STATE = sfSAFE then b.quietStart
  else b

/-- FCOL takes a report: it is counted and recorded, goes to telemetry, and its reaction follows. `hist`: the history takes it. -/
def Block.fcolTake (b : Block) (tick : Nat) (r : Report) (sev : Nat) (inj hist : Bool) (cause : Nat) : Block :=
  let react := b.reactionOf r sev
  let ws := recordWords tick r sev react inj
  let b1 := b.bumpWrap pgFlt F.FLT_CNT.SEV_CNT sev
  let b2 := if hist then b1.histPut sev ws else b1
  let b3 := b2.telPut r sev ws
  let b4 := if 1 ≤ react then b3.raise pgFlt 0 else b3
  let b5 := if react = 2 then (match r.part with
    | some k => b4.stopPart (k % 16)
    | none => b4) else b4
  b5.sevEffect sev react cause

/-- A fault that hardware detects in a tile: its counters, and the stop of the codes that stop (R123, R128, R129).
Log entry 31 (DEDUCED, unsafe). -/
def Block.tileHw (b : Block) (t : Nat) (r : Report) : Block :=
  let p := pgTile t
  let stop (b : Block) : Block := if (b.tile t).seq = .run then b.tileStop t r.code else b.report r
  match r.code with
  | 0x0101 => (b.bump p F.TIL_ECC.SRAM_CE_CNT).report r
  | 0x0103 => (b.bump p F.TIL_ECC.ACC_CE_CNT).report r
  | 0x0102 => stop (b.tileUe t)
  | 0x0104 => stop (b.tileUe t)
  | 0x0105 => stop (b.tileUe t)
  | 0x0160 => stop b
  | _ => b.report r

/-- A block notes what its hardware detected and reports it. Slices and memory controllers have errors of their own; the next read of TDMA
meets a double-bit error in tile SRAM and reports it then (R92). -/
def Block.hwFault (b : Block) (h : HwFind) : Block :=
  match h with
  | .tdmaUe t => b.setTile t { b.tile t with badRead := true }
  | .linkCe ch => b.linkCe ch
  | .sliceCe s => b.sliceCe s
  | .sliceLost s line whole => b.sliceLost s line.toNat whole
  | .fault r =>
    match pageKind r.page with
    | .til => b.tileHw (r.page - 0x200) r
    | .slc | .mem | .reserved => b
    | _ => b.report r

/-- FAULT_REPORT: FCOL takes the oldest report. `hw`: a block reports at this moment what its hardware detected. -/
def Block.faultReport (b : Block) (hw : Option HwFind) : Block :=
  let b1 := match hw with
    | some h => b.hwFault h
    | none => b
  match b1.reports with
  | [] => b1
  | (tick, r) :: rest => ({ b1 with reports := rest }).fcolTake tick r (codeSev r.code) false true 2

/-- A parity error of page 0x002 (R448): the safe state is entered and latched; the record is written where its slot is sound.
Log entry 80 (DEDUCED, unsafe). -/
def Block.parityError (b : Block) (slotOk inj : Bool) : Block :=
  let r : Report := { page := pgFlt, code := 0x0201, island := 399, detail := 0, part := none }
  (b.modHdr pgFlt (fun h => h.summarise 0x0201 3)).fcolTake b.hearth r 3 inj slotOk 3

/-- PARITY_SCRUB: every 1 ms in the background. -/
def Block.parityScrub (b : Block) (bad slotOk : Bool) : Block := if bad then b.parityError slotOk false else b

/-- READY is reached (R475, R477). -/
def Block.reachReady (b : Block) : Block :=
  (((({ b with boot := { b.boot with readyDue := false } }.put pgBoot F.BOOT_STAT.READY 1).put pgBoot F.BOOT_STAT.STAGE 9).put pgBoot
    F.BOOT_TIME.READY_MS (min 65535 ((b.now - b.boot.start) / 1000000))).raise pgBoot 0).emit (.event "pldm-ready" [])

/-- Exit from the safe state (R452, R454). -/
def Block.exitSafe (b : Block) : Block :=
  let x := b.fcol
  let b1 := (b.bump pgFlt F.FLT_RECOV.RECOVERY_COUNT).setFcol { x with exits := (b.now :: x.exits).take 16, stopPend := 0 }
  let b2 := ({ (b1.put pgFlt F.FLT_SAFE.SAFE_STATE sfRUN) with safe := false }).retarget.noteReasons.freqCheck
  let b3 := ((b2.linkStateSend.faultPin false).raise pgFlt 3)
  let b4 := ((bitIndices 16 x.stopPend).foldl (fun b k => b.partOff k rqABORTED) b3).kvmResume
  if b4.boot.readyDue then b4.reachReady else b4

/-- QUIET_EXPIRE (R451, R453). -/
def Block.quietExpire (b : Block) : Block :=
  if b.flt F.FLT_SAFE.SAFE_STATE ≠ sfSAFE ∨ b.flt F.FLT_SAFE.HOLD = 1
      ∨ b.now < b.fcol.quietFrom + b.flt F.FLT_QUIET.QUIET_PERIOD * 1000000 then b
  else
    let recent := (b.fcol.exits.filter (fun t => decide (b.now ≤ t + 3600000000000))).length
    if recent < b.flt F.FLT_RECOV.RECOVERY_LIMIT then b.exitSafe
    else
      let r : Report := { page := pgFlt, code := 0x0202, island := 399, detail := 0, part := none }
      (b.modHdr pgFlt (fun h => h.summarise 0x0202 3)).fcolTake b.hearth r 3 false true 5

/-- FLT_SUMCLR (R442). -/
def Block.sumClr (b : Block) (p : Nat) : Block :=
  if pageKind p = .reserved then b else b.modHdr p (fun h => { h with seen := 0, firstCode := 0 })
def Block.sumClrAll (b : Block) : Block :=
  { b with pages := SMap.mapVals (fun _ (r : PageRegs) => { r with hdr := { r.hdr with seen := 0, firstCode := 0 } }) b.pages }

/-! ### Injection (R456) -/

/-- INJ_EN: the strap and the factory test fuse. -/
def Block.injEn (b : Block) : Bool := b.testMode && decide (b.eff pgBoot F.BOOT_FUSE.TEST_FUSE = 1)

/-- A refused injection. -/
def Block.injRefused (b : Block) : Block := (b.cfgReject pgFlt).reportPage pgFlt 0x0204

/-- INJECT_GO.
Log entry 57 (DEDUCED, unsafe). -/
def Block.injectGo (b : Block) : Block :=
  if !b.injEn then b.injRefused
  else
    let page := b.flt F.FLT_INJ0.PAGE
    let code := b.flt F.FLT_INJ0.CODE
    let sev := b.flt F.FLT_INJ0.SEV
    let r : Report := { page := page, code := code, island := pageIsland page, detail := b.flt F.FLT_INJ1.DETAIL
                        part := if b.flt F.FLT_INJ1.PART_VALID = 1 then some (b.flt F.FLT_INJ1.PART) else none }
    if code = 0x0201 then b.parityError true true
    else
      let b1 := if pageKind page = .reserved then b else b.modHdr page (fun h => h.summarise code sev)
      b1.fcolTake b.hearth r sev true true 2

/-! ### Retirement of tiles (R129) -/

/-- The lowest cause that holds. -/
def Tile.retireCause (x : Tile) : Nat := ([1, 2, 3, 4].find? (fun c => bit x.retireDue c)).getD 0

/-- A tile retires: its Score is discarded with failed arrivals, its transfers end, its island closes. -/
def Block.retireTile (b : Block) (t cause : Nat) : Block :=
  let p := pgTile t
  let sc := b.score t
  let gone := sc.entries.map SEntry.e ++ sc.fired
  let b1 := (b.setTile t { Tile.halt (b.tile t) with seq := .retired, retireDue := 0 }).setScore t { sc with entries := [], fired := [] }
  let b2 := ((b1.put p F.TIL_RETIRE.RETIRED 1).put p F.TIL_RETIRE.CAUSE cause).raise p 3
  let mine (x : Xfer) : Bool := match x.owner with
    | .tag u _ => decide (u = t)
    | .stage u => decide (u = t)
    | .zeroFill u => decide (u = t)
    | .xferDesc u _ => decide (u = t)
    | .walkDesc u _ _ _ => decide (u = t)
    | _ => false
  let b3 := (b2.xfers.filter mine).foldl (fun b x => ((b.orphan x.id).releaseLeases x.id).dropXfer x.id) b2
  let b4 := gone.foldl (fun b e => if e.arriveBar = 0 then b else b.arriveEntry e true) b3
  let n := ((List.range 288).filter (fun i => decide ((b4.tile i).seq = .retired))).length
  let b5 := ((b4.put pgDev F.DEV_TILES.RETIRED_TILES n).put pgDev F.DEV_TILES.LIVE_TILES (288 - n)).islandUp t false
  let b6 := b5.setFcol { b5.fcol with overdue := SMap.erase b5.fcol.overdue t }
  (b6.put pgFlt F.FLT_KOVER.OVERDUE_NOW b6.fcol.overdue.length).noteReasons

/-- TILE_RETIRE: a due retirement takes effect in IDLE or ERR, one for ISLAND_HUNG that is due itself in any state (R129). -/
def Block.tileRetire (b : Block) (t : Nat) : Block :=
  let x := b.tile t
  if x.seq = .retired ∨ !x.retireNow then b
  else if x.retireReady ∨ x.hungNow then b.retireTile t x.retireCause
  else b

/-- RETIRE_REQ (R128, R129). -/
def Block.retireReq (b : Block) (t : Nat) : Block :=
  if (b.tile t).seq = .retired then b else (b.put (pgTile t) F.TIL_RETIRE.RETIRE_REQ 1).wantRetire t 2

/-- PERF_CLEAR (R128).
Log entry 73 (DESIGN CHOICE, unsafe). -/
def Block.perfClear (b : Block) (t : Nat) : Block :=
  (((b.put (pgTile t) F.TIL_PERF.MAT_BUSY 0).put (pgTile t) F.TIL_PERF.VEC_BUSY 0).put (pgTile t) F.TIL_PERF.STALL_ISSUE 0).put (pgTile t)
    F.TIL_PERF.STALL_HAZ 0

/-- A crossing from one island to another has been full since a tick with no entry read: there is one, HS_STALL_LIMIT has passed, and where it
leads to a Score no entry of it was read since (R38, R42).
Log entry 59 (DEDUCED, unsafe). -/
def Block.stalled (b : Block) (writer reader since : Nat) : Bool :=
  !(crossings writer reader).isEmpty && decide (since + b.eff pgDev F.DEV_HS_STALL.HS_STALL_LIMIT * 1000 ≤ b.now)
    && decide ((b.score reader).lastRead ≤ since)

/-- ISLAND_HUNG: the writer page reports, and the reader island's bit is set (R42, R44). `since` is the tick from which the crossing has
stayed full with no entry read, which only the crossing itself shows.
Log entry 59 (DEDUCED, unsafe). -/
def Block.islandHung (b : Block) (writer reader since : Nat) : Block :=
  if !b.stalled writer reader since then b
  else
  let was := bit (b.eff pgDev F.DEV_ISL_HUNG.HUNG (reader / 32)) (reader % 32)
  let b1 := b.report { page := islandPage writer, code := 0x0001, island := reader, detail := 0, part := none }
  let b2 := b1.putBit pgDev F.DEV_ISL_HUNG.HUNG (reader % 32) true (reader / 32)
  let b3 := if was then b2 else b2.raise pgDev 0
  if reader < 288 ∧ (b.tile reader).seq ≠ .retired then b3.wantRetire reader 4 else b3

/-! ### Knock (R457 to R460) -/

/-- Seconds of a field have passed since the tile's last run. A tile that has never run counts from reset. -/
def Block.knockAge (b : Block) (t sec : Nat) : Bool := decide (b.eff (pgTile t) F.TIL_KNOCK_TICK.LAST_TICK + sec * 1000000000 ≤ b.now)

/-- The tile has run Knock since reset. -/
def Block.knockRan (b : Block) (t : Nat) : Bool :=
  decide (b.eff (pgTile t) F.TIL_KNOCK.PASS_CNT ≠ 0) || decide (b.eff (pgTile t) F.TIL_KNOCK.FAIL_CNT ≠ 0)

/-- A tile is due. -/
def Block.knockDue (b : Block) (t : Nat) : Bool :=
  decide ((b.tile t).seq ≠ .retired) && (!b.knockRan t || b.knockAge t (b.flt F.FLT_KNOCK_GAP.KNOCK_GAP))

/-- A tile has an open idle window of at least 20 µs that begins. -/
def Block.windowOpen (b : Block) (t : Nat) : Bool :=
  match (b.tile t).idleWin with
  | some (start, len) => decide (20000 ≤ len) && decide (start ≤ b.now) && decide (b.now < start + len)
  | none => false

/-- KNOCK_START.
Log entry 60 (DEDUCED, unsafe). -/
def Block.knockStart (b : Block) (t : Nat) : Block :=
  let x := b.tile t
  let runs := ((List.range 288).filter (fun i => decide ((b.tile i).seq = .knock))).length
  let may := (b.enabled (pgTile t) && b.windowOpen t && decide (b.issueLevel t = 16)) || !b.enabled (pgTile t)
  if b.flt F.FLT_KNOCK.KNOCK_EN = 0 ∨ b.safe ∨ b.asleep ∨ b.upd.alive.isSome ∨ x.seq ≠ .idle ∨ !b.knockDue t
      ∨ b.flt F.FLT_KNOCK.KNOCK_CONC ≤ runs ∨ !may then b
  else (b.setTile t { x with seq := .knock, idleWin := none, knockSince := b.now }).put (pgTile t) F.TIL_KNOCK.PATTERN_VER b.upd.knockVer

/-- The tile is no longer overdue. -/
def Block.knockFresh (b : Block) (t : Nat) : Block :=
  let b1 := b.setFcol { b.fcol with overdue := SMap.erase b.fcol.overdue t }
  b1.put pgFlt F.FLT_KOVER.OVERDUE_NOW b1.fcol.overdue.length

/-- KNOCK_COMPLETE: a run of at least 18 µs ends (R125, R126, R460). -/
def Block.knockComplete (b : Block) (t : Nat) (pass : Bool) : Block :=
  let x := b.tile t
  let p := pgTile t
  if x.seq ≠ .knock ∨ b.now < x.knockSince + 18000 then b
  else
    let b1 := (b.put p F.TIL_KNOCK_TICK.LAST_TICK b.now).trace 4 0x0F05 p t (some (b.tilePart t)) (if pass then 0 else 1)
    if pass then
      (((b1.setTile t { x.clearRegs with seq := .idle }).bump p F.TIL_KNOCK.PASS_CNT).bumpWrap pgFlt F.FLT_KRUNS.KNOCK_RUNS).knockFresh t
    else
      let b2 := (((b1.bump p F.TIL_KNOCK.FAIL_CNT).raise p 4).reportTile t 0x0140).raise pgFlt 7
      (b2.bump pgFlt F.FLT_KERR.KNOCK_FAILS).retireTile t 1

/-- KNOCK_OVERDUE. -/
def Block.knockOverdue (b : Block) (t : Nat) : Block :=
  if b.flt F.FLT_KNOCK.KNOCK_EN = 0 ∨ (b.tile t).seq = .retired ∨ (SMap.find b.fcol.overdue t).isSome
      ∨ !b.knockAge t (b.flt F.FLT_KNOCK_GAP.KNOCK_MAX) then b
  else
    let b1 := b.setFcol { b.fcol with overdue := SMap.set b.fcol.overdue t b.now }
    (((b1.put pgFlt F.FLT_KOVER.OVERDUE_NOW b1.fcol.overdue.length).bump pgFlt F.FLT_KOVER.OVERDUE_CNT).raise pgFlt 8).report
      { page := pgFlt, code := 0x0203, island := t, detail := 0, part := none }

/-- WAKE_DONE: 1,000,000 ticks after the wake began (R434). A safe state entered meanwhile takes effect now. -/
def Block.wakeDone (b : Block) : Block :=
  if b.pw? F.PWR_REST.REST_STATE ≠ restWAKING ∨ b.now < b.power.wakeAt + 1000000 then b
  else
    let b1 := b.wokenUp
    if b.flt F.FLT_SAFE.SAFE_STATE ≠ sfRUN then b1.safeNow else b1

end Sys2Proof.Machine
end

