-- ==== Sys2Proof/Machine/Boot.lean ====
section
/-! DEFINITION. Reset (R471 to R474), the boot sequence (R475 to R480), fuses (R482, R483) and the live update (R487 to R493). -/
namespace Sys2Proof.Machine

/-! ### The firmware image (R480) -/

/-- A component record: ID, version, offset, length, digest, and whether its reserved bytes are zero. -/
structure Component where
  id : Nat
  version : Nat
  off : Nat
  len : Nat
  digest : List Byte
  clean : Bool

def imgLen (m : List Byte) : Nat := field m 8 4
def imgCount (m : List Byte) : Nat := field m 6 2
def imgSvn (m : List Byte) : Nat := field m 0x0C 1
def imgVer (m : List Byte) : Nat := field m 0x10 4
def imgModulus (m : List Byte) : List Byte := (m.drop 0x40).take 384

/-- The component table. -/
def components (m : List Byte) : List Component :=
  (List.range (min 7 (imgCount m))).map (fun i =>
    let r := (m.drop (0x200 + 64 * i)).take 64
    { id := field r 0 1, version := field r 2 1 + 256 * field r 3 1 + 65536 * field r 4 1, off := field r 8 4, len := field r 0x0C 4
      digest := (r.drop 0x10).take 32
      clean := decide (field r 1 1 = 0) && decide (field r 5 3 = 0) && decide (field r 0x30 16 = 0) })

/-- The limit of a component. -/
def compLimit (id : Nat) : Nat :=
  match id with
  | 1 => 0x800000
  | 2 => 0x10000
  | 3 => 0x40000
  | 4 => 0x40000
  | 5 => 0x10000
  | 6 => 0x100000
  | 7 => 0x40000
  | _ => 0

/-- A component of an image. -/
def component? (m : List Byte) (id : Nat) : Option Component := (components m).find? (fun c => decide (c.id = id))
def presentMask (m : List Byte) : Nat := (components m).foldl (fun n c => setBits n c.id 1 1) 0

/-- Check 2. -/
def headerOk (m : List Byte) : Bool :=
  decide (0x200 ≤ m.length) && decide (field m 0 4 = 0x464C474B) && decide (field m 4 1 = 1) && decide (8192 ≤ imgLen m)
    && decide (imgLen m ≤ 12582912) && decide (imgLen m % 4096 = 0) && decide (imgLen m ≤ m.length) && decide (1 ≤ imgCount m)
    && decide (imgCount m ≤ 7) && decide (field m 0x0D 3 = 0) && decide (field m 0x14 44 = 0) && decide (field m 0x1C0 64 = 0)

/-- Two components share no byte. -/
def apart (a c : Component) : Bool := decide (a.off + a.len ≤ c.off) || decide (c.off + c.len ≤ a.off)

/-- Check 8.
Log entry 61 (DEDUCED, unsafe). -/
def componentsOk (m : List Byte) (all : Bool) : Bool :=
  let cs := components m
  let ids := cs.map Component.id
  cs.all (fun c => decide (1 ≤ c.id) && decide (c.id ≤ 7) && c.clean && decide (c.off % 4096 = 0) && decide (4096 ≤ c.off) && decide (1 ≤ c.len)
    && decide (c.len ≤ compLimit c.id) && decide (c.off + c.len ≤ imgLen m - 384) && decide (sha256 ((m.drop c.off).take c.len) = c.digest))
  && decide ids.Nodup && decide ((List.range cs.length).all (fun i => (List.range i).all (fun j =>
    match cs[i]?, cs[j]? with
    | some a, some c => apart a c
    | _, _ => true)) = true)
  && (!all || decide (cs.length = 7))

/-- The key slot that fits MODULUS. -/
def Block.keySlot (b : Block) (m : List Byte) : Option Nat :=
  let h := sha256 (imgModulus m)
  (List.range 4).find? (fun i => bit (b.eff pgBoot F.BOOT_FUSE.KEY_VALID) i
    && decide ((((b.boot.fuses.map Fuses.keyHash).getD []).getD i []) = h))

/-- The checks of R480 from 2 on, in order: the code of the first that fails, 0 for none. STEP is B0. -/
def Block.imageCheck (b : Block) (m : List Byte) (all : Bool) : Nat :=
  if !headerOk m then 0x02
  else if field m 5 1 ≠ 0x10 then 0x08
  else
    match b.keySlot m with
    | none => 0x03
    | some k =>
      if bit (b.eff pgBoot F.BOOT_FUSE.KEY_REVOKE) k then 0x04
      else if !rsaVerify (imgModulus m) ((m.drop (imgLen m - 384)).take 384) (sha256 (m.take (imgLen m - 384))) then 0x05
      else if imgSvn m < b.eff pgBoot F.BOOT_FUSE.SVN_FUSE then 0x06
      else if !componentsOk m all then 0x07
      else 0

/-! ### Reset (R471 to R474) -/

/-- The timebase after reset: Hearth time starts at 0.
Log entry 6 (DESIGN CHOICE, unsafe). -/
def tbReset : Timebase :=
  { nowHi := none, replica := 0, replicas := [], osc := 0, clocked := 0, trainedAt := none, elected := false, lockRun := 0, lastSet := 0, since := 0, lastRx := [], lastPps := none
    ppsMissed := false, ppsAligned := false, heard := [], steps := [], lastBakeNo := [], slew := 0, changed := false }

/-- Boot after reset.
Log entry 6 (DESIGN CHOICE, unsafe). -/
def bootReset : Boot :=
  { fuses := none, burnRevoke := 0, burnSvn := 0, start := 0, attempts := 0, late := false, buffer := [], booted := [], push := []
    memTrained := false, memInit := false, fabTrained := false, readyDue := false }

/-- The PCI Express endpoint after its reset (R507).
Log entry 6 (DESIGN CHOICE, unsafe). -/
def pcieReset : Pcie := { linkUp := false, inReset := false, msixEn := false, funcMask := false, busMaster := false, masked := [], pendingBits := [] }

/-- The package right after reset, at t0, with its straps at 0.
Log entries 5 (DESIGN CHOICE, unsafe), 6 (DESIGN CHOICE, unsafe), 7 (DESIGN CHOICE, unsafe). -/
def blockReset : Block :=
  { now := 0, fresh := 0, slotId := 0, tbmEn := false, testMode := false, pages := [], pcie := pcieReset, out := [], reports := [], tiles := []
    scores := [], acceptNo := 0, shifts := [], bars := [], bakes := [], mem := { undef := [], cells := [] }, poison := [], frames := []
    leases := [], frzQueue := [], frzHeld := [], frzRuns := [], frzDone := [], kvmQueue := [], kvmZeroed := false, groups := [], xfers := [], reqs := [], acts := [], pools := []
    nextId := 1, stepTick := none, lines := [], fills := [], filters := [], links := [], routes := [], paths := [], used := [], fences := []
    windows := [], segs := [], plans := [], moeCnt := [], ackq := [], plcSum := [], plcNext := [], serv := [], bread := [], loads := []
    wldEv := [], conns := [], rates := [], lsFrom := 0, keys := [], rtags := [], tagJob := none, rleases := [], occupied := 0, adv := []
    lastHeard := [], noneSince := [], ctrlSeen := [], tb := tbReset, pins := [], safe := false, power := powerReset, fcol := fcolReset
    boot := bootReset, upd := updReset, qps := [], pciq := [] }

/-- A package reset. The fuses stay burned; RESET_N keeps the fuses as sensed and the THERMTRIP latch (R471, R483). What has left the
package stays so, and PERST_N keeps its level.
Log entries 72 (DESIGN CHOICE, unsafe), 81 (DEDUCED, unsafe). -/
def Block.reset (b : Block) (power : Bool) : Block :=
  let trip := if power then 0 else b.eff pgDev F.DEV_SB_LEVEL.THERMTRIP_OUT
  let f := b.boot.fuses
  let b0 : Block := { blockReset with
    out := b.out, fresh := b.fresh, slotId := b.slotId, tbmEn := b.tbmEn, testMode := b.testMode
    pcie := { pcieReset with inReset := b.pcie.inReset }
    boot := { bootReset with fuses := if power then none else f, burnRevoke := b.boot.burnRevoke, burnSvn := b.boot.burnSvn } }
  if trip = 1 then (b0.put pgDev F.DEV_SB_LEVEL.THERMTRIP_OUT 1).put pgDev F.DEV_SB_LEVEL.THERMTRIP_PAD 1 else b0

/-- PACKAGE_RESET_EXIT: t0. The straps are sampled and boot starts at POR (R472).
Log entry 5 (DESIGN CHOICE, unsafe). -/
def Block.sampleStraps (b : Block) (slot : Nat) (tbm test : Bool) : Block := { b with slotId := slot % 64, tbmEn := tbm, testMode := test }

/-- BOOT_RESET: the key resets the package as RESET_N does, at once. -/
def Block.bootResetWrite (b : Block) (v : Nat) : Block := if v % 2 ^ 16 = 0xC0DE then b.reset false else b

/-- PERST_N: the endpoint island is reset; serving goes on (R473, R507). -/
def Block.perstReset (b : Block) (low : Bool) : Block :=
  let r := if low then { b with pages := SMap.erase b.pages pgPci, pcie := { pcieReset with inReset := true }, pciq := [] }
    else { b with pcie := { b.pcie with inReset := false } }
  r.islandUp 398 (!low)

/-! ### Boot stages (R475 to R479) -/

def Block.stage (b : Block) : Nat := b.eff pgBoot F.BOOT_STAT.STAGE
def Block.setStage (b : Block) (n : Nat) : Block := b.put pgBoot F.BOOT_STAT.STAGE n

/-- POR_DONE: the fuses are sensed and the first islands open, or the ROM halts (R482). Burned fuses take effect (R483).
Log entry 5 (DESIGN CHOICE, unsafe). -/
def Block.porDone (b : Block) (f : Fuses) (ok : Bool) : Block :=
  if b.stage ≠ 0 then b
  else if !ok then (b.setStage 0xF).reportPage pgBoot 0x0D07
  else
    let f0 := b.boot.fuses.getD f
    let f1 := { f0 with keyRevoke := (f0.keyRevoke ||| b.boot.burnRevoke) % 16, svn := min 64 (max f0.svn b.boot.burnSvn) }
    let b1 := { b with boot := { b.boot with fuses := some f1 } }
    let b2 := (((((b1.put pgBoot F.BOOT_FUSE.KEY_VALID f1.keyValid).put pgBoot F.BOOT_FUSE.KEY_REVOKE f1.keyRevoke).put pgBoot
      F.BOOT_FUSE.SVN_FUSE f1.svn).put pgBoot F.BOOT_FUSE.TEST_FUSE (b2n f1.test)).put pgBoot F.BOOT_FUSE.TEST_STRAP (b2n b.testMode)).put
      pgBoot F.BOOT_SERIAL.SERIAL f1.serial
    ([399, 400] ++ (if b.pcie.inReset then [] else [398])).foldl (fun b i => b.islandUp i true) (b2.setStage 1)

/-- An attempt on the flash failed: it is tried again once, then the package waits in RECOVERY (R478).
Log entry 76 (DEDUCED, unsafe). -/
def Block.flashFailed (b : Block) (err : Nat) : Block :=
  let n := b.boot.attempts + 1
  let b1 := { b with boot := { b.boot with attempts := n } }
  if n < 2 then b1.setStage 1
  else
    ((((b1.setStage 3).put pgBoot F.BOOT_STAT.FLASH_OK 0).put pgBoot F.BOOT_STAT.BOOT_ERR err).raise pgBoot 1).reportPage pgBoot
      (if err = 1 then 0x0D01 else 0x0D02)

/-- ROM_LOAD_DONE: the bytes that the ROM read from the flash; none where it did not answer. -/
def Block.romLoadDone (b : Block) (img : Option (List Byte)) : Block :=
  if b.stage ≠ 1 then b
  else
    match img with
    | none => b.flashFailed 1
    | some m => ({ b with boot := { b.boot with buffer := m } }).setStage 2

/-- An image is accepted and firmware starts. -/
def Block.accept (b : Block) (m : List Byte) : Block :=
  (((({ b with boot := { b.boot with booted := m.take (imgLen m), buffer := m.take (imgLen m) } }.setStage 4).put pgBoot F.BOOT_STAT.KEY_SLOT
    ((b.keySlot m).getD 0)).put pgBoot F.BOOT_IMG.IMG_SVN (imgSvn m)).put pgBoot F.BOOT_IMG_VER.IMG_VER (imgVer m))

/-- ROM_VERIFY. -/
def Block.romVerify (b : Block) : Block :=
  if b.stage ≠ 2 then b
  else
    let e := b.imageCheck b.boot.buffer true
    if e = 0 then (b.accept b.boot.buffer).put pgBoot F.BOOT_STAT.FLASH_OK 1 else b.flashFailed e

/-- PUSH_GO: in RECOVERY the pushed image is checked (R479). -/
def Block.pushGo (b : Block) : Block :=
  if b.stage ≠ 3 then b
  else
    let m := Bytes.read 0 b.boot.push 0 (b.eff pgBoot F.BOOT_PUSH_LEN.PUSH_LEN)
    let b0 := { b with boot := { b.boot with start := b.now, late := false } }
    let e := b0.imageCheck m true
    if e = 0 then (b0.accept m).put pgBoot F.BOOT_STAT.FROM_PUSH 1
    else (b.put pgBoot F.BOOT_STAT.BOOT_ERR e).bump pgBoot F.BOOT_ERR_CNT.PUSH_FAIL_CNT

/-- The pages whose BLK_VER shows a component. -/
def compPages (id : Nat) : List Nat :=
  match id with
  | 1 => [pgMgt]
  | 2 => (List.range 288).map pgTile
  | 3 => (List.range 36).map pgQuad
  | 4 => (List.range 16).map pgMem
  | 5 => [pgPwr]
  | _ => []

/-- A header shows a version. -/
def Header.setUc (h : Header) (v : Nat) : Header := { h with ucMajor := v / 65536 % 256, ucMinor := v / 256 % 256, ucBuild := v % 256 }

/-- A component runs on the whole package: its version, its digest, and the versions of its pages (R16, R492).
Log entry 60 (DEDUCED, unsafe). -/
def Block.showComponent (b : Block) (c : Component) : Block :=
  let b1 := (b.put pgBoot F.BOOT_COMP.VERSION c.version c.id).put pgBoot F.BOOT_DIG.DIGEST (leNat c.digest) c.id
  let b2 := if c.id = 6 then { b1 with upd := { b1.upd with knockVer := c.version % 256 } } else b1
  let b3 := if c.id = 7 then b2.modHdr pgBoot (fun h => h.setUc c.version) else b2
  let live (p : Nat) : Bool := match pageKind p with
    | .til => decide ((b.tile (p - 0x200)).seq ≠ .retired)
    | _ => true
  ((compPages c.id).filter live).foldl (fun b p => b.modHdr p (fun h => h.setUc c.version)) b3

/-- The bytes of a component of an image. -/
def Component.bytes (c : Component) (m : List Byte) : List Byte := (m.drop c.off).take c.len

/-- FW_START_DONE: the components are loaded, tiles zero their memories, the islands open and training begins (R127, R475). -/
def Block.fwStartDone (b : Block) : Block :=
  if b.stage ≠ 4 then b
  else
    let b1 := (components b.boot.booted).foldl Block.showComponent b
    let uc := ((component? b.boot.booted 2).map (fun c => c.bytes b.boot.booted)).getD []
    let b2 := { b1 with tiles := (List.range 288).map (fun t => (t, { b1.tile t with sram := [], acc := [], ucode := uc })) }
    let b3 := ((List.range 401).filter (fun i => decide (i ≠ 398))).foldl (fun b i => b.islandUp i true) b2
    (List.range 36).foldl (fun b q => b.linkCommit q (fun pos => b.eff (pgQuad q) F.FAB_LCFG.STRICT_SLOT pos)) (b3.setStage 5)

/-- MEM_TRAIN_DONE: groups whose training failed retire (R475).
Log entry 62 (DEDUCED, unsafe). -/
def Block.memTrainDone (b : Block) (failed temp : Nat) : Block :=
  if b.stage < 5 ∨ 9 ≤ b.stage ∨ b.boot.memTrained then b
  else
    let b0 := (List.range 16).foldl (fun b k => b.put (pgMem k) F.MEM_CH_STATUS.CH_UP 0xFFFF) { b with boot := { b.boot with memTrained := true } }
    let b1 := (bitIndices 32 failed).foldl Block.retireGroup ((List.range 32).foldl (fun b g =>
      (b.put (pgMem (g / 2)) F.MEM_TEMP.TEMP temp).setGroup g { b.group g with lastTrain := b.now, lastTemp := temp }) b0)
    b1.setStage (max 6 b.stage)

/-- A link has settled after training. -/
def Block.linkSettled (b : Block) (n : Nat) : Bool :=
  b.linkUp n || decide (b.lstate n = lsREFUSED) || decide (b.lstate n = lsDOWN) || (decide (b.lstate n = lsOFF) && decide (b.lk n F.FAB_LCFG.LINK_EN = 0))

/-- FABRIC_TRAINED: every link has settled and the timebase lock begins. -/
def Block.fabricTrained (b : Block) : Block :=
  if b.stage < 5 ∨ 9 ≤ b.stage ∨ b.boot.fabTrained ∨ !(List.range 63).all b.linkSettled then b
  else
    ({ b with boot := { b.boot with fabTrained := true }, tb := { b.tb with trainedAt := some b.now } }).setStage 7

/-- MEM_INIT_DONE: zero fill, frames WRITABLE, region tags 0xFFFF_FFFF (R220). -/
def Block.memInitDone (b : Block) : Block :=
  if !b.boot.memTrained ∨ b.boot.memInit then b
  else
    { b with boot := { b.boot with memInit := true }, mem := { undef := [], cells := [] }, poison := [], frames := [], rtags := [] }

/-- BOOT_FINAL: default vectors, the power calibration, and READY (R18, R435, R475, R477). -/
def Block.bootFinal (b : Block) : Block :=
  if b.stage < 5 ∨ 9 ≤ b.stage ∨ !b.boot.memInit ∨ !b.boot.fabTrained ∨ (b.sync ≠ tbLOCKED ∧ b.sync ≠ tbMASTER)
      ∨ (List.range 32).all b.groupRetired then b
  else
    let b1 := allPages.foldl (fun b p => b.modHdr p (fun h => { h with ivec := p })) b
    let b2 := match b.boot.fuses with
      | some f => (b1.putCmt pgPwr F.PWR_X_MODEL.P_IDLE f.pIdle).putCmt pgPwr F.PWR_X_MODEL.P_FULL f.pFull
      | none => b1
    if b.flt F.FLT_SAFE.SAFE_STATE = sfRUN then b2.reachReady
    else ({ b2 with boot := { b2.boot with readyDue := true } }).setStage 8

/-- BOOT_LATE (R476). -/
def Block.bootLate (b : Block) : Block :=
  if b.eff pgBoot F.BOOT_STAT.READY = 1 ∨ b.boot.late ∨ b.now < b.boot.start + 4000000000 then b
  else ({ b with boot := { b.boot with late := true } }).reportPage pgBoot 0x0D03

/-- REVOKE_BURN and SVN_BURN (R483). -/
def Block.revokeBurn (b : Block) (mask : Nat) : Block :=
  let all := b.eff pgBoot F.BOOT_FUSE.KEY_REVOKE ||| b.boot.burnRevoke ||| (mask % 16)
  if (List.range 4).any (fun k => bit (b.eff pgBoot F.BOOT_FUSE.KEY_VALID) k && !bit all k) then
    { b with boot := { b.boot with burnRevoke := b.boot.burnRevoke ||| (mask % 16) } }
  else b.cfgReject pgBoot
def Block.svnBurn (b : Block) (v : Nat) : Block :=
  let x := v % 128
  if b.eff pgBoot F.BOOT_IMG.IMG_SVN < x then b.cfgReject pgBoot
  else if x ≤ b.eff pgBoot F.BOOT_FUSE.SVN_FUSE then b
  else { b with boot := { b.boot with burnSvn := max b.boot.burnSvn x } }

/-! ### Live update (R487 to R493) -/

def upIDLE : Nat := 0
def upVERIFYING : Nat := 1
def upSTAGED : Nat := 2
def upACTIVATING : Nat := 3
def upFAILED : Nat := 4
def Block.updState (b : Block) : Nat := b.eff pgBoot F.BOOT_UPD_STAT.UPD_STATE
def Block.setUpd (b : Block) (n : Nat) : Block := b.put pgBoot F.BOOT_UPD_STAT.UPD_STATE n

/-- The staging area. -/
def Block.stgBase (b : Block) : Nat := b.eff pgBoot F.BOOT_STG_BASE.STG_BASE % 2 ^ 41

/-- A PLDM update has ended (R515). -/
def Block.unlockUpd (b : Block) : Block :=
  { b with upd := { b.upd with autoFlash := false } }.put pgMgt F.MGT_PLDM.UPD_LOCK 0

/-- Bytes of the staging area that an image of its IMAGE_LEN takes.
Log entry 61 (DEDUCED, unsafe). -/
def Block.stagedLen (b : Block) : Nat := min 12582912 (max 4096 (ceilDiv (b.m32 (b.stgBase + 8)) 4096 * 4096))

/-- UPD_VERIFY: the staging frames freeze and the checks start. -/
def Block.updVerify (b : Block) : Block :=
  if b.updState ≠ upIDLE ∧ b.updState ≠ upFAILED then b.cfgReject pgBoot
  else ((b.askFreeze .staging 1 b.stgBase (b.stagedLen / 4096)).setUpd upVERIFYING).put pgBoot F.BOOT_UPD_STAT.UPD_ERR 0

/-- A verify fails. -/
def Block.verifyFail (b : Block) (err : Nat) : Block :=
  (((((b.setUpd upFAILED).put pgBoot F.BOOT_UPD_STAT.UPD_ERR err).bump pgBoot F.BOOT_ERR_CNT.VERIFY_FAIL_CNT).raise pgBoot 3).reportPage pgBoot
    0x0D04).unlockUpd

/-- UPD_VERIFY_DONE: the freeze has ended and the frozen copy is checked.
Log entry 61 (DEDUCED, unsafe). -/
def Block.updVerifyDone (b : Block) : Block :=
  if b.updState ≠ upVERIFYING then b
  else
    match b.takeDone .staging with
    | none => b
    | some st =>
      let b1 := b.dropDone .staging
      if st ≠ 0 then b1.verifyFail 0x11
      else
        let m := b.mem.read b.stgBase b.stagedLen
        let e := b1.imageCheck m false
        if e ≠ 0 then b1.verifyFail e
        else
          (({ b1 with upd := { b1.upd with image := m.take (imgLen m) } }.setUpd upSTAGED).put pgBoot F.BOOT_UPD_STAT.DONE_MASK 0).raise pgBoot 2

/-- The order of R488. -/
def actOrder : List Nat := [7, 5, 6, 4, 3, 2, 1]

/-- The engine lets go of the pages it holds: those not yet committed keep the old version. -/
def Block.updRelease (b : Block) : Block :=
  b.upd.held.foldl (fun b p =>
    let r := b.page p
    b.setPage p { r with pnd := r.cmt, hdr := { r.hdr with st := if r.hdr.st = .off then .off else .run, commitPending := false } })
    { b with upd := { b.upd with held := [], todo := [], loaded := [], cur := none, queue := [], alive := none } }

/-- An activation ends FAILED. -/
def Block.actFail (b : Block) (err : Nat) : Block :=
  ((((b.updRelease.setUpd upFAILED).put pgBoot F.BOOT_UPD_STAT.UPD_ERR err).raise pgBoot 5).reportPage pgBoot 0x0D05).unlockUpd

/-- The engine takes a page: QUIESCE. -/
def Block.updTake1 (b : Block) (p : Nat) : Block :=
  let r := b.page p
  { b with upd := { b.upd with held := b.upd.held ++ [p], todo := b.upd.todo.filter (fun q => decide (q ≠ p)) } }.setPage p
    { r with pnd := r.cmt, hdr := { r.hdr with st := .quiescing, quiesceAt := b.now } }

/-- The microcode of the component in progress goes into the shadow store of a tile (R130). -/
def Block.loadUcode (b : Block) (p : Nat) : Block :=
  match pageKind p, component? b.upd.image 2 with
  | .til, some c => b.setTile (p - 0x200) { b.tile (p - 0x200) with shadow := c.bytes b.upd.image }
  | _, _ => b

/-- The engine takes the pages that it can: all tiles together, the others one at a time, each once its STATE is RUN. A tile with ENABLE = 0
commits as soon as its sequencer is IDLE, and a retired tile is skipped (R130, R488, R489). -/
def Block.updTake (b : Block) : Block :=
  match b.upd.cur with
  | none => b
  | some 2 =>
    b.upd.todo.foldl (fun b p =>
      let skip : Block := { b with upd := { b.upd with todo := b.upd.todo.filter (fun q => decide (q ≠ p)) } }
      if (b.tile (p - 0x200)).seq = .retired then skip
      else if !b.enabled p then
        if (b.tile (p - 0x200)).seq = .idle then ((skip.loadUcode p).switchUcode p).modHdr p (fun h => h.setUc b.upd.version) else b
      else if (b.hdr p).st = .run then b.updTake1 p else b) b
  | some _ =>
    match b.upd.todo with
    | p :: _ => if b.upd.held.isEmpty ∧ (b.hdr p).st = .run then b.updTake1 p else b
    | [] => b

/-- The pages that a component takes and that do not run its new version. -/
def Block.updPages (b : Block) (c : Component) : List Nat :=
  (compPages c.id).filter (fun p =>
    let h := b.hdr p
    !(decide (b.eff pgBoot F.BOOT_COMP.MIXED c.id = 1) && decide (h.ucMajor * 65536 + h.ucMinor * 256 + h.ucBuild = c.version)))

/-- The next component begins; with none left the activation is complete. A staging frame that is no longer FROZEN ends it. -/
def Block.updNext (b : Block) : Block :=
  match b.upd.queue with
  | [] =>
    let b1 := (({ b with upd := { b.upd with cur := none } }.setUpd upSTAGED).bump pgBoot F.BOOT_CNT.ACT_CNT).raise pgBoot 4
    if b.upd.autoFlash then
      { b1 with upd := { b1.upd with flashSrc := b1.upd.image } }.put pgBoot F.BOOT_UPD_STAT.FLASH_BUSY 1
    else b1
  | id :: rest =>
    match component? b.upd.image id with
    | none => { b with upd := { b.upd with queue := rest } }
    | some c =>
      if !b.allFrames (b.stgBase + c.off) c.len frFROZEN then b.actFail 0x11
      else
        let b1 := { b with upd := { b.upd with queue := rest, cur := some id, version := c.version, since := b.now, todo := b.updPages c, held := []
                                               loaded := [], alive := none } }
        (b1.put pgBoot F.BOOT_COMP.PENDING 1 id).updTake

/-- UPD_ACTIVATE.
Log entry 62 (DEDUCED, unsafe). -/
def Block.updActivate (b : Block) (mask : Nat) : Block :=
  let present := presentMask b.upd.image
  if b.updState ≠ upSTAGED ∨ mask &&& present ≠ mask then b.cfgReject pgBoot
  else
    ({ b with upd := { b.upd with queue := actOrder.filter (fun c => bit mask c) } }.setUpd upACTIVATING).updNext

/-- COMPONENT_LOADED: the component is loaded into a page that has quiesced, and the engine writes RESUME. Management firmware goes into
the idle bank and waits for its handover. -/
def Block.componentLoaded (b : Block) (p : Nat) : Block :=
  if b.updState ≠ upACTIVATING ∨ !b.upd.held.contains p ∨ b.upd.loaded.contains p ∨ (b.hdr p).st ≠ .quiesced then b
  else
    let b1 := { b.loadUcode p with upd := { b.upd with loaded := b.upd.loaded ++ [p] } }
    if b.upd.cur = some 1 then b1
    else if isStaged (pageKind p) then b1.modHdr p (fun h => { h with commitPending := true, pendingAt := b.now })
    else b1.commitWhole p

/-- Some pages of the component in progress have committed and some have not. -/
def Block.showMixed (b : Block) : Block :=
  match b.upd.cur with
  | none => b
  | some id =>
    let left := b.upd.todo.length + b.upd.held.length
    b.put pgBoot F.BOOT_COMP.MIXED (b2n (decide (0 < left) && decide (left < (compPages id).length))) id

/-- COMPONENT_COMMITTED: every page has committed (R492), and the next component begins; until then the engine takes its next page.
Log entry 62 (DEDUCED, unsafe). -/
def Block.componentCommitted (b : Block) : Block :=
  if b.updState ≠ upACTIVATING then b
  else
    match b.upd.cur with
    | none => b.updNext
    | some id =>
      let b0 := b.updTake
      if !b0.upd.todo.isEmpty ∨ !b0.upd.held.isEmpty then b0.showMixed
      else
        match component? b.upd.image id with
        | none => b0.updNext
        | some c =>
          let b1 := ((b0.showComponent c).put pgBoot F.BOOT_COMP.PENDING 0 id).put pgBoot F.BOOT_COMP.MIXED 0 id
          (b1.put pgBoot F.BOOT_UPD_STAT.DONE_MASK (setBits (b1.eff pgBoot F.BOOT_UPD_STAT.DONE_MASK) id 1 1)).updNext

/-- ACTIVATE_LIMIT: 10 s without a full commit (R490). -/
def Block.activateLimit (b : Block) : Block :=
  if b.updState = upACTIVATING ∧ b.upd.cur.isSome ∧ b.upd.since + 10000000000 ≤ b.now then b.showMixed.actFail 0x10 else b

/-- Announcements have been sent for every active partition index (R491). -/
def Block.announcedAll (b : Block) : Bool :=
  b.sync ≠ tbMASTER || (List.range 16).all (fun k => !bit b.partActive k || b.stepDue k)

/-- MGMT_FW_HANDOVER: the cores restart on the new bank. -/
def Block.handover (b : Block) : Block :=
  if b.updState = upACTIVATING ∧ b.upd.cur = some 1 ∧ b.upd.loaded.contains pgMgt ∧ b.upd.alive = none ∧ b.announcedAll then
    { b with upd := { b.upd with alive := some b.now } }
  else b

/-- BOOT_ALIVE confirms new management firmware, which commits. -/
def Block.bootAlive (b : Block) : Block :=
  match b.upd.alive with
  | some _ => ({ b with upd := { b.upd with alive := none } }).commitWhole pgMgt
  | none => b

/-- ALIVE_TIMEOUT: the cores return to the old bank. -/
def Block.aliveTimeout (b : Block) : Block :=
  match b.upd.alive with
  | some t =>
    if t + 100000000 ≤ b.now then
      ((((b.raise pgBoot 6).bump pgBoot F.BOOT_CNT.REVERT_CNT).reportPage pgBoot 0x0D06).put pgBoot F.BOOT_COMP.PENDING 0 1).actFail 0x12
    else b
  | none => b

/-- FLASH_WRITE: the image last verified, or the booted one (R493). -/
def Block.flashWrite (b : Block) : Block :=
  if (b.updState ≠ upSTAGED ∧ b.updState ≠ upFAILED) ∨ b.eff pgBoot F.BOOT_UPD_STAT.FLASH_BUSY = 1 then b.cfgReject pgBoot
  else
    { b with upd := { b.upd with flashSrc := if b.updState = upSTAGED then b.upd.image else b.boot.booted } }.put pgBoot
      F.BOOT_UPD_STAT.FLASH_BUSY 1

/-- FLASH_WRITE_DONE: `ok` is the read-back check. -/
def Block.flashWriteDone (b : Block) (ok : Bool) : Block :=
  if b.eff pgBoot F.BOOT_UPD_STAT.FLASH_BUSY = 0 then b
  else
    ((((b.put pgBoot F.BOOT_UPD_STAT.FLASH_BUSY 0).put pgBoot F.BOOT_STAT.FLASH_OK (b2n ok)).raise pgBoot 7).emit
      (.blob "flash" b.upd.flashSrc)).unlockUpd

/-- UPD_ABORT: work in progress stops; committed components stay. -/
def Block.updAbort (b : Block) : Block :=
  if b.updState = upVERIFYING ∨ b.updState = upSTAGED ∨ b.updState = upACTIVATING then
    ((b.showMixed.updRelease).setUpd upIDLE).unlockUpd
  else b.cfgReject pgBoot

end Sys2Proof.Machine
end

