-- ==== Sys2Proof/Machine/Mgmt.lean ====
section
/-! DEFINITION. The attestation responder (R484 to R486), the PCI Express endpoint (R499 to R509), the I3C port (R510, R511) and PLDM
(R513 to R515). -/
namespace Sys2Proof.Machine

/-! ### SPDM (R484 to R486) -/

/-- The responder runs in every boot stage from FW_START on. -/
def Block.spdmUp (b : Block) : Bool := decide (4 ≤ b.stage) && decide (b.stage ≤ 9)

/-- An answer of the responder. -/
def Block.spdm (b : Block) (o : Out) : Block := if b.spdmUp then b.emit o else b

/-- GET_VERSION: version 1.2 alone. -/
def Block.spdmVersion (b : Block) : Block := b.spdm (.response "spdm-version" [0x12])

/-- GET_CAPABILITIES: CTExponent 17, and the flags CERT_CAP, CHAL_CAP and MEAS_CAP with signatures (PRESUMED bits of DSP0274).
Log entry 63 (PRESUMED, unsafe). -/
def Block.spdmCapabilities (b : Block) : Block := b.spdm (.response "spdm-capabilities" [17, 0x16])

/-- NEGOTIATE_ALGORITHMS: of what the requester offers, RSASSA-3072 (bit 2), SHA-256 (bit 0) and DMTF measurements (bit 0); measurement
hashes are SHA-256 (PRESUMED bits of DSP0274).
Log entry 63 (PRESUMED, unsafe). -/
def Block.spdmAlgorithms (b : Block) (meas asym hash : Nat) : Block :=
  b.spdm (.response "spdm-algorithms" [meas &&& 1, if bit meas 0 then 2 else 0, asym &&& 4, hash &&& 1])

/-- GET_DIGESTS: slot 0 alone holds a chain (R484). -/
def Block.spdmDigests (b : Block) : Block := b.spdm (.blob "spdm-digests" (BitVec.ofNat 8 1 :: sha256 Config.certChain))

/-- A request the responder does not serve. -/
def Block.spdmError (b : Block) (code : Nat) : Block := b.spdm (.response "spdm-error" [code])

/-- GET_CERTIFICATE: a part of the slot 0 chain; slots 1 to 7 are empty. -/
def Block.spdmCertificate (b : Block) (slot off len : Nat) : Block :=
  if slot ≠ 0 ∨ Config.certChain.length ≤ off then b.spdmError 1 else b.spdm (.blob "spdm-certificate" ((Config.certChain.drop off).take len))

/-- A signature of the identity key over a transcript: its bytes are left to SPDM and to the fuses. -/
def Block.spdmSigned (b : Block) (name : String) (bs : List Byte) : Block :=
  if b.spdmUp then
    let (n, b1) := b.draw
    b1.emit (.blob name (bs ++ (Config.freeBytes n).take 384))
  else b

/-- CHALLENGE: the digest of the chain and the requester's nonce, signed. -/
def Block.spdmChallenge (b : Block) (slot : Nat) (nonce : List Byte) : Block :=
  if slot ≠ 0 then b.spdmError 1 else b.spdmSigned "spdm-challenge-auth" (sha256 Config.certChain ++ nonce)

/-- The straps as DEV_STRAP shows them (R472). -/
def Block.strapWord (b : Block) : Nat := b.slotId + 256 * b2n b.tbmEn + 512 * b2n b.testMode

/-- The value of a measurement block (R486).
Log entry 64 (DEDUCED, unsafe). -/
def Block.measurement (b : Block) (i : Nat) : List Byte :=
  if i = 1 then Config.romDigest
  else if i = 2 then Config.fuseDigest (b.eff pgBoot F.BOOT_FUSE.KEY_VALID) (b.eff pgBoot F.BOOT_FUSE.KEY_REVOKE)
      (b.eff pgBoot F.BOOT_FUSE.SVN_FUSE) (b.eff pgBoot F.BOOT_FUSE.TEST_FUSE) b.strapWord
  else if i = 3 then sha256 (b.boot.booted.take (0x200 + 64 * imgCount b.boot.booted))
  else leBytes 32 (b.eff pgBoot F.BOOT_DIG.DIGEST (i - 3))

/-- GET_MEASUREMENTS: the number of blocks (index 0), one block, or all of them (index 0xFF), signed under slot 0 on request. -/
def Block.spdmMeasurements (b : Block) (i : Nat) (signed : Bool) (slot : Nat) : Block :=
  if (signed ∧ slot ≠ 0) ∨ (10 < i ∧ i ≠ 0xFF) then b.spdmError 1
  else
    let bs := if i = 0 then [BitVec.ofNat 8 10] else if i = 0xFF then (List.range 10).flatMap (fun k => b.measurement (k + 1)) else b.measurement i
    if signed then b.spdmSigned "spdm-measurements" bs else b.spdm (.blob "spdm-measurements" bs)

/-! ### The BAR2 window and BAR0 (R502 to R507) -/

/-- The rack address of an offset of the window. -/
def Block.barAddr (b : Block) (off : Nat) : Nat := b.eff pgPci F.PCI_WIN_BASE.WIN_BASE + off

/-- All-ones data of a read. -/
def Block.bar2Ones (b : Block) (len : Nat) : Block := b.emit (.bar2Read (List.replicate len 0xFF))

/-- The package waits in RECOVERY. -/
def Block.inRecovery (b : Block) : Bool := decide (b.stage = 3)

/-- BAR2_READ: RECOVERY decodes the first 16 MiB onto the boot buffer, the Rest state answers all ones, and otherwise the read reaches
rack space as a privileged read (R433, R479, R503, R504).
Log entry 68 (DESIGN CHOICE, unsafe). -/
def Block.bar2Read (b : Block) (off len : Nat) : Block :=
  if b.pcie.inReset then b
  else if b.inRecovery then
    if off + len ≤ 2 ^ 24 then b.emit (.bar2Read (Bytes.read 0 b.boot.push off len)) else b.bar2Ones len
  else if b.asleep then b.bar2Ones len
  else
    (b.newXfer { xfer0 (.bar2 (b.barAddr off)) .read with pieces := [{ addr := b.barAddr off, len := len, sram := 0 }], priv := true
                                                          page := pgPci }).rest

/-- A local BAR2 write has not been acknowledged yet. -/
def Block.barWriteOpen (b : Block) : Bool :=
  !b.pciq.isEmpty || b.xfers.any (fun x => match x.owner, x.kind with
    | .bar2 a, .write => (b.localOff a).isSome && decide (x.phase ≠ .done)
    | _, _ => false)

/-- BAR2_WRITE: discarded and counted in the safe state and in the Rest state; a write of this package's own memory starts once the
previous such write has been acknowledged (R433, R450, R479, R504, R505).
Log entry 69 (DEDUCED, unsafe). -/
def Block.bar2Write (b : Block) (off : Nat) (bs : List Byte) : Block :=
  if b.pcie.inReset then b
  else if b.inRecovery then
    if off + bs.length ≤ 2 ^ 24 then { b with boot := { b.boot with push := Bytes.write 0 b.boot.push off bs } } else b
  else if b.asleep ∨ b.safe then (b.bump pgPci F.PCI_CNT0.WR_DROP_CNT).raise pgPci 0
  else if (b.localOff (b.barAddr off)).isSome ∧ b.barWriteOpen then { b with pciq := b.pciq ++ [(b.barAddr off, bs)] }
  else (b.bar2WriteStart (b.barAddr off) bs).rest

/-- BAR0_BAD_ACCESS: a read returns all ones per word, a write is discarded (R502). -/
def Block.badAccess (b : Block) (isRead : Bool) (words : Nat) : Block :=
  if b.pcie.inReset then b
  else
    let b1 := ((b.bump pgPci F.PCI_CNT1.BAD_ACC_CNT).raise pgPci 2).reportPage pgPci 0x0E06
    if isRead then b1.emit (.read .host (List.replicate words 0xFFFFFFFF)) else b1

/-- FENCE_GO: the fence of R366 for the writes of the window; while one runs the write has no further effect. -/
def Block.fenceGo (b : Block) : Block :=
  if b.eff pgPci F.PCI_FENCE.BUSY = 1 then b
  else (((b.put pgPci F.PCI_FENCE.BUSY 1).put pgPci F.PCI_FENCE.LOST 0).startFence (fun _ => .pci) 341).rest

/-- PCIE_LINK_DOWN: what a block had accepted completes and every other request is lost (R507).
Log entry 68 (DESIGN CHOICE, unsafe). -/
def Block.pcieDown (b : Block) : Block :=
  if !b.pcie.linkUp then b
  else
    let b1 := { b with pcie := { b.pcie with linkUp := false }, pciq := [] }
    let b2 := ((b1.put pgPci F.PCI_LINK.SPEED 0).put pgPci F.PCI_LINK.WIDTH 0).put pgPci F.PCI_LINK.FLIT 0
    ((b2.bump pgPci F.PCI_CNT1.LINK_DOWN_CNT).raise pgPci 1).reportPage pgPci 0x0E01

/-- PCIE_LINK_UP: the link has trained; it runs in FLIT mode at generation 6 (R499). -/
def Block.pcieUp (b : Block) (speed width : Nat) : Block :=
  if b.pcie.inReset ∨ b.pcie.linkUp then b
  else
    ((({ b with pcie := { b.pcie with linkUp := true } }.put pgPci F.PCI_LINK.SPEED speed).put pgPci F.PCI_LINK.WIDTH width).put pgPci
      F.PCI_LINK.FLIT (b2n (decide (speed = 6))))

/-- Send the message of every vector that is pending and no longer withheld. -/
def Block.sendPending (b : Block) : Block :=
  let c := b.pcie
  if c.msixEn && !c.funcMask && c.busMaster then
    (c.pendingBits.filter (fun e => e.2 && !SMap.get false c.masked e.1)).foldl (fun b e =>
      { b with pcie := { b.pcie with pendingBits := SMap.erase b.pcie.pendingBits e.1 } }.emit (.msix e.1)) b
  else b

/-- MSIX_PENDING_SEND: the controls and the mask bit of a vector take these values; what no longer is withheld is sent (R509).
Log entry 68 (DESIGN CHOICE, unsafe). -/
def Block.msixControl (b : Block) (v : Nat) (en mask master masked : Bool) : Block :=
  if b.pcie.inReset then b
  else
    { b with pcie := { b.pcie with msixEn := en, funcMask := mask, busMaster := master, masked := SMap.put false b.pcie.masked v masked } }.sendPending

/-! ### I3C and MCTP (R510, R511) -/

/-- The static address. -/
def Block.staticAddr (b : Block) : Nat := 0x40 + b.slotId % 4

/-- SET_ENDPOINT_ID on I3C (0) or on PCIe VDM (1). -/
def Block.setEndpointId (b : Block) (transport eid : Nat) : Block :=
  ((b.put pgMgt (if transport = 0 then F.MGT_EID.EID_I3C else F.MGT_EID.EID_PCIE) eid).raise pgMgt 0).emit (.response "mctp-eid" [transport, eid])

/-- The dynamic address is assigned. -/
def Block.dynAddr (b : Block) (a : Nat) : Block := (b.put pgMgt F.MGT_I3C.DYN_ADDR a).put pgMgt F.MGT_I3C.ADDR_VALID 1

/-- ENTDAA reaches a target without a dynamic address. -/
def Block.entdaa (b : Block) (a : Nat) : Block := if b.eff pgMgt F.MGT_I3C.ADDR_VALID = 1 then b else b.dynAddr a

/-- SETDASA: the command names the static address. -/
def Block.setdasa (b : Block) (static a : Nat) : Block :=
  if static = b.staticAddr ∧ b.eff pgMgt F.MGT_I3C.ADDR_VALID = 0 then b.dynAddr a else b

/-- HOT_JOIN: requested while no dynamic address is held. -/
def Block.hotJoin (b : Block) : Block := if b.eff pgMgt F.MGT_I3C.ADDR_VALID = 1 then b else b.emit (.event "hot-join" [])

/-- I3C_BUS_ERROR (R538). -/
def Block.i3cError (b : Block) : Block := ((b.bump pgMgt F.MGT_CNT.I3C_ERR_CNT).raise pgMgt 1).reportPage pgMgt 0x0E05

/-! ### PLDM (R513 to R515) -/

/-- A completion code with the values of a response.
Log entry 63 (PRESUMED, unsafe). -/
def Block.pldm (b : Block) (name : String) (cc : Nat) (ws : List Nat) : Block := b.emit (.response name (cc :: ws))

/-- GET_TID and SET_TID. -/
def Block.getTid (b : Block) : Block := b.pldm "pldm-tid" 0 [b.eff pgMgt F.MGT_EID.TID]
def Block.setTid (b : Block) (t : Nat) : Block := (b.put pgMgt F.MGT_EID.TID t).pldm "pldm-set-tid" 0 []

/-- GET_PLDM_VERSION: type 5 is DSP0267 1.1; the versions of types 0 and 2 are not stated. -/
def Block.pldmVersion (b : Block) (type : Nat) : Block :=
  if type = 5 then b.pldm "pldm-version" 0 [0x0101]
  else if type = 0 ∨ type = 2 then b.pldm "pldm-version" 0 [Config.pldmVersion type]
  else b.pldm "pldm-version" 0x83 []

/-- GET_PLDM_TYPES. -/
def Block.pldmTypes (b : Block) : Block := b.pldm "pldm-types" 0 [0, 2, 5]

/-- GET_PLDM_COMMANDS: the command codes of a type (PRESUMED codes of DSP0240, DSP0248 and DSP0267).
Log entry 63 (PRESUMED, unsafe). -/
def Block.pldmCommands (b : Block) (type : Nat) : Block :=
  if type = 0 then b.pldm "pldm-commands" 0 [0x01, 0x02, 0x03, 0x04, 0x05]
  else if type = 2 then b.pldm "pldm-commands" 0 [0x0A, 0x0B, 0x0C, 0x11, 0x21, 0x51]
  else if type = 5 then b.pldm "pldm-commands" 0 [0x10, 0x15, 0x16, 0x18, 0x1A, 0x1D]
  else b.pldm "pldm-commands" 0x83 []

/-- The numeric sensors by number: P_AVG, TJ_NOW, the temperatures of clusters 0 to 23 and the currents of quadrants 0 to 3.
Log entry 65 (DESIGN CHOICE, unsafe). -/
def Block.numericSensor (b : Block) (n : Nat) : Option Nat :=
  if n = 0 then some (b.pw? F.PWR_NOW.P_AVG)
  else if n = 1 then some (b.pw? F.PWR_TEMP.TJ_NOW)
  else if n < 26 then some (b.pw? F.PWR_CTEMP.TEMP (n - 2))
  else if n < 30 then some (b.pw? F.PWR_QCUR.I_Q (n - 26))
  else none

/-- The state sensors by number: SAFE_STATE, READY, REST_STATE and the throttle reasons.
Log entry 65 (DESIGN CHOICE, unsafe). -/
def Block.stateSensor (b : Block) (n : Nat) : Option Nat :=
  if n = 32 then some (b.flt F.FLT_SAFE.SAFE_STATE)
  else if n = 33 then some (b.eff pgBoot F.BOOT_STAT.READY)
  else if n = 34 then some (b.pw? F.PWR_REST.REST_STATE)
  else if 35 ≤ n ∧ n < 45 then some (b2n (bit (b.pw? F.PWR_REASON.REASON) (n - 35)))
  else none

/-- GET_SENSOR_READING and GET_STATE_SENSOR_READINGS; an unknown sensor is refused. -/
def Block.getSensor (b : Block) (n : Nat) : Block :=
  match b.numericSensor n with
  | some v => b.pldm "pldm-sensor" 0 [n, v]
  | none => b.pldm "pldm-sensor" 0x80 [n]
def Block.getState (b : Block) (n : Nat) : Block :=
  match b.stateSensor n with
  | some v => b.pldm "pldm-state" 0 [n, v]
  | none => b.pldm "pldm-state" 0x80 [n]

/-- GET_PDR: record handle `n` + 1 describes sensor `n`; the kind of sensor follows its number.
Log entry 65 (DESIGN CHOICE, unsafe). -/
def Block.getPdr (b : Block) (handle : Nat) : Block :=
  let n := handle - 1
  if handle = 0 ∨ ((b.numericSensor n).isNone ∧ (b.stateSensor n).isNone) then b.pldm "pldm-pdr" 0x82 [handle]
  else b.pldm "pldm-pdr" 0 [handle, if (b.numericSensor n).isSome then 2 else 4, n]

/-- EVENT_MESSAGE_SUPPORTED: polling alone. -/
def Block.eventSupported (b : Block) : Block := b.pldm "pldm-events" 0 [1]

/-- POLL_FOR_PLATFORM_EVENT: an acknowledgement takes the first record off the queue, and the next one is answered in SEQ order (R514). -/
def Block.pollEvent (b : Block) (ack : Bool) : Block :=
  let x := b.fcol
  let b1 := if ack ∧ !x.pldm.isEmpty then (b.setFcol { x with pldm := x.pldm.drop 1, pldmSeq := x.pldmSeq + 1 }).pldmFill else b
  match b1.fcol.pldm with
  | [] => b1.pldm "pldm-event" 0 []
  | a :: _ => b1.emit (.blob "pldm-event" (telRecord b1.fcol.pldmSeq 0 a.count a.last a.words))

/-- The update mode of PLDM is held. -/
def Block.updLocked (b : Block) : Bool := decide (b.eff pgMgt F.MGT_PLDM.UPD_LOCK = 1)

/-- REQUEST_UPDATE.
Log entry 66 (PRESUMED, unsafe). -/
def Block.requestUpdate (b : Block) : Block :=
  if b.eff pgBoot F.BOOT_STG_BASE.STG_BASE ≠ 0 ∧ (b.updState = upIDLE ∨ b.updState = upFAILED) ∧ !b.updLocked then
    (b.put pgMgt F.MGT_PLDM.UPD_LOCK 1).pldm "pldm-request-update" 0 []
  else b.pldm "pldm-request-update" 0x80 []

/-- REQUEST_FIRMWARE_DATA: bytes of the image land in the staging area.
Log entry 66 (PRESUMED, unsafe). -/
def Block.firmwareData (b : Block) (off : Nat) (bs : List Byte) : Block :=
  if !b.updLocked then b.pldm "pldm-firmware-data" 0x80 []
  else if 12582912 < off + bs.length then b.pldm "pldm-firmware-data" 0x82 []
  else
    let (b1, st) := b.privWrite (b.stgBase + off) bs
    b1.pldm "pldm-firmware-data" (if st = 0 then 0 else 1) []

/-- TRANSFER_COMPLETE issues VERIFY. -/
def Block.transferComplete (b : Block) : Block :=
  if b.updLocked then (b.updVerify.pldm "pldm-transfer-complete" 0 []).rest else b.pldm "pldm-transfer-complete" 0x80 []

/-- VERIFY_COMPLETE reports the result of VERIFY. -/
def Block.verifyComplete (b : Block) : Block := b.pldm "pldm-verify-complete" 0 [b.updState, b.eff pgBoot F.BOOT_UPD_STAT.UPD_ERR]

/-- ACTIVATE_FIRMWARE: ACTIVATE of every component present, and FLASH_WRITE after ACT_DONE_EV. -/
def Block.activateFirmware (b : Block) : Block :=
  if b.updLocked ∧ b.updState = upSTAGED then
    ({ b with upd := { b.upd with autoFlash := true } }.updActivate (presentMask b.upd.image)).pldm "pldm-activate" 0 []
  else b.pldm "pldm-activate" 0x80 []

/-- CANCEL_UPDATE.
Log entry 66 (PRESUMED, unsafe). -/
def Block.cancelUpdate (b : Block) : Block :=
  if b.updLocked then
    (if b.updState = upVERIFYING ∨ b.updState = upSTAGED ∨ b.updState = upACTIVATING then b.updAbort else b.unlockUpd).pldm "pldm-cancel" 0 []
  else b.pldm "pldm-cancel" 0x80 []

end Sys2Proof.Machine
end

