-- ==== Sys2Proof/Machine/Pins.lean ====
section
/-! DEFINITION. Sideband inputs and outputs, rails and AVSBus (R528, R530, R534 to R537). Inputs: 0 PWR_ALERT_N, 1 COOL_ALERT_N,
2 CAP_STEP_N, 3 PERST_N. -/
namespace Sys2Proof.Machine

/-- An input after reset.
Log entry 72 (DESIGN CHOICE, unsafe). -/
def pinReset : Pin := { level := false, treated := false, edges := [], since := 0, stuckSeen := false }
def Block.pin (b : Block) (i : Nat) : Pin := SMap.get pinReset b.pins i
def Block.setPin (b : Block) (i : Nat) (x : Pin) : Block := { b with pins := SMap.set b.pins i x }

/-- CHATTER of an input. -/
def Block.chatters (b : Block) (i : Nat) : Bool := bit (b.eff pgDev F.DEV_SB_CHATTER.CHATTER) i

/-- The counter of chatter episodes of an input. -/
def chatCnt (i : Nat) : Field :=
  if i = 0 then F.DEV_SB_CHAT_CNT.CHATTER_CNT0 else if i = 1 then F.DEV_SB_CHAT_CNT.CHATTER_CNT1
  else if i = 2 then F.DEV_SB_CHAT_CNT.CHATTER_CNT2 else F.DEV_SB_CHAT_CNT.CHATTER_CNT3

/-- The treated level of an input: every block that uses the input sees it (R535). -/
def Block.treat (b : Block) (i : Nat) (on : Bool) : Block :=
  let x := b.pin i
  if x.treated = on then b
  else
    let b1 := (b.setPin i { x with treated := on, since := b.now, stuckSeen := false }).putBit pgDev F.DEV_SB_LEVEL.ASSERTED i on
    if i = 3 then b1.perstReset on else b1.inputTreated i on

/-- An input begins to chatter. -/
def Block.chatterOn (b : Block) (i : Nat) : Block :=
  if b.chatters i then b
  else (((b.putBit pgDev F.DEV_SB_CHATTER.CHATTER i true).bump pgDev (chatCnt i)).raise pgDev 4).reportPage pgDev 0x0004

/-- The filter accepts an edge of an input: more than 20 of them in 1 ms are chatter (R534, R535).
Log entry 70 (DESIGN CHOICE, unsafe). -/
def Block.pinEdge (b : Block) (i : Nat) (on : Bool) : Block :=
  let x := b.pin i
  if x.level = on then b
  else
    let edges := b.now :: x.edges.filter (fun t => decide (b.now < t + 1000000))
    let b1 := b.setPin i { x with level := on, edges := edges }
    let b2 := if 20 < edges.length then b1.chatterOn i else b1
    b2.treat i (on || b2.chatters i)

/-- SB_CHATTER: a burst of more than 20 edges that ends now.
Log entry 71 (DESIGN CHOICE, unsafe). -/
def Block.chatterBurst (b : Block) (i : Nat) : Block :=
  ((b.setPin i { b.pin i with edges := List.replicate 21 b.now }).chatterOn i).treat i true

/-- CHATTER_CLEAR: 1 ms without an edge at the deasserted level. -/
def Block.chatterClear (b : Block) (i : Nat) : Block :=
  let x := b.pin i
  if b.chatters i ∧ !x.level ∧ x.edges.headD 0 + 1000000 ≤ b.now then (b.putBit pgDev F.DEV_SB_CHATTER.CHATTER i false).treat i false else b

/-- SB_STUCK: more than 100 ms treated as asserted, reported once per episode (R536). -/
def Block.pinStuck (b : Block) (i : Nat) : Block :=
  let x := b.pin i
  if x.treated ∧ !x.stuckSeen ∧ x.since + 100000000 < b.now then
    (((b.setPin i { x with stuckSeen := true }).putBit pgDev F.DEV_SB_STUCK.STUCK i true).raise pgDev 3).reportPage pgDev 0x0003
  else b

/-- Software clears STUCK: an input that still reads asserted starts a new count. -/
def Block.stuckClear (b : Block) (i : Nat) : Block :=
  let b1 := b.putBit pgDev F.DEV_SB_STUCK.STUCK i false
  if (b.pin i).treated then b1.setPin i { b.pin i with since := b.now, stuckSeen := false } else b1

/-- OUT_STUCK: the land of THERMTRIP_N (0) or FAULT_N (1) has read low for more than 100 ms while the package does not drive it (R537).
Log entry 71 (DESIGN CHOICE, unsafe). -/
def Block.outStuck (b : Block) (j : Nat) : Block :=
  let out := if j = 0 then F.DEV_SB_LEVEL.THERMTRIP_OUT else F.DEV_SB_LEVEL.FAULT_OUT
  let pad := if j = 0 then F.DEV_SB_LEVEL.THERMTRIP_PAD else F.DEV_SB_LEVEL.FAULT_PAD
  if b.eff pgDev out = 1 then b
  else ((b.put pgDev pad 1).putBit pgDev F.DEV_SB_STUCK.OUT_STUCK j true).reportPage pgDev 0x0003

/-- RAIL_UV: a rail has stayed more than UV_PCT below its setpoint for UV_TIME (R528). -/
def Block.railUv (b : Block) (r : Nat) : Block :=
  if b.eff pgDev F.DEV_SB_LEVEL.THERMTRIP_OUT = 1 then b
  else
    (((b.putBit pgDev F.DEV_RAIL.RAIL_OK r false).putBit pgDev F.DEV_RAIL_FAIL.RAIL_FAIL r true).raise pgDev 5).reportPage pgDev 0x0005 r

/-- AVS_RESEND: a frame is sent again; `lost`: it failed for good instead (R530). -/
def Block.avsResend (b : Block) (lost : Bool) : Block :=
  if lost then b.bump pgDev F.DEV_AVS.AVS_NACK_CNT else b.bump pgDev F.DEV_AVS.AVS_CRC_CNT

end Sys2Proof.Machine
end

