-- ==== Sys2Proof/Machine/RegRead.lean ====
section
/-! DEFINITION. Register reads: the block-page header (R15 to R18), the fields as they read (R11, R12, R28), and the fields that show
other state of the package. -/
namespace Sys2Proof.Machine

/-- The instances of a field that share bits with the 32-bit word at an offset. -/
def Field.hits (f : Field) (off : Nat) : List Nat :=
  let base := off * 8
  let step := f.stride * 8
  let first := if step = 0 then 0 else (base + 1 - (f.off * 8 + f.lo + f.width)) / step
  let n := if step = 0 then 1 else (f.width + 32) / step + 2
  ((List.range n).map (· + first)).filter (fun i =>
    decide (i < f.count) && decide (f.key i < base + 32) && decide (base < f.key i + f.width))

/-- The bits of a field, given its value, within the word at an offset. -/
def Field.intoWord (f : Field) (i off v : Nat) : Nat :=
  if off * 8 ≤ f.key i then v * 2 ^ (f.key i - off * 8) % 2 ^ 32 else v / 2 ^ (off * 8 - f.key i) % 2 ^ 32

/-- The lowest bit of a field that the word at an offset covers, and how many. -/
def Field.cover (f : Field) (i off : Nat) : Nat × Nat :=
  let lo := off * 8 - f.key i
  (lo, Nat.min (f.width - lo) (32 - (f.key i - off * 8)))

/-- What a word spells for a field, in the field's own position. -/
def Field.raw (f : Field) (i off w : Nat) : Nat :=
  let (lo, n) := f.cover i off
  bits (if off * 8 ≤ f.key i then w / 2 ^ (f.key i - off * 8) else w) 0 n * 2 ^ lo

/-- The value of a field once a word is written over `v`. -/
def Field.over (f : Field) (i off w v : Nat) : Nat :=
  let (lo, n) := f.cover i off
  setBits v lo n (f.raw i off w / 2 ^ lo)

/-- The link whose registers an instance of a quad field belongs to; fields of an absent position are reserved (R372). -/
def quadLink (p i : Nat) : Option Nat := linkAt (p - 0x100) i

/-- Offsets of the registers of the two link positions. -/
def isLinkField (f : Field) : Bool := decide (f.stride = 0x40)

/-- A field exists on a page: MEM_MAP_GRP on page 0x0C0 alone (R226), the queue pairs on page 0x008 alone (R521), a link's registers where
the quad has the link (R372). -/
def fieldHere (p : Nat) (f : Field) (i : Nat) : Bool :=
  match pageKind p with
  | .mem => decide (f ≠ F.MEM_MAP_GRP.OWNER) || decide (p = 0xC0)
  | .eth => decide (p = 8) || decide (f.off < 0x80)
  | .fab => !isLinkField f || (quadLink p i).isSome
  | _ => true

/-- Fields of a page and instances that a word holds. -/
def fieldsAt (p off : Nat) : List (Field × Nat) :=
  ((fieldsOf (pageKind p)).flatMap (fun f => (f.hits off).map (fun i => (f, i)))).filter (fun x => fieldHere p x.1 x.2)

/-- Pending entries of a Score as its status register shows them. -/
def Block.scoreDepth (b : Block) (island : Nat) : Nat := (b.score island).entries.length

/-- SEQ_STATE (R128). -/
def SeqState.code : SeqState → Nat
  | .idle => 0
  | .run => 1
  | .err => 2
  | .knock => 3
  | .retired => 4

/-- The value of a field where it shows other state; `none`: the field holds its own value. -/
def Block.window? (b : Block) (p : Nat) (f : Field) (i : Nat) : Option Nat :=
  match pageKind p with
  | .dev =>
    if f = F.DEV_STRAP.SLOT_ID then some b.slotId
    else if f = F.DEV_STRAP.TBM_EN then some (b2n b.tbmEn)
    else if f = F.DEV_STRAP.TEST_MODE then some (b2n b.testMode)
    else if f = F.DEV_FRZ_STAT.PENDING then some b.frzQueue.length
    else if f = F.DEV_FRZ_STAT.ACTIVE then some b.frzRuns.length
    else if f = F.DEV_GROUPS.LIVE_GROUPS then some ((List.range 32).filter (fun g => !b.groupRetired g)).length
    else none
  | .boot => if f = F.BOOT_UPD_STAT.MIXED then some (b2n ((List.range 8).any (fun c => decide (b.eff p F.BOOT_COMP.MIXED c = 1)))) else none
  | .flt =>
    if f = F.FLT_INJ2.INJ_EN then some (b2n b.injEn)
    else if f = F.FLT_QUIET.QUIET_LEFT then
      some (if b.flt F.FLT_SAFE.SAFE_STATE = sfSAFE then ceilDiv (b.fcol.quietFrom + b.flt F.FLT_QUIET.QUIET_PERIOD * 1000000 - b.now) 1000000 else 0)
    else none
  | .tbs =>
    if f = F.TBS_STATUS.TBM_EN then some (b2n b.tbmEn)
    else if f = F.TBS_STATUS.SLOT then some b.slotId
    else if f = F.TBS_NOW_LO.NOW_LO then some (b.now % 2 ^ 32)
    else if f = F.TBS_NOW_HI.NOW_HI then some (b.tb.nowHi.getD (b.now / 2 ^ 32 % 2 ^ 32))
    else none
  | .mgt => if f = F.MGT_I3C.STATIC_ADDR then some b.staticAddr else none
  | .eth => if f = F.ETH_MAC.MAC then some (b.ethMac (p - 8)) else none
  | .srv =>
    let n := b.eff p F.SRV_BB_SEL.SEL
    let x := b.brd n
    if f = F.SRV_BB_INFO.STATE then some x.st
    else if f = F.SRV_BB_INFO.KIND then some (if x.desc.isEmpty then 0 else mdKind x.desc % 2)
    else if f = F.SRV_BB_INFO.PART then some x.part
    else if f = F.SRV_BB_INFO.USERS then some (b.bbUsers n)
    else if f = F.SRV_BB_INFO.CHK_ERR then some x.chkErr
    else none
  | .clu => if f = F.CLU_TEMP.TEMP then some (b.pw? F.PWR_CTEMP.TEMP (p - 0x40)) else none
  | .slc => if f = F.SLC_FILTER.FILTER_USED then some (b.liveRanges (p - 0x80)).length else none
  | .mem => if f = F.MEM_SCORE.SCORE_DEPTH then some (b.scoreDepth (pageIsland p)) else none
  | .fab =>
    if f = F.FAB_SCORE.SCORE_DEPTH then some (b.scoreDepth (pageIsland p))
    else if f = F.FAB_LSTAT.LINK_NO then quadLink p i
    else if f = F.FAB_LEXP.EXP_SLOT then (quadLink p i).map (expectedPeer b.slotId)
    else none
  | .gfab =>
    let d := b.eff p F.FAB_RSEL.DST
    let r := b.eff p F.FAB_RSEL.RSLOT % 8
    let x := b.route d r
    if f = F.FAB_REACH.REACH then some (b.eff p F.FAB_REACH.REACH ||| 2 ^ b.slotId)
    else if f = F.FAB_RVIEW.RKIND then some x.rkind
    else if f = F.FAB_RVIEW.VIA then some x.via
    else if f = F.FAB_RVIEW.LINK_NO then some x.link
    else if f = F.FAB_RVIEW.GEN then some x.gen
    else if f = F.FAB_RVIEW.UNSETTLED then
      some (b2n ((List.range 4).any (fun g => decide (g ≠ x.gen) && (match SMap.find b.paths (pathKey d r g) with
        | some q => decide (q.st ≠ .settled) && decide (q.st ≠ .dead)
        | none => false))))
    else none
  | .til =>
    let t := b.tile (p - 0x200)
    if f = F.TIL_SEQ.SEQ_STATE then some t.seq.code
    else if f = F.TIL_SEQ.PC then some (t.pc / 8)
    else if f = F.TIL_SCORE.SCORE_DEPTH then some (b.scoreDepth (p - 0x200))
    else if f = F.TIL_ISSUE.ISSUE_LEVEL then some (b.issueLevel (p - 0x200))
    else none
  | _ => none

/-- A field as software reads it; a write-only field reads zero (R11). -/
def Block.readField (b : Block) (p : Nat) (f : Field) (i : Nat) : Nat :=
  if f.acc = .wo then 0 else ((b.window? p f i).getD (b.shown p f i)) % 2 ^ f.width

/-- STATE as BLK_STAT encodes it. -/
def HState.code : HState → Nat
  | .off => 0
  | .run => 1
  | .quiescing => 2
  | .quiesced => 3

/-- The header registers of an implemented page (R15, R17). -/
def Block.readHeader (b : Block) (p off : Nat) : Nat :=
  let h := b.hdr p
  let k := pageKind p
  match off with
  | 0x000 => (0x1000 + pageFirst p) * 65536 + (p - pageFirst p)
  | 0x004 => 0x10000000 + h.ucMajor * 65536 + h.ucMinor * 256 + h.ucBuild
  | 0x008 => b2n (hasExpert k) * 2 ^ 31 + b2n (isStaged k) * 2 ^ 30 + blkSpecific k
  | 0x00C => b2n h.enable + 16 * b2n h.expertBit
  | 0x010 => h.st.code + 16 * b2n h.expertActive + 32 * b2n h.commitPending + 256 * b2n (bit h.seen 2 || bit h.seen 3)
  | 0x018 => h.isr
  | 0x01C => h.ier
  | 0x020 => if h.st = .quiesced then 2 ^ 29 else 0
  | 0x024 => h.ivec
  | 0x028 => h.seen % 16 + h.firstCode % 65536 * 65536
  | 0x02C => h.stall % 65536
  | _ => 0

/-- What configuration space says of the function (R500). -/
structure ConfigId where
  vendorId : Nat
  deviceId : Nat
  classCode : Nat
  revisionId : Nat
deriving DecidableEq, Repr

/-- The identity in configuration space: the Revision ID is the stepping that BLK_VER of page 0x000 reads (R8, R500).
Log entry 68 (DESIGN CHOICE, unsafe). -/
def Block.configId (b : Block) : ConfigId :=
  { vendorId := Config.vendorId, deviceId := 0x7264, classCode := 0x120000, revisionId := bits (b.readHeader pgDev 0x004) 24 8 }

/-- The size of a BAR in bytes; 0 for the upper half of the BAR before it (R501). -/
def barBytes (i : Nat) : Nat := [2 ^ 24, 0, 2 ^ 36, 0, 2 ^ 16, 0].getD i 0

/-- Until firmware starts, and once the ROM has halted, only the boot page answers (R475).
Log entry 13 (DEDUCED, unsafe). -/
def Block.answers (b : Block) (p : Nat) : Bool := decide (p = pgBoot) || (decide (4 ≤ b.stage) && decide (b.stage ≤ 9))

/-- The value of a word of a page.
Log entry 13 (DEDUCED, unsafe). -/
def Block.wordAt (b : Block) (p off : Nat) : Nat :=
  if pageKind p = .reserved ∨ !b.answers p then 0
  else if off < 0x40 then b.readHeader p off
  else (fieldsAt p off).foldl (fun n x => n + x.1.intoWord x.2 off (b.readField p x.1 x.2)) 0 % 2 ^ 32

/-- A read of a word: of TBS_NOW_LO it latches the high word (R149). -/
def Block.readWord (b : Block) (p off : Nat) : Block × Nat :=
  let b1 := if p = pgTbs ∧ off = 0x048 ∧ b.answers p then { b with tb := { b.tb with nowHi := some (b.now / 2 ^ 32 % 2 ^ 32) } } else b
  (b1, b.wordAt p off)

end Sys2Proof.Machine
end

