-- ==== Sys2Proof/Machine/RegWrite.lean ====
section
/-! DEFINITION. Register writes: the header state machine (R20 to R33), staged, immediate and expert fields (R21 to R28), the ranges and
refusals of the register tables, and the fields that act. -/
namespace Sys2Proof.Machine

/-! ### The header (R17, R21, R22, R25, R32, R33) -/

/-- KEY_WRITE: 0x4B4E arms the key, any other value disarms it. -/
def Block.keyWord (b : Block) (p v : Nat) : Block :=
  if v % 2 ^ 16 = 0x4B4E then b.modHdr p (fun h => { h with keyArmed := true })
  else (b.modHdr p (fun h => { h with keyArmed := false })).raise p evKeyReject

/-- ISR_CLEAR: one more message leaves while enabled bits remain. -/
def Block.isrClear (b : Block) (p mask : Nat) : Block :=
  let b1 := b.modHdr p (fun h => { h with isr := h.isr - (h.isr &&& mask) })
  if (b1.hdr p).isr &&& (b1.hdr p).ier = 0 then b1 else b1.msix (b1.hdr p).ivec

/-- A write of BLK_IER; its reserved bits stay zero (R12). -/
def Block.ierWrite (b : Block) (p v : Nat) : Block :=
  let h := b.hdr p
  let ier := v &&& eventMask (pageKind p)
  let b1 := b.modHdr p (fun h => { h with ier := ier })
  if h.isr &&& h.ier = 0 ∧ h.isr &&& ier ≠ 0 then b1.msix h.ivec else b1

/-- The derived value of the expert fields of a set (R25): their reset values; P_IDLE and P_FULL derive the fused calibration (R437).
Log entry 15 (DEDUCED, unsafe). -/
def Block.deriveExpert (b : Block) (p : Nat) (m : SMap Nat) : SMap Nat :=
  let m1 := SMap.dropKeys (fun k => decide (0x400 * 8 ≤ k)) m
  match pageKind p, b.boot.fuses with
  | .pwr, some f => SMap.set (SMap.set m1 (F.PWR_X_MODEL.P_IDLE.key 0) f.pIdle) (F.PWR_X_MODEL.P_FULL.key 0) f.pFull
  | _, _ => m1

/-- EXPERT cleared: in OFF and in QUIESCED with COMMIT_PENDING = 0; elsewhere the clear is discarded with CFG_REJECT (R25). -/
def Block.expertOff (b : Block) (p : Nat) : Block :=
  let r := b.page p
  if r.hdr.st = .off ∨ (r.hdr.st = .quiesced ∧ !r.hdr.commitPending) then
    b.setPage p { r with pnd := b.deriveExpert p r.pnd, hdr := { r.hdr with expertActive := false, expertBit := false } }
  else b.cfgReject p

/-- The part of a BLK_CTRL write that sets or clears EXPERT; `armed`: the key that the write consumed. EXPERT = 1 while expert mode is on
already changes nothing, and an unarmed one then sets no KEY_REJECT.
Log entry 14 (DEDUCED, unsafe). -/
def Block.expertPart (b : Block) (p : Nat) (ex armed : Bool) : Block :=
  let h := b.hdr p
  if ex then
    if h.expertActive then b
    else if armed then b.modHdr p (fun h => { h with expertActive := true, expertBit := true })
    else (b.modHdr p (fun h => { h with expertBit := true })).raise p evKeyReject
  else if h.expertActive ∨ h.expertBit then b.expertOff p
  else b

/-- ENABLE 0 to 1: the registers become the committed set and the block runs; partitions have checks of their own (R294, R433, R444, R476).
`none`: refused, with what the refusal leaves. -/
def Block.enableOn (b : Block) (p : Nat) : Block × Bool :=
  let r := b.page p
  let b1 := b.setPage p { r with cmt := r.pnd, hdr := { r.hdr with enable := true, st := .run, commitPending := false } }
  match pageKind p with
  | .srv =>
    let k := p - 0x10
    if b.asleep ∨ b.eff pgBoot F.BOOT_STAT.READY = 0 ∨ bit (b.flt F.FLT_STOPPED.STOPPED) k then (b.cfgReject p, false)
    else
      match b1.partOpen k with
      | some b2 => (b2.commitHook p r, true)
      | none => (b.partRefuse k, false)
  | _ => (b1.commitHook p r, true)

/-- ENABLE 1 to 0 from QUIESCED: the function stops and the pending set stays as the register values.
Log entry 17 (DEDUCED, unsafe). -/
def Block.enableOff (b : Block) (p : Nat) : Block :=
  let b1 := match pageKind p with
    | .srv => b.partClose (p - 0x10) rqPART_DISABLED
    | .til => b.setTile (p - 0x200) (b.tile (p - 0x200)).halt
    | .slc => b.dropSlice (p - 0x80)
    | .fab => b.linksOff (p - 0x100)
    | _ => b
  (b1.modHdr p (fun h => { h with enable := false, st := .off, commitPending := false })).noMoreBoundary

/-- QUIESCE by the state of the block. -/
def Block.quiesce (b : Block) (p : Nat) : Block :=
  let r := b.page p
  match r.hdr.st with
  | .off => b.cfgReject p
  | .run =>
    if b.upd.held.contains p then b.cfgReject p
    else b.setPage p { r with pnd := r.cmt, hdr := { r.hdr with st := .quiescing, quiesceAt := b.now } }
  | _ => if b.upd.held.contains p then b.cfgReject p else b

/-- RESUME by the state of the block; a page that the update engine holds takes none (R489). -/
def Block.resume (b : Block) (p : Nat) : Block :=
  let r := b.page p
  if r.hdr.st = .off then b.cfgReject p
  else if b.upd.held.contains p then b.cfgReject p
  else
    match r.hdr.st with
    | .quiescing => b.setPage p { r with pnd := r.cmt, hdr := { r.hdr with st := .run } }
    | .quiesced =>
      if !isStaged (pageKind p) then b.commitWhole p
      else if r.hdr.commitPending then b
      else b.modHdr p (fun h => { h with commitPending := true, pendingAt := b.now })
    | _ => b

/-- A write to BLK_CTRL of an implemented page. The armed key is consumed. ENABLE 1 to 0 in RUN, on a fixed page in any state, or refused
by the block discards the write; otherwise EXPERT takes effect, then ENABLE, then QUIESCE or RESUME.
Log entry 14 (DEDUCED, unsafe). -/
def Block.ctrlWrite (b : Block) (p v : Nat) : Block :=
  let armed := (b.hdr p).keyArmed
  let b0 := b.modHdr p (fun h => { h with keyArmed := false })
  let h := b0.hdr p
  let en := bit v 0
  let go (b : Block) : Block :=
    let b1 := if h.enable ∧ !en ∧ h.st = .quiesced ∧ !h.commitPending then b.enableOff p else b
    if bit v 1 then (if bit v 2 then b1.cfgReject p else b1).quiesce p
    else if bit v 2 then b1.resume p
    else b1
  if h.enable ∧ !en ∧ (enableFixed (pageKind p) ∨ h.st = .run) then b0.cfgReject p
  else if !h.enable ∧ en then
    let bx := b0.expertPart p (bit v 4) armed
    let r := bx.enableOn p
    if r.2 then go r.1 else (b0.enableOn p).1
  else go (b0.expertPart p (bit v 4) armed)

/-- QUIESCE_DRAINED: the internal operations of a block have drained. -/
def Block.quiesceDrained (b : Block) (p : Nat) : Block :=
  if (b.hdr p).st = .quiescing then (b.modHdr p (fun h => { h with st := .quiesced })).raise p evQuiesced else b

/-- QUIESCE_TIMEOUT (R30). -/
def Block.quiesceTimeout (b : Block) (p : Nat) : Block :=
  if (b.hdr p).st = .quiescing ∧ (b.hdr p).quiesceAt + 10000 ≤ b.now then
    b.reportPage p (if pageKind p = .til then 0x0150 else 0x0002)
  else b

/-- A write to a header register (R15, R17). -/
def Block.headerWrite (b : Block) (p off v : Nat) : Block :=
  match off with
  | 0x00C => b.ctrlWrite p v
  | 0x014 => b.keyWord p v
  | 0x018 => b.isrClear p v
  | 0x01C => b.ierWrite p v
  | 0x024 => b.modHdr p (fun h => { h with ivec := v % 2048 })
  | 0x02C => b.modHdr p (fun h => { h with stall := h.stall - (h.stall &&& v % 65536) })
  | _ => b

/-! ### Ranges and refusals -/

/-- Address fields of control structures: their alignment and whether they must lie on this package (R254, R290, R333, R404, R543).
Log entry 12 (DESIGN CHOICE, unsafe). -/
def addrRule (k : PageKind) (f : Field) : Option (Nat × Bool) :=
  match k with
  | .kvm =>
    if f = F.KVM_SEQ_BASE.SEQ_BASE ∨ f = F.KVM_PL_BASE.PL_BASE ∨ f = F.KVM_PFX_BASE.PFX_BASE then some (4096, true)
    else if f = F.KVM_POOL_TAB.POOL_TAB then some (128, true)
    else none
  | .srv =>
    if f = F.SRV_CTX_BASE.CTX_BASE ∨ f = F.SRV_TEN_ACT.TEN_ACT ∨ f = F.SRV_TEN_PEND.TEN_PEND ∨ f = F.SRV_RING_BASE.RING_BASE then some (4096, true)
    else if f = F.SRV_BB_DESC.DESC then some (128, false)
    else none
  | .moe => if f = F.MOE_PLC_NEXT.PLC_NEXT ∨ f = F.MOE_LOAD_BASE.LOAD_BASE then some (4096, true) else none
  | .flt => if f = F.TEL_BASE.TEL_BASE then some (4096, true) else none
  | .boot => if f = F.BOOT_STG_BASE.STG_BASE then some (4096, true) else none
  | .wld => if f = F.WLD_TGT_BASE.TGT_BASE then some (4096, true) else if f = F.WLD_LDESC.LOAD_DESC then some (64, true) else none
  | .eth => if f = F.ETH_QP_BASE.QP_BASE then some (4096, true) else none
  | _ => none

/-- Alignment of an address field is checked at the word that holds the low bits, on the KVM page at the high word (R254); where the
structure must lie on this package, the high word is checked (R543).
Log entry 12 (DESIGN CHOICE, unsafe). -/
def Block.addrOk (b : Block) (k : PageKind) (f : Field) (i off v : Nat) : Bool :=
  match addrRule k f with
  | none => true
  | some (al, here) =>
    if off * 8 ≤ f.key i then decide (k = .kvm) || decide (v % al = 0)
    else decide (v % al = 0) && (!here || (b.localOff v).isSome)

/-- The rest of the ranges that depend on more than the field itself. `after g j` is the value of field `g` once the word is written.
Log entry 12 (DESIGN CHOICE, unsafe). -/
def Block.rangeOk (b : Block) (p : Nat) (f : Field) (i off v : Nat) (after : Field → Nat → Nat) (agent : Agent) : Bool :=
  match pageKind p with
  | .til => !(decide (f.off = 0x48)) || decide (after F.TIL_SPILL.SPILL_BASE 0 + after F.TIL_SPILL.SPILL_TILES 0 ≤ 64)
  | .slc =>
    if f = F.SLC_MASK.ALLOC_WAYS ∨ f = F.SLC_MASK.PIN_WAYS then
      let a := after F.SLC_MASK.ALLOC_WAYS i
      decide (after F.SLC_MASK.PIN_WAYS i &&& a = after F.SLC_MASK.PIN_WAYS i)
        && (List.range 16).all (fun k => decide (k = i) || !b.enabled (pgPart k) || decide (b.shown p F.SLC_MASK.ALLOC_WAYS k &&& a = 0))
    else true
  | .mem => decide (f ≠ F.MEM_X_SCHED.WR_LO) || decide (v < after F.MEM_X_SCHED.WR_HI 0)
  | .srv =>
    if f = F.SRV_SEQ.SEQ_FIRST ∨ f = F.SRV_SEQ.SEQ_COUNT then decide (after F.SRV_SEQ.SEQ_FIRST 0 + after F.SRV_SEQ.SEQ_COUNT 0 ≤ 16384)
    else if f = F.SRV_RATIO0.PF_MAX then decide (after F.SRV_RATIO0.PF_MIN 0 ≤ v)
    else if f = F.SRV_CFG.PINNED then decide (v = b.shown p f 0) || decide (b.eff p F.SRV_STAT.ACTIVE = 0)
    else true
  | .gfab =>
    if f = F.FAB_AGE.FENCE_PATH_TIMEOUT ∨ f = F.FAB_UNREACH.UNREACH_TIMEOUT then
      decide ((if f = F.FAB_AGE.FENCE_PATH_TIMEOUT then after F.FAB_AGE.PKT_MAX_AGE 0 else b.shown p F.FAB_AGE.PKT_MAX_AGE 0) < v)
    else if f = F.FAB_TAG_BASE.BASE then decide (v % 2 ^ 20 = 0)
    else true
  | .pwr => decide (f ≠ F.PWR_X_MODEL.P_FULL) || decide (after F.PWR_X_MODEL.P_IDLE 0 + 100 ≤ v)
  | .tbs => !(decide (f = F.TBS_RISE.RAMP_TIME) || decide (f = F.TBS_RISE.PKG_OFFSET)) || decide (b.pw? F.PWR_RAMP.RAMP_AUTO = 0)
  | .flt =>
    if f = F.FLT_KNOCK_GAP.KNOCK_MAX then decide (after F.FLT_KNOCK_GAP.KNOCK_GAP 0 < v)
    else if 0x400 ≤ f.off then
      let c := after F.FLT_X_OVR.CODE i
      let cls := after F.FLT_X_OVR.CLASS i
      decide (c ≠ 0x0201) && (decide (codeSev c ≠ 3) || decide (after F.FLT_X_OVR.REACT i = 3)) && decide (cls ≠ 3)
        && (decide (codeSev c < 2) || decide (after F.FLT_X_OVR.CLASS_EN i = 0) || decide (cls = 0))
    else true
  | .boot =>
    if f = F.BOOT_PUSH_LEN.PUSH_LEN then decide (v % 4096 = 0)
    else if f = F.BOOT_STG_BASE.STG_BASE then
      (decide (b.updState = upIDLE) || decide (b.updState = upFAILED)) && (!b.updLocked || decide (agent = .pldm))
    else true
  | .pci =>
    if f = F.PCI_WIN_BASE.WIN_BASE then
      decide (v % 2 ^ 30 = 0) && (decide (off = 0x40) || (decide (v / 2 ^ 48 = 0) && (!bit v 47 || decide (bits v 41 6 = 0))))
    else true
  | .moe => !(decide (f = F.MOE_PLC_NEXT.PLC_NEXT) || decide (f = F.MOE_SWAP_BAKE.SWAP_BAKE)) || decide (b.eff p F.MOE_PCTL.ARM i = 0)
  | .wld =>
    if f = F.WLD_LDESC.LOAD_DESC then ldIdle (b.ldState i)
    else if f = F.WLD_MKEY.MKEY then !bit (b.eff p F.WLD_MKEY_LOCK.LOCK) i
    else true
  | _ => true

/-- A value lies in the stated range of its field. -/
def Block.valueOk (b : Block) (p : Nat) (f : Field) (i off v : Nat) (after : Field → Nat → Nat) (agent : Agent) : Bool :=
  decide (f.min ≤ v) && decide (v ≤ f.max) && b.addrOk (pageKind p) f i off v && b.rangeOk p f i off v after agent

/-! ### Fields that act -/

/-- A triggered action of an immediate field; `raw` is what the write spells for it. `none`: the field has no behaviour of its own. -/
def Block.trigger (b : Block) (p : Nat) (f : Field) (i raw : Nat) (agent : Agent) : Option Block :=
  match pageKind p with
  | .dev =>
    if f = F.DEV_SB_STUCK.STUCK then some ((bitIndices 4 raw).foldl Block.stuckClear b) else none
  | .boot =>
    let locked := b.updLocked && decide (agent ≠ .pldm)
    if f = F.BOOT_REVOKE.REVOKE then some (b.revokeBurn raw)
    else if f = F.BOOT_SVN.SVN_BURN then some (b.svnBurn raw)
    else if f = F.BOOT_PUSH_CMD.GO then some b.pushGo
    else if f = F.BOOT_UPD_CMD.VERIFY then some (if locked then b.cfgReject p else b.updVerify)
    else if f = F.BOOT_UPD_CMD.ACTIVATE then some (if locked then b.cfgReject p else b.updActivate (b.eff p F.BOOT_UPD_CMD.ACT_MASK))
    else if f = F.BOOT_UPD_CMD.FLASH_WRITE then some (if locked then b.cfgReject p else b.flashWrite)
    else if f = F.BOOT_UPD_CMD.ABORT then some b.updAbort
    else if f = F.BOOT_ALIVE.ALIVE then some b.bootAlive
    else if f = F.BOOT_RESET.KEY then some (b.bootResetWrite raw)
    else none
  | .flt =>
    if f = F.FLT_SAFE.SAFE_REQ then some b.safeReq
    else if f = F.FLT_SAFE.RELEASE then some b.release
    else if f = F.FLT_HCTL.UNFREEZE then some b.unfreeze
    else if f = F.FLT_HCTL.CLEAR then some b.histClear
    else if f = F.FLT_INJ2.GO then some b.injectGo
    else none
  | .pwr =>
    if f = F.PWR_HEARTBEAT.HEARTBEAT then some b.heartbeat
    else if f = F.PWR_REST.REST_REQ then some b.restReq
    else if f = F.PWR_REST.WAKE then some b.wake
    else none
  | .pci => if f = F.PCI_FENCE.GO then some b.fenceGo else none
  | .srv => if f = F.SRV_TEN_UPD.TENANT then some (b.tenUpd (p - 0x10) raw) else none
  | .wld =>
    if f = F.WLD_LCMD.START then some (if b.eff pgBoot F.BOOT_STAT.READY = 0 then b.cfgReject p else b.loadStart i)
    else if f = F.WLD_LCMD.ABORT then some (b.loadAbort i)
    else if f = F.WLD_MKEY_LOCK.LOCK then some (b.mkeyLock raw)
    else none
  | .slc => if f = F.SLC_UNPIN.UNPIN then some (b.slcUnpin (p - 0x80) raw) else none
  | .mem =>
    if f = F.MEM_CH_RETIRE.CH_RETIRE_REQ then some (b.chRetireReq (p - 0xC0) raw)
    else if f = F.MEM_RETRAIN.RETRAIN_REQ then some (b.retrainReq (p - 0xC0) raw)
    else none
  | .fab => if f = F.FAB_LCFG.RETRAIN_REQ then (quadLink p i).map b.linkRetrain else none
  | .gfab =>
    if f = F.FAB_KEY_VAL.KEY then some (b.keyWrite raw)
    else if f = F.FAB_TAG_CMD.GO then some b.tagGo
    else none
  | .til =>
    if f = F.TIL_RETIRE.RETIRE_REQ then some (b.retireReq (p - 0x200))
    else if f = F.TIL_PERF_CTL.CLEAR then some (b.perfClear (p - 0x200))
    else none
  | _ => none

/-- The value an immediate field takes from a write, where storing it does more than that. -/
def Block.putActing (b : Block) (p : Nat) (f : Field) (i v : Nat) : Block :=
  match pageKind p with
  | .pwr => if f = F.PWR_CAP.CAP then b.capWrite v else if f = F.PWR_MODE.FIXED_FREQ then b.fixedFreq v else b.put p f v i
  | .moe => if f = F.MOE_PCTL.ARM then b.armWrite i v else b.put p f v i
  | .boot => b.put p f (if f = F.BOOT_UPD_CMD.ACT_MASK then v - v % 2 else v) i
  | _ => b.put p f v i

/-- The value of field `g` once word `w` is written at `off`. -/
def Block.afterWord (b : Block) (p off w : Nat) (g : Field) (j : Nat) : Nat :=
  g.over j off w (if g.kind = .imm then b.readField p g j else b.shown p g j)

/-- A write to an immediate field (R11, R27). -/
def Block.immWrite (b : Block) (p : Nat) (f : Field) (i off w : Nat) (agent : Agent) : Block :=
  let raw := f.raw i off w
  let after := b.afterWord p off w
  if (f.acc = .w1s ∨ f.acc = .w1c ∨ (f.acc = .wo ∧ f.width = 1)) ∧ raw = 0 then b
  else if pageKind p = .flt ∧ (f.off = 0x140 ∨ f.off = 0x144) ∧ !b.injEn then b.injRefused
  else
    match b.trigger p f i raw agent with
    | some b1 => b1
    | none =>
      match f.acc with
      | .w1c => b.put p f (b.eff p f i - (b.eff p f i &&& raw)) i
      | .w1s => b.put p f (b.eff p f i ||| raw) i
      | .rw =>
        let v := after f i
        if !b.valueOk p f i off v after agent then b.cfgReject p
        else if pageKind p = .moe ∧ f = F.MOE_PCTL.ARM ∧ v = 1 ∧ b.eff pgBoot F.BOOT_STAT.READY = 0 then b.cfgReject p
        else b.putActing p f i v
      | _ => b

/-- A staged field takes writes in OFF, and in QUIESCED before its commit is due; an expert field while expert mode is on (R23, R27). -/
def Block.takes (b : Block) (p : Nat) (f : Field) : Bool :=
  let h := b.hdr p
  (decide (h.st = .off) || (decide (h.st = .quiesced) && !h.commitPending)) && (decide (f.kind ≠ .expert) || h.expertActive)
    && !b.upd.held.contains p

/-- A write to a staged or expert field. `mixed`: its register also holds immediate fields. -/
def Block.stagedWrite (b : Block) (p : Nat) (f : Field) (i off w : Nat) (mixed : Bool) (agent : Agent) : Block :=
  let after := b.afterWord p off w
  let v := if f.acc = .w1s then b.shown p f i ||| f.raw i off w else after f i
  if f.acc = .w1s ∧ f.raw i off w = 0 then b
  else if !b.takes p f then (if mixed && decide (v = b.shown p f i) then b else b.cfgReject p)
  else if f.acc = .rw ∧ !b.valueOk p f i off v after agent then b.cfgReject p
  else b.putPnd p f v i

/-- The range text of a page speaks of a write, which is then discarded whole; on quad and tile pages, of a field or a value (R373, R128).
Log entry 11 (DEDUCED, unsafe). -/
def wholeWrite : PageKind → Bool
  | .til | .fab => false
  | _ => true

/-- A write spells a value outside its field's stated range.
Log entry 11 (DEDUCED, unsafe). -/
def Block.writeOutside (b : Block) (p off w : Nat) (values : List (Field × Nat)) (agent : Agent) : Bool :=
  values.any fun x =>
    !b.valueOk p x.1 x.2 off (b.afterWord p off w x.1 x.2) (b.afterWord p off w) agent

/-- A write to the fields of a word: values first, then what acts. A register with staged and immediate fields acts on each separately.
Log entries 10 (DESIGN CHOICE, unsafe), 11 (DEDUCED, unsafe). -/
def Block.fieldsWrite (b : Block) (p off w : Nat) (agent : Agent) : Block :=
  let fs := (fieldsAt p off).filter (fun x => decide (x.1.acc ≠ .ro))
  let mixed := fs.any (fun x => decide (x.1.kind = .imm)) && fs.any (fun x => decide (x.1.kind ≠ .imm))
  let write (b : Block) (x : Field × Nat) : Block :=
    if x.1.kind = .imm then b.immWrite p x.1 x.2 off w agent else b.stagedWrite p x.1 x.2 off w mixed agent
  let values := fs.filter (fun x => decide (x.1.acc = .rw))
  let acts := fs.filter (fun x => decide (x.1.acc ≠ .rw))
  if !mixed && wholeWrite (pageKind p) && b.writeOutside p off w values agent then b.cfgReject p
  else acts.foldl write (values.foldl write b)

/-- A write of a 32-bit word at a 4-byte aligned offset of a page, by an agent. Writes to reserved pages, and to pages that do not answer
yet, are ignored; the endpoint passes none while it is in reset (R15, R20, R473, R475).
Log entry 13 (DEDUCED, unsafe). -/
def Block.writeWord (b : Block) (p off w : Nat) (agent : Agent) : Block :=
  if pageKind p = .reserved ∨ !b.answers p ∨ (agent = .host ∧ b.pcie.inReset) then b
  else if off < 0x40 then (b.headerWrite p off w).rest
  else
    let b1 : Block := match pageKind p with
      | .srv => if off = 0x90 then b.bbCommand (p - 0x10) (bits w 8 3) (bits w 0 8) else b.fieldsWrite p off w agent
      | .eth => if p = 8 ∧ off = 0x88 then (if bit w 12 then b.qpOpen (bits w 0 10) else b.qpClose (bits w 0 10)) else b.fieldsWrite p off w agent
      | .flt => if off = 0x64 then (if bit w 31 then b.sumClrAll else b.sumClr (bits w 0 12)) else b.fieldsWrite p off w agent
      | _ => b.fieldsWrite p off w agent
    b1.rest

/-! ### Register messages (R512) -/

/-- A register message reaches words that lie within a page. -/
def msgOk (page off count : Nat) : Bool :=
  decide (1 ≤ count) && decide (count ≤ 16) && decide (off % 4 = 0) && decide (off + 4 * count ≤ 4096) && decide (page < 4096)

/-- The words of a READ message, in ascending order. -/
def Block.readWords (b : Block) (p off : Nat) : Nat → Block × List Nat
  | 0 => (b, [])
  | n + 1 =>
    let (b1, w) := b.readWord p off
    let (b2, ws) := b1.readWords p (off + 4) n
    (b2, w :: ws)

/-- REG_READ.
Log entry 67 (DEDUCED, safe). -/
def Block.regRead (b : Block) (p off count : Nat) : Block :=
  if !msgOk p off count then b.emit (.response "register" [2])
  else
    let (b1, ws) := b.readWords p off count
    b1.emit (.response "register" (0 :: ws))

/-- The words of a WRITE message, in ascending order. -/
def Block.writeWords (b : Block) (p off : Nat) : List Nat → Block
  | [] => b
  | w :: ws => (b.writeWord p off w .mgmt).writeWords p (off + 4) ws

/-- REG_WRITE.
Log entry 67 (DEDUCED, safe). -/
def Block.regWrite (b : Block) (p off : Nat) (ws : List Nat) : Block :=
  if !msgOk p off ws.length then b.emit (.response "register" [2])
  else (b.writeWords p off ws).emit (.response "register" [0])

/-! ### Writes of one field -/

/-- The word offset of a field instance. -/
def Field.word (f : Field) (i : Nat) : Nat := f.key i / 32 * 4

/-- The word that writes `v` to one field of a page: the value in its place, every other read-write field of the word as it reads, and
zeros elsewhere, which triggers nothing.
Log entry 16 (DESIGN CHOICE, unsafe). -/
def Block.wordWith (b : Block) (p : Nat) (f : Field) (i v : Nat) : Nat :=
  let off := f.word i
  (fieldsAt p off).foldl (fun w x =>
    if x.1.acc = .rw ∧ ¬ (x.1 = f ∧ x.2 = i) then w + x.1.intoWord x.2 off (b.readField p x.1 x.2) else w) (f.intoWord i off (v % 2 ^ f.width))

/-- A write of one field of a page by an agent.
Log entry 16 (DESIGN CHOICE, unsafe). -/
def Block.fieldWrite (b : Block) (p : Nat) (f : Field) (i v : Nat) (agent : Agent) : Block :=
  b.writeWord p (f.word i) (b.wordWith p f i v) agent

/-- BLK_CTRL as it reads, with one bit written as `v`.
Log entry 16 (DESIGN CHOICE, unsafe). -/
def Block.ctrlBit (b : Block) (p i : Nat) (v : Bool) : Nat := setBits (b.readHeader p 0x00C) i 1 (b2n v)

/-- A write of one bit of BLK_CTRL, the others as they read.
Log entry 16 (DESIGN CHOICE, unsafe). -/
def Block.ctrlBitWrite (b : Block) (p i : Nat) (v : Bool) (agent : Agent) : Block := b.writeWord p 0x00C (b.ctrlBit p i v) agent

end Sys2Proof.Machine
end

