-- ==== Sys2Proof/Machine/State.lean ====
section
/-! DEFINITION. The state of the machine: the package, and the commands that wait.
Log entry 2 (DESIGN CHOICE, unsafe). -/
namespace Sys2Proof.Machine

/-- Why a run stops with a fault: never. The spec gives every command an effect and stops the package at none, so no meaning raises a
fault and the type has no constructor.
Log entry 3 (DESIGN CHOICE, unsafe). -/
inductive Fault where
deriving DecidableEq, Repr

/-- Why a command is refused.
Log entry 3 (DESIGN CHOICE, unsafe). -/
inductive Refusal where
  /-- Raised by the dispatcher for a command without a meaning; every row has one. Safe: a run that stops proves nothing. -/
  | notModelled (mnemonic : String)
deriving DecidableEq, Repr

/-- The package, the reset inputs as they stand (true: the input is asserted, R471), and the queue of commands that wait, first in, first
out.
Log entry 2 (DESIGN CHOICE, unsafe). -/
structure State where
  blk : Block
  pwrokIsLow : Bool
  resetIsLow : Bool
  pending : List Instr
deriving DecidableEq, Repr

/-- The package right after reset: no reset input is asserted, and no command waits.
Log entry 4 (DESIGN CHOICE, unsafe). -/
def State.reset : State := { blk := blockReset, pwrokIsLow := false, resetIsLow := false, pending := [] }

end Sys2Proof.Machine
end

