-- ==== Sys2Proof/Machine/Act.lean ====
section
/-! DEFINITION. How a command acts on the state: it changes the package and leaves the queue alone; and the reset inputs (R471, R472). -/
namespace Sys2Proof.Machine

/-- A reset input is asserted. -/
def State.held (s : State) : Bool := s.pwrokIsLow || s.resetIsLow

/-- Change the package, which takes nothing while PWROK or RESET_N holds it in reset (R471).
Log entry 2 (DESIGN CHOICE, unsafe). -/
def State.act (s : State) (f : Block → Block) : State := if s.held then s else { s with blk := f s.blk }

/-- The instruction that tile `t` fetches is `c`, and `f` is what it does (R93). -/
def State.issue (s : State) (t : Fin 288) (c : Instr) (f : Block → Block) : State := s.act fun b => b.issue t (some c) f

/-- PWROK goes low: every island and register is reset. -/
def State.pwrokLow (s : State) : State := { s with blk := s.blk.reset true, pwrokIsLow := true }

/-- RESET_N goes low: as PWROK, but for the THERMTRIP latch. -/
def State.resetLow (s : State) : State := { s with blk := s.blk.reset s.pwrokIsLow, resetIsLow := true }

/-- The package leaves reset at t0 and samples its straps. Without a reset there is nothing to leave.
Log entry 5 (DESIGN CHOICE, unsafe). -/
def State.resetExit (s : State) (slot : Nat) (tbm test : Bool) : State :=
  if s.held ∨ s.blk.now = 0 then { s with blk := s.blk.sampleStraps slot tbm test, pwrokIsLow := false, resetIsLow := false } else s

end Sys2Proof.Machine
end

