-- ==== Sys2Proof/Machine/ExecControl.lean ====
section
/-! DEFINITION. Meanings of commands. Register writes, the block states, crossings and the boundary (R20 to R50). -/
namespace Sys2Proof.Machine

/-- REGISTER_WRITE (R27): A write to a register field with no behaviour of its own is stored, discarded with CFG_REJECT, or ignored
according to the block state and field kind. -/
def execRegisterWrite (p : Fin 4096) (w : Fin 1024) (v : BitVec 32) (a : Agent) (s : State) : Host.Outcome State Fault Refusal :=
  .next (s.act fun b => b.writeWord p (4 * w.val) v.toNat a)

/-- KEY_WRITE (R21): A write to BLK_KEY arms the expert key with 0x4B4E, or disarms it and sets KEY_REJECT for any other value. -/
def execKeyWrite (p : Fin 4096) (v : BitVec 32) (a : Agent) (s : State) : Host.Outcome State Fault Refusal :=
  .next (s.act fun b => b.writeWord p 0x014 v.toNat a)

/-- ENABLE_SET (R32): BLK_CTRL ENABLE written 0 to 1 takes the committed set from the register values and moves the block from OFF to RUN,
after any block-specific enable checks. -/
def execEnableSet (p : Fin 4096) (a : Agent) (s : State) : Host.Outcome State Fault Refusal :=
  .next (s.act fun b => b.ctrlBitWrite p 0 true a)

/-- ENABLE_CLEAR (R32): BLK_CTRL ENABLE written 1 to 0 stops a QUIESCED block with no pending commit, or is refused with CFG_REJECT. -/
def execEnableClear (p : Fin 4096) (a : Agent) (s : State) : Host.Outcome State Fault Refusal :=
  .next (s.act fun b => b.ctrlBitWrite p 0 false a)

/-- QUIESCE (R32): BLK_CTRL QUIESCE opens a pending set as a copy of the committed set and moves RUN to QUIESCING. -/
def execQuiesce (p : Fin 4096) (a : Agent) (s : State) : Host.Outcome State Fault Refusal :=
  .next (s.act fun b => b.ctrlBitWrite p 1 true a)

/-- RESUME (R32): BLK_CTRL RESUME commits at once, locks the pending set for a boundary commit, or abandons a stop in progress. -/
def execResume (p : Fin 4096) (a : Agent) (s : State) : Host.Outcome State Fault Refusal :=
  .next (s.act fun b => b.ctrlBitWrite p 2 true a)

/-- EXPERT_SET (R22): Writing EXPERT = 1 consumes the armed key and sets EXPERT_ACTIVE, or sets KEY_REJECT without an armed key. -/
def execExpertSet (p : Fin 4096) (a : Agent) (s : State) : Host.Outcome State Fault Refusal :=
  .next (s.act fun b => b.ctrlBitWrite p 4 true a)

/-- EXPERT_CLEAR (R25): Clearing EXPERT reverts expert fields to derived values in OFF or in QUIESCED without a pending commit, and is
refused otherwise. -/
def execExpertClear (p : Fin 4096) (a : Agent) (s : State) : Host.Outcome State Fault Refusal :=
  .next (s.act fun b => b.ctrlBitWrite p 4 false a)

/-- ISR_CLEAR (R17): A W1C write to BLK_ISR clears latched bits and sends one more MSI-X message if enabled bits remain set. -/
def execIsrClear (p : Fin 4096) (v : BitVec 32) (a : Agent) (s : State) : Host.Outcome State Fault Refusal :=
  .next (s.act fun b => b.writeWord p 0x018 v.toNat a)

/-- QUIESCE_DRAINED (R32): A block in QUIESCING finishes draining its internal operations, enters QUIESCED and raises QUIESCED_EV. -/
def execQuiesceDrained (p : Fin 4096) (s : State) : Host.Outcome State Fault Refusal :=
  .next (s.act fun b => b.quiesceDrained p)

/-- QUIESCE_TIMEOUT (R30): A block still in QUIESCING 10 µs after QUIESCE reports QUIESCE_TIMEOUT at DEFERRED and stays in QUIESCING. -/
def execQuiesceTimeout (p : Fin 4096) (s : State) : Host.Outcome State Fault Refusal :=
  .next (s.act fun b => b.quiesceTimeout p)

/-- IDLE_COMMIT (R31): With no bake or step in progress, a staged block with COMMIT_PENDING commits within the idle poll interval. -/
def execIdleCommit (p : Fin 4096) (s : State) : Host.Outcome State Fault Refusal :=
  .next (s.act fun b => (b.idleCommit p).rest)

/-- ISLAND_HUNG (R42): A crossing that stays full with no entry read for HS_STALL_LIMIT reports ISLAND_HUNG and sets the reader island's
DEV_ISL_HUNG bit. -/
def execIslandHung (writer : Fin 401) (full : FullCrossing) (s : State) : Host.Outcome State Fault Refusal :=
  .next (s.act fun b => b.islandHung writer full.reader full.since.toNat)

/-- STEP_START_TICK (R49): At a step start tick each member does the boundary work in order: retire, commit, epoch swap, admission, ratio
governor, length table and bake descriptor, plan expansion. -/
def execStepStartTick (k : Fin 16) (toks : List (Nat × List Nat)) (s : State) : Host.Outcome State Fault Refusal :=
  .next (s.act fun b => (b.rampAuto.stepStart k toks).rest)

/-- IDLE_POLL (R300): A partition with no active sequence reads its ring producer indices every IDLE_POLL and requests a step when it finds
a new entry. -/
def execIdlePoll (k : Fin 16) (s : State) : Host.Outcome State Fault Refusal :=
  .next (s.act fun b => (b.idlePoll k).rest)

/-- DELIVER (R321): In phase 7 serving control writes token and final output records, marks late tokens, updates draft state and sends draft
requests. -/
def execDeliver (k : Fin 16) (toks : List (Nat × List Nat)) (s : State) : Host.Outcome State Fault Refusal :=
  .next (s.act fun b => (b.deliver k toks).rest)

end Sys2Proof.Machine
end

