-- ==== Sys2Proof/Machine/ExecScalar.lean ====
section
/-! DEFINITION. Meanings of commands. Scalar instructions of a tile (R98 to R100). -/
namespace Sys2Proof.Machine

/-- ADD (R99): Scalar ADD writes sa + sb modulo 2^64 to sd. -/
def execAdd (t : Fin 288) (sd sa sb : BitVec 5) (s : State) : Host.Outcome State Fault Refusal :=
  .next (s.issue t (.add t sd sa sb) fun b => b.insnReg t (scalarOp (· + ·) sd.toNat sa.toNat sb.toNat))

/-- SUB (R99): Scalar SUB writes sa − sb modulo 2^64 to sd. -/
def execSub (t : Fin 288) (sd sa sb : BitVec 5) (s : State) : Host.Outcome State Fault Refusal :=
  .next (s.issue t (.sub t sd sa sb) fun b => b.insnReg t (scalarOp (· - ·) sd.toNat sa.toNat sb.toNat))

/-- AND (R99): Scalar AND writes the bitwise and of sa and sb to sd. -/
def execAndW (t : Fin 288) (sd sa sb : BitVec 5) (s : State) : Host.Outcome State Fault Refusal :=
  .next (s.issue t (.andW t sd sa sb) fun b => b.insnReg t (scalarOp (· &&& ·) sd.toNat sa.toNat sb.toNat))

/-- OR (R99): Scalar OR writes the bitwise or of sa and sb to sd. -/
def execOrW (t : Fin 288) (sd sa sb : BitVec 5) (s : State) : Host.Outcome State Fault Refusal :=
  .next (s.issue t (.orW t sd sa sb) fun b => b.insnReg t (scalarOp (· ||| ·) sd.toNat sa.toNat sb.toNat))

/-- XOR (R99): Scalar XOR writes the bitwise xor of sa and sb to sd. -/
def execXorW (t : Fin 288) (sd sa sb : BitVec 5) (s : State) : Host.Outcome State Fault Refusal :=
  .next (s.issue t (.xorW t sd sa sb) fun b => b.insnReg t (scalarOp (· ^^^ ·) sd.toNat sa.toNat sb.toNat))

/-- SHL (R99): Scalar SHL shifts sa left by sb and 63. -/
def execShl (t : Fin 288) (sd sa sb : BitVec 5) (s : State) : Host.Outcome State Fault Refusal :=
  .next (s.issue t (.shl t sd sa sb) fun b => b.insnReg t (scalarOp opShl sd.toNat sa.toNat sb.toNat))

/-- SHR (R99): Scalar SHR shifts sa right by sb and 63, filling zeros. -/
def execShr (t : Fin 288) (sd sa sb : BitVec 5) (s : State) : Host.Outcome State Fault Refusal :=
  .next (s.issue t (.shr t sd sa sb) fun b => b.insnReg t (scalarOp opShr sd.toNat sa.toNat sb.toNat))

/-- SRA (R99): Scalar SRA shifts sa right by sb and 63, filling the sign. -/
def execSra (t : Fin 288) (sd sa sb : BitVec 5) (s : State) : Host.Outcome State Fault Refusal :=
  .next (s.issue t (.sra t sd sa sb) fun b => b.insnReg t (scalarOp opSra sd.toNat sa.toNat sb.toNat))

/-- MUL (R99): Scalar MUL writes the low 64 bits of sa × sb. -/
def execMul (t : Fin 288) (sd sa sb : BitVec 5) (s : State) : Host.Outcome State Fault Refusal :=
  .next (s.issue t (.mul t sd sa sb) fun b => b.insnReg t (scalarOp (· * ·) sd.toNat sa.toNat sb.toNat))

/-- SLT (R99): Scalar SLT writes 1 if sa < sb signed, else 0. -/
def execSlt (t : Fin 288) (sd sa sb : BitVec 5) (s : State) : Host.Outcome State Fault Refusal :=
  .next (s.issue t (.slt t sd sa sb) fun b => b.insnReg t (scalarOp opSlt sd.toNat sa.toNat sb.toNat))

/-- SLTU (R99): Scalar SLTU writes 1 if sa < sb unsigned, else 0. -/
def execSltu (t : Fin 288) (sd sa sb : BitVec 5) (s : State) : Host.Outcome State Fault Refusal :=
  .next (s.issue t (.sltu t sd sa sb) fun b => b.insnReg t (scalarOp opSltu sd.toNat sa.toNat sb.toNat))

/-- MIN (R99): Scalar MIN writes the signed minimum of sa and sb. -/
def execMin (t : Fin 288) (sd sa sb : BitVec 5) (s : State) : Host.Outcome State Fault Refusal :=
  .next (s.issue t (.min t sd sa sb) fun b => b.insnReg t (scalarOp opMin sd.toNat sa.toNat sb.toNat))

/-- MAX (R99): Scalar MAX writes the signed maximum of sa and sb. -/
def execMax (t : Fin 288) (sd sa sb : BitVec 5) (s : State) : Host.Outcome State Fault Refusal :=
  .next (s.issue t (.max t sd sa sb) fun b => b.insnReg t (scalarOp opMax sd.toNat sa.toNat sb.toNat))

/-- ADDI (R99): Scalar ADDI writes sa plus the sign-extended immediate. -/
def execAddi (t : Fin 288) (sd sa : BitVec 5) (imm : BitVec 32) (s : State) : Host.Outcome State Fault Refusal :=
  .next (s.issue t (.addi t sd sa imm) fun b => b.insnReg t (scalarImm (· + imm.signExtend 64) sd.toNat sa.toNat))

/-- ANDI (R99): Scalar ANDI ands sa with the zero-extended immediate. -/
def execAndi (t : Fin 288) (sd sa : BitVec 5) (imm : BitVec 32) (s : State) : Host.Outcome State Fault Refusal :=
  .next (s.issue t (.andi t sd sa imm) fun b => b.insnReg t (scalarImm (· &&& imm.zeroExtend 64) sd.toNat sa.toNat))

/-- ORI (R99): Scalar ORI ors sa with the zero-extended immediate. -/
def execOri (t : Fin 288) (sd sa : BitVec 5) (imm : BitVec 32) (s : State) : Host.Outcome State Fault Refusal :=
  .next (s.issue t (.ori t sd sa imm) fun b => b.insnReg t (scalarImm (· ||| imm.zeroExtend 64) sd.toNat sa.toNat))

/-- XORI (R99): Scalar XORI xors sa with the zero-extended immediate. -/
def execXori (t : Fin 288) (sd sa : BitVec 5) (imm : BitVec 32) (s : State) : Host.Outcome State Fault Refusal :=
  .next (s.issue t (.xori t sd sa imm) fun b => b.insnReg t (scalarImm (· ^^^ imm.zeroExtend 64) sd.toNat sa.toNat))

/-- SHLI (R99): Scalar SHLI shifts sa left by IMM[5:0]. -/
def execShli (t : Fin 288) (sd sa : BitVec 5) (imm : BitVec 32) (s : State) : Host.Outcome State Fault Refusal :=
  .next (s.issue t (.shli t sd sa imm) fun b => b.insnReg t (scalarImm (· <<< (imm.toNat % 64)) sd.toNat sa.toNat))

/-- SHRI (R99): Scalar SHRI shifts sa right by IMM[5:0], filling zeros. -/
def execShri (t : Fin 288) (sd sa : BitVec 5) (imm : BitVec 32) (s : State) : Host.Outcome State Fault Refusal :=
  .next (s.issue t (.shri t sd sa imm) fun b => b.insnReg t (scalarImm (· >>> (imm.toNat % 64)) sd.toNat sa.toNat))

/-- SRAI (R99): Scalar SRAI shifts sa right by IMM[5:0], filling the sign. -/
def execSrai (t : Fin 288) (sd sa : BitVec 5) (imm : BitVec 32) (s : State) : Host.Outcome State Fault Refusal :=
  .next (s.issue t (.srai t sd sa imm) fun b => b.insnReg t (scalarImm (fun a => a.sshiftRight (imm.toNat % 64)) sd.toNat sa.toNat))

/-- LUI (R99): Scalar LUI places the immediate in the upper 32 bits above the low word of sa. -/
def execLui (t : Fin 288) (sd sa : BitVec 5) (imm : BitVec 32) (s : State) : Host.Outcome State Fault Refusal :=
  .next (s.issue t (.lui t sd sa imm) fun b => b.insnReg t (scalarImm (opLui imm) sd.toNat sa.toNat))

/-- LD (R99): LD loads 64 bits from tile SRAM, raising ALIGN or SRAM_RANGE on a bad address. -/
def execLd (t : Fin 288) (sd sa : BitVec 5) (imm : BitVec 32) (s : State) : Host.Outcome State Fault Refusal :=
  .next (s.issue t (.ld t sd sa imm) fun b => b.insnMem t (fun x => x.addrS sa.toNat imm) 8 (scalarLoad 8 sd.toNat sa.toNat imm))

/-- ST (R99): ST stores 64 bits of sb to tile SRAM. -/
def execSt (t : Fin 288) (sa sb : BitVec 5) (imm : BitVec 32) (s : State) : Host.Outcome State Fault Refusal :=
  .next (s.issue t (.st t sa sb imm) fun b => b.insnMem t (fun x => x.addrS sa.toNat imm) 8 (scalarStore 8 sa.toNat sb.toNat imm))

/-- LW (R99): LW loads 32 bits zero-extended from tile SRAM. -/
def execLw (t : Fin 288) (sd sa : BitVec 5) (imm : BitVec 32) (s : State) : Host.Outcome State Fault Refusal :=
  .next (s.issue t (.lw t sd sa imm) fun b => b.insnMem t (fun x => x.addrS sa.toNat imm) 4 (scalarLoad 4 sd.toNat sa.toNat imm))

/-- SW (R99): SW stores 32 bits to tile SRAM. -/
def execSw (t : Fin 288) (sa sb : BitVec 5) (imm : BitVec 32) (s : State) : Host.Outcome State Fault Refusal :=
  .next (s.issue t (.sw t sa sb imm) fun b => b.insnMem t (fun x => x.addrS sa.toNat imm) 4 (scalarStore 4 sa.toNat sb.toNat imm))

/-- BEQ (R99): BEQ branches when sa equals sb. -/
def execBeq (t : Fin 288) (sa sb : BitVec 5) (imm : BitVec 32) (s : State) : Host.Outcome State Fault Refusal :=
  .next (s.issue t (.beq t sa sb imm) fun b => b.insnJump t (branch (fun x y => decide (x = y)) sa.toNat sb.toNat imm))

/-- BNE (R99): BNE branches when sa differs from sb. -/
def execBne (t : Fin 288) (sa sb : BitVec 5) (imm : BitVec 32) (s : State) : Host.Outcome State Fault Refusal :=
  .next (s.issue t (.bne t sa sb imm) fun b => b.insnJump t (branch (fun x y => decide (x ≠ y)) sa.toNat sb.toNat imm))

/-- BLT (R99): BLT branches when sa < sb signed. -/
def execBlt (t : Fin 288) (sa sb : BitVec 5) (imm : BitVec 32) (s : State) : Host.Outcome State Fault Refusal :=
  .next (s.issue t (.blt t sa sb imm) fun b => b.insnJump t (branch BitVec.slt sa.toNat sb.toNat imm))

/-- BGE (R99): BGE branches when sa ≥ sb signed. -/
def execBge (t : Fin 288) (sa sb : BitVec 5) (imm : BitVec 32) (s : State) : Host.Outcome State Fault Refusal :=
  .next (s.issue t (.bge t sa sb imm) fun b => b.insnJump t (branch (fun x y => !x.slt y) sa.toNat sb.toNat imm))

/-- JAL (R99): JAL writes the return address to sd and jumps by the immediate. -/
def execJal (t : Fin 288) (sd : BitVec 5) (imm : BitVec 32) (s : State) : Host.Outcome State Fault Refusal :=
  .next (s.issue t (.jal t sd imm) fun b => b.insnJump t (jal sd.toNat imm))

/-- JR (R99): JR jumps to the address in sa, raising ALIGN if misaligned. -/
def execJr (t : Fin 288) (sa : BitVec 5) (s : State) : Host.Outcome State Fault Refusal :=
  .next (s.issue t (.jr t sa) fun b => b.insnJump t (jr sa.toNat))

/-- CSRR (R100): CSRR reads a tile status word such as HEARTH, CYCLE, TILE_ID or LATENESS into sd. -/
def execCsrr (t : Fin 288) (sd : BitVec 5) (w : BitVec 8) (s : State) : Host.Outcome State Fault Refusal :=
  .next (s.issue t (.csrr t sd w) fun b => b.csrr t sd.toNat w.toNat)

end Sys2Proof.Machine
end

