-- ==== Sys2Proof/Machine/ExecMatrix.lean ====
section
/-! DEFINITION. Meanings of commands. Matrix instructions of a tile (R101, R102). -/
namespace Sys2Proof.Machine

/-- MLW (R101): MLW loads an engine-ready weight tile of format FMT into a weight buffer. -/
def execMlw (t : Fin 288) (sa fmt : BitVec 5) (buf : Bool) (off : BitVec 32) (s : State) : Host.Outcome State Fault Refusal :=
  .next (s.issue t (.mlw t sa fmt buf off) fun b => b.insnMem t (fun x => x.addrZ sa.toNat off.toNat) (weightBytes fmt.toNat) (mlw sa.toNat fmt.toNat buf off.toNat))

/-- MMA (R101): MMA streams m activation rows against a weight buffer and accumulates into an accumulator tile. -/
def execMma (t : Fin 288) (sa sm fmt : BitVec 5) (acc : BitVec 3) (start buf : Bool) (off : BitVec 32) (s : State) : Host.Outcome State Fault Refusal :=
  .next (s.issue t (.mma t sa sm fmt acc start buf off) fun b => b.mmaOp t sa.toNat sm.toNat fmt.toNat acc.toNat start buf off.toNat)

/-- MZP (R101): MZP sets the weight or activation zero point, per operand or per row. -/
def execMzp (t : Fin 288) (sa sz : BitVec 5) (opnd rowwise : Bool) (off : BitVec 32) (s : State) : Host.Outcome State Fault Refusal :=
  .next (s.issue t (.mzp t sa sz opnd rowwise off) fun b => b.insnMem t (fun x => x.addrZ sa.toNat off.toNat) (if rowwise then 128 else 0) (mzp sa.toNat sz.toNat opnd rowwise off.toNat))

/-- MSPILL (R101): MSPILL writes an accumulator tile to tile SRAM bit for bit and counts spills. -/
def execMspill (t : Fin 288) (sa : BitVec 5) (acc : BitVec 3) (off : BitVec 32) (s : State) : Host.Outcome State Fault Refusal :=
  .next (s.issue t (.mspill t sa acc off) fun b => b.mspillOp t sa.toNat acc.toNat off.toNat)

/-- MFILL (R101): MFILL loads an accumulator tile from tile SRAM. -/
def execMfill (t : Fin 288) (sa : BitVec 5) (acc : BitVec 3) (off : BitVec 32) (s : State) : Host.Outcome State Fault Refusal :=
  .next (s.issue t (.mfill t sa acc off) fun b => b.insnMem t (fun x => x.addrZ sa.toNat off.toNat) 65536 (mfill sa.toNat acc.toNat off.toNat))

/-- MZERO (R101): MZERO sets every element of an accumulator tile to +0. -/
def execMzero (t : Fin 288) (acc : BitVec 3) (s : State) : Host.Outcome State Fault Refusal :=
  .next (s.issue t (.mzero t acc) fun b => b.insnReg t (mzero acc.toNat))

end Sys2Proof.Machine
end

