-- ==== Sys2Proof/Machine/ExecVector.lean ====
section
/-! DEFINITION. Meanings of commands. Vector instructions and macro-operations of a tile (R103 to R112). -/
namespace Sys2Proof.Machine

/-- VADD (R104): VADD adds two vectors lane by lane in binary32. -/
def execVadd (t : Fin 288) (vd va vb : BitVec 5) (bs : Bool) (sb : BitVec 5) (s : State) : Host.Outcome State Fault Refusal :=
  .next (s.issue t (.vadd t vd va vb bs sb) fun b => b.insn t .vector (fun _ => []) false (vec2 fpAdd vd.toNat va.toNat vb.toNat bs sb.toNat))

/-- VSUB (R104): VSUB subtracts two vectors lane by lane. -/
def execVsub (t : Fin 288) (vd va vb : BitVec 5) (bs : Bool) (sb : BitVec 5) (s : State) : Host.Outcome State Fault Refusal :=
  .next (s.issue t (.vsub t vd va vb bs sb) fun b => b.insn t .vector (fun _ => []) false (vec2 fpSub vd.toNat va.toNat vb.toNat bs sb.toNat))

/-- VMUL (R104): VMUL multiplies two vectors lane by lane. -/
def execVmul (t : Fin 288) (vd va vb : BitVec 5) (bs : Bool) (sb : BitVec 5) (s : State) : Host.Outcome State Fault Refusal :=
  .next (s.issue t (.vmul t vd va vb bs sb) fun b => b.insn t .vector (fun _ => []) false (vec2 fpMul vd.toNat va.toNat vb.toNat bs sb.toNat))

/-- VFMA (R104): VFMA computes va × vb + vc with one rounding. -/
def execVfma (t : Fin 288) (vd va vb vc : BitVec 5) (bs : Bool) (sb : BitVec 5) (s : State) : Host.Outcome State Fault Refusal :=
  .next (s.issue t (.vfma t vd va vb vc bs sb) fun b => b.insn t .vector (fun _ => []) false (vfma vd.toNat va.toNat vb.toNat vc.toNat bs sb.toNat))

/-- VMAX (R104): VMAX takes the lane maximum with canonical NaN. -/
def execVmax (t : Fin 288) (vd va vb : BitVec 5) (bs : Bool) (sb : BitVec 5) (s : State) : Host.Outcome State Fault Refusal :=
  .next (s.issue t (.vmax t vd va vb bs sb) fun b => b.insnReg t (vec2 (noFlag fpMax) vd.toNat va.toNat vb.toNat bs sb.toNat))

/-- VMIN (R104): VMIN takes the lane minimum with canonical NaN. -/
def execVmin (t : Fin 288) (vd va vb : BitVec 5) (bs : Bool) (sb : BitVec 5) (s : State) : Host.Outcome State Fault Refusal :=
  .next (s.issue t (.vmin t vd va vb bs sb) fun b => b.insnReg t (vec2 (noFlag fpMin) vd.toNat va.toNat vb.toNat bs sb.toNat))

/-- VABS (R104): VABS clears the sign bit of each lane. -/
def execVabs (t : Fin 288) (vd va : BitVec 5) (s : State) : Host.Outcome State Fault Refusal :=
  .next (s.issue t (.vabs t vd va) fun b => b.insnReg t (vec1 (fun c => (c % 2 ^ 31, 0)) vd.toNat va.toNat))

/-- VNEG (R104): VNEG flips the sign bit of each lane. -/
def execVneg (t : Fin 288) (vd va : BitVec 5) (s : State) : Host.Outcome State Fault Refusal :=
  .next (s.issue t (.vneg t vd va) fun b => b.insnReg t (vec1 (fun c => (c ^^^ 2 ^ 31, 0)) vd.toNat va.toNat))

/-- VCMPLT (R104): VCMPLT writes an all-ones mask where va < vb. -/
def execVcmplt (t : Fin 288) (vd va vb : BitVec 5) (bs : Bool) (sb : BitVec 5) (s : State) : Host.Outcome State Fault Refusal :=
  .next (s.issue t (.vcmplt t vd va vb bs sb) fun b => b.insnReg t (vec2 (noFlag (fun x y => laneMask (fpLt x y))) vd.toNat va.toNat vb.toNat bs sb.toNat))

/-- VCMPEQ (R104): VCMPEQ writes an all-ones mask where va equals vb. -/
def execVcmpeq (t : Fin 288) (vd va vb : BitVec 5) (bs : Bool) (sb : BitVec 5) (s : State) : Host.Outcome State Fault Refusal :=
  .next (s.issue t (.vcmpeq t vd va vb bs sb) fun b => b.insnReg t (vec2 (noFlag (fun x y => laneMask (fpEq x y))) vd.toNat va.toNat vb.toNat bs sb.toNat))

/-- VSEL (R104): VSEL selects va or vb bit for bit by vc. -/
def execVsel (t : Fin 288) (vd va vb vc : BitVec 5) (bs : Bool) (sb : BitVec 5) (s : State) : Host.Outcome State Fault Refusal :=
  .next (s.issue t (.vsel t vd va vb vc bs sb) fun b => b.insnReg t (vsel vd.toNat va.toNat vb.toNat vc.toNat bs sb.toNat))

/-- VMOV (R104): VMOV copies va to vd. -/
def execVmov (t : Fin 288) (vd va : BitVec 5) (s : State) : Host.Outcome State Fault Refusal :=
  .next (s.issue t (.vmov t vd va) fun b => b.insnReg t (vec1 (fun c => (c, 0)) vd.toNat va.toNat))

/-- VRSUM (R104): VRSUM reduces 256 lanes by the fixed pairwise tree into lane 0. -/
def execVrsum (t : Fin 288) (vd va : BitVec 5) (s : State) : Host.Outcome State Fault Refusal :=
  .next (s.issue t (.vrsum t vd va) fun b => b.insnReg t (vreduce (treeSum 8) vd.toNat va.toNat))

/-- VRMAX (R104): VRMAX reduces 256 lanes by maximum into lane 0. -/
def execVrmax (t : Fin 288) (vd va : BitVec 5) (s : State) : Host.Outcome State Fault Refusal :=
  .next (s.issue t (.vrmax t vd va) fun b => b.insnReg t (vreduce (fun l => (treeMax 8 l, 0)) vd.toNat va.toNat))

/-- VIOTA (R104): VIOTA writes each lane's index as FP32. -/
def execViota (t : Fin 288) (vd : BitVec 5) (s : State) : Host.Outcome State Fault Refusal :=
  .next (s.issue t (.viota t vd) fun b => b.insnReg t (viota vd.toNat))

/-- VBCAST (R104): VBCAST broadcasts the low 32 bits of a scalar to every lane. -/
def execVbcast (t : Fin 288) (vd sb : BitVec 5) (s : State) : Host.Outcome State Fault Refusal :=
  .next (s.issue t (.vbcast t vd sb) fun b => b.insnReg t (vbcast vd.toNat sb.toNat))

/-- VFN (R107): VFN applies a correctly rounded function unit operation to each lane. -/
def execVfn (t : Fin 288) (vd va fn : BitVec 5) (s : State) : Host.Outcome State Fault Refusal :=
  .next (s.issue t (.vfn t vd va fn) fun b => b.insn t .vector (fun _ => []) false (vfn vd.toNat va.toNat fn.toNat))

/-- VLD (R105): VLD decodes two rows of an engine-ready tile into a vector register. -/
def execVld (t : Fin 288) (vd sa fmt : BitVec 5) (j : BitVec 6) (s : State) : Host.Outcome State Fault Refusal :=
  .next (s.issue t (.vld t vd sa fmt j) fun b => b.insnMem t (fun x => (x.s sa.toNat).toNat) (tileBytes (Fmt.ofCode fmt.toNat) false) (vld vd.toNat sa.toNat fmt.toNat j.toNat))

/-- VST (R105): VST encodes a vector register into two rows of an engine-ready tile with rounding and saturation. -/
def execVst (t : Fin 288) (vd sa fmt : BitVec 5) (rnd : BitVec 3) (sat : Bool) (j : BitVec 6) (s : State) : Host.Outcome State Fault Refusal :=
  .next (s.issue t (.vst t vd sa fmt rnd sat j) fun b => b.insn t .none (vstTouch sa.toNat fmt.toNat rnd.toNat) false (vst vd.toNat sa.toNat fmt.toNat rnd.toNat sat j.toNat))

/-- VLDA (R104): VLDA loads two accumulator rows into a vector register. -/
def execVlda (t : Fin 288) (vd : BitVec 5) (acc : BitVec 3) (j : BitVec 6) (s : State) : Host.Outcome State Fault Refusal :=
  .next (s.issue t (.vlda t vd acc j) fun b => b.insnReg t (vlda vd.toNat acc.toNat j.toNat))

/-- VSTA (R104): VSTA stores a vector register into two accumulator rows. -/
def execVsta (t : Fin 288) (vd : BitVec 5) (acc : BitVec 3) (j : BitVec 6) (s : State) : Host.Outcome State Fault Refusal :=
  .next (s.issue t (.vsta t vd acc j) fun b => b.insnReg t (vsta vd.toNat acc.toNat j.toNat))

/-- VLDL (R104): VLDL loads 1,024 bytes of linear FP32 data. -/
def execVldl (t : Fin 288) (vd sa : BitVec 5) (imm : BitVec 14) (s : State) : Host.Outcome State Fault Refusal :=
  .next (s.issue t (.vldl t vd sa imm) fun b => b.insnMem t (fun x => x.addrZ sa.toNat (imm.toNat * 128)) 1024 (vldl vd.toNat sa.toNat imm.toNat))

/-- VSTL (R104): VSTL stores 1,024 bytes of linear FP32 data. -/
def execVstl (t : Fin 288) (vd sa : BitVec 5) (imm : BitVec 14) (s : State) : Host.Outcome State Fault Refusal :=
  .next (s.issue t (.vstl t vd sa imm) fun b => b.insnMem t (fun x => x.addrZ sa.toNat (imm.toNat * 128)) 1024 (vstl vd.toNat sa.toNat imm.toNat))

/-- VSRCTX (R106): VSRCTX sets the stochastic rounding context and row table. -/
def execVsrctx (t : Fin 288) (sa sb : BitVec 5) (s : State) : Host.Outcome State Fault Refusal :=
  .next (s.issue t (.vsrctx t sa sb) fun b => b.insnReg t (vsrctx sa.toNat sb.toNat))

/-- VEXT (R104): VEXT extracts one lane into a scalar register. -/
def execVext (t : Fin 288) (sd va : BitVec 5) (i : BitVec 8) (s : State) : Host.Outcome State Fault Refusal :=
  .next (s.issue t (.vext t sd va i) fun b => b.insnReg t (vext sd.toNat va.toNat i.toNat))

/-- XTOPK (R109): XTOPK writes the top K eligible elements of each row in rank order. -/
def execXtopk (t : Fin 288) (sd sa : BitVec 5) (s : State) : Host.Outcome State Fault Refusal :=
  .next (s.issue t (.xtopk t sd sa) fun b => b.insn t .none (paramTouch sa.toNat topkRanges) false (macroOp xtopk sd.toNat sa.toNat))

/-- XSORT (R110): XSORT sorts key-payload records stably by ascending key. -/
def execXsort (t : Fin 288) (sd sa : BitVec 5) (s : State) : Host.Outcome State Fault Refusal :=
  .next (s.issue t (.xsort t sd sa) fun b => b.insn t .none (paramTouch sa.toNat sortRanges) false (macroOp xsort sd.toNat sa.toNat))

/-- XSAMPLE (R112): XSAMPLE draws one token greedily or by top-k/top-p sampling with Philox randomness. -/
def execXsample (t : Fin 288) (sd sa : BitVec 5) (s : State) : Host.Outcome State Fault Refusal :=
  .next (s.issue t (.xsample t sd sa) fun b => b.insn t .none (fun x => paramTouch sa.toNat (sampleRanges x.rowCtx) x) false (fun x => macroOp (fun rd p => xsample rd x.rowCtx p) sd.toNat sa.toNat x))

/-- XPHILOX (R111): XPHILOX writes N Philox4x32-10 outputs for consecutive counters. -/
def execXphilox (t : Fin 288) (sd sa : BitVec 5) (s : State) : Host.Outcome State Fault Refusal :=
  .next (s.issue t (.xphilox t sd sa) fun b => b.insn t .none (paramTouch sa.toNat philoxRanges) false (macroOp xphilox sd.toNat sa.toNat))

end Sys2Proof.Machine
end

