-- ==== Sys2Proof/Machine/ExecDma.lean ====
section
/-! DEFINITION. Meanings of commands. DMA, synchronisation and Score instructions of a tile (R113 to R119, R239, R366). -/
namespace Sys2Proof.Machine

/-- DRD (R114): DRD starts a read of rack memory into tile SRAM on a tag. -/
def execDrd (t : Fin 288) (sa sb sl : BitVec 5) (tag : BitVec 4) (off : BitVec 32) (s : State) : Host.Outcome State Fault Refusal :=
  .next (s.issue t (.drd t sa sb sl tag off) fun b => (b.dmaLinear t sa.toNat sb.toNat sl.toNat tag.toNat off.toNat false).rest)

/-- DWR (R114): DWR starts a write from tile SRAM to rack memory under leases. -/
def execDwr (t : Fin 288) (sa sb sl : BitVec 5) (tag : BitVec 4) (off : BitVec 32) (s : State) : Host.Outcome State Fault Refusal :=
  .next (s.issue t (.dwr t sa sb sl tag off) fun b => (b.dmaLinear t sa.toNat sb.toNat sl.toNat tag.toNat off.toNat true).rest)

/-- DGATHER (R114): DGATHER starts a read of a list of rack ranges into tile SRAM as one transfer. -/
def execDgather (t : Fin 288) (sa sb sl : BitVec 5) (tag : BitVec 4) (off : BitVec 32) (s : State) : Host.Outcome State Fault Refusal :=
  .next (s.issue t (.dgather t sa sb sl tag off) fun b => (b.dmaList t sa.toNat sb.toNat sl.toNat tag.toNat off.toNat false).rest)

/-- DSCATTER (R114): DSCATTER starts a write of tile SRAM to a list of rack ranges as one transfer. -/
def execDscatter (t : Fin 288) (sa sb sl : BitVec 5) (tag : BitVec 4) (off : BitVec 32) (s : State) : Host.Outcome State Fault Refusal :=
  .next (s.issue t (.dscatter t sa sb sl tag off) fun b => (b.dmaList t sa.toNat sb.toNat sl.toNat tag.toNat off.toNat true).rest)

/-- DWALK (R239): DWALK walks a sequence's page list and moves token records in RAW, ROWS or COLS form. -/
def execDwalk (t : Fin 288) (sa sb sl : BitVec 5) (tag : BitVec 4) (off : BitVec 32) (s : State) : Host.Outcome State Fault Refusal :=
  .next (s.issue t (.dwalk t sa sb sl tag off) fun b => (b.dwalk t sa.toNat sb.toNat sl.toNat tag.toNat off.toNat).rest)

/-- DTEN (R114): DTEN sets the tenant of later transfers. -/
def execDten (t : Fin 288) (sa : BitVec 5) (s : State) : Host.Outcome State Fault Refusal :=
  .next (s.issue t (.dten t sa) fun b => b.dten t sa.toNat)

/-- TRANSFER_DONE (R116): A tile transfer completes, decrements its tag and records a nonzero status with DMA_FAULT. -/
def execTransferDone (t : Fin 288) (tag : BitVec 4) (s : State) : Host.Outcome State Fault Refusal :=
  .next (s.act fun b => ((b.transferDone t tag.toNat).wakeTile t).rest)

/-- UFENCE (R118): UFENCE waits until earlier operations of the selected units have completed. -/
def execUfence (t : Fin 288) (imm : BitVec 32) (s : State) : Host.Outcome State Fault Refusal :=
  .next (s.issue t (.ufence t imm) fun b => b.ufence t imm.toNat)

/-- WAITT (R118): WAITT waits for the named tags to drain and returns and clears their status. -/
def execWaitt (t : Fin 288) (sd : BitVec 5) (imm : BitVec 32) (s : State) : Host.Outcome State Fault Refusal :=
  .next (s.issue t (.waitt t sd imm) fun b => b.waitt t sd.toNat imm.toNat)

/-- BARA (R118): BARA arrives at a barrier. -/
def execBara (t : Fin 288) (sa : BitVec 5) (imm : BitVec 32) (s : State) : Host.Outcome State Fault Refusal :=
  .next (s.issue t (.bara t sa imm) fun b => b.bara t sa.toNat imm)

/-- BARW (R118): BARW waits for a barrier's release and returns its status. -/
def execBarw (t : Fin 288) (sd sa : BitVec 5) (imm : BitVec 32) (s : State) : Host.Outcome State Fault Refusal :=
  .next (s.issue t (.barw t sd sa imm) fun b => b.barw t sd.toNat sa.toNat imm)

/-- FFENCE (R366): FFENCE runs the fabric fence over the tile's earlier remote writes. -/
def execFfence (t : Fin 288) (sd : BitVec 5) (s : State) : Host.Outcome State Fault Refusal :=
  .next (s.issue t (.ffence t sd) fun b => (b.ffence t sd.toNat).rest)

/-- END (R118): END waits for all units and tags and ends the program. -/
def execEndP (t : Fin 288) (s : State) : Host.Outcome State Fault Refusal :=
  .next (s.issue t (.endP t) fun b => (b.endInsn t).rest)

/-- SCWAIT (R119): SCWAIT holds issue until Hearth time reaches the given tick. -/
def execScwait (t : Fin 288) (sa : BitVec 5) (imm : BitVec 32) (s : State) : Host.Outcome State Fault Refusal :=
  .next (s.issue t (.scwait t sa imm) fun b => b.scwait t sa.toNat imm)

/-- SCPUSH (R119): SCPUSH sends a 32-byte entry to a target Score and returns acceptance status. -/
def execScpush (t : Fin 288) (sd sa : BitVec 5) (imm : BitVec 32) (answer : Fin 4) (s : State) : Host.Outcome State Fault Refusal :=
  .next (s.issue t (.scpush t sd sa imm 0) fun b => b.scpush t sd.toNat sa.toNat imm.toNat answer)

/-- SCCNT (R119): SCCNT returns the number of pending entries of the tile's own Score. -/
def execSccnt (t : Fin 288) (sd : BitVec 5) (s : State) : Host.Outcome State Fault Refusal :=
  .next (s.issue t (.sccnt t sd) fun b => b.sccnt t sd.toNat)

end Sys2Proof.Machine
end

