-- ==== Sys2Proof/Machine/ExecScore.lean ====
section
/-! DEFINITION. Meanings of commands. Score entries and actions, retirement of tiles, Knock (R120 to R129, R157 to R165, R208, R243, R369, R456 to R460). -/
namespace Sys2Proof.Machine

/-- SCORE_ENTRY_ACCEPT (R159): A Score receives an entry and accepts it, refuses it, or discards it as stale. -/
def execScoreEntryAccept (i : Fin 401) (e : Option ScoreEntry) (s : State) : Host.Outcome State Fault Refusal :=
  .next (s.act fun b => b.scoreAccept i e)

/-- SCORE_OVERFLOW (R120): An entry waiting 1 µs at a full Score is discarded and SCORE_OVERFLOW is reported. -/
def execScoreOverflow (i : Fin 401) (s : State) : Host.Outcome State Fault Refusal :=
  .next (s.act fun b => b.scoreOverflow i)

/-- SCORE_FIRE (R163): A Score entry reaches its fire tick and fires, or is discarded as bad. -/
def execScoreFire (i : Fin 401) (s : State) : Host.Outcome State Fault Refusal :=
  .next (s.act fun b => b.scoreFire i)

/-- PROG_START (R94): A program-start action starts the tile program and its shape layer, applying the rise profile or aborting Knock. -/
def execProgStart (t : Fin 288) (s : State) : Host.Outcome State Fault Refusal :=
  .next (s.act fun b => ((b.progStart t).noteReasons).rest)

/-- IDLE_WIN (R161): An idle-window action declares an idle window on a tile. -/
def execIdleWin (t : Fin 288) (s : State) : Host.Outcome State Fault Refusal :=
  .next (s.act fun b => b.idleWinAction t)

/-- XFER (R162): An XFER action reads its descriptor and starts a transfer on tags 12–15. -/
def execXfer (t : Fin 288) (s : State) : Host.Outcome State Fault Refusal :=
  .next (s.act fun b => (b.xferAction t).rest)

/-- ARRIVE (R160): An ARRIVE action arrives at its barrier at firing. -/
def execArrive (i : Fin 401) (s : State) : Host.Outcome State Fault Refusal :=
  .next (s.act fun b => b.arriveAction i)

/-- SEG_SEND (R369): A SEG_SEND action sends the listed segments in pieces and fences them. -/
def execSegSend (q : Fin 36) (toks : List (Nat × List Nat)) (s : State) : Host.Outcome State Fault Refusal :=
  .next (s.act fun b => ((b.segFire q true).settleWith toks 4096).rest)

/-- SEG_EXPECT (R369): A SEG_EXPECT action opens receive windows for all listed segments or fails with WINDOW_FULL. -/
def execSegExpect (q : Fin 36) (s : State) : Host.Outcome State Fault Refusal :=
  .next (s.act fun b => (b.segFire q false).rest)

/-- PROOF (R208): A PROOF action runs a proof list of records on a memory controller. -/
def execProof (k : Fin 16) (s : State) : Host.Outcome State Fault Refusal :=
  .next (s.act fun b => (b.proofAction k).rest)

/-- KVPF (R243): A KVPF action prefetches frozen KV pages of a sequence into slices. -/
def execKvpf (k : Fin 16) (s : State) : Host.Outcome State Fault Refusal :=
  .next (s.act fun b => (b.kvpfAction k).rest)

/-- RISE_STEP (R182): The rise profile raises a tile's ramp level P by one step at its scheduled tick. -/
def execRiseStep (t : Fin 288) (s : State) : Host.Outcome State Fault Refusal :=
  .next (s.act fun b => (b.riseStep t).noteReasons)

/-- TILE_RETIRE (R129): A due retirement takes effect, discarding Score entries, closing crossings and gating the tile. -/
def execTileRetire (t : Fin 288) (s : State) : Host.Outcome State Fault Refusal :=
  .next (s.act fun b => b.tileRetire t)

/-- RETIRE_REQ (R129): A write of RETIRE_REQ requests retirement of a tile at its next boundary or at once. -/
def execRetireReq (t : Fin 288) (a : Agent) (s : State) : Host.Outcome State Fault Refusal :=
  .next (s.act fun b => b.fieldWrite (pgTile t) F.TIL_RETIRE.RETIRE_REQ 0 1 a)

/-- PERF_CLEAR (R128): A write of CLEAR clears the tile performance counters. -/
def execPerfClear (t : Fin 288) (a : Agent) (s : State) : Host.Outcome State Fault Refusal :=
  .next (s.act fun b => b.fieldWrite (pgTile t) F.TIL_PERF_CTL.CLEAR 0 1 a)

/-- KNOCK_START (R458): FCOL starts a Knock run on a due tile in an idle window or on a disabled tile. -/
def execKnockStart (t : Fin 288) (s : State) : Host.Outcome State Fault Refusal :=
  .next (s.act fun b => b.knockStart t)

/-- KNOCK_COMPLETE (R460): A Knock run ends and passes, updating counters, or fails and retires the tile. -/
def execKnockComplete (t : Fin 288) (pass : Bool) (s : State) : Host.Outcome State Fault Refusal :=
  .next (s.act fun b => b.knockComplete t pass)

/-- KNOCK_OVERDUE (R457): A tile reaches KNOCK_MAX since its last run and KNOCK_OVERDUE is reported. -/
def execKnockOverdue (t : Fin 288) (s : State) : Host.Outcome State Fault Refusal :=
  .next (s.act fun b => b.knockOverdue t)

end Sys2Proof.Machine
end

