-- ==== Sys2Proof/Machine/ExecTime.lean ====
section
/-! DEFINITION. Meanings of commands. The timebase, barriers and the tick plan (R149 to R156, R166 to R180). -/
namespace Sys2Proof.Machine

/-- TIME_WORD (R149): The timebase sends a time word to every island replica, which corrects toward it. -/
def execTimeWord (s : State) : Host.Outcome State Fault Refusal :=
  .next (s.act fun b => b.timeWord)

/-- NOW_LO_READ (R149): A read of TBS_NOW_LO returns the low word and latches the high word. -/
def execNowLoRead (a : Agent) (s : State) : Host.Outcome State Fault Refusal :=
  .next (s.act fun b => b.nowLoRead a)

/-- TS_SEND (R150): Each link sends one timestamp ordered set per µs in each direction. -/
def execTsSend (n : Fin 63) (s : State) : Host.Outcome State Fault Refusal :=
  .next (s.act fun b => b.tsSend n)

/-- TS_SET (R151): A received timestamp ordered set updates delay, offset, lock and peer partition state. -/
def execTsSet (n : Fin 63) (set : TsSet) (frac : BitVec 8) (s : State) : Host.Outcome State Fault Refusal :=
  .next (s.act fun b => b.tsRx n set frac.toNat)

/-- ELECTION (R152): 100 ms after fabric training the package elects the lowest TBM_EN slot as timebase and step master. -/
def execElection (s : State) : Host.Outcome State Fault Refusal :=
  .next (s.act fun b => b.election)

/-- MASTER_LOSS (R153): No set from the master for MASTER_LOSS sends a follower to HOLDOVER and starts failover claims. -/
def execMasterLoss (s : State) : Host.Outcome State Fault Refusal :=
  .next (s.act fun b => b.masterLoss)

/-- HOLDOVER_TIMEOUT (R154): HOLDOVER_MAX in HOLDOVER moves the timebase to LOST with LOCK_LOST. -/
def execHoldoverTimeout (s : State) : Host.Outcome State Fault Refusal :=
  .next (s.act fun b => b.holdoverTimeout)

/-- PPS_EDGE (R156): An accepted TB_PPS rising edge is time-stamped and may align or slew the master's time. -/
def execPpsEdge (s : State) : Host.Outcome State Fault Refusal :=
  .next (s.act fun b => b.ppsEdge)

/-- PPS_MISS (R156): No PPS edge for 1.1 s raises PPS_MISS. -/
def execPpsMiss (s : State) : Host.Outcome State Fault Refusal :=
  .next (s.act fun b => b.ppsMiss)

/-- REF_LOSS (R156): The reference input leaves its range and the master holds its last frequency. -/
def execRefLoss (s : State) : Host.Outcome State Fault Refusal :=
  .next (s.act fun b => b.refLoss)

/-- ANNOUNCE_NEXT_START (R176): The step master computes and announces the next step start tick and BAKE_NO for an index. -/
def execAnnounceNextStart (k : Fin 16) (s : State) : Host.Outcome State Fault Refusal :=
  .next (s.act fun b => b.announce k)

/-- STEP_ANNOUNCE (R177): A received STEP_ANNOUNCE message records a final step start tick and BAKE_NO. -/
def execStepAnnounce (h : CtrlIn) (k : Fin 16) (bakeNo start : BitVec 64) (s : State) : Host.Outcome State Fault Refusal :=
  .next (s.act fun b => b.ctrlIn h ckSTEP_ANNOUNCE (stepBody k bakeNo.toNat start.toNat) (fun b => b.stepAnnounced k bakeNo.toNat start.toNat))

/-- BAR_DONE (R167): A BAR_DONE message from a member completes or fails a rack barrier here. -/
def execBarDone (h : CtrlIn) (k : Fin 16) (tag : BitVec 8) (id : BitVec 12) (failed : Bool) (s : State) : Host.Outcome State Fault Refusal :=
  .next (s.act fun b => b.ctrlIn h ckBAR_DONE (barDoneBody k tag.toNat id.toNat failed) (fun b => (b.barDone k tag.toNat id.toNat h.src failed).missCounts))

/-- BAR_RELEASE (R168): A barrier's release tick arrives and every waiting entry and BARW is released. -/
def execBarRelease (k : Fin 16) (id : BitVec 12) (s : State) : Host.Outcome State Fault Refusal :=
  .next (s.act fun b => b.barRelease k id.toNat)

/-- BAR_TIMEOUT (R169): A waiter reaching BAR_TIMEOUT fails its barrier and releases its waiters with failure. -/
def execBarTimeout (k : Fin 16) (id : BitVec 12) (s : State) : Host.Outcome State Fault Refusal :=
  .next (s.act fun b => (b.barTimeout k id.toNat).missCounts)

/-- PLAN_PUSH (R174): Serving control pushes an expanded plan entry to its Score PUSH_LEAD before its launch tick. -/
def execPlanPush (k : Fin 16) (s : State) : Host.Outcome State Fault Refusal :=
  .next (s.act fun b => b.planPush k)

/-- VOTE_SEND (R179): A member sends its DEFER round vote for a layer once its count is known and the vote offset is reached. -/
def execVoteSend (k : Fin 16) (layer : Fin 256) (s : State) : Host.Outcome State Fault Refusal :=
  .next (s.act fun b => b.voteSend k layer)

/-- VOTE (R179): A received VOTE message records a member's round count for a layer. -/
def execVote (h : CtrlIn) (k : Fin 16) (bakeNo : BitVec 64) (layer : Fin 256) (rounds : BitVec 8) (s : State) : Host.Outcome State Fault Refusal :=
  .next (s.act fun b => b.ctrlIn h ckVOTE (leBytes 1 k ++ leBytes 8 bakeNo.toNat ++ leBytes 2 layer ++ leBytes 1 rounds.toNat) (fun b => b.voteRx k bakeNo.toNat layer h.src rounds.toNat))

/-- VOTE_CLOSE (R180): At the close tick the package takes the largest vote, sends shift commands, moves PLAN_END_TICK and expands
templates. -/
def execVoteClose (k : Fin 16) (layer : Fin 256) (s : State) : Host.Outcome State Fault Refusal :=
  .next (s.act fun b => b.voteClose k layer)

/-- SHIFT_CMD (R180): A Score applies a shift command to pending entries of the bake at or after FROM. -/
def execShiftCmd (i : Fin 401) (s : State) : Host.Outcome State Fault Refusal :=
  .next (s.act fun b => b.shiftNext i)

end Sys2Proof.Machine
end

