-- ==== Sys2Proof/Machine/ExecMemory.lean ====
section
/-! DEFINITION. Meanings of commands. Leases, the freeze engine, the slices, scrubbing, retraining and retirement of memory (R197 to R222). -/
namespace Sys2Proof.Machine

/-- LEASE_RETRY (R197): A writer refused with RETRY waits 1 µs and requests its leases again. -/
def execLeaseRetry (id : Nat) (s : State) : Host.Outcome State Fault Refusal :=
  .next (s.act fun b => (b.leaseRetry id).rest)

/-- FREEZE_DOORBELL (R200): A write to the freeze doorbell hands whole request records to the freeze engine queue. -/
def execFreezeDoorbell (priv : Bool) (bytes : List Byte) (s : State) : Host.Outcome State Fault Refusal :=
  .next (s.act fun b => b.doorbellWrite priv bytes)

/-- FREEZE_NOP (R200): A freeze request record with OP 0x00 is ignored. -/
def execFreezeNop (s : State) : Host.Outcome State Fault Refusal :=
  .next (s.act fun b => b.freezeNop.rest)

/-- FREEZE_OP (R203): A FREEZE request record is checked and moves its frames to FREEZING. -/
def execFreezeOp (s : State) : Host.Outcome State Fault Refusal :=
  .next (s.act fun b => b.freezeOp.rest)

/-- THAW_OP (R203): A THAW request record is checked and moves its frames to THAWING with invalidation. -/
def execThawOp (s : State) : Host.Outcome State Fault Refusal :=
  .next (s.act fun b => b.thawOp.rest)

/-- FREEZE_DRAINED (R203): A freezing frame's lease count reaches zero and it becomes FROZEN, completing the request. -/
def execFreezeDrained (run : Fin 16) (s : State) : Host.Outcome State Fault Refusal :=
  .next (s.act fun b => (b.freezeDrained run).rest)

/-- THAW_ACK (R203): A slice acknowledges invalidation, and when all have, the frame becomes WRITABLE and the request completes. -/
def execThawAck (ack : ThawAck) (s : State) : Host.Outcome State Fault Refusal :=
  .next (s.act fun b => (b.thawAck ack).rest)

/-- FREEZE_SLOW (R202): A freeze whose lease drain exceeds DRAIN_WARN raises FREEZE_SLOW and keeps waiting. -/
def execFreezeSlow (run : Fin 16) (s : State) : Host.Outcome State Fault Refusal :=
  .next (s.act fun b => b.freezeSlow run)

/-- SLICE_FILL (R204): A fill reaches a slice and is installed or refused by age and thaw filter. -/
def execSliceFill (slice : Fin 32) (s : State) : Host.Outcome State Fault Refusal :=
  .next (s.act fun b => b.sliceFill slice)

/-- SLC_UNPIN (R211): A write of SLC_UNPIN unpins every line of the named partitions in the slice. -/
def execSlcUnpin (slice : Fin 32) (mask : BitVec 16) (a : Agent) (s : State) : Host.Outcome State Fault Refusal :=
  .next (s.act fun b => b.fieldWrite (pgSlice slice) F.SLC_UNPIN.UNPIN 0 mask.toNat a)

/-- STARVE (R215): A request whose age exceeds STARVE_LIMIT sets its arbiter's BLK_STALL bit and raises STARVE_EV. -/
def execStarve (p : Fin 4096) (arb : Fin 16) (s : State) : Host.Outcome State Fault Refusal :=
  .next (s.act fun b => b.starve p arb)

/-- SCRUB (R219): The patrol scrub reads and corrects every line once per SCRUB_PERIOD. -/
def execScrub (off : BitVec 41) (bad : Fin 137) (s : State) : Host.Outcome State Fault Refusal :=
  .next (s.act fun b => b.scrub off.toNat bad)

/-- MEM_RETRAIN_REQ (R221): A write of RETRAIN_REQ requests retraining of a channel group. -/
def execMemRetrainReq (k : Fin 16) (mask : BitVec 2) (a : Agent) (s : State) : Host.Outcome State Fault Refusal :=
  .next (s.act fun b => b.fieldWrite (pgMem k) F.MEM_RETRAIN.RETRAIN_REQ 0 mask.toNat a)

/-- RETRAIN_START (R221): A due retraining starts at a step start tick, one group per package. -/
def execRetrainStart (g : GroupReading) (s : State) : Host.Outcome State Fault Refusal :=
  .next (s.act fun b => b.retrainStart g.group g.temp.toNat g.mr4.toNat)

/-- RETRAIN_DONE (R221): A group's retraining ends, succeeding or counting a failure toward retirement. -/
def execRetrainDone (g : Fin 32) (ok : Bool) (s : State) : Host.Outcome State Fault Refusal :=
  .next (s.act fun b => b.retrainDone g ok)

/-- CH_RETIRE_REQ (R222): A write of CH_RETIRE_REQ requests retirement of a channel's group. -/
def execChRetireReq (k : Fin 16) (mask : BitVec 16) (a : Agent) (s : State) : Host.Outcome State Fault Refusal :=
  .next (s.act fun b => b.fieldWrite (pgMem k) F.MEM_CH_RETIRE.CH_RETIRE_REQ 0 mask.toNat a)

/-- GROUP_RETIRE (R222): A group retires at the next step start tick, unmapping its window and remapping its owner set. -/
def execGroupRetire (g : Fin 32) (s : State) : Host.Outcome State Fault Refusal :=
  .next (s.act fun b => (b.groupRetire g).rest)

end Sys2Proof.Machine
end

