-- ==== Sys2Proof/Machine/ExecServe.lean ====
section
/-! DEFINITION. Meanings of commands. KV pools, placement, expert routing, Breadbox and the draft path (R231 to R251, R264, R276, R297, R308 to R326). -/
namespace Sys2Proof.Machine

/-- POOL_INIT_DONE (R231): A pool's thaw and initial writes complete and it becomes ON. -/
def execPoolInitDone (pool : Fin 16) (s : State) : Host.Outcome State Fault Refusal :=
  .next (s.act fun b => (b.poolInitDone pool).rest)

/-- PAGE_THAW_DONE (R236): The thaw of a released frozen page completes and the page is pushed on its free stack. -/
def execPageThawDone (pool : Fin 16) (page : BitVec 32) (s : State) : Host.Outcome State Fault Refusal :=
  .next (s.act fun b => (b.pageThawDone pool page.toNat).rest)

/-- KV_FREEZE_DONE (R245): A KV page freeze completes; the KVM raises FROZEN_PAGES and may insert a prefix entry. -/
def execKvFreezeDone (seq : Fin 16384) (i : BitVec 16) (page : BitVec 32) (s : State) : Host.Outcome State Fault Refusal :=
  .next (s.act fun b => (b.kvFreezeDone seq i.toNat page.toNat).rest)

/-- PFX_CLEAR (R251): A write of CLEAR invalidates a partition's prefix table at commit. -/
def execPfxClear (k : Fin 16) (a : Agent) (s : State) : Host.Outcome State Fault Refusal :=
  .next (s.act fun b => b.fieldWrite pgKvm F.KVM_PFX_CFG.CLEAR k 1 a)

/-- ARM (R264): Setting ARM starts the check of the next placement table, and clearing it abandons a staged swap. -/
def execArm (k : Fin 16) (v : Bool) (a : Agent) (s : State) : Host.Outcome State Fault Refusal :=
  .next (s.act fun b => b.fieldWrite pgMoe F.MOE_PCTL.ARM k (b2n v) a)

/-- PLC_CHECK_DONE (R264): The placement table check ends, setting CHECKED or SWAP_ERR. -/
def execPlcCheckDone (k : Fin 16) (s : State) : Host.Outcome State Fault Refusal :=
  .next (s.act fun b => b.plcCheckDone k)

/-- MOE_PLAN (R276): Once every COUNT segment has landed the MOE computes row positions, rounds, drops, status bytes and its vote. -/
def execMoePlan (k : Fin 16) (layer : Fin 256) (s : State) : Host.Outcome State Fault Refusal :=
  .next (s.act fun b => (b.moePlan k layer).rest)

/-- TEN_UPD (R308): A write to SRV_TEN_UPD queues a tenant update for the next boundary. -/
def execTenUpd (k : Fin 16) (tenant : BitVec 12) (a : Agent) (s : State) : Host.Outcome State Fault Refusal :=
  .next (s.act fun b => b.fieldWrite (pgPart k) F.SRV_TEN_UPD.TENANT 0 tenant.toNat a)

/-- DRAINED (R297): ACTIVE reaches 0 with ADMIT_STOP set and the page raises DRAINED_EV. -/
def execDrained (k : Fin 16) (s : State) : Host.Outcome State Fault Refusal :=
  .next (s.act fun b => b.drainedEv k)

/-- BB_CHECK (R314): A CHECK command copies a model descriptor and starts its residency check. -/
def execBbCheck (k : Fin 16) (i : Fin 256) (a : Agent) (s : State) : Host.Outcome State Fault Refusal :=
  .next (s.act fun b => b.writeWord (pgPart k) 0x090 (1 * 256 + i.val) a)

/-- PROMOTE (R314): A PROMOTE command issues the model's HOT_LIST to the memory controllers. -/
def execPromote (k : Fin 16) (i : Fin 256) (a : Agent) (s : State) : Host.Outcome State Fault Refusal :=
  .next (s.act fun b => b.writeWord (pgPart k) 0x090 (2 * 256 + i.val) a)

/-- DEMOTE (R314): A DEMOTE command issues the COLD_LIST of an unused HOT model. -/
def execDemote (k : Fin 16) (i : Fin 256) (a : Agent) (s : State) : Host.Outcome State Fault Refusal :=
  .next (s.act fun b => b.writeWord (pgPart k) 0x090 (3 * 256 + i.val) a)

/-- BB_FREE (R314): A FREE command starts invalidating the prefix entries of an unused WARM model. -/
def execBbFree (k : Fin 16) (i : Fin 256) (a : Agent) (s : State) : Host.Outcome State Fault Refusal :=
  .next (s.act fun b => b.writeWord (pgPart k) 0x090 (4 * 256 + i.val) a)

/-- BB_CHECK_DONE (R313): The residency check ends and the descriptor becomes WARM or returns to EMPTY with CHK_ERR. -/
def execBbCheckDone (i : Fin 256) (s : State) : Host.Outcome State Fault Refusal :=
  .next (s.act fun b => b.bbCheckDone i)

/-- PROMOTE_DONE (R314): Every HOT_LIST record has landed or been skipped and the model becomes HOT. -/
def execPromoteDone (i : Fin 256) (s : State) : Host.Outcome State Fault Refusal :=
  .next (s.act fun b => (b.promoteDone i).rest)

/-- DEMOTE_DONE (R314): The COLD_LIST completes and the model becomes WARM. -/
def execDemoteDone (i : Fin 256) (s : State) : Host.Outcome State Fault Refusal :=
  .next (s.act fun b => (b.demoteDone i).rest)

/-- FREE_DONE (R314): Prefix invalidation of a freed model completes and the descriptor becomes EMPTY. -/
def execFreeDone (i : Fin 256) (s : State) : Host.Outcome State Fault Refusal :=
  .next (s.act fun b => (b.bbFreeDone i).rest)

/-- DRAFT_REQ (R326): A DRAFT_REQ message asks the draft package to propose tokens for a home sequence. -/
def execDraftReq (h : CtrlIn) (seq : Fin 16384) (tenant : BitVec 12) (model : BitVec 8) (pool : Fin 16) (lused : BitVec 4) (len : BitVec 32) (s : State) : Host.Outcome State Fault Refusal :=
  .next (s.act fun b => b.ctrlIn h ckDRAFT_REQ (draftBody seq tenant.toNat model.toNat pool lused.toNat len.toNat) (fun b => b.draftRx h.src seq tenant.toNat model.toNat pool lused.toNat len.toNat))

end Sys2Proof.Machine
end

