-- ==== Sys2Proof/Machine/ExecLink.lean ====
section
/-! DEFINITION. Meanings of commands. Funtopol links (R339 to R347). -/
namespace Sys2Proof.Machine

/-- LANE_SIGNAL_DETECT (R339): A link in DETECT sees signal on a lane and starts training. -/
def execLaneSignalDetect (n : Fin 63) (s : State) : Host.Outcome State Fault Refusal :=
  .next (s.act fun b => b.laneSignal n)

/-- DETECT_TIMEOUT (R339): A link with no signal for 100 ms goes DOWN. -/
def execDetectTimeout (n : Fin 63) (s : State) : Host.Outcome State Fault Refusal :=
  .next (s.act fun b => (b.detectTimeout n).rest)

/-- TRAIN_DONE (R339): Training ends on every lane, disabling failed lanes, or the link goes DOWN. -/
def execTrainDone (n : Fin 63) (lanes pol : BitVec 8) (s : State) : Host.Outcome State Fault Refusal :=
  .next (s.act fun b => (b.trainDone n lanes.toNat pol.toNat).rest)

/-- ALIGN_LOCK (R339): Each enabled lane achieves codeword lock and the link enters IDENT. -/
def execAlignLock (n : Fin 63) (s : State) : Host.Outcome State Fault Refusal :=
  .next (s.act fun b => b.alignLock n)

/-- IDENT_SET (R341): Received IDENT sets identify the peer, order lanes and run the peer checks. -/
def execIdentSet (n : Fin 63) (rx : IdentRx) (s : State) : Host.Outcome State Fault Refusal :=
  .next (s.act fun b => (b.identRx n rx.lane rx.set).rest)

/-- IDENT_DONE (R342): IDENT completes, the width is chosen and the link comes UP. -/
def execIdentDone (n : Fin 63) (asym : BitVec 16) (s : State) : Host.Outcome State Fault Refusal :=
  .next (s.act fun b => (b.identDone n asym.toNat).rest)

/-- LANE_RETIRE (R343): A lane loses signal or exceeds its error ratio and the end proposes a narrower mask. -/
def execLaneRetire (n : Fin 63) (lane : Fin 8) (s : State) : Host.Outcome State Fault Refusal :=
  .next (s.act fun b => (b.laneRetire n lane).rest)

/-- NARROW_SET (R343): NARROW ordered sets are exchanged until both ends adopt a lane group and restripe. -/
def execNarrowSet (n : Fin 63) (mask : BitVec 8) (s : State) : Host.Outcome State Fault Refusal :=
  .next (s.act fun b => (b.narrowRx n mask.toNat).rest)

/-- LINK_LOSS (R339): A link loses all lanes and goes DOWN. -/
def execLinkLoss (n : Fin 63) (s : State) : Host.Outcome State Fault Refusal :=
  .next (s.act fun b => (b.linkLoss n).rest)

/-- LINK_RETRAIN_REQ (R339): A write of RETRAIN_REQ takes a link DOWN or out of DOWN or REFUSED to retrain. -/
def execLinkRetrainReq (n : Fin 63) (a : Agent) (s : State) : Host.Outcome State Fault Refusal :=
  .next (s.act fun b => b.fieldWrite (linkPage n) F.FAB_LCFG.RETRAIN_REQ (linkPos n) 1 a)

/-- DOWN_RETRY (R339): One second in DOWN, or in REFUSED by the peer, returns the link to DETECT. -/
def execDownRetry (n : Fin 63) (s : State) : Host.Outcome State Fault Refusal :=
  .next (s.act fun b => b.downRetry n)

/-- FLIT_RX (R347): A received PAYLOAD flit is accepted in order or discarded with a NAK. -/
def execFlitRx (n : Fin 63) (kind : BitVec 4) (fseq : BitVec 16) (fec : BitVec 8) (crcOk : Bool) (s : State) : Host.Outcome State Fault Refusal :=
  .next (s.act fun b => (b.flitRx n kind.toNat fseq.toNat fec.toNat crcOk).rest)

/-- LINK_UNIT (R345): A received LINK unit returns credits and acknowledges or NAKs flits, triggering replay. -/
def execLinkUnit (n : Fin 63) (u : LinkAck) (nak : Bool) (s : State) : Host.Outcome State Fault Refusal :=
  .next (s.act fun b => (b.linkUnitRx n u nak).rest)

/-- LINK_UNIT_SEND (R345): The receiver sends a LINK unit after ACK_EVERY flits or within 200 ns of an unacknowledged flit. -/
def execLinkUnitSend (n : Fin 63) (s : State) : Host.Outcome State Fault Refusal :=
  .next (s.act fun b => b.linkUnitTx n)

/-- REPLAY_EXHAUST (R347): A flit sent REPLAY_MAX times without acknowledgement takes the link DOWN. -/
def execReplayExhaust (n : Fin 63) (s : State) : Host.Outcome State Fault Refusal :=
  .next (s.act fun b => (b.replayExhaust n).rest)

end Sys2Proof.Machine
end

