-- ==== Sys2Proof/Machine/ExecFabric.lean ====
section
/-! DEFINITION. Meanings of commands. Fabric packets, atomics, segments, routes, keys and tags (R349 to R371). -/
namespace Sys2Proof.Machine

/-- RD_REQ (R349): A remote read request is key-checked and served or refused. -/
def execRdReq (q : Fin 36) (p : Packet) (s : State) : Host.Outcome State Fault Refusal :=
  .next (s.act fun b => (b.rdReq q p).rest)

/-- RD_CPL (R349): A read completion returns data and status to the requester. -/
def execRdCpl (q : Fin 36) (p : Packet) (cacheable : Bool) (s : State) : Host.Outcome State Fault Refusal :=
  .next (s.act fun b => (b.rdCpl q p cacheable).rest)

/-- WR (R349): A remote write packet is applied under its lease. -/
def execWr (q : Fin 36) (p : Packet) (s : State) : Host.Outcome State Fault Refusal :=
  .next (s.act fun b => (b.wrPacket q p).rest)

/-- WR_ACK (R364): A write acknowledgement advances ACKED for its path. -/
def execWrAck (q : Fin 36) (p : Packet) (s : State) : Host.Outcome State Fault Refusal :=
  .next (s.act fun b => (b.wrAck q p).rest)

/-- ATOM_ADD (R353): An atomic ADD adds the operand modulo 2^64 and returns the old value. -/
def execAtomAdd (src : AtomSrc) (s : State) : Host.Outcome State Fault Refusal :=
  .next (s.act fun b => (b.atomOp 0 src).rest)

/-- ATOM_AND (R353): An atomic AND ands the operand and returns the old value. -/
def execAtomAnd (src : AtomSrc) (s : State) : Host.Outcome State Fault Refusal :=
  .next (s.act fun b => (b.atomOp 1 src).rest)

/-- ATOM_OR (R353): An atomic OR ors the operand and returns the old value. -/
def execAtomOr (src : AtomSrc) (s : State) : Host.Outcome State Fault Refusal :=
  .next (s.act fun b => (b.atomOp 2 src).rest)

/-- ATOM_XOR (R353): An atomic XOR xors the operand and returns the old value. -/
def execAtomXor (src : AtomSrc) (s : State) : Host.Outcome State Fault Refusal :=
  .next (s.act fun b => (b.atomOp 3 src).rest)

/-- ATOM_SWAP (R353): An atomic SWAP stores the operand and returns the old value. -/
def execAtomSwap (src : AtomSrc) (s : State) : Host.Outcome State Fault Refusal :=
  .next (s.act fun b => (b.atomOp 4 src).rest)

/-- ATOM_CAS (R353): An atomic CAS stores the operand if the old value equals the compare value. -/
def execAtomCas (src : AtomSrc) (s : State) : Host.Outcome State Fault Refusal :=
  .next (s.act fun b => (b.atomOp 5 src).rest)

/-- ATOM_MAXU (R353): An atomic MAXU stores the unsigned maximum. -/
def execAtomMaxu (src : AtomSrc) (s : State) : Host.Outcome State Fault Refusal :=
  .next (s.act fun b => (b.atomOp 6 src).rest)

/-- ATOM_MINU (R353): An atomic MINU stores the unsigned minimum. -/
def execAtomMinu (src : AtomSrc) (s : State) : Host.Outcome State Fault Refusal :=
  .next (s.act fun b => (b.atomOp 7 src).rest)

/-- ATOM_MAXS (R353): An atomic MAXS stores the signed maximum. -/
def execAtomMaxs (src : AtomSrc) (s : State) : Host.Outcome State Fault Refusal :=
  .next (s.act fun b => (b.atomOp 8 src).rest)

/-- ATOM_MINS (R353): An atomic MINS stores the signed minimum. -/
def execAtomMins (src : AtomSrc) (s : State) : Host.Outcome State Fault Refusal :=
  .next (s.act fun b => (b.atomOp 9 src).rest)

/-- ATOM_CPL (R349): An atomic completion returns the prior value and status. -/
def execAtomCpl (q : Fin 36) (p : Packet) (s : State) : Host.Outcome State Fault Refusal :=
  .next (s.act fun b => (b.atomCpl q p).rest)

/-- LEASE_REQ (R352): A lease request checks every frame at the destination and grants one lease or refuses. -/
def execLeaseReq (q : Fin 36) (p : Packet) (s : State) : Host.Outcome State Fault Refusal :=
  .next (s.act fun b => (b.leaseReq q p).rest)

/-- LEASE_RSP (R352): A lease response lets a remote write proceed or ends it with a status. -/
def execLeaseRsp (q : Fin 36) (p : Packet) (s : State) : Host.Outcome State Fault Refusal :=
  .next (s.act fun b => (b.leaseRsp q p).rest)

/-- LEASE_REL (R352): A lease release ends a remote lease. -/
def execLeaseRel (q : Fin 36) (p : Packet) (s : State) : Host.Outcome State Fault Refusal :=
  .next (s.act fun b => (b.leaseRel q p).rest)

/-- PFLUSH (R366): A flush marker is echoed after the acknowledgements of earlier writes of its path. -/
def execPflush (q : Fin 36) (p : Packet) (s : State) : Host.Outcome State Fault Refusal :=
  .next (s.act fun b => (b.pflush q p).rest)

/-- PFLUSH_ECHO (R366): A returned flush marker makes a superseded path SETTLED. -/
def execPflushEcho (q : Fin 36) (p : Packet) (s : State) : Host.Outcome State Fault Refusal :=
  .next (s.act fun b => (b.pflushEcho q p).rest)

/-- SEG (R369): A segment piece is matched to a window and written, or answered NO_WINDOW or SEG_REJECT. -/
def execSeg (q : Fin 36) (p : Packet) (s : State) : Host.Outcome State Fault Refusal :=
  .next (s.act fun b => (b.segPacket q p).rest)

/-- SEG_ACK (R369): A segment acknowledgement advances or fails a SEG_SEND. -/
def execSegAck (q : Fin 36) (p : Packet) (s : State) : Host.Outcome State Fault Refusal :=
  .next (s.act fun b => (b.segAck q p).rest)

/-- SEG_RESEND (R369): A piece answered NO_WINDOW is resent every SEG_RETRY. -/
def execSegResend (q : Fin 36) (s : State) : Host.Outcome State Fault Refusal :=
  .next (s.act fun b => (b.segResend q).rest)

/-- LINK_STATE (R363): A LINK_STATE message updates a package's advertised widths and SAFE flag. -/
def execLinkState (h : CtrlIn) (widths : List Nat) (safe : Bool) (s : State) : Host.Outcome State Fault Refusal :=
  .next (s.act fun b => (b.ctrlIn h ckLINK_STATE (linkStateBytes widths safe) (fun b => b.linkState h.src widths safe)).rest)

/-- LINK_STATE_SEND (R363): A package sends LINK_STATE on a link change, on safe-state change and every 1 ms. -/
def execLinkStateSend (s : State) : Host.Outcome State Fault Refusal :=
  .next (s.act fun b => b.linkStateSend)

/-- ROUTE_REFILL (R361): A destination's route table is refilled after a link or LINK_STATE change, superseding changed slots. -/
def execRouteRefill (d : Fin 64) (s : State) : Host.Outcome State Fault Refusal :=
  .next (s.act fun b => (b.routeRefill d).rest)

/-- PATH_DEAD (R366): A superseded path not SETTLED after FENCE_PATH_TIMEOUT becomes DEAD and its requests are reissued. -/
def execPathDead (d : Fin 64) (rslot : Fin 8) (gen : Fin 4) (s : State) : Host.Outcome State Fault Refusal :=
  .next (s.act fun b => (b.pathDead d rslot gen).rest)

/-- UNREACHABLE (R363): A slot with no route or no message for UNREACH_TIMEOUT becomes unreachable. -/
def execUnreachable (d : Fin 64) (s : State) : Host.Outcome State Fault Refusal :=
  .next (s.act fun b => (b.unreachable d).rest)

/-- FAB_KEY_WRITE (R358): A write to FAB_KEY_VAL sets the key of the tenant in FAB_KEY_IDX. -/
def execFabKeyWrite (v : BitVec 32) (a : Agent) (s : State) : Host.Outcome State Fault Refusal :=
  .next (s.act fun b => b.fieldWrite pgGfab F.FAB_KEY_VAL.KEY 0 v.toNat a)

/-- TAG_GO (R358): GO starts writing region tags over the configured range. -/
def execTagGo (a : Agent) (s : State) : Host.Outcome State Fault Refusal :=
  .next (s.act fun b => b.fieldWrite pgGfab F.FAB_TAG_CMD.GO 0 1 a)

/-- TAG_DONE (R358): Every tag cache has dropped old tags and TAG_DONE_EV is raised. -/
def execTagDone (s : State) : Host.Outcome State Fault Refusal :=
  .next (s.act fun b => b.tagDoneEv)

end Sys2Proof.Machine
end

