-- ==== Sys2Proof/Machine/ExecLoad.lean ====
section
/-! DEFINITION. Meanings of commands. The weight loader and its storage queue pairs (R377 to R404). The
loader takes none of its events while its page is OFF (R32). -/
namespace Sys2Proof.Machine

/-- LOAD_START (R387): START begins a load in a slot and runs its checks. -/
def execLoadStart (ld : Fin 4) (a : Agent) (s : State) : Host.Outcome State Fault Refusal :=
  .next (s.act fun b => b.fieldWrite pgWld F.WLD_LCMD.START ld 1 a)

/-- LOAD_CHECK_DONE (R386): The load checks end, starting fetches or failing the load. -/
def execLoadCheckDone (ld : Fin 4) (s : State) : Host.Outcome State Fault Refusal :=
  .next (s.act fun b => (b.ifRuns pgWld (·.loadCheckDone ld)).rest)

/-- LOAD_ABORT (R387): ABORT ends a running load FAILED with ABORTED. -/
def execLoadAbort (ld : Fin 4) (a : Agent) (s : State) : Host.Outcome State Fault Refusal :=
  .next (s.act fun b => b.fieldWrite pgWld F.WLD_LCMD.ABORT ld 1 a)

/-- NVME_READ_CPL (R378): An NVMe Read completes, revoking its region key and landing or failing a piece. -/
def execNvmeReadCpl (ld : Fin 4) (shard : BitVec 16) (off : BitVec 32) (ok : Bool) (bytes : List Byte) (s : State) : Host.Outcome State Fault Refusal :=
  .next (s.act fun b => (b.ifRuns pgWld (·.nvmeReadCpl ld shard.toNat off.toNat ok bytes)).rest)

/-- PIECE_LANDED (R391): A shard piece lands locally, is relayed to the successor and advances its progress word. -/
def execPieceLanded (ld : Fin 4) (shard : BitVec 16) (s : State) : Host.Outcome State Fault Refusal :=
  .next (s.act fun b => (b.ifRuns pgWld (·.pieceLanded ld shard.toNat)).rest)

/-- HASH_DONE (R390): A hash lane finishes a shard and requests its freeze or ends the attempt DIGEST_BAD. -/
def execHashDone (ld : Fin 4) (shard : BitVec 16) (s : State) : Host.Outcome State Fault Refusal :=
  .next (s.act fun b => (b.ifRuns pgWld (·.hashDone ld shard.toNat)).rest)

/-- SHARD_FREEZE_DONE (R390): The freeze of a verified shard completes and the shard is VERIFIED. -/
def execShardFreezeDone (ld : Fin 4) (shard : BitVec 16) (s : State) : Host.Outcome State Fault Refusal :=
  .next (s.act fun b => (b.ifRuns pgWld (·.shardFreezeDone ld shard.toNat)).rest)

/-- SHARD_TIMEOUT (R388): No byte lands for SHARD_TIMEOUT and the attempt ends, leading to a retry or a missing shard. -/
def execShardTimeout (ld : Fin 4) (shard : BitVec 16) (s : State) : Host.Outcome State Fault Refusal :=
  .next (s.act fun b => (b.ifRuns pgWld (·.shardTimeout ld shard.toNat)).rest)

/-- MEMBER_RECORD (R396): A member record arrives and the load checks it for failure or mismatch. -/
def execMemberRecord (ld : Fin 4) (m : Fin 64) (s : State) : Host.Outcome State Fault Refusal :=
  .next (s.act fun b => (b.ifRuns pgWld (·.memberRecord ld m)).rest)

/-- REPORT_TIMEOUT (R396): A member record missing after REPORT_TIMEOUT ends the load with MEMBER_LOST. -/
def execReportTimeout (ld : Fin 4) (s : State) : Host.Outcome State Fault Refusal :=
  .next (s.act fun b => (b.ifRuns pgWld (·.reportTimeout ld)).rest)

/-- LOAD_FINAL (R397): With every record in, the load forms the missing union and clears AVAIL bits or fails. -/
def execLoadFinal (ld : Fin 4) (s : State) : Host.Outcome State Fault Refusal :=
  .next (s.act fun b => (b.ifRuns pgWld (·.loadFinal ld)).rest)

/-- CNP (R377): A received CNP cuts the queue pair's send rate. -/
def execCnp (port : Fin 2) (q : Fin 256) (s : State) : Host.Outcome State Fault Refusal :=
  .next (s.act fun b => b.cnp port q)

/-- MKEY_LOCK (R404): A write of LOCK makes a manifest key slot read-only until reset. -/
def execMkeyLock (mask : BitVec 4) (a : Agent) (s : State) : Host.Outcome State Fault Refusal :=
  .next (s.act fun b => b.fieldWrite pgWld F.WLD_MKEY_LOCK.LOCK 0 mask.toNat a)

end Sys2Proof.Machine
end

