-- ==== Sys2Proof/Machine/ExecPower.lean ====
section
/-! DEFINITION. Meanings of commands. The governor, caps, thermal limits, droop, frequency and Rest (R405 to R437). -/
namespace Sys2Proof.Machine

/-- GOV_PERIOD (R406): Each 1 µs governor period estimates power, runs the EDC and quadrant loops and sends targets to cluster agents. -/
def execGovPeriod (est i0 i1 i2 i3 : BitVec 12) (s : State) : Host.Outcome State Fault Refusal :=
  .next (s.act fun b => b.govPeriod est.toNat [i0.toNat, i1.toNat, i2.toNat, i3.toNat])

/-- G_RISE_STEP (R406): A cluster agent raises its applied level by one after RAMP_TIME / 16. -/
def execGRiseStep (c : Fin 24) (s : State) : Host.Outcome State Fault Refusal :=
  .next (s.act fun b => b.gRiseStep c)

/-- CAP_LOOP (R411): Every 10 µs the cap loop adjusts G_cap against CAP_EFF. -/
def execCapLoop (s : State) : Host.Outcome State Fault Refusal :=
  .next (s.act fun b => b.capLoop)

/-- CAP_WRITE (R410): A write of CAP changes CAP_EFF and may clamp the level at once. -/
def execCapWrite (v : BitVec 12) (a : Agent) (s : State) : Host.Outcome State Fault Refusal :=
  .next (s.act fun b => b.fieldWrite pgPwr F.PWR_CAP.CAP 0 v.toNat a)

/-- EDC_TIMEOUT (R414): P_10 above CAP_EFF for EDC_TIME forces G_edc to the cap's floor level. -/
def execEdcTimeout (s : State) : Host.Outcome State Fault Refusal :=
  .next (s.act fun b => b.edcTimeout)

/-- POWER_RECAL (R409): Every 1 ms the power estimate is recalibrated against regulator readback. -/
def execPowerRecal (w : BitVec 12) (s : State) : Host.Outcome State Fault Refusal :=
  .next (s.act fun b => b.powerRecal w.toNat)

/-- CAP_STEP_ASSERT (R413): A filtered CAP_STEP_N assertion brings EMERG_CAP into CAP_EFF. -/
def execCapStepAssert (s : State) : Host.Outcome State Fault Refusal :=
  .next (s.act fun b => b.pinEdge 2 true)

/-- CAP_STEP_DEASSERT (R413): Deassertion of CAP_STEP_N removes EMERG_CAP from CAP_EFF. -/
def execCapStepDeassert (s : State) : Host.Outcome State Fault Refusal :=
  .next (s.act fun b => b.pinEdge 2 false)

/-- ALERT_ASSERT (R425): A filtered PWR_ALERT_N or COOL_ALERT_N assertion holds the package at 600 W. -/
def execAlertAssert (i : Fin 2) (s : State) : Host.Outcome State Fault Refusal :=
  .next (s.act fun b => b.pinEdge i true)

/-- ALERT_DEASSERT (R425): An alert input deasserts and the release timer starts. -/
def execAlertDeassert (i : Fin 2) (s : State) : Host.Outcome State Fault Refusal :=
  .next (s.act fun b => b.pinEdge i false)

/-- ALERT_RELEASE (R425): All alerts deasserted for ALERT_RELEASE returns G_alert to 16. -/
def execAlertRelease (s : State) : Host.Outcome State Fault Refusal :=
  .next (s.act fun b => b.alertRelease)

/-- HEARTBEAT (R426): A write of PWR_HEARTBEAT arms monitoring and clears ORPHANED. -/
def execHeartbeat (v : BitVec 32) (a : Agent) (s : State) : Host.Outcome State Fault Refusal :=
  .next (s.act fun b => b.fieldWrite pgPwr F.PWR_HEARTBEAT.HEARTBEAT 0 v.toNat a)

/-- ORPHAN_TIMEOUT (R426): No heartbeat for ORPHAN_TIMEOUT sets ORPHANED and applies ORPHAN_CAP. -/
def execOrphanTimeout (s : State) : Host.Outcome State Fault Refusal :=
  .next (s.act fun b => b.orphanTimeout)

/-- THERMAL_LOOP (R427): Every 10 µs each cluster's temperature adjusts G_therm or fails the sensor. -/
def execThermalLoop (c : Fin 24) (temp : Int) (s : State) : Host.Outcome State Fault Refusal :=
  .next (s.act fun b => b.thermalLoop c temp)

/-- THERMTRIP (R428): A sensor at 110 °C sets G_trip = 0, asserts THERMTRIP_N and reports FATAL. -/
def execThermtrip (c : Fin 24) (s : State) : Host.Outcome State Fault Refusal :=
  .next (s.act fun b => (b.thermtrip c).rest)

/-- DROOP_ASSERT (R419): A cluster's voltage falls DROOP_MV below setpoint and the droop clamp halves issue. -/
def execDroopAssert (c : Fin 24) (s : State) : Host.Outcome State Fault Refusal :=
  .next (s.act fun b => b.droopAssert c)

/-- DROOP_RELEASE (R419): Voltage above threshold for DROOP_HOLD releases the droop clamp. -/
def execDroopRelease (c : Fin 24) (s : State) : Host.Outcome State Fault Refusal :=
  .next (s.act fun b => b.droopRelease c)

/-- BOOST_ENTRY (R421): After BOOST_DWELL of good conditions the governor requests VBOOST. -/
def execBoostEntry (s : State) : Host.Outcome State Fault Refusal :=
  .next (s.act fun b => b.boostEntry)

/-- VOLT_SETTLE (R421): After regulator acknowledgement and VOLT_SETTLE the tile FLLs switch to 1.25 GHz. -/
def execVoltSettle (s : State) : Host.Outcome State Fault Refusal :=
  .next (s.act fun b => b.voltSettle)

/-- BOOST_EXIT (R422): A failed boost condition switches the FLLs to 1.1 GHz and requests VNOM. -/
def execBoostExit (s : State) : Host.Outcome State Fault Refusal :=
  .next (s.act fun b => b.boostExit)

/-- FREQ_ABORT (R423): A failing condition during boost entry aborts it and starts the quiet wait. -/
def execFreqAbort (s : State) : Host.Outcome State Fault Refusal :=
  .next (s.act fun b => b.freqAbort)

/-- FREQ_ABORT_CLEAR (R423): 10 µs without droop ends the FREQ_ABORT quiet wait. -/
def execFreqAbortClear (s : State) : Host.Outcome State Fault Refusal :=
  .next (s.act fun b => b.freqAbortClear)

/-- AVS_TIMEOUT (R424): A rail not acknowledging within 1 ms forces fixed frequency until reset. -/
def execAvsTimeout (s : State) : Host.Outcome State Fault Refusal :=
  .next (s.act fun b => b.avsTimeout)

/-- FIXED_FREQ_WRITE (R422): A write of FIXED_FREQ = 1 forces boost exit; 0 permits boost. -/
def execFixedFreqWrite (v : Bool) (a : Agent) (s : State) : Host.Outcome State Fault Refusal :=
  .next (s.act fun b => b.fieldWrite pgPwr F.PWR_MODE.FIXED_FREQ 0 (b2n v) a)

/-- REST_REQ (R431): REST_REQ is accepted to start Rest entry, or refused with REST_REJECT_EV. -/
def execRestReq (a : Agent) (s : State) : Host.Outcome State Fault Refusal :=
  .next (s.act fun b => b.fieldWrite pgPwr F.PWR_REST.REST_REQ 0 1 a)

/-- REST_ENTRY_DONE (R432): Rest entry completes and REST_EV is raised. -/
def execRestEntryDone (s : State) : Host.Outcome State Fault Refusal :=
  .next (s.act fun b => b.restEntryDone)

/-- WAKE (R432): WAKE starts the wake sequence from REST. -/
def execWake (a : Agent) (s : State) : Host.Outcome State Fault Refusal :=
  .next (s.act fun b => b.fieldWrite pgPwr F.PWR_REST.WAKE 0 1 a)

/-- WAKE_DONE (R434): 1,000,000 ticks after waking began the crossings open and the package returns to RUN. -/
def execWakeDone (s : State) : Host.Outcome State Fault Refusal :=
  .next (s.act fun b => b.wakeDone.rest)

end Sys2Proof.Machine
end

