-- ==== Sys2Proof/Machine/ExecFault.lean ====
section
/-! DEFINITION. Meanings of commands. FCOL: fault reports, the safe state, the history queue and telemetry (R439 to R468). -/
namespace Sys2Proof.Machine

/-- FAULT_REPORT (R443): FCOL takes a fault report, records it, updates history and telemetry and applies its reaction. -/
def execFaultReport (hw : Option HwFind) (s : State) : Host.Outcome State Fault Refusal :=
  .next (s.act fun b => (b.faultReport hw).rest)

/-- PARITY_SCRUB (R448): Every 1 ms FCOL checks page parity and a failure latches the safe state. -/
def execParityScrub (bad slotOk : Bool) (s : State) : Host.Outcome State Fault Refusal :=
  .next (s.act fun b => (b.parityScrub bad slotOk).rest)

/-- SAFE_REQ (R449): A write of SAFE_REQ enters the safe state and sets HOLD. -/
def execSafeReq (a : Agent) (s : State) : Host.Outcome State Fault Refusal :=
  .next (s.act fun b => b.fieldWrite pgFlt F.FLT_SAFE.SAFE_REQ 0 1 a)

/-- RELEASE (R451): A write of RELEASE clears HOLD and restarts the quiet timer. -/
def execRelease (a : Agent) (s : State) : Host.Outcome State Fault Refusal :=
  .next (s.act fun b => b.fieldWrite pgFlt F.FLT_SAFE.RELEASE 0 1 a)

/-- QUIET_EXPIRE (R452): The quiet timer expires and the package exits the safe state or latches it. -/
def execQuietExpire (s : State) : Host.Outcome State Fault Refusal :=
  .next (s.act fun b => b.quietExpire.rest)

/-- UNFREEZE (R447): UNFREEZE clears FROZEN and HIST_LOST of the history queue. -/
def execUnfreeze (a : Agent) (s : State) : Host.Outcome State Fault Refusal :=
  .next (s.act fun b => b.fieldWrite pgFlt F.FLT_HCTL.UNFREEZE 0 1 a)

/-- HIST_CLEAR (R447): CLEAR empties the fault history queue. -/
def execHistClear (a : Agent) (s : State) : Host.Outcome State Fault Refusal :=
  .next (s.act fun b => b.fieldWrite pgFlt F.FLT_HCTL.CLEAR 0 1 a)

/-- SUMCLR_PAGE (R442): A write of FLT_SUMCLR PAGE clears that page's BLK_FLTSUM. -/
def execSumclrPage (p : Fin 4096) (a : Agent) (s : State) : Host.Outcome State Fault Refusal :=
  .next (s.act fun b => b.writeWord pgFlt 0x064 p a)

/-- SUMCLR_ALL (R442): A write of FLT_SUMCLR ALL clears every page's BLK_FLTSUM. -/
def execSumclrAll (a : Agent) (s : State) : Host.Outcome State Fault Refusal :=
  .next (s.act fun b => b.writeWord pgFlt 0x064 (2 ^ 31) a)

/-- INJECT_GO (R456): GO injects a fault record into FCOL, or is refused when INJ_EN = 0. -/
def execInjectGo (a : Agent) (s : State) : Host.Outcome State Fault Refusal :=
  .next (s.act fun b => b.fieldWrite pgFlt F.FLT_INJ2.GO 0 1 a)

/-- TEL_POLL (R462): Every 100 µs FCOL reads ring CONS and writes pending alarms as space frees. -/
def execTelPoll (s : State) : Host.Outcome State Fault Refusal :=
  .next (s.act fun b => b.telPoll.rest)

/-- STORM_CLEAR (R467): STORM clears after STORM_WINDOW with no overwrite or pending alarm. -/
def execStormClear (s : State) : Host.Outcome State Fault Refusal :=
  .next (s.act fun b => b.stormClear)

end Sys2Proof.Machine
end

