-- ==== Sys2Proof/Machine/ExecBoot.lean ====
section
/-! DEFINITION. Meanings of commands. Resets, boot, fuses and the update engine (R471 to R493). -/
namespace Sys2Proof.Machine

/-- PWROK_LOW (R471): PWROK low resets every island and register. -/
def execPwrokLow (s : State) : Host.Outcome State Fault Refusal :=
  .next (s.pwrokLow)

/-- RESET_N_LOW (R471): RESET_N low resets every island and register except the THERMTRIP latch. -/
def execResetNLow (s : State) : Host.Outcome State Fault Refusal :=
  .next (s.resetLow)

/-- PACKAGE_RESET_EXIT (R472): The package leaves reset at t0, samples straps and starts boot at POR. -/
def execPackageResetExit (slot : Fin 64) (tbm test : Bool) (s : State) : Host.Outcome State Fault Refusal :=
  .next (s.resetExit slot tbm test)

/-- PERST_N_LOW (R473): PERST_N low resets the PCIe endpoint island while serving continues. -/
def execPerstNLow (s : State) : Host.Outcome State Fault Refusal :=
  .next (s.act fun b => b.pinEdge 3 true)

/-- PERST_N_HIGH (R473): PERST_N rising lets the PCIe link train. -/
def execPerstNHigh (s : State) : Host.Outcome State Fault Refusal :=
  .next (s.act fun b => b.pinEdge 3 false)

/-- BOOT_RESET (R471): A write of 0xC0DE to BOOT_RESET resets the package as RESET_N does. -/
def execBootReset (v : BitVec 16) (a : Agent) (s : State) : Host.Outcome State Fault Refusal :=
  .next (s.act fun b => b.fieldWrite pgBoot F.BOOT_RESET.KEY 0 v.toNat a)

/-- POR_DONE (R475): Fuses are sensed and first islands open, starting ROM_LOAD, or the ROM halts on a fuse error. -/
def execPorDone (f : Fuses) (ok : Bool) (s : State) : Host.Outcome State Fault Refusal :=
  .next (s.act fun b => b.porDone f ok)

/-- ROM_LOAD_DONE (R478): The ROM finishes reading and hashing the flash image, retrying or entering RECOVERY on failure. -/
def execRomLoadDone (image : Option (List Byte)) (s : State) : Host.Outcome State Fault Refusal :=
  .next (s.act fun b => b.romLoadDone image)

/-- ROM_VERIFY (R480): The image checks pass to start FW_START or fail toward retry or RECOVERY. -/
def execRomVerify (s : State) : Host.Outcome State Fault Refusal :=
  .next (s.act fun b => b.romVerify)

/-- PUSH_GO (R479): GO in RECOVERY verifies a pushed image and continues boot or stays in RECOVERY. -/
def execPushGo (a : Agent) (s : State) : Host.Outcome State Fault Refusal :=
  .next (s.act fun b => b.fieldWrite pgBoot F.BOOT_PUSH_CMD.GO 0 1 a)

/-- FW_START_DONE (R475): Firmware has loaded its components and training begins. -/
def execFwStartDone (s : State) : Host.Outcome State Fault Refusal :=
  .next (s.act fun b => b.fwStartDone)

/-- MEM_TRAIN_DONE (R475): LPDDR5X training ends and memory initialisation starts. -/
def execMemTrainDone (found : MemTrained) (s : State) : Host.Outcome State Fault Refusal :=
  .next (s.act fun b => (b.memTrainDone found.failed.toNat found.temp.toNat).rest)

/-- FABRIC_TRAINED (R475): Every link has settled and the timebase lock stage begins. -/
def execFabricTrained (s : State) : Host.Outcome State Fault Refusal :=
  .next (s.act fun b => b.fabricTrained)

/-- MEM_INIT_DONE (R220): The zero fill, frame states and tags are written. -/
def execMemInitDone (s : State) : Host.Outcome State Fault Refusal :=
  .next (s.act fun b => b.memInitDone)

/-- BOOT_FINAL (R475): Memory and timebase stages done, firmware writes defaults and the package reports READY. -/
def execBootFinal (s : State) : Host.Outcome State Fault Refusal :=
  .next (s.act fun b => b.bootFinal.rest)

/-- BOOT_LATE (R476): READY not reached by t0 + 4 s reports BOOT_LATE. -/
def execBootLate (s : State) : Host.Outcome State Fault Refusal :=
  .next (s.act fun b => b.bootLate)

/-- REVOKE_BURN (R483): A write of BOOT_REVOKE burns a key revoke fuse or is refused. -/
def execRevokeBurn (mask : BitVec 4) (a : Agent) (s : State) : Host.Outcome State Fault Refusal :=
  .next (s.act fun b => b.fieldWrite pgBoot F.BOOT_REVOKE.REVOKE 0 mask.toNat a)

/-- SVN_BURN (R483): A write of BOOT_SVN burns the SVN fuse up to the value or is refused. -/
def execSvnBurn (v : BitVec 7) (a : Agent) (s : State) : Host.Outcome State Fault Refusal :=
  .next (s.act fun b => b.fieldWrite pgBoot F.BOOT_SVN.SVN_BURN 0 v.toNat a)

/-- UPD_VERIFY (R487): VERIFY freezes the staging frames and starts image checks. -/
def execUpdVerify (a : Agent) (s : State) : Host.Outcome State Fault Refusal :=
  .next (s.act fun b => b.fieldWrite pgBoot F.BOOT_UPD_CMD.VERIFY 0 1 a)

/-- UPD_VERIFY_DONE (R487): The staged image checks end in STAGED or FAILED. -/
def execUpdVerifyDone (s : State) : Host.Outcome State Fault Refusal :=
  .next (s.act fun b => b.updVerifyDone.rest)

/-- UPD_ACTIVATE (R488): ACTIVATE activates the components of ACT_MASK one at a time. -/
def execUpdActivate (mask : BitVec 8) (a : Agent) (s : State) : Host.Outcome State Fault Refusal :=
  .next (s.act fun b => b.writeWord pgBoot 0x088 (2 + 256 * mask.toNat) a)

/-- COMPONENT_COMMITTED (R492): A component has committed on every page, updating versions, DONE_MASK and measurements. -/
def execComponentCommitted (s : State) : Host.Outcome State Fault Refusal :=
  .next (s.act fun b => b.componentCommitted.rest)

/-- ACTIVATE_LIMIT (R490): A component not committed within 10 s ends the activation FAILED with mixed pages. -/
def execActivateLimit (s : State) : Host.Outcome State Fault Refusal :=
  .next (s.act fun b => b.activateLimit.rest)

/-- MGMT_FW_HANDOVER (R491): After announcements are sent the management cores restart on the new firmware bank. -/
def execMgmtFwHandover (s : State) : Host.Outcome State Fault Refusal :=
  .next (s.act fun b => b.handover)

/-- BOOT_ALIVE (R491): A write of BOOT_ALIVE confirms new management firmware. -/
def execBootAlive (v : BitVec 32) (a : Agent) (s : State) : Host.Outcome State Fault Refusal :=
  .next (s.act fun b => b.fieldWrite pgBoot F.BOOT_ALIVE.ALIVE 0 v.toNat a)

/-- ALIVE_TIMEOUT (R491): No BOOT_ALIVE within 100 ms reverts to the old firmware bank. -/
def execAliveTimeout (s : State) : Host.Outcome State Fault Refusal :=
  .next (s.act fun b => b.aliveTimeout.rest)

/-- FLASH_WRITE (R493): FLASH_WRITE erases and writes the last verified image to the tray flash. -/
def execFlashWrite (a : Agent) (s : State) : Host.Outcome State Fault Refusal :=
  .next (s.act fun b => b.fieldWrite pgBoot F.BOOT_UPD_CMD.FLASH_WRITE 0 1 a)

/-- FLASH_WRITE_DONE (R493): The flash write ends and FLASH_OK reflects the read-back check. -/
def execFlashWriteDone (ok : Bool) (s : State) : Host.Outcome State Fault Refusal :=
  .next (s.act fun b => b.flashWriteDone ok)

/-- UPD_ABORT (R487): ABORT stops update work in progress and returns the engine to IDLE. -/
def execUpdAbort (a : Agent) (s : State) : Host.Outcome State Fault Refusal :=
  .next (s.act fun b => b.fieldWrite pgBoot F.BOOT_UPD_CMD.ABORT 0 1 a)

end Sys2Proof.Machine
end

