-- ==== Sys2Proof/Machine/ExecHost.lean ====
section
/-! DEFINITION. Meanings of commands. SPDM, the PCI Express endpoint, the management messages and PLDM (R484 to R486, R498 to R515). -/
namespace Sys2Proof.Machine

/-- GET_VERSION (R485): The SPDM GET_VERSION request returns version 1.2. -/
def execGetVersion (s : State) : Host.Outcome State Fault Refusal :=
  .next (s.act fun b => b.spdmVersion)

/-- GET_CAPABILITIES (R485): The SPDM GET_CAPABILITIES request returns the responder capabilities. -/
def execGetCapabilities (s : State) : Host.Outcome State Fault Refusal :=
  .next (s.act fun b => b.spdmCapabilities)

/-- NEGOTIATE_ALGORITHMS (R485): The SPDM NEGOTIATE_ALGORITHMS request selects RSASSA-3072 and SHA-256. -/
def execNegotiateAlgorithms (meas : BitVec 8) (asym hash : BitVec 32) (s : State) : Host.Outcome State Fault Refusal :=
  .next (s.act fun b => b.spdmAlgorithms meas.toNat asym.toNat hash.toNat)

/-- GET_DIGESTS (R485): The SPDM GET_DIGESTS request returns certificate chain digests. -/
def execGetDigests (s : State) : Host.Outcome State Fault Refusal :=
  .next (s.act fun b => b.spdmDigests)

/-- GET_CERTIFICATE (R484): The SPDM GET_CERTIFICATE request returns the slot 0 chain. -/
def execGetCertificate (slot : BitVec 4) (off len : BitVec 16) (s : State) : Host.Outcome State Fault Refusal :=
  .next (s.act fun b => b.spdmCertificate slot.toNat off.toNat len.toNat)

/-- CHALLENGE (R485): The SPDM CHALLENGE request returns a signed response. -/
def execChallenge (slot : BitVec 4) (nonce : List Byte) (s : State) : Host.Outcome State Fault Refusal :=
  .next (s.act fun b => b.spdmChallenge slot.toNat nonce)

/-- GET_MEASUREMENTS (R486): The SPDM GET_MEASUREMENTS request returns measurement blocks, signed on request. -/
def execGetMeasurements (i : BitVec 8) (signed : Bool) (slot : BitVec 4) (s : State) : Host.Outcome State Fault Refusal :=
  .next (s.act fun b => b.spdmMeasurements i.toNat signed slot.toNat)

/-- BAR2_READ (R504): A BAR2 read reaches rack space through WIN_BASE and returns data or all ones. -/
def execBar2Read (off : BitVec 30) (len : BitVec 12) (s : State) : Host.Outcome State Fault Refusal :=
  .next (s.act fun b => b.bar2Read off.toNat len.toNat)

/-- BAR2_WRITE (R504): A BAR2 write takes leases and writes rack space, or is discarded and counted. -/
def execBar2Write (off : BitVec 30) (bytes : List Byte) (s : State) : Host.Outcome State Fault Refusal :=
  .next (s.act fun b => b.bar2Write off.toNat bytes)

/-- BAR0_BAD_ACCESS (R502): A BAR0 access of a bad size or alignment is refused and counted. -/
def execBar0BadAccess (isRead : Bool) (words : BitVec 10) (s : State) : Host.Outcome State Fault Refusal :=
  .next (s.act fun b => b.badAccess isRead words.toNat)

/-- FENCE_GO (R505): GO in PCI_FENCE runs the fence for BAR2 remote writes. -/
def execFenceGo (a : Agent) (s : State) : Host.Outcome State Fault Refusal :=
  .next (s.act fun b => b.fieldWrite pgPci F.PCI_FENCE.GO 0 1 a)

/-- PCIE_LINK_DOWN (R507): The PCIe link goes down without PERST_N and unaccepted requests are lost. -/
def execPcieLinkDown (s : State) : Host.Outcome State Fault Refusal :=
  .next (s.act fun b => b.pcieDown)

/-- MSIX_PENDING_SEND (R509): When the last withholding condition clears, a pending vector sends one message. -/
def execMsixPendingSend (v : Fin 2048) (en mask master masked : Bool) (s : State) : Host.Outcome State Fault Refusal :=
  .next (s.act fun b => b.msixControl v en mask master masked)

/-- REG_READ (R512): A READ register message returns COUNT words of a page. -/
def execRegRead (p off : BitVec 16) (count : BitVec 8) (s : State) : Host.Outcome State Fault Refusal :=
  .next (s.act fun b => b.regRead p.toNat off.toNat count.toNat)

/-- REG_WRITE (R512): A WRITE register message writes COUNT words of a page. -/
def execRegWrite (p off : BitVec 16) (ws : List (BitVec 32)) (s : State) : Host.Outcome State Fault Refusal :=
  .next (s.act fun b => b.regWrite p.toNat off.toNat (ws.map BitVec.toNat))

/-- SET_ENDPOINT_ID (R511): MCTP Set Endpoint ID assigns the package's endpoint ID. -/
def execSetEndpointId (transport : Fin 2) (eid : BitVec 8) (s : State) : Host.Outcome State Fault Refusal :=
  .next (s.act fun b => b.setEndpointId transport eid.toNat)

/-- ENTDAA (R510): ENTDAA assigns the I3C dynamic address. -/
def execEntdaa (addr : BitVec 7) (s : State) : Host.Outcome State Fault Refusal :=
  .next (s.act fun b => b.entdaa addr.toNat)

/-- SETDASA (R510): SETDASA assigns the dynamic address from the static address. -/
def execSetdasa (static addr : BitVec 7) (s : State) : Host.Outcome State Fault Refusal :=
  .next (s.act fun b => b.setdasa static.toNat addr.toNat)

/-- HOT_JOIN (R510): After reset without a dynamic address the target requests hot-join. -/
def execHotJoin (s : State) : Host.Outcome State Fault Refusal :=
  .next (s.act fun b => b.hotJoin)

/-- GET_TID (R513): PLDM GetTID returns the terminus ID. -/
def execGetTid (s : State) : Host.Outcome State Fault Refusal :=
  .next (s.act fun b => b.getTid)

/-- SET_TID (R513): PLDM SetTID sets the terminus ID. -/
def execSetTid (tid : BitVec 8) (s : State) : Host.Outcome State Fault Refusal :=
  .next (s.act fun b => b.setTid tid.toNat)

/-- GET_PLDM_VERSION (R513): PLDM GetPLDMVersion returns a supported type version. -/
def execGetPldmVersion (type : BitVec 6) (s : State) : Host.Outcome State Fault Refusal :=
  .next (s.act fun b => b.pldmVersion type.toNat)

/-- GET_PLDM_TYPES (R513): PLDM GetPLDMTypes returns the supported types. -/
def execGetPldmTypes (s : State) : Host.Outcome State Fault Refusal :=
  .next (s.act fun b => b.pldmTypes)

/-- GET_PLDM_COMMANDS (R513): PLDM GetPLDMCommands returns the supported commands of a type. -/
def execGetPldmCommands (type : BitVec 6) (s : State) : Host.Outcome State Fault Refusal :=
  .next (s.act fun b => b.pldmCommands type.toNat)

/-- GET_PDR (R513): PLDM GetPDR returns a platform descriptor record. -/
def execGetPdr (handle : BitVec 32) (s : State) : Host.Outcome State Fault Refusal :=
  .next (s.act fun b => b.getPdr handle.toNat)

/-- GET_SENSOR_READING (R513): PLDM GetSensorReading returns a numeric sensor value. -/
def execGetSensorReading (sensor : BitVec 16) (s : State) : Host.Outcome State Fault Refusal :=
  .next (s.act fun b => b.getSensor sensor.toNat)

/-- GET_STATE_SENSOR_READINGS (R513): PLDM GetStateSensorReadings returns state sensor values. -/
def execGetStateSensorReadings (sensor : BitVec 16) (s : State) : Host.Outcome State Fault Refusal :=
  .next (s.act fun b => b.getState sensor.toNat)

/-- EVENT_MESSAGE_SUPPORTED (R513): PLDM EventMessageSupported reports event support. -/
def execEventMessageSupported (s : State) : Host.Outcome State Fault Refusal :=
  .next (s.act fun b => b.eventSupported)

/-- POLL_FOR_PLATFORM_EVENT (R514): PollForPlatformEventMessage returns queued alarm records and removes acknowledged ones. -/
def execPollForPlatformEvent (ack : Bool) (s : State) : Host.Outcome State Fault Refusal :=
  .next (s.act fun b => b.pollEvent ack)

/-- REQUEST_UPDATE (R515): PLDM RequestUpdate starts a firmware update and sets UPD_LOCK, or is refused. -/
def execRequestUpdate (s : State) : Host.Outcome State Fault Refusal :=
  .next (s.act fun b => b.requestUpdate)

/-- REQUEST_FIRMWARE_DATA (R515): RequestFirmwareData places image data in the staging area. -/
def execRequestFirmwareData (off : BitVec 32) (bytes : List Byte) (s : State) : Host.Outcome State Fault Refusal :=
  .next (s.act fun b => (b.firmwareData off.toNat bytes).rest)

/-- TRANSFER_COMPLETE (R515): TransferComplete issues VERIFY. -/
def execTransferComplete (s : State) : Host.Outcome State Fault Refusal :=
  .next (s.act fun b => b.transferComplete)

/-- VERIFY_COMPLETE (R515): VerifyComplete reports the verify result. -/
def execVerifyComplete (s : State) : Host.Outcome State Fault Refusal :=
  .next (s.act fun b => b.verifyComplete)

/-- ACTIVATE_FIRMWARE (R515): ActivateFirmware issues ACTIVATE for every present component and then FLASH_WRITE. -/
def execActivateFirmware (s : State) : Host.Outcome State Fault Refusal :=
  .next (s.act fun b => b.activateFirmware.rest)

/-- CANCEL_UPDATE (R515): CancelUpdate ends the PLDM update and clears UPD_LOCK. -/
def execCancelUpdate (s : State) : Host.Outcome State Fault Refusal :=
  .next (s.act fun b => b.cancelUpdate.rest)

end Sys2Proof.Machine
end

