-- ==== Sys2Proof/Machine/ExecEther.lean ====
section
/-! DEFINITION. Meanings of commands. Ethernet ports and responder queue pairs, rails, pins, and the rows the table lists last (R507, R516 to R518, R528 to R538). -/
namespace Sys2Proof.Machine

/-- QP_OPEN (R517): ETH_QP_CMD with OP 1 opens a responder queue pair from its table entry. -/
def execQpOpen (i : Fin 1024) (a : Agent) (s : State) : Host.Outcome State Fault Refusal :=
  .next (s.act fun b => b.writeWord 0x008 0x088 (2 ^ 12 + i.val) a)

/-- QP_CLOSE (R517): ETH_QP_CMD with OP 0 closes a responder queue pair. -/
def execQpClose (i : Fin 1024) (a : Agent) (s : State) : Host.Outcome State Fault Refusal :=
  .next (s.act fun b => b.writeWord 0x008 0x088 i a)

/-- RDMA_WRITE (R518): An RDMA WRITE on a responder queue pair is checked, leased and applied in PSN order. -/
def execRdmaWrite (i : Fin 1024) (psn : BitVec 24) (rkey : BitVec 32) (va : BitVec 64) (bytes : List Byte) (s : State) : Host.Outcome State Fault Refusal :=
  .next (s.act fun b => (b.rdmaWrite i psn.toNat rkey.toNat va.toNat bytes).rest)

/-- RDMA_READ (R518): An RDMA READ on a responder queue pair returns data including earlier writes. -/
def execRdmaRead (i : Fin 1024) (psn : BitVec 24) (rkey : BitVec 32) (va : BitVec 64) (len : BitVec 32) (s : State) : Host.Outcome State Fault Refusal :=
  .next (s.act fun b => (b.rdmaRead i psn.toNat rkey.toNat va.toNat len.toNat).rest)

/-- ARP_REQUEST (R516): An ARP request for a port's IPv4 address is answered. -/
def execArpRequest (port : Fin 2) (ip : BitVec 32) (s : State) : Host.Outcome State Fault Refusal :=
  .next (s.act fun b => b.arp port ip.toNat)

/-- NEIGHBOR_SOLICIT (R516): An IPv6 neighbour solicitation for a port's address is answered. -/
def execNeighborSolicit (port : Fin 2) (ip : BitVec 128) (s : State) : Host.Outcome State Fault Refusal :=
  .next (s.act fun b => b.neighbor port ip.toNat)

/-- ETH_LINK_DOWN (R516): An Ethernet port link goes down and its queue pairs enter the error state. -/
def execEthLinkDown (port : Fin 2) (s : State) : Host.Outcome State Fault Refusal :=
  .next (s.act fun b => b.ethDown port)

/-- RAIL_UV (R528): A rail below UV_PCT for UV_TIME raises RAIL_FAULT and latches the safe state. -/
def execRailUv (r : Fin 12) (s : State) : Host.Outcome State Fault Refusal :=
  .next (s.act fun b => (b.railUv r).rest)

/-- SB_CHATTER (R535): An input exceeding 20 edges in 1 ms is treated as asserted and reports chatter. -/
def execSbChatter (i : Fin 4) (s : State) : Host.Outcome State Fault Refusal :=
  .next (s.act fun b => b.chatterBurst i)

/-- CHATTER_CLEAR (R535): 1 ms after the last accepted edge with the level deasserted CHATTER clears. -/
def execChatterClear (i : Fin 4) (s : State) : Host.Outcome State Fault Refusal :=
  .next (s.act fun b => b.chatterClear i)

/-- SB_STUCK (R536): An input treated as asserted for 100 ms sets STUCK and reports SIDEBAND_STUCK. -/
def execSbStuck (i : Fin 4) (s : State) : Host.Outcome State Fault Refusal :=
  .next (s.act fun b => b.pinStuck i)

/-- OUT_STUCK (R537): THERMTRIP_N or FAULT_N reading low undriven for 100 ms sets OUT_STUCK. -/
def execOutStuck (j : Fin 2) (s : State) : Host.Outcome State Fault Refusal :=
  .next (s.act fun b => b.outStuck j)

/-- ILLEGAL_INSN (R98): An instruction with CLASS 0x6–0xF, an unlisted OP or a nonzero reserved bit raises ILLEGAL_INSN and stops the
sequencer. The command acts where the word at the program counter decodes to no instruction, as the tile takes any other tile
command only where that word spells it (log entry 18). Log entry 18 (DESIGN CHOICE, safe). -/
def execIllegalInsn (t : Fin 288) (s : State) : Host.Outcome State Fault Refusal :=
  .next (s.act fun b => b.issue t none fun b => b.illegal t)

/-- BAD_PACKET (R349): A fabric packet of an unlisted type is discarded and counted in BAD_PKT_CNT. -/
def execBadPacket (q : Fin 36) (p : Packet) (s : State) : Host.Outcome State Fault Refusal :=
  .next (s.act fun b => b.badPacket q p)

/-- ETH_LINK_UP (R516): An Ethernet port completes auto-negotiation and training and raises LINK_UP_EV. -/
def execEthLinkUp (port : Fin 2) (s : State) : Host.Outcome State Fault Refusal :=
  .next (s.act fun b => b.ethUp port)

/-- PCIE_LINK_UP (R507): The PCIe link finishes training after PERST_N or after a link-down and reports its speed and width. -/
def execPcieLinkUp (speed : BitVec 4) (width : BitVec 6) (s : State) : Host.Outcome State Fault Refusal :=
  .next (s.act fun b => b.pcieUp speed.toNat width.toNat)

/-- I3C_BUS_ERROR (R538): SCL or SDA held low for more than 100 ms, or a bus error, reports I3C_BUS_ERROR and loses the management path. -/
def execI3cBusError (s : State) : Host.Outcome State Fault Refusal :=
  .next (s.act fun b => b.i3cError)

/-- REF_OK (R156): The TB_REF input returns to within 25 MHz ± 100 ppm and REF_OK sets again. -/
def execRefOk (s : State) : Host.Outcome State Fault Refusal :=
  .next (s.act fun b => b.refOk)

/-- AVS_RESEND (R530): An AVSBus frame with a failed CRC or no response within 1 µs is resent, up to 3 times, and counted. -/
def execAvsResend (lost : Bool) (s : State) : Host.Outcome State Fault Refusal :=
  .next (s.act fun b => b.avsResend lost)

/-- KEEP_ALIVE (R377): The WLD sends an NVMe Keep Alive to each connected target before its KATO runs out. -/
def execKeepAlive (target : Fin 256) (s : State) : Host.Outcome State Fault Refusal :=
  .next (s.act fun b => b.keepAlive target)

/-- RATE_RECOVER (R404): Every RATE_RECOVER µs after a CNP cut, a queue pair's send rate recovers by 1/16 of the cut. -/
def execRateRecover (q : Fin 256) (s : State) : Host.Outcome State Fault Refusal :=
  .next (s.act fun b => b.rateRecover q)

/-- ACK_COALESCE_EXPIRE (R364): ACK_COALESCE runs out at a destination and it sends a WR_ACK for the writes of a path accepted so far. -/
def execAckCoalesceExpire (path : Nat) (s : State) : Host.Outcome State Fault Refusal :=
  .next (s.act fun b => b.ackExpire path)

/-- COMPONENT_LOADED (R488): The update engine finishes loading a component into a quiesced page and writes RESUME for that page. -/
def execComponentLoaded (p : Fin 4096) (s : State) : Host.Outcome State Fault Refusal :=
  .next (s.act fun b => (b.componentLoaded p).rest)

/-- ETH_DISCARD (R516): An Ethernet frame of an unsupported protocol, such as ICMP, is discarded and counted in DISCARD_CNT. -/
def execEthDiscard (port : Fin 2) (s : State) : Host.Outcome State Fault Refusal :=
  .next (s.act fun b => b.ethDiscard port)

end Sys2Proof.Machine
end

