-- ==== Sys2Proof/Machine/Dispatch.lean ====
section
/-! DEFINITION. One arm per command: its meaning. -/
namespace Sys2Proof.Machine

def exec (i : Instr) (s : State) : Host.Outcome State Fault Refusal :=
  match i with
  | .registerWrite p w v a => Sys2Proof.Machine.execRegisterWrite p w v a s
  | .keyWrite p v a => Sys2Proof.Machine.execKeyWrite p v a s
  | .enableSet p a => Sys2Proof.Machine.execEnableSet p a s
  | .enableClear p a => Sys2Proof.Machine.execEnableClear p a s
  | .quiesce p a => Sys2Proof.Machine.execQuiesce p a s
  | .resume p a => Sys2Proof.Machine.execResume p a s
  | .expertSet p a => Sys2Proof.Machine.execExpertSet p a s
  | .expertClear p a => Sys2Proof.Machine.execExpertClear p a s
  | .isrClear p v a => Sys2Proof.Machine.execIsrClear p v a s
  | .quiesceDrained p => Sys2Proof.Machine.execQuiesceDrained p s
  | .quiesceTimeout p => Sys2Proof.Machine.execQuiesceTimeout p s
  | .idleCommit p => Sys2Proof.Machine.execIdleCommit p s
  | .islandHung writer full => Sys2Proof.Machine.execIslandHung writer full s
  | .stepStartTick k toks => Sys2Proof.Machine.execStepStartTick k toks s
  | .idlePoll k => Sys2Proof.Machine.execIdlePoll k s
  | .deliver k toks => Sys2Proof.Machine.execDeliver k toks s
  | .add t sd sa sb => Sys2Proof.Machine.execAdd t sd sa sb s
  | .sub t sd sa sb => Sys2Proof.Machine.execSub t sd sa sb s
  | .andW t sd sa sb => Sys2Proof.Machine.execAndW t sd sa sb s
  | .orW t sd sa sb => Sys2Proof.Machine.execOrW t sd sa sb s
  | .xorW t sd sa sb => Sys2Proof.Machine.execXorW t sd sa sb s
  | .shl t sd sa sb => Sys2Proof.Machine.execShl t sd sa sb s
  | .shr t sd sa sb => Sys2Proof.Machine.execShr t sd sa sb s
  | .sra t sd sa sb => Sys2Proof.Machine.execSra t sd sa sb s
  | .mul t sd sa sb => Sys2Proof.Machine.execMul t sd sa sb s
  | .slt t sd sa sb => Sys2Proof.Machine.execSlt t sd sa sb s
  | .sltu t sd sa sb => Sys2Proof.Machine.execSltu t sd sa sb s
  | .min t sd sa sb => Sys2Proof.Machine.execMin t sd sa sb s
  | .max t sd sa sb => Sys2Proof.Machine.execMax t sd sa sb s
  | .addi t sd sa imm => Sys2Proof.Machine.execAddi t sd sa imm s
  | .andi t sd sa imm => Sys2Proof.Machine.execAndi t sd sa imm s
  | .ori t sd sa imm => Sys2Proof.Machine.execOri t sd sa imm s
  | .xori t sd sa imm => Sys2Proof.Machine.execXori t sd sa imm s
  | .shli t sd sa imm => Sys2Proof.Machine.execShli t sd sa imm s
  | .shri t sd sa imm => Sys2Proof.Machine.execShri t sd sa imm s
  | .srai t sd sa imm => Sys2Proof.Machine.execSrai t sd sa imm s
  | .lui t sd sa imm => Sys2Proof.Machine.execLui t sd sa imm s
  | .ld t sd sa imm => Sys2Proof.Machine.execLd t sd sa imm s
  | .st t sa sb imm => Sys2Proof.Machine.execSt t sa sb imm s
  | .lw t sd sa imm => Sys2Proof.Machine.execLw t sd sa imm s
  | .sw t sa sb imm => Sys2Proof.Machine.execSw t sa sb imm s
  | .beq t sa sb imm => Sys2Proof.Machine.execBeq t sa sb imm s
  | .bne t sa sb imm => Sys2Proof.Machine.execBne t sa sb imm s
  | .blt t sa sb imm => Sys2Proof.Machine.execBlt t sa sb imm s
  | .bge t sa sb imm => Sys2Proof.Machine.execBge t sa sb imm s
  | .jal t sd imm => Sys2Proof.Machine.execJal t sd imm s
  | .jr t sa => Sys2Proof.Machine.execJr t sa s
  | .csrr t sd w => Sys2Proof.Machine.execCsrr t sd w s
  | .mlw t sa fmt buf off => Sys2Proof.Machine.execMlw t sa fmt buf off s
  | .mma t sa sm fmt acc start buf off => Sys2Proof.Machine.execMma t sa sm fmt acc start buf off s
  | .mzp t sa sz opnd rowwise off => Sys2Proof.Machine.execMzp t sa sz opnd rowwise off s
  | .mspill t sa acc off => Sys2Proof.Machine.execMspill t sa acc off s
  | .mfill t sa acc off => Sys2Proof.Machine.execMfill t sa acc off s
  | .mzero t acc => Sys2Proof.Machine.execMzero t acc s
  | .vadd t vd va vb bs sb => Sys2Proof.Machine.execVadd t vd va vb bs sb s
  | .vsub t vd va vb bs sb => Sys2Proof.Machine.execVsub t vd va vb bs sb s
  | .vmul t vd va vb bs sb => Sys2Proof.Machine.execVmul t vd va vb bs sb s
  | .vfma t vd va vb vc bs sb => Sys2Proof.Machine.execVfma t vd va vb vc bs sb s
  | .vmax t vd va vb bs sb => Sys2Proof.Machine.execVmax t vd va vb bs sb s
  | .vmin t vd va vb bs sb => Sys2Proof.Machine.execVmin t vd va vb bs sb s
  | .vabs t vd va => Sys2Proof.Machine.execVabs t vd va s
  | .vneg t vd va => Sys2Proof.Machine.execVneg t vd va s
  | .vcmplt t vd va vb bs sb => Sys2Proof.Machine.execVcmplt t vd va vb bs sb s
  | .vcmpeq t vd va vb bs sb => Sys2Proof.Machine.execVcmpeq t vd va vb bs sb s
  | .vsel t vd va vb vc bs sb => Sys2Proof.Machine.execVsel t vd va vb vc bs sb s
  | .vmov t vd va => Sys2Proof.Machine.execVmov t vd va s
  | .vrsum t vd va => Sys2Proof.Machine.execVrsum t vd va s
  | .vrmax t vd va => Sys2Proof.Machine.execVrmax t vd va s
  | .viota t vd => Sys2Proof.Machine.execViota t vd s
  | .vbcast t vd sb => Sys2Proof.Machine.execVbcast t vd sb s
  | .vfn t vd va fn => Sys2Proof.Machine.execVfn t vd va fn s
  | .vld t vd sa fmt j => Sys2Proof.Machine.execVld t vd sa fmt j s
  | .vst t vd sa fmt rnd sat j => Sys2Proof.Machine.execVst t vd sa fmt rnd sat j s
  | .vlda t vd acc j => Sys2Proof.Machine.execVlda t vd acc j s
  | .vsta t vd acc j => Sys2Proof.Machine.execVsta t vd acc j s
  | .vldl t vd sa imm => Sys2Proof.Machine.execVldl t vd sa imm s
  | .vstl t vd sa imm => Sys2Proof.Machine.execVstl t vd sa imm s
  | .vsrctx t sa sb => Sys2Proof.Machine.execVsrctx t sa sb s
  | .vext t sd va x => Sys2Proof.Machine.execVext t sd va x s
  | .xtopk t sd sa => Sys2Proof.Machine.execXtopk t sd sa s
  | .xsort t sd sa => Sys2Proof.Machine.execXsort t sd sa s
  | .xsample t sd sa => Sys2Proof.Machine.execXsample t sd sa s
  | .xphilox t sd sa => Sys2Proof.Machine.execXphilox t sd sa s
  | .drd t sa sb sl tag off => Sys2Proof.Machine.execDrd t sa sb sl tag off s
  | .dwr t sa sb sl tag off => Sys2Proof.Machine.execDwr t sa sb sl tag off s
  | .dgather t sa sb sl tag off => Sys2Proof.Machine.execDgather t sa sb sl tag off s
  | .dscatter t sa sb sl tag off => Sys2Proof.Machine.execDscatter t sa sb sl tag off s
  | .dwalk t sa sb sl tag off => Sys2Proof.Machine.execDwalk t sa sb sl tag off s
  | .dten t sa => Sys2Proof.Machine.execDten t sa s
  | .transferDone t tag => Sys2Proof.Machine.execTransferDone t tag s
  | .ufence t imm => Sys2Proof.Machine.execUfence t imm s
  | .waitt t sd imm => Sys2Proof.Machine.execWaitt t sd imm s
  | .bara t sa imm => Sys2Proof.Machine.execBara t sa imm s
  | .barw t sd sa imm => Sys2Proof.Machine.execBarw t sd sa imm s
  | .ffence t sd => Sys2Proof.Machine.execFfence t sd s
  | .endP t => Sys2Proof.Machine.execEndP t s
  | .scwait t sa imm => Sys2Proof.Machine.execScwait t sa imm s
  | .scpush t sd sa imm answer => Sys2Proof.Machine.execScpush t sd sa imm answer s
  | .sccnt t sd => Sys2Proof.Machine.execSccnt t sd s
  | .scoreEntryAccept x e => Sys2Proof.Machine.execScoreEntryAccept x e s
  | .scoreOverflow x => Sys2Proof.Machine.execScoreOverflow x s
  | .scoreFire x => Sys2Proof.Machine.execScoreFire x s
  | .progStart t => Sys2Proof.Machine.execProgStart t s
  | .idleWin t => Sys2Proof.Machine.execIdleWin t s
  | .xfer t => Sys2Proof.Machine.execXfer t s
  | .arrive x => Sys2Proof.Machine.execArrive x s
  | .segSend q toks => Sys2Proof.Machine.execSegSend q toks s
  | .segExpect q => Sys2Proof.Machine.execSegExpect q s
  | .proof k => Sys2Proof.Machine.execProof k s
  | .kvpf k => Sys2Proof.Machine.execKvpf k s
  | .riseStep t => Sys2Proof.Machine.execRiseStep t s
  | .tileRetire t => Sys2Proof.Machine.execTileRetire t s
  | .retireReq t a => Sys2Proof.Machine.execRetireReq t a s
  | .perfClear t a => Sys2Proof.Machine.execPerfClear t a s
  | .knockStart t => Sys2Proof.Machine.execKnockStart t s
  | .knockComplete t pass => Sys2Proof.Machine.execKnockComplete t pass s
  | .knockOverdue t => Sys2Proof.Machine.execKnockOverdue t s
  | .timeWord => Sys2Proof.Machine.execTimeWord s
  | .nowLoRead a => Sys2Proof.Machine.execNowLoRead a s
  | .tsSend n => Sys2Proof.Machine.execTsSend n s
  | .tsSet n set frac => Sys2Proof.Machine.execTsSet n set frac s
  | .election => Sys2Proof.Machine.execElection s
  | .masterLoss => Sys2Proof.Machine.execMasterLoss s
  | .holdoverTimeout => Sys2Proof.Machine.execHoldoverTimeout s
  | .ppsEdge => Sys2Proof.Machine.execPpsEdge s
  | .ppsMiss => Sys2Proof.Machine.execPpsMiss s
  | .refLoss => Sys2Proof.Machine.execRefLoss s
  | .announceNextStart k => Sys2Proof.Machine.execAnnounceNextStart k s
  | .stepAnnounce h k bakeNo start => Sys2Proof.Machine.execStepAnnounce h k bakeNo start s
  | .barDone h k tag id failed => Sys2Proof.Machine.execBarDone h k tag id failed s
  | .barRelease k id => Sys2Proof.Machine.execBarRelease k id s
  | .barTimeout k id => Sys2Proof.Machine.execBarTimeout k id s
  | .planPush k => Sys2Proof.Machine.execPlanPush k s
  | .voteSend k layer => Sys2Proof.Machine.execVoteSend k layer s
  | .vote h k bakeNo layer rounds => Sys2Proof.Machine.execVote h k bakeNo layer rounds s
  | .voteClose k layer => Sys2Proof.Machine.execVoteClose k layer s
  | .shiftCmd x => Sys2Proof.Machine.execShiftCmd x s
  | .leaseRetry id => Sys2Proof.Machine.execLeaseRetry id s
  | .freezeDoorbell priv bytes => Sys2Proof.Machine.execFreezeDoorbell priv bytes s
  | .freezeNop => Sys2Proof.Machine.execFreezeNop s
  | .freezeOp => Sys2Proof.Machine.execFreezeOp s
  | .thawOp => Sys2Proof.Machine.execThawOp s
  | .freezeDrained run => Sys2Proof.Machine.execFreezeDrained run s
  | .thawAck ack => Sys2Proof.Machine.execThawAck ack s
  | .freezeSlow run => Sys2Proof.Machine.execFreezeSlow run s
  | .sliceFill slice => Sys2Proof.Machine.execSliceFill slice s
  | .slcUnpin slice mask a => Sys2Proof.Machine.execSlcUnpin slice mask a s
  | .starve p arb => Sys2Proof.Machine.execStarve p arb s
  | .scrub off bad => Sys2Proof.Machine.execScrub off bad s
  | .memRetrainReq k mask a => Sys2Proof.Machine.execMemRetrainReq k mask a s
  | .retrainStart g => Sys2Proof.Machine.execRetrainStart g s
  | .retrainDone g ok => Sys2Proof.Machine.execRetrainDone g ok s
  | .chRetireReq k mask a => Sys2Proof.Machine.execChRetireReq k mask a s
  | .groupRetire g => Sys2Proof.Machine.execGroupRetire g s
  | .poolInitDone pool => Sys2Proof.Machine.execPoolInitDone pool s
  | .pageThawDone pool page => Sys2Proof.Machine.execPageThawDone pool page s
  | .kvFreezeDone seq x page => Sys2Proof.Machine.execKvFreezeDone seq x page s
  | .pfxClear k a => Sys2Proof.Machine.execPfxClear k a s
  | .arm k v a => Sys2Proof.Machine.execArm k v a s
  | .plcCheckDone k => Sys2Proof.Machine.execPlcCheckDone k s
  | .moePlan k layer => Sys2Proof.Machine.execMoePlan k layer s
  | .tenUpd k tenant a => Sys2Proof.Machine.execTenUpd k tenant a s
  | .drained k => Sys2Proof.Machine.execDrained k s
  | .bbCheck k x a => Sys2Proof.Machine.execBbCheck k x a s
  | .bbCheckDone x => Sys2Proof.Machine.execBbCheckDone x s
  | .promote k x a => Sys2Proof.Machine.execPromote k x a s
  | .promoteDone x => Sys2Proof.Machine.execPromoteDone x s
  | .demote k x a => Sys2Proof.Machine.execDemote k x a s
  | .demoteDone x => Sys2Proof.Machine.execDemoteDone x s
  | .bbFree k x a => Sys2Proof.Machine.execBbFree k x a s
  | .freeDone x => Sys2Proof.Machine.execFreeDone x s
  | .draftReq h seq tenant model pool lused len => Sys2Proof.Machine.execDraftReq h seq tenant model pool lused len s
  | .laneSignalDetect n => Sys2Proof.Machine.execLaneSignalDetect n s
  | .detectTimeout n => Sys2Proof.Machine.execDetectTimeout n s
  | .trainDone n lanes pol => Sys2Proof.Machine.execTrainDone n lanes pol s
  | .alignLock n => Sys2Proof.Machine.execAlignLock n s
  | .identSet n rx => Sys2Proof.Machine.execIdentSet n rx s
  | .identDone n asym => Sys2Proof.Machine.execIdentDone n asym s
  | .laneRetire n lane => Sys2Proof.Machine.execLaneRetire n lane s
  | .narrowSet n mask => Sys2Proof.Machine.execNarrowSet n mask s
  | .linkLoss n => Sys2Proof.Machine.execLinkLoss n s
  | .linkRetrainReq n a => Sys2Proof.Machine.execLinkRetrainReq n a s
  | .downRetry n => Sys2Proof.Machine.execDownRetry n s
  | .flitRx n kind fseq fec crcOk => Sys2Proof.Machine.execFlitRx n kind fseq fec crcOk s
  | .linkUnit n u nak => Sys2Proof.Machine.execLinkUnit n u nak s
  | .linkUnitSend n => Sys2Proof.Machine.execLinkUnitSend n s
  | .replayExhaust n => Sys2Proof.Machine.execReplayExhaust n s
  | .rdReq q p => Sys2Proof.Machine.execRdReq q p s
  | .rdCpl q p cacheable => Sys2Proof.Machine.execRdCpl q p cacheable s
  | .wr q p => Sys2Proof.Machine.execWr q p s
  | .wrAck q p => Sys2Proof.Machine.execWrAck q p s
  | .atomAdd src => Sys2Proof.Machine.execAtomAdd src s
  | .atomAnd src => Sys2Proof.Machine.execAtomAnd src s
  | .atomOr src => Sys2Proof.Machine.execAtomOr src s
  | .atomXor src => Sys2Proof.Machine.execAtomXor src s
  | .atomSwap src => Sys2Proof.Machine.execAtomSwap src s
  | .atomCas src => Sys2Proof.Machine.execAtomCas src s
  | .atomMaxu src => Sys2Proof.Machine.execAtomMaxu src s
  | .atomMinu src => Sys2Proof.Machine.execAtomMinu src s
  | .atomMaxs src => Sys2Proof.Machine.execAtomMaxs src s
  | .atomMins src => Sys2Proof.Machine.execAtomMins src s
  | .atomCpl q p => Sys2Proof.Machine.execAtomCpl q p s
  | .leaseReq q p => Sys2Proof.Machine.execLeaseReq q p s
  | .leaseRsp q p => Sys2Proof.Machine.execLeaseRsp q p s
  | .leaseRel q p => Sys2Proof.Machine.execLeaseRel q p s
  | .pflush q p => Sys2Proof.Machine.execPflush q p s
  | .pflushEcho q p => Sys2Proof.Machine.execPflushEcho q p s
  | .seg q p => Sys2Proof.Machine.execSeg q p s
  | .segAck q p => Sys2Proof.Machine.execSegAck q p s
  | .segResend q => Sys2Proof.Machine.execSegResend q s
  | .linkState h widths safe => Sys2Proof.Machine.execLinkState h widths safe s
  | .linkStateSend => Sys2Proof.Machine.execLinkStateSend s
  | .routeRefill d => Sys2Proof.Machine.execRouteRefill d s
  | .pathDead d rslot gen => Sys2Proof.Machine.execPathDead d rslot gen s
  | .unreachable d => Sys2Proof.Machine.execUnreachable d s
  | .fabKeyWrite v a => Sys2Proof.Machine.execFabKeyWrite v a s
  | .tagGo a => Sys2Proof.Machine.execTagGo a s
  | .tagDone => Sys2Proof.Machine.execTagDone s
  | .loadStart ld a => Sys2Proof.Machine.execLoadStart ld a s
  | .loadCheckDone ld => Sys2Proof.Machine.execLoadCheckDone ld s
  | .loadAbort ld a => Sys2Proof.Machine.execLoadAbort ld a s
  | .nvmeReadCpl ld shard off ok bytes => Sys2Proof.Machine.execNvmeReadCpl ld shard off ok bytes s
  | .pieceLanded ld shard => Sys2Proof.Machine.execPieceLanded ld shard s
  | .hashDone ld shard => Sys2Proof.Machine.execHashDone ld shard s
  | .shardFreezeDone ld shard => Sys2Proof.Machine.execShardFreezeDone ld shard s
  | .shardTimeout ld shard => Sys2Proof.Machine.execShardTimeout ld shard s
  | .memberRecord ld m => Sys2Proof.Machine.execMemberRecord ld m s
  | .reportTimeout ld => Sys2Proof.Machine.execReportTimeout ld s
  | .loadFinal ld => Sys2Proof.Machine.execLoadFinal ld s
  | .cnp port q => Sys2Proof.Machine.execCnp port q s
  | .mkeyLock mask a => Sys2Proof.Machine.execMkeyLock mask a s
  | .govPeriod est i0 i1 i2 i3 => Sys2Proof.Machine.execGovPeriod est i0 i1 i2 i3 s
  | .gRiseStep c => Sys2Proof.Machine.execGRiseStep c s
  | .capLoop => Sys2Proof.Machine.execCapLoop s
  | .capWrite v a => Sys2Proof.Machine.execCapWrite v a s
  | .edcTimeout => Sys2Proof.Machine.execEdcTimeout s
  | .powerRecal w => Sys2Proof.Machine.execPowerRecal w s
  | .capStepAssert => Sys2Proof.Machine.execCapStepAssert s
  | .capStepDeassert => Sys2Proof.Machine.execCapStepDeassert s
  | .alertAssert x => Sys2Proof.Machine.execAlertAssert x s
  | .alertDeassert x => Sys2Proof.Machine.execAlertDeassert x s
  | .alertRelease => Sys2Proof.Machine.execAlertRelease s
  | .heartbeat v a => Sys2Proof.Machine.execHeartbeat v a s
  | .orphanTimeout => Sys2Proof.Machine.execOrphanTimeout s
  | .thermalLoop c temp => Sys2Proof.Machine.execThermalLoop c temp s
  | .thermtrip c => Sys2Proof.Machine.execThermtrip c s
  | .droopAssert c => Sys2Proof.Machine.execDroopAssert c s
  | .droopRelease c => Sys2Proof.Machine.execDroopRelease c s
  | .boostEntry => Sys2Proof.Machine.execBoostEntry s
  | .voltSettle => Sys2Proof.Machine.execVoltSettle s
  | .boostExit => Sys2Proof.Machine.execBoostExit s
  | .freqAbort => Sys2Proof.Machine.execFreqAbort s
  | .freqAbortClear => Sys2Proof.Machine.execFreqAbortClear s
  | .avsTimeout => Sys2Proof.Machine.execAvsTimeout s
  | .fixedFreqWrite v a => Sys2Proof.Machine.execFixedFreqWrite v a s
  | .restReq a => Sys2Proof.Machine.execRestReq a s
  | .restEntryDone => Sys2Proof.Machine.execRestEntryDone s
  | .wake a => Sys2Proof.Machine.execWake a s
  | .wakeDone => Sys2Proof.Machine.execWakeDone s
  | .faultReport hw => Sys2Proof.Machine.execFaultReport hw s
  | .parityScrub bad slotOk => Sys2Proof.Machine.execParityScrub bad slotOk s
  | .safeReq a => Sys2Proof.Machine.execSafeReq a s
  | .release a => Sys2Proof.Machine.execRelease a s
  | .quietExpire => Sys2Proof.Machine.execQuietExpire s
  | .unfreeze a => Sys2Proof.Machine.execUnfreeze a s
  | .histClear a => Sys2Proof.Machine.execHistClear a s
  | .sumclrPage p a => Sys2Proof.Machine.execSumclrPage p a s
  | .sumclrAll a => Sys2Proof.Machine.execSumclrAll a s
  | .injectGo a => Sys2Proof.Machine.execInjectGo a s
  | .telPoll => Sys2Proof.Machine.execTelPoll s
  | .stormClear => Sys2Proof.Machine.execStormClear s
  | .pwrokLow => Sys2Proof.Machine.execPwrokLow s
  | .resetNLow => Sys2Proof.Machine.execResetNLow s
  | .packageResetExit slot tbm test => Sys2Proof.Machine.execPackageResetExit slot tbm test s
  | .perstNLow => Sys2Proof.Machine.execPerstNLow s
  | .perstNHigh => Sys2Proof.Machine.execPerstNHigh s
  | .bootReset v a => Sys2Proof.Machine.execBootReset v a s
  | .porDone f ok => Sys2Proof.Machine.execPorDone f ok s
  | .romLoadDone image => Sys2Proof.Machine.execRomLoadDone image s
  | .romVerify => Sys2Proof.Machine.execRomVerify s
  | .pushGo a => Sys2Proof.Machine.execPushGo a s
  | .fwStartDone => Sys2Proof.Machine.execFwStartDone s
  | .memTrainDone found => Sys2Proof.Machine.execMemTrainDone found s
  | .fabricTrained => Sys2Proof.Machine.execFabricTrained s
  | .memInitDone => Sys2Proof.Machine.execMemInitDone s
  | .bootFinal => Sys2Proof.Machine.execBootFinal s
  | .bootLate => Sys2Proof.Machine.execBootLate s
  | .revokeBurn mask a => Sys2Proof.Machine.execRevokeBurn mask a s
  | .svnBurn v a => Sys2Proof.Machine.execSvnBurn v a s
  | .updVerify a => Sys2Proof.Machine.execUpdVerify a s
  | .updVerifyDone => Sys2Proof.Machine.execUpdVerifyDone s
  | .updActivate mask a => Sys2Proof.Machine.execUpdActivate mask a s
  | .componentCommitted => Sys2Proof.Machine.execComponentCommitted s
  | .activateLimit => Sys2Proof.Machine.execActivateLimit s
  | .mgmtFwHandover => Sys2Proof.Machine.execMgmtFwHandover s
  | .bootAlive v a => Sys2Proof.Machine.execBootAlive v a s
  | .aliveTimeout => Sys2Proof.Machine.execAliveTimeout s
  | .flashWrite a => Sys2Proof.Machine.execFlashWrite a s
  | .flashWriteDone ok => Sys2Proof.Machine.execFlashWriteDone ok s
  | .updAbort a => Sys2Proof.Machine.execUpdAbort a s
  | .getVersion => Sys2Proof.Machine.execGetVersion s
  | .getCapabilities => Sys2Proof.Machine.execGetCapabilities s
  | .negotiateAlgorithms meas asym hash => Sys2Proof.Machine.execNegotiateAlgorithms meas asym hash s
  | .getDigests => Sys2Proof.Machine.execGetDigests s
  | .getCertificate slot off len => Sys2Proof.Machine.execGetCertificate slot off len s
  | .challenge slot nonce => Sys2Proof.Machine.execChallenge slot nonce s
  | .getMeasurements x signed slot => Sys2Proof.Machine.execGetMeasurements x signed slot s
  | .bar2Read off len => Sys2Proof.Machine.execBar2Read off len s
  | .bar2Write off bytes => Sys2Proof.Machine.execBar2Write off bytes s
  | .bar0BadAccess isRead words => Sys2Proof.Machine.execBar0BadAccess isRead words s
  | .fenceGo a => Sys2Proof.Machine.execFenceGo a s
  | .pcieLinkDown => Sys2Proof.Machine.execPcieLinkDown s
  | .msixPendingSend v en mask master masked => Sys2Proof.Machine.execMsixPendingSend v en mask master masked s
  | .regRead p off count => Sys2Proof.Machine.execRegRead p off count s
  | .regWrite p off ws => Sys2Proof.Machine.execRegWrite p off ws s
  | .setEndpointId transport eid => Sys2Proof.Machine.execSetEndpointId transport eid s
  | .entdaa addr => Sys2Proof.Machine.execEntdaa addr s
  | .setdasa static addr => Sys2Proof.Machine.execSetdasa static addr s
  | .hotJoin => Sys2Proof.Machine.execHotJoin s
  | .getTid => Sys2Proof.Machine.execGetTid s
  | .setTid tid => Sys2Proof.Machine.execSetTid tid s
  | .getPldmVersion type => Sys2Proof.Machine.execGetPldmVersion type s
  | .getPldmTypes => Sys2Proof.Machine.execGetPldmTypes s
  | .getPldmCommands type => Sys2Proof.Machine.execGetPldmCommands type s
  | .getPdr handle => Sys2Proof.Machine.execGetPdr handle s
  | .getSensorReading sensor => Sys2Proof.Machine.execGetSensorReading sensor s
  | .getStateSensorReadings sensor => Sys2Proof.Machine.execGetStateSensorReadings sensor s
  | .eventMessageSupported => Sys2Proof.Machine.execEventMessageSupported s
  | .pollForPlatformEvent ack => Sys2Proof.Machine.execPollForPlatformEvent ack s
  | .requestUpdate => Sys2Proof.Machine.execRequestUpdate s
  | .requestFirmwareData off bytes => Sys2Proof.Machine.execRequestFirmwareData off bytes s
  | .transferComplete => Sys2Proof.Machine.execTransferComplete s
  | .verifyComplete => Sys2Proof.Machine.execVerifyComplete s
  | .activateFirmware => Sys2Proof.Machine.execActivateFirmware s
  | .cancelUpdate => Sys2Proof.Machine.execCancelUpdate s
  | .qpOpen x a => Sys2Proof.Machine.execQpOpen x a s
  | .qpClose x a => Sys2Proof.Machine.execQpClose x a s
  | .rdmaWrite x psn rkey va bytes => Sys2Proof.Machine.execRdmaWrite x psn rkey va bytes s
  | .rdmaRead x psn rkey va len => Sys2Proof.Machine.execRdmaRead x psn rkey va len s
  | .arpRequest port ip => Sys2Proof.Machine.execArpRequest port ip s
  | .neighborSolicit port ip => Sys2Proof.Machine.execNeighborSolicit port ip s
  | .ethLinkDown port => Sys2Proof.Machine.execEthLinkDown port s
  | .railUv r => Sys2Proof.Machine.execRailUv r s
  | .sbChatter x => Sys2Proof.Machine.execSbChatter x s
  | .chatterClear x => Sys2Proof.Machine.execChatterClear x s
  | .sbStuck x => Sys2Proof.Machine.execSbStuck x s
  | .outStuck j => Sys2Proof.Machine.execOutStuck j s
  | .illegalInsn t => Sys2Proof.Machine.execIllegalInsn t s
  | .badPacket q p => Sys2Proof.Machine.execBadPacket q p s
  | .ethLinkUp port => Sys2Proof.Machine.execEthLinkUp port s
  | .pcieLinkUp speed width => Sys2Proof.Machine.execPcieLinkUp speed width s
  | .i3cBusError => Sys2Proof.Machine.execI3cBusError s
  | .refOk => Sys2Proof.Machine.execRefOk s
  | .avsResend lost => Sys2Proof.Machine.execAvsResend lost s
  | .keepAlive target => Sys2Proof.Machine.execKeepAlive target s
  | .rateRecover q => Sys2Proof.Machine.execRateRecover q s
  | .ackCoalesceExpire path => Sys2Proof.Machine.execAckCoalesceExpire path s
  | .componentLoaded p => Sys2Proof.Machine.execComponentLoaded p s
  | .ethDiscard port => Sys2Proof.Machine.execEthDiscard port s

end Sys2Proof.Machine
end

