-- ==== Sys2Proof/Machine/Step.lean ====
section
/-! DEFINITION. One step: the command at the front of the queue runs; with no command waiting, Hearth time advances one tick. -/
namespace Sys2Proof.Machine

/-- One step of the machine.
Log entry 1 (DESIGN CHOICE, unsafe). -/
def step (s : State) : Host.Outcome State Fault Refusal :=
  match s.pending with
  | [] => .next (s.act Block.tick)
  | c :: cs => exec c { s with pending := cs }

/-- The state with the command that a word spells at the front of its queue.
Log entry 4 (DESIGN CHOICE, unsafe). -/
def State.withFetchWord (s : State) (nbits w : Nat) : State :=
  match decodeTableWord nbits w with
  | some c => { s with pending := c :: s.pending }
  | none => s

end Sys2Proof.Machine
end

