-- ==== Sys2Proof/Machine/Rotation.lean ====
section
/-! DEFINITION. The loop order of a matrix operation and its spill rotation (R131, R141, R142): which steps a pass takes, in which order, where
each output tile lives, and what each step does to the tile.
Log entry 87 (DEDUCED, unsafe). -/
namespace Sys2Proof.Machine

/-- Where an output tile of a column-block group lives: an accumulator tile, or a spill slot in tile SRAM with the accumulator tile that it
passes through. -/
inductive OutPlace where
  | resident (acc : Nat)
  | rotated (slot acc : Nat)
deriving DecidableEq, Repr

/-- The index of output tile (j, rt): the row tiles of one column block have consecutive indices (R141). -/
def outIndex (rts j rt : Nat) : Nat := j * rts + rt

/-- The place of output tile `i` of `n` (R141). -/
def outPlace (spillBase n i : Nat) : OutPlace :=
  if n ≤ 8 ∨ i < 6 then .resident i else .rotated (spillBase * 65536 + (i - 6) * 65536) (if (i - 6) % 2 = 0 then 6 else 7)

/-- A step of the loop (R131, R142): load weight tile (block, chunk); fill an accumulator tile from its slot; stream output tile (j, rt)
through the array; spill an accumulator tile to its slot; drain output tile (j, rt) of a group. -/
inductive LoopStep where
  | mlw (block chunk : Nat)
  | mfill (acc slot : Nat)
  | mma (acc j rt kc : Nat) (start : Bool)
  | mspill (acc slot : Nat)
  | drain (j rt : Nat)
deriving DecidableEq, Repr

/-- One output tile under one weight tile (R142): a rotated one is filled unless START, multiplied and spilled. -/
def outSteps (spillBase ncb rts j rt kc : Nat) (start : Bool) : List LoopStep :=
  match outPlace spillBase (rts * ncb) (outIndex rts j rt) with
  | .resident acc => [.mma acc j rt kc start]
  | .rotated slot acc => (if start then [] else [.mfill acc slot]) ++ [.mma acc j rt kc start, .mspill acc slot]

/-- One weight tile: its load, then every output tile of its column block (R131). -/
def weightSteps (spillBase ncb rts g kcFirst j kc : Nat) : List LoopStep :=
  .mlw (g * ncb + j) kc :: (List.range rts).flatMap (fun rt => outSteps spillBase ncb rts j rt kc (decide (kc = kcFirst)))

/-- One column-block group: chunks ascending, within a chunk the column blocks, and at the end the drain of its output tiles (R131). -/
def groupSteps (spillBase ncb rts kcFirst kcLast g : Nat) : List LoopStep :=
  ((List.range (kcLast + 1 - kcFirst)).map (· + kcFirst)).flatMap (fun kc =>
      (List.range ncb).flatMap (fun j => weightSteps spillBase ncb rts g kcFirst j kc))
    ++ (List.range ncb).flatMap (fun j => (List.range rts).map (LoopStep.drain j))

/-- The steps of a matrix operation over `groups` column-block groups and a contiguous run of chunks (R131). -/
def matrixSteps (spillBase ncb rts kcFirst kcLast groups : Nat) : List LoopStep :=
  (List.range groups).flatMap (groupSteps spillBase ncb rts kcFirst kcLast)

/-- The steps of a pass of a launch: NCB and the K chunks of its descriptor, and the row tiles of its bucket. -/
def Launch.steps (l : Launch) (p : Pass) (spillBase groups : Nat) : List LoopStep :=
  matrixSteps spillBase (odNcb l.raw) (ceilDiv (p.bsel l.raw 0) 128) 0 (odKc l.raw - 1) groups

/-- What the program brings to its steps: the SRAM addresses of weight tiles by block and chunk and of activation tiles by chunk and row tile,
the rows of each row tile, and the formats of both. -/
structure LoopOperands where
  weight : Nat → Nat → Nat
  act : Nat → Nat → Nat
  rows : Nat → Nat
  wFmt : Nat
  aFmt : Nat

/-- An instruction on the tile with addresses in two scalar registers, which it does not write. -/
def Tile.withRegs (x : Tile) (a n : Nat) (f : Tile → TRes) : TRes :=
  match f ((x.setS 30 (BitVec.ofNat 64 a)).setS 31 (BitVec.ofNat 64 n)) with
  | .ok y fl => .ok { y with sregs := x.sregs } fl
  | .fault c => .fault c

/-- What one step does to the tile: the effect of its instruction (R101). A drain reads its output tile and leaves the tile as it is. -/
def LoopStep.act (o : LoopOperands) (x : Tile) : LoopStep → TRes
  | .mlw block chunk => x.withRegs (o.weight block chunk) 0 (Sys2Proof.Machine.mlw 30 o.wFmt false 0)
  | .mfill acc slot => x.withRegs slot 0 (Sys2Proof.Machine.mfill 30 acc 0)
  | .mma acc _ rt kc start => x.withRegs (o.act kc rt) (o.rows rt) (Sys2Proof.Machine.mma 30 31 o.aFmt acc start false 0)
  | .mspill acc slot => x.withRegs slot 0 (Sys2Proof.Machine.mspill 30 acc 0)
  | .drain _ _ => .ok x 0

/-- The steps in order, up to the first fault, with the flags of all. -/
def runSteps (o : LoopOperands) : Tile → List LoopStep → TRes
  | x, [] => .ok x 0
  | x, st :: l => match st.act o x with
    | .fault c => .fault c
    | .ok y fl => match runSteps o y l with
      | .fault c => .fault c
      | .ok z fl' => .ok z (fl ||| fl')

end Sys2Proof.Machine
end

