-- ==== Sys2Proof/Machine/Routing.lean ====
section
/-! DEFINITION. The routing program (R261, R262, R270, R271, R284): gate and selection, the holder of a copy, the sorted copy list and the
histogram, and the combine. The tile microcode runs it with the instructions of a tile; here stands what it computes. -/
namespace Sys2Proof.Machine

/-! ### Gate and top-k (R261, R262) -/

/-- The pairwise tree of R72 over any number of values, cut at half the length; `n` bounds the depth. -/
def treeSumN : Nat → List Nat → Nat
  | 0, l => l.headD 0
  | n + 1, l => if l.length ≤ 1 then l.headD 0 else (fpAdd (treeSumN n (l.take (l.length / 2))) (treeSumN n (l.drop (l.length / 2)))).1

/-- An EMPTY route. -/
def routeEmpty : Nat × Nat := (0xFFFFFFFF, 0xFF800000)

/-- The selection scores x[e] of GATE_FN over the logits `z` of the experts that are `ok`. -/
def gateScores (fn : Nat) (ok : List Bool) (z : List Nat) : List Nat :=
  match fn with
  | 2 => z
  | 3 => z.map (fun c => (vfnLane 8 c).1)
  | _ =>
    let live := ((ok.zip z).filter Prod.fst).map Prod.snd
    let m := live.tail.foldl fpMax (live.headD 0)
    let u := List.zipWith (fun o c => if o then (vfnLane 0 (fpSub c m).1).1 else 0) ok z
    let s := (vfnLane 4 (treeSumN u.length u)).1
    u.map (fun c => (fpMul c s).1)

/-- The combine weights of the selected scores, in rank order. -/
def gateWeights (fn : Nat) (xs : List Nat) : List Nat :=
  let sum (l : List Nat) : Nat := l.tail.foldl (fun a c => (fpAdd a c).1) (l.headD 0)
  match fn with
  | 0 => xs
  | 2 =>
    let v := xs.map (fun c => (vfnLane 0 (fpSub c (xs.headD 0)).1).1)
    let s := (vfnLane 4 (sum v)).1
    v.map (fun c => (fpMul c s).1)
  | _ => if fpEq (sum xs) 0 then xs.map (fun _ => 0) else xs.map (fun c => (fpMul c (vfnLane 4 (sum xs)).1).1)

/-- The K routes of a row in rank order: expert and weight. `open_`: the experts that are available and present; `bias`: the selection
biases, none with BIAS_EN = 0. The bias never enters a weight. -/
def gateRow (fn k : Nat) (bias : Option (List Nat)) (open_ : List Bool) (z : List Nat) : List (Nat × Nat) :=
  let ok := List.zipWith (fun o c => o && !isNaN32 c && !(decide (fn = 2) && decide (c = 0xFF800000))) open_ z
  if !ok.any id then List.replicate k routeEmpty
  else
    let x := gateScores fn ok z
    let key := match bias with
      | some b => List.zipWith (fun c d => (fpAdd c d).1) x b
      | none => x
    let cand := ((List.range z.length).filter (fun e => ok.getD e false && !isNaN32 (key.getD e 0))).map (fun e => (e, key.getD e 0))
    let sel := (topRank k cand).map Prod.fst
    sel.zip (gateWeights fn (sel.map (fun e => x.getD e 0))) ++ List.replicate (k - sel.length) routeEmpty

/-- ROUTE_BASE and BIAS_BASE of a layer record. -/
def lrRoute (r : List Byte) : Nat := field r 0x18 8 % 2 ^ 41
def lrBias (r : List Byte) : Nat := field r 0x68 8 % 2 ^ 41

/-! ### Presence and holders (R268 to R270) -/

/-- The holders of an entry that are present: members whose local slot the layer can hold (R269). -/
def Block.presentHolders (b : Block) (k : Nat) (r : List Byte) (e : Nat) : List (Nat × Nat) :=
  let t := b.plcActive k
  (b.holders (plcEntry t (b.plcStride t) (lrPLC r) e)).filter (fun h => bit (b.bake k).members h.1 && decide (h.2 < lrEloc r))

/-- AVAIL of an entry (R268). -/
def Block.expertAvail (b : Block) (k : Nat) (r : List Byte) (e : Nat) : Bool :=
  let t := b.plcActive k
  bit (b.byteAt (plcEntry t (b.plcStride t) (lrPLC r) e + 0x11)) 0

/-- The token index of a row (R270). -/
def tokenIndex (slot row : Nat) : Nat := slot * 2 ^ 20 + row

/-- The holder that a copy goes to (R270). -/
def chosenHolder (hs : List (Nat × Nat)) (ti : Nat) : Nat × Nat := hs.getD (ti % hs.length) (0, 0)

/-- The routes of a row with the logits `z` under a layer record. -/
def Block.gate (b : Block) (k : Nat) (r : List Byte) (z : List Nat) : List (Nat × Nat) :=
  let bias := if bit (lrGate r) 2 then some ((List.range (lrExperts r)).map (fun e => b.m32 (lrBias r + 4 * e))) else none
  gateRow (lrGate r % 4) (lrK r) bias ((List.range (lrExperts r)).map (fun e => b.expertAvail k r e && !(b.presentHolders k r e).isEmpty)) z

/-- The route records of a row (R262). -/
def Block.putRoutes (b : Block) (r : List Byte) (row : Nat) (routes : List (Nat × Nat)) : Block :=
  (b.privWrite (lrRoute r + row * lrK r * 8) (routes.flatMap (fun x => leBytes 4 x.1 ++ leBytes 4 x.2))).1

/-! ### Sort and histogram (R271) -/

/-- Route j of a row as it lies in memory. -/
def Block.moeRoute (b : Block) (r : List Byte) (row j : Nat) : Nat × Nat :=
  let a := lrRoute r + (row * lrK r + j) * 8
  (b.m32 a, b.m32 (a + 4))

/-- The live copies of `rows` rows in ascending row and rank order: key and payload. -/
def Block.copyRecords (b : Block) (k : Nat) (r : List Byte) (rows : Nat) : List (Nat × Nat) :=
  (List.range rows).flatMap (fun row => (List.range (lrK r)).filterMap (fun j =>
    let e := (b.moeRoute r row j).1
    if e = 0xFFFFFFFF then none
    else
      let h := chosenHolder (b.presentHolders k r e) (tokenIndex b.slotId row)
      some (h.1 * 64 + h.2, row * 16 + j)))

/-- The copies in ascending key order, those of one key in ascending row and rank order, as XSORT leaves them (R110). -/
def sortCopies (l : List (Nat × Nat)) : List (Nat × Nat) := sortBy (fun a c => decide (a.1 ≤ c.1)) l

/-- HIST[d][e] of the sorted copies. -/
def histOf (l : List (Nat × Nat)) (d e : Nat) : Nat := (l.filter (fun c => decide (c.1 = d * 64 + e))).length

/-- The sorted copy list and the histogram of a member. -/
def Block.putCopies (b : Block) (k : Nat) (r : List Byte) (rows : Nat) : Block :=
  let l := sortCopies (b.copyRecords k r rows)
  let b1 := if l.isEmpty then b else (b.privWrite (lrPerm r) (l.flatMap (fun c => leBytes 4 c.2))).1
  (b1.privWrite (lrHist r) ((List.range 64).flatMap (fun d => (List.range (lrEloc r)).flatMap (fun e => leBytes 4 (histOf l d e))))).1

/-! ### The combine (R284) -/

/-- Channel `c` of a row as it travels (R259), in FP32. -/
def rowChannel (fmt kch : Nat) (row : List Byte) (c : Nat) : Nat :=
  let f := Fmt.ofCode (fmt % 16)
  let rd (i : Nat) : Nat := (row.getD i 0).toNat
  let sc := if f.scaled then rd (kch * rowBytes f + c / 32) else 127
  if sc = 255 then nan32 else (toFp32 ((elemNum f 0 (planeElem rd 0 f.width c)).scale ((sc : Int) - 127))).1

/-- One route's contribution to a row, unless the route is EMPTY or its copy was dropped. -/
def combineStep (n : Nat) (acc : List Nat) (x : (Nat × Nat) × Nat × (Nat → Nat)) : List Nat :=
  if x.1.1 = 0xFFFFFFFF ∨ x.2.1 ≠ 0 then acc
  else (List.range n).map (fun c => (fpFma x.1.2 (x.2.2 c) (acc.getD c 0)).1)

/-- The combine of a row over its routes in rank order: each with the status byte of its copy and its returned row. -/
def combineRow (n : Nat) (routes : List ((Nat × Nat) × Nat × (Nat → Nat))) : List Nat := routes.foldl (combineStep n) (List.replicate n 0)

/-- INV: the sorted index of the copy with a payload. -/
def Block.copyIndex (b : Block) (r : List Byte) (copies payload : Nat) : Nat :=
  ((List.range copies).find? (fun q => decide (b.m32 (lrPerm r + 4 * q) = payload))).getD 0

/-- The combined row of a layer, in FP32, from the memory of its home package; `copies` is the length of the copy list. -/
def Block.combine (b : Block) (r : List Byte) (copies row : Nat) : List Nat :=
  combineRow (128 * lrKch r) ((List.range (lrK r)).map (fun j =>
    let q := b.copyIndex r copies (row * 16 + j)
    (b.moeRoute r row j, b.byteAt (lrStat r + q), rowChannel (lrRetFmt r) (lrKch r) (b.rowGet (lrRet r) (lrRetFmt r) (lrKch r) q))))

end Sys2Proof.Machine
end

