-- ==== Sys2Proof/Safety.lean ====
section
/-! DEFINITION. What counts as a safe state, and the conditions and results that the statements name. -/
namespace Sys2Proof.Machine

/-- The byte memory is in its canonical form. -/
abbrev State.memOk (s : State) : Prop := s.blk.mem.wf = true

/-- No reset input holds the package (R471). -/
abbrev State.live (s : State) : Prop := s.held = false

/-- The state with another block: the reset inputs and the queue stand. -/
def State.withBlk (s : State) (b : Block) : State := { s with blk := b }

/-- While a reset input is asserted, the block is as a reset leaves it (R471). -/
abbrev State.heldReset (s : State) : Prop := s.held = true → s.blk = s.blk.reset s.pwrokIsLow

/-- A tile's sequencer runs, waits for nothing, and its pc lies in tile SRAM, so that it issues its next instruction (R93).
Log entry 18 (DESIGN CHOICE, safe). -/
abbrev State.issues (s : State) (t : Nat) : Prop :=
  s.live ∧ (s.blk.tile t).seq = .run ∧ (s.blk.tile t).wait = none ∧ (s.blk.tile t).pc < sramSize

/-- The word at the pc of a tile is that of the command: the instruction that the tile fetches next (R93). -/
abbrev State.nextIs (s : State) (t : Fin 288) (c : Instr) : Prop := s.blk.fetched t = some c

/-- The package with one tile changed, and the pc of that tile at the next instruction. -/
def Block.tileNext (b : Block) (t : Nat) (x : Tile) : Block := b.setTile t { x with pc := x.pc + 8 }

/-- A lane result with its flags: the codes into vector register `vd`, the flags ORed into TIL_NSTAT (R87, R104). -/
def Block.laneNext (b : Block) (t : Nat) (x : Tile) (vd : Nat) (l : List (Nat × Nat)) : Block :=
  (b.tileNext t (x.setV vd (l.map (fun e => BitVec.ofNat 32 e.1)))).orNstat t (l.foldl (fun f e => f ||| e.2) 0)

/-- No transfer that still runs writes into a range of a tile's SRAM (R96). -/
abbrev Block.sramFree (b : Block) (t a n : Nat) : Prop := b.sramBusy t a n = false

/-- No transfer that ended is left to retire, nothing the loader has been told is left to do, and no expectation has missed its COUNT
segments: what holds between commands. -/
abbrev Block.quiet (b : Block) : Prop := b.xfers.find? Xfer.settles = none ∧ b.wldEv = [] ∧ b.missed = []

/-- A register access of an agent reaches a page: the package is out of reset, the page answers (R475), and the host's endpoint is out of
reset (R473). -/
abbrev State.reaches (s : State) (p : Nat) (a : Agent) : Prop :=
  s.live ∧ s.blk.answers p = true ∧ (a = .host → s.blk.pcie.inReset = false)

/-- A control message reaches an open quad, is for this package, not too old (R367), no repeat (R370), and not turned away by the safe state
(R371). -/
abbrev State.hears (s : State) (h : CtrlIn) (kind : Nat) (body : List Byte) : Prop :=
  s.live ∧ s.blk.islandOpen (360 + h.quad) = true ∧ h.dst.val = s.blk.slotId ∧ s.blk.age32 h.injTick ≤ s.blk.maxAge ∧ (s.blk.safe = false ∨ kind = ckLINK_STATE)
    ∧ s.blk.ctrlRepeated h.src kind (body.map BitVec.toNat) = false

/-- The block once the units of a control message are free (R345) and it has noted the message, so as to know a repeat of it (R370). -/
def Block.noted (b : Block) (h : CtrlIn) (kind : Nat) (body : List Byte) : Block :=
  { b.freeUnits h.quad (ctrlPacket h kind body) with ctrlSeen := (h.src.val, kind, body.map BitVec.toNat, b.now) :: b.ctrlSeen.filter (fun c => decide (b.now ≤ c.2.2.2 + b.maxAge)) }

/-- A packet reaches a quad whose crossings are open; it is for this package, and not too old where it carries a request (R41, R367). -/
abbrev State.meant (s : State) (q : Nat) (p : Packet) : Prop :=
  s.live ∧ s.blk.islandOpen (360 + q) = true ∧ p.dst = s.blk.slotId ∧ (isRequest p.type = true → s.blk.age32 p.injTick ≤ s.blk.maxAge)

/-- The other staged fields of a register as a write that leaves them as they read finds them: within their widths and ranges. -/
abbrev Block.standing (b : Block) (p : Nat) (l : List (Field × Nat)) : Prop :=
  ∀ x ∈ l, b.shown p x.1 x.2 < 2 ^ x.1.width ∧ x.1.min ≤ b.shown p x.1 x.2 ∧ b.shown p x.1 x.2 ≤ x.1.max

/-- Those fields written as they read: stored in the pending set where it takes them. -/
def Block.rewritten (b : Block) (p : Nat) (l : List (Field × Nat)) : Block :=
  l.foldl (fun b x => if b.takes p x.1 then b.putPnd p x.1 (b.shown p x.1 x.2) x.2 else b) b

end Sys2Proof.Machine
end

