-- ==== Sys2Proof/Certificates/Slice0/Obligations.lean ====
section
/-! DEFINITION. The statements about the machine, for the provers. -/
open Sys2Proof Sys2Proof.Machine

/-! ### The machine as a whole -/

/-- The command at the front of the queue runs on the state with the queue's rest. -/
def Obligations.StepRunsTheFrontCommand : Prop :=
  ∀ (c : Instr) (cs : List Instr) (s : State), s.pending = c :: cs → step s = exec c { s with pending := cs }

/-- With no command waiting, the package lives one tick of Hearth time further, and a package held in reset stands still (the model's
choice, log entry 1). -/
def Obligations.EmptyQueueAdvancesTime : Prop :=
  ∀ s : State, s.pending = [] →
    (s.live → step s = .next (s.withBlk s.blk.tick)) ∧ (s.held = true → step s = .next s)

/-- Every command answers a next state and leaves the queue alone, and what it does to the rest does not depend on the queue. -/
def Obligations.EveryCommandAnswers : Prop :=
  ∀ (c : Instr) (s : State), ∃ t, exec c s = .next t ∧ t.pending = s.pending ∧
    ∀ q : List Instr, exec c { s with pending := q } = .next { t with pending := q }

/-- A package that PWROK or RESET_N holds in reset takes no command but those two inputs and the exit from reset (R471). -/
def Obligations.HeldPackageTakesNoCommand : Prop :=
  ∀ (c : Instr) (s : State), s.held = true → c ≠ .pwrokLow → c ≠ .resetNLow →
    (∀ slot tbm test, c ≠ .packageResetExit slot tbm test) → exec c s = .next s

/-- From every state in which a held package is as its reset leaves it, every step gives such a state (R471). -/
def Obligations.HeldPackageStaysReset : Prop :=
  ∀ s t : State, s.heldReset → step s = .next t → t.heldReset

/-- The reset state holds nothing to the contrary, and neither does the state right after either reset input falls, whatever went before. -/
def Obligations.ResetInputsReset : Prop :=
  State.reset.heldReset ∧ ∀ s : State,
    (∃ t, exec .pwrokLow s = .next t ∧ t.held = true ∧ t.heldReset ∧ t.blk.mem = ⟨[], []⟩ ∧ t.blk.tiles = [] ∧ t.blk.scores = [] ∧ t.blk.frames = []
        ∧ t.blk.eff pgDev F.DEV_SB_LEVEL.THERMTRIP_OUT = 0) ∧
    (∃ t, exec .resetNLow s = .next t ∧ t.held = true ∧ t.heldReset ∧ t.blk.mem = ⟨[], []⟩ ∧ t.blk.tiles = [] ∧ t.blk.scores = [] ∧ t.blk.frames = []
        ∧ (s.pwrokIsLow = false → s.blk.eff pgDev F.DEV_SB_LEVEL.THERMTRIP_OUT = 1 → t.blk.eff pgDev F.DEV_SB_LEVEL.THERMTRIP_OUT = 1)) ∧
    ∀ slot tbm test, s.held = true ∨ s.blk.now = 0 →
      ∃ t, exec (.packageResetExit slot tbm test) s = .next t ∧ t.live ∧ t.blk.slotId = slot.val ∧ t.blk.tbmEn = tbm ∧ t.blk.testMode = test
        ∧ t.blk.pages = s.blk.pages ∧ t.blk.mem = s.blk.mem

/-! ### Tiles: scalar instructions -/

/-- The scalar operations on registers and immediates write their result to sd, and the pc moves on; nothing else changes (R91, R99). -/
def Obligations.ScalarRegisterInstructions : Prop :=
  ∀ (s : State) (t : Fin 288) (sd sa sb : BitVec 5) (imm : BitVec 32), s.issues t →
    let x := s.blk.tile t
    let a := x.s sa.toNat
    let b := x.s sb.toNat
    let n := b.toNat % 64
    let m := imm.toNat % 64
    let i := imm.zeroExtend 64
    ∀ r ∈ [(Instr.add t sd sa sb, a + b), (.sub t sd sa sb, a - b), (.andW t sd sa sb, a &&& b), (.orW t sd sa sb, a ||| b),
        (.xorW t sd sa sb, a ^^^ b), (.shl t sd sa sb, a <<< n), (.shr t sd sa sb, a >>> n), (.sra t sd sa sb, a.sshiftRight n),
        (.mul t sd sa sb, a * b), (.slt t sd sa sb, if a.toInt < b.toInt then 1 else 0), (.sltu t sd sa sb, if a.toNat < b.toNat then 1 else 0),
        (.min t sd sa sb, if b.toInt < a.toInt then b else a), (.max t sd sa sb, if a.toInt < b.toInt then b else a),
        (.addi t sd sa imm, a + imm.signExtend 64), (.andi t sd sa imm, a &&& i), (.ori t sd sa imm, a ||| i), (.xori t sd sa imm, a ^^^ i),
        (.shli t sd sa imm, a <<< m), (.shri t sd sa imm, a >>> m), (.srai t sd sa imm, a.sshiftRight m),
        (.lui t sd sa imm, (i <<< 32) ||| (a &&& 0xFFFFFFFF))],
      (s.nextIs t r.1 → exec r.1 s = .next (s.withBlk (s.blk.tileNext t (x.setS sd.toNat r.2))))

/-- s0 reads zero and takes no write; any other scalar register reads what was written last, and a write changes no other register (R91). -/
def Obligations.ScalarRegisterFile : Prop :=
  ∀ (x : Tile) (i j : Nat) (v : W64),
    x.s 0 = 0 ∧ x.setS 0 v = x ∧ (i ≠ 0 → (x.setS i v).s i = v) ∧ (j ≠ i → (x.setS i v).s j = x.s j) ∧
    (x.setS i v).vregs = x.vregs ∧ (x.setS i v).acc = x.acc ∧ (x.setS i v).sram = x.sram ∧ (x.setS i v).pc = x.pc

/-- Loads and stores of tile SRAM: their values, the bytes they store and nothing else, ALIGN and SRAM_RANGE (R99). -/
def Obligations.ScalarMemoryInstructions : Prop :=
  ∀ (s : State) (t : Fin 288) (sd sa sb : BitVec 5) (imm : BitVec 32), s.issues t →
    let x := s.blk.tile t
    let a := (x.s sa.toNat + imm.signExtend 64).toNat
    ∀ n ∈ [8, 4], s.blk.sramFree t a n →
      let ld : Instr := if n = 8 then .ld t sd sa imm else .lw t sd sa imm
      let st : Instr := if n = 8 then .st t sa sb imm else .sw t sa sb imm
      (a % n = 0 → a + n ≤ sramSize →
        (s.nextIs t ld → exec ld s = .next (s.withBlk (s.blk.tileNext t (x.setS sd.toNat (BitVec.ofNat 64 (leNat (x.rdBytes a n))))))) ∧
        (s.nextIs t st → exec st s = .next (s.withBlk (s.blk.tileNext t (x.wr a (leBytes n (x.s sb.toNat).toNat)))))) ∧
      (a % n ≠ 0 → ∀ c ∈ [ld, st], (s.nextIs t c → exec c s = .next (s.withBlk (s.blk.tileStop t 0x0112)))) ∧
      (a % n = 0 → sramSize < a + n → ∀ c ∈ [ld, st], (s.nextIs t c → exec c s = .next (s.withBlk (s.blk.tileStop t 0x0111))))

/-- A store changes the bytes it stores and no other byte of tile SRAM, and a load of the same bytes gives them back. -/
def Obligations.TileStoresAreLocal : Prop :=
  ∀ (x : Tile) (a : Nat) (bs : List Byte), SMap.canon 0 x.sram = true →
    SMap.canon 0 (x.wr a bs).sram = true ∧ (x.wr a bs).rdBytes a bs.length = bs ∧
    (∀ i, i < a ∨ a + bs.length ≤ i → (x.wr a bs).byte i = x.byte i) ∧
    (x.wr a bs).sregs = x.sregs ∧ (x.wr a bs).vregs = x.vregs ∧ (x.wr a bs).acc = x.acc

/-- Branches, jumps and the status words (R99, R100). -/
def Obligations.ScalarControlInstructions : Prop :=
  ∀ (s : State) (t : Fin 288) (sd sa sb : BitVec 5) (imm : BitVec 32) (w : BitVec 8), s.issues t →
    let x := s.blk.tile t
    let a := x.s sa.toNat
    let b := x.s sb.toNat
    let target := (BitVec.ofNat 64 x.pc + imm.signExtend 64 * 8).toNat
    (∀ r ∈ [(Instr.beq t sa sb imm, decide (a = b)), (.bne t sa sb imm, decide (a ≠ b)), (.blt t sa sb imm, decide (a.toInt < b.toInt)),
        (.bge t sa sb imm, decide (b.toInt ≤ a.toInt))],
      (s.nextIs t r.1 → exec r.1 s = .next (s.withBlk (s.blk.setTile t { x with pc := if r.2 then target else x.pc + 8 })))) ∧
    (s.nextIs t (.jal t sd imm) → exec (.jal t sd imm) s = .next (s.withBlk (s.blk.setTile t { x.setS sd.toNat (BitVec.ofNat 64 (x.pc + 8)) with pc := target }))) ∧
    (a.toNat % 8 = 0 → (s.nextIs t (.jr t sa) → exec (.jr t sa) s = .next (s.withBlk (s.blk.setTile t { x with pc := a.toNat })))) ∧
    (a.toNat % 8 ≠ 0 → (s.nextIs t (.jr t sa) → exec (.jr t sa) s = .next (s.withBlk (s.blk.tileStop t 0x0112)))) ∧
    (∀ r ∈ [(0, s.blk.hearthAt t), (1, s.blk.cycle t), (2, t.val), (3, s.blk.tilePart t), (4, s.blk.tilePool t), (5, x.launchTick), (6, x.lateness)],
      w.toNat = r.1 → (s.nextIs t (.csrr t sd w) → exec (.csrr t sd w) s = .next (s.withBlk (s.blk.tileNext t (x.setS sd.toNat (BitVec.ofNat 64 r.2)))))) ∧
    (7 ≤ w.toNat → (s.nextIs t (.csrr t sd w) → exec (.csrr t sd w) s = .next (s.withBlk (s.blk.tileStop t 0x0110))))

/-! ### Tiles: matrix, vector and macro-operations -/

/-- The matrix operations: zeroing, spilling, filling, loading weights, zero points, and the accumulation of MMA by rows (R101 to R103). -/
def Obligations.MatrixInstructions : Prop :=
  ∀ (s : State) (t : Fin 288) (sa sx fmt : BitVec 5) (acc : BitVec 3) (start buf opnd : Bool) (off : BitVec 32), s.issues t →
    let x := s.blk.tile t
    let a := (x.s sa.toNat + off.zeroExtend 64).toNat
    let base := s.blk.eff (pgTile t) F.TIL_SPILL.SPILL_BASE * 65536
    let spilled := s.blk.tileNext t (x.wr a ((x.a acc.toNat).flatMap (fun e => leBytes 4 e.toNat)))
    (s.nextIs t (.mzero t acc) → exec (.mzero t acc) s = .next (s.withBlk (s.blk.tileNext t (x.setA acc.toNat (List.replicate 16384 0))))) ∧
    (a % 128 = 0 → a + 65536 ≤ sramSize → s.blk.sramFree t a 65536 →
      (s.nextIs t (.mfill t sa acc off) → exec (.mfill t sa acc off) s = .next (s.withBlk (s.blk.tileNext t (x.setA acc.toNat (x.words a 16384))))) ∧
      (s.nextIs t (.mspill t sa acc off) → exec (.mspill t sa acc off) s = .next (s.withBlk
        (if base ≤ a ∧ a < base + s.blk.eff (pgTile t) F.TIL_SPILL.SPILL_TILES * 65536
          then spilled.bumpWrap (pgTile t) F.TIL_SPILL_CNT.SPILL_CNT else spilled)))) ∧
    (a % 128 ≠ 0 → s.blk.sramFree t a 65536 →
      (s.nextIs t (.mfill t sa acc off) → exec (.mfill t sa acc off) s = .next (s.withBlk (s.blk.tileStop t 0x0112))) ∧
      (s.nextIs t (.mspill t sa acc off) → exec (.mspill t sa acc off) s = .next (s.withBlk (s.blk.tileStop t 0x0112)))) ∧
    (a % 128 = 0 → fmtWeightOk fmt.toNat = true → a + weightBytes fmt.toNat ≤ sramSize → s.blk.sramFree t a (weightBytes fmt.toNat) →
      let w : Option WBuf := some { fmt := fmt.toNat, bytes := x.rdBytes a (weightBytes fmt.toNat) }
      (s.nextIs t (.mlw t sa fmt buf off) → exec (.mlw t sa fmt buf off) s = .next (s.withBlk (s.blk.tileNext t (if buf then { x with wbuf1 := w } else { x with wbuf0 := w }))))) ∧
    (s.blk.sramFree t a 0 → let z := [(x.s sx.toNat).toNat % 256]
      (s.nextIs t (.mzp t sa sx opnd false off) → exec (.mzp t sa sx opnd false off) s = .next (s.withBlk (s.blk.tileNext t (if opnd then { x with zpA := z } else { x with zpW := z }))))) ∧
    (a % 128 = 0 → a + 128 ≤ sramSize → s.blk.sramFree t a 128 → let z := (List.range 128).map (fun i => x.byte (a + i))
      (s.nextIs t (.mzp t sa sx opnd true off) → exec (.mzp t sa sx opnd true off) s = .next (s.withBlk (s.blk.tileNext t (if opnd then { x with zpA := z } else { x with zpW := z }))))) ∧
    (∀ w rc, (if buf then x.wbuf1 else x.wbuf0) = some w → fmt.toNat < 16 → fmtActOk fmt.toNat = true →
      ratePair (Fmt.ofCode fmt.toNat) (Fmt.ofCode (w.fmt % 16)) = some rc →
      let m := (x.s sx.toNat).toNat
      let f := Fmt.ofCode fmt.toNat
      let hs := List.range (if 16 ≤ w.fmt then 2 else 1)
      1 ≤ m → m ≤ 128 → a % 128 = 0 → a + hs.length * tileBytes f false ≤ sramSize → s.blk.gated t .matrix = false →
      s.blk.sramFree t a (2 * tileBytes f false) →
      let old := x.a acc.toNat
      let row (r : Nat) : List (Nat × Nat) :=
        List.zipWith (fun ws o => mmaElem (rc == .r16) start (hs.map (fun h => x.actBlocks f a r h)) ws o)
          ((List.range 128).map (fun n => hs.map (fun h => w.blocks x.zpW n h))) (((old.drop (128 * r)).take 128).map BitVec.toNat)
      let rows := (List.range m).flatMap row
      (s.nextIs t (.mma t sa sx fmt acc start buf off) → exec (.mma t sa sx fmt acc start buf off) s = .next (s.withBlk ((s.blk.tileNext t
        { x.setA acc.toNat (rows.map (fun e => BitVec.ofNat 32 e.1) ++ old.drop (128 * m)) with lastMat := some s.blk.now }).orNstat t
          (rows.foldl (fun f e => f ||| e.2) 0)))))

/-- Each MSPILL that targets an address inside the spill area increments SPILL_CNT by 1, another one leaves it, and MFILL brings back bit for
bit what MSPILL wrote (R103). -/
def Obligations.SpillThenFillRestores : Prop :=
  ∀ (s : State) (t : Fin 288) (sa : BitVec 5) (acc back : BitVec 3) (off : BitVec 32), s.issues t →
    let x := s.blk.tile t
    let a := (x.s sa.toNat + off.zeroExtend 64).toNat
    let base := s.blk.eff (pgTile t) F.TIL_SPILL.SPILL_BASE * 65536
    let old := s.blk.eff (pgTile t) F.TIL_SPILL_CNT.SPILL_CNT
    a % 128 = 0 → a + 65536 ≤ sramSize → s.blk.sramFree t a 65536 → x.pc + 8 < sramSize → SMap.canon 0 x.sram = true →
      (x.a acc.toNat).length = 16384 → s.nextIs t (.mspill t sa acc off) →
        ∃ s1, exec (.mspill t sa acc off) s = .next s1 ∧
          (s1.nextIs t (.mfill t sa back off) → ∃ s2, exec (.mfill t sa back off) s1 = .next s2 ∧ (s2.blk.tile t).a back.toNat = x.a acc.toNat) ∧
          s1.blk.eff (pgTile t) F.TIL_SPILL_CNT.SPILL_CNT =
            (if base ≤ a ∧ a < base + s.blk.eff (pgTile t) F.TIL_SPILL.SPILL_TILES * 65536 then (old + 1) % 2 ^ 32 else old)

/-- The lane operations: the arithmetic ones where the limiter lets them issue, and those that move or compare bits (R77, R78, R104, R107). -/
def Obligations.VectorLaneInstructions : Prop :=
  ∀ (s : State) (t : Fin 288) (vd va vb vc sb fn : BitVec 5) (bs : Bool), s.issues t →
    let x := s.blk.tile t
    let A := x.lanes va.toNat
    let B := if bs then List.replicate 256 ((x.s sb.toNat).toNat % 2 ^ 32) else x.lanes vb.toNat
    let C := x.lanes vc.toNat
    (s.blk.gated t .vector = false →
      ∀ r ∈ [(Instr.vadd t vd va vb bs sb, List.zipWith fpAdd A B), (.vsub t vd va vb bs sb, List.zipWith fpSub A B),
          (.vmul t vd va vb bs sb, List.zipWith fpMul A B), (.vfma t vd va vb vc bs sb, List.zipWith (fun p c => fpFma p.1 p.2 c) (A.zip B) C)],
        (s.nextIs t r.1 → exec r.1 s = .next (s.withBlk (s.blk.laneNext t x vd.toNat r.2)))) ∧
    (s.blk.gated t .vector = false → (s.nextIs t (.vfn t vd va fn) → exec (.vfn t vd va fn) s = .next (s.withBlk
      (if fn.toNat < 14 then s.blk.laneNext t x vd.toNat (A.map (vfnLane fn.toNat)) else s.blk.tileStop t 0x0110)))) ∧
    ∀ r ∈ [(Instr.vmax t vd va vb bs sb, List.zipWith (fun p q => (fpMax p q, 0)) A B), (.vmin t vd va vb bs sb, List.zipWith (fun p q => (fpMin p q, 0)) A B),
        (.vcmplt t vd va vb bs sb, List.zipWith (fun p q => (if fpLt p q then 0xFFFFFFFF else 0, 0)) A B),
        (.vcmpeq t vd va vb bs sb, List.zipWith (fun p q => (if fpEq p q then 0xFFFFFFFF else 0, 0)) A B),
        (.vsel t vd va vb vc bs sb, List.zipWith (fun p c => (if c ≠ 0 then p.1 else p.2, 0)) (A.zip B) C),
        (.vabs t vd va, A.map (fun c => (c % 2 ^ 31, 0))), (.vneg t vd va, A.map (fun c => (c ^^^ 2 ^ 31, 0))), (.vmov t vd va, A.map (fun c => (c, 0)))],
      (s.nextIs t r.1 → exec r.1 s = .next (s.withBlk (s.blk.laneNext t x vd.toNat r.2)))

/-- Reductions, constants, moves between registers, accumulators and tile SRAM, and the stochastic context (R104 to R106). -/
def Obligations.VectorMoveInstructions : Prop :=
  ∀ (s : State) (t : Fin 288) (vd va sd sa sb fmt : BitVec 5) (acc rnd : BitVec 3) (sat : Bool) (j : BitVec 6) (imm : BitVec 14) (i : BitVec 8),
    s.issues t →
    let x := s.blk.tile t
    let A := x.lanes va.toNat
    let q := (x.s sa.toNat).toNat
    let a := (x.s sa.toNat + BitVec.ofNat 64 (imm.toNat * 128)).toNat
    let f := Fmt.ofCode fmt.toNat
    let n := tileBytes f false
    let go (y : Tile) : Host.Outcome State Fault Refusal := .next (s.withBlk (s.blk.tileNext t y))
    (s.nextIs t (.vrsum t vd va) → exec (.vrsum t vd va) s = .next (s.withBlk (s.blk.laneNext t x vd.toNat (treeSum 8 A :: List.replicate 255 (0, 0))))) ∧
    (s.nextIs t (.vrmax t vd va) → exec (.vrmax t vd va) s = .next (s.withBlk (s.blk.laneNext t x vd.toNat ((treeMax 8 A, 0) :: List.replicate 255 (0, 0))))) ∧
    (s.nextIs t (.viota t vd) → exec (.viota t vd) s = go (x.setV vd.toNat ((List.range 256).map (fun k => BitVec.ofNat 32 (toFp32 (numOfInt (Int.ofNat k) 0 false)).1)))) ∧
    (s.nextIs t (.vbcast t vd sb) → exec (.vbcast t vd sb) s = go (x.setV vd.toNat (List.replicate 256 ((x.s sb.toNat).setWidth 32)))) ∧
    (s.nextIs t (.vext t sd va i) → exec (.vext t sd va i) s = go (x.setS sd.toNat (((x.v va.toNat).getD i.toNat 0).zeroExtend 64))) ∧
    (s.nextIs t (.vlda t vd acc j) → exec (.vlda t vd acc j) s = go (x.setV vd.toNat (((x.a acc.toNat).drop (256 * j.toNat)).take 256))) ∧
    (s.nextIs t (.vsta t vd acc j) → exec (.vsta t vd acc j) s = go (x.setA acc.toNat
      ((x.a acc.toNat).take (256 * j.toNat) ++ x.v vd.toNat ++ (x.a acc.toNat).drop (256 * j.toNat + 256)))) ∧
    (s.blk.sramFree t a 1024 → a + 1024 ≤ sramSize →
      (s.nextIs t (.vldl t vd sa imm) → exec (.vldl t vd sa imm) s = go (x.setV vd.toNat (x.words a 256))) ∧
      (s.nextIs t (.vstl t vd sa imm) → exec (.vstl t vd sa imm) s = go (x.wr a ((x.v vd.toNat).flatMap (fun e => leBytes 4 e.toNat))))) ∧
    (s.blk.sramFree t a 1024 → sramSize < a + 1024 →
      (s.nextIs t (.vldl t vd sa imm) → exec (.vldl t vd sa imm) s = .next (s.withBlk (s.blk.tileStop t 0x0111))) ∧
      (s.nextIs t (.vstl t vd sa imm) → exec (.vstl t vd sa imm) s = .next (s.withBlk (s.blk.tileStop t 0x0111)))) ∧
    (s.blk.sramFree t q n → q + n ≤ sramSize → fmtLoadOk fmt.toNat = true →
      (s.nextIs t (.vld t vd sa fmt j) → exec (.vld t vd sa fmt j) s = (if f = .fp32 then go (x.setV vd.toNat (x.words (q + 1024 * j.toNat) 256))
        else .next (s.withBlk (s.blk.laneNext t x vd.toNat (x.loadRow f q (2 * j.toNat) ++ x.loadRow f q (2 * j.toNat + 1))))))) ∧
    ((∀ g ∈ vstTouch sa.toNat fmt.toNat rnd.toNat x, s.blk.sramFree t g.1 g.2) → q + n ≤ sramSize → fmtStoreOk fmt.toNat = true →
      ∀ mode, Rnd.ofCode rnd.toNat = some mode →
      let r0 := x.storeRow f mode sat (2 * j.toNat) ((x.lanes vd.toNat).take 128)
      let r1 := x.storeRow f mode sat (2 * j.toNat + 1) ((x.lanes vd.toNat).drop 128)
      (s.nextIs t (.vst t vd sa fmt rnd sat j) → exec (.vst t vd sa fmt rnd sat j) s =
        (if f = .fp32 then go (x.wr (q + 1024 * j.toNat) ((x.v vd.toNat).flatMap (fun e => leBytes 4 e.toNat)))
        else .next (s.withBlk ((s.blk.tileNext t ((x.wr (q + 2 * j.toNat * rowBytes f) (r0.1 ++ r1.1)).wr (q + scaleBase f + 8 * j.toNat)
          (r0.2.1 ++ r1.2.1))).orNstat t (r0.2.2 ||| r1.2.2)))))) ∧
    (q % 128 = 0 → q + 2048 ≤ sramSize → (s.nextIs t (.vsrctx t sa sb) → exec (.vsrctx t sa sb) s =
      go { x with rowCtx := some { opId := (x.s sb.toNat).toNat % 2 ^ 32, tile := (x.s sb.toNat).toNat / 2 ^ 32, table := q } }))

/-- The macro-operations take their parameter block at s[SA]: they write their result and status 0, or status 1 and nothing else (R108 to
R112). -/
def Obligations.MacroOperations : Prop :=
  ∀ (s : State) (t : Fin 288) (sd sa : BitVec 5), s.issues t →
    let x := s.blk.tile t
    let p := (x.s sa.toNat).toNat
    ∀ r ∈ [(Instr.xtopk t sd sa, topkRanges x.byte p, xtopk x.byte p), (.xsort t sd sa, sortRanges x.byte p, xsort x.byte p),
        (.xsample t sd sa, sampleRanges x.rowCtx x.byte p, xsample x.byte x.rowCtx p), (.xphilox t sd sa, philoxRanges x.byte p, xphilox x.byte p)],
      s.blk.sramFree t p 32 → (∀ g ∈ r.2.1, s.blk.sramFree t g.1 g.2) →
        (r.2.2 = none → (s.nextIs t r.1 → exec r.1 s = .next (s.withBlk (s.blk.tileNext t (x.setS sd.toNat 1))))) ∧
        ∀ dst bs, r.2.2 = some (dst, bs) → (s.nextIs t r.1 → exec r.1 s = .next (s.withBlk (s.blk.tileNext t ((x.wr dst bs).setS sd.toNat 0))))

/-! ### Tiles: synchronisation, transfers and stops -/

/-- Once every transfer that ended is retired, nothing moves of itself. -/
def Obligations.QuietPackageRests : Prop :=
  ∀ b : Block, b.quiet → b.rest = b

/-- The synchronisation instructions go on at once when there is nothing to wait for, and wait in place otherwise (R118, R119). -/
def Obligations.TileWaits : Prop :=
  ∀ (s : State) (t : Fin 288) (sd sa : BitVec 5) (imm : BitVec 32), s.issues t →
    let x := s.blk.tile t
    let a := (x.s sa.toNat + imm.signExtend 64).toNat
    let k := s.blk.tilePart t
    let waits (w : TWait) : Block := s.blk.setTile t { x with wait := some w }
    let mask := imm.toNat % 2 ^ 16
    (s.nextIs t (.dten t sa) → exec (.dten t sa) s = .next (s.withBlk (s.blk.tileNext t { x with tenant := (x.s sa.toNat).toNat % 4096 }))) ∧
    (s.nextIs t (.sccnt t sd) → exec (.sccnt t sd) s = .next (s.withBlk (s.blk.tileNext t (x.setS sd.toNat (BitVec.ofNat 64 (s.blk.score t).entries.length))))) ∧
    (s.nextIs t (.scwait t sa imm) → exec (.scwait t sa imm) s = .next (s.withBlk (if a ≤ s.blk.hearthAt t then s.blk.tileNext t x else waits (.scwait a)))) ∧
    (s.nextIs t (.ufence t imm) → exec (.ufence t imm) s = .next (s.withBlk
      (if bit imm.toNat 2 = false ∨ x.tagsIdle progTags = true then s.blk.tileNext t x else waits (.ufence (imm.toNat % 16))))) ∧
    (s.nextIs t (.bara t sa imm) → exec (.bara t sa imm) s = .next (s.withBlk ((s.blk.tileNext t x).arrive k ((s.blk.bake k).bakeNo % 256) a false))) ∧
    (s.nextIs t (.barw t sd sa imm) → exec (.barw t sd sa imm) s = .next (s.withBlk
      (if a = 0 then s.blk.setTile t (x.resume sd.toNat 0)
      else if (s.blk.bake k).active = false then s.blk.setTile t (x.resume sd.toNat 2)
      else if s.blk.barReleased t k a = true then s.blk.setTile t (x.resume sd.toNat 0)
      else if s.blk.barFailed k a ≠ 0 then s.blk.setTile t (x.resume sd.toNat (s.blk.barFailed k a))
      else waits (.barw a sd.toNat s.blk.now)))) ∧
    (x.tagsIdle mask = false → (s.nextIs t (.waitt t sd imm) → exec (.waitt t sd imm) s = .next (s.withBlk (waits (.waitt mask sd.toNat))))) ∧
    (x.tagsIdle mask = true → ∃ y, (s.nextIs t (.waitt t sd imm) → exec (.waitt t sd imm) s = .next (s.withBlk (s.blk.setTile t y))) ∧ y.wait = none ∧ y.pc = x.pc + 8 ∧
      y.sram = x.sram ∧ (∀ g < 16, (y.tag g).inflight = (x.tag g).inflight) ∧ (∀ g < 16, bit mask g = true → (y.tag g).status = 0) ∧
      (sd.toNat ≠ 0 → ∀ g < 16, bit mask g = true → (x.tag g).status ≠ 0 → (∀ h < g, bit mask h = true → (x.tag h).status = 0) →
        y.s sd.toNat = BitVec.ofNat 64 (x.tag g).status)) ∧
    (x.tagsIdle progTags = false → (s.nextIs t (.endP t) → exec (.endP t) s = .next (s.withBlk (waits .ending).rest))) ∧
    (x.tagsIdle progTags = true → x.launch = none → (s.nextIs t (.endP t) → exec (.endP t) s = .next (s.withBlk ((s.blk.tileIdle t).rest)))) ∧
    (x.tagsIdle progTags = true → ∀ l, x.launch = some l → l.passes.length ≤ 1 →
      (s.nextIs t (.endP t) → exec (.endP t) s = .next (s.withBlk (((s.blk.tileIdle t).endLaunch t l 0 l.bucket l.total).rest))))

/-- ILLEGAL_INSN completes wherever a tile issues a word that spells no instruction, its effect being the stop; so does every instruction
that is fetched outside tile SRAM, with SRAM_RANGE; and a stop leaves the tile in ERR with its fault and pc recorded, raises PROG_ERR_EV and
reports the fault (R98, R99, R123). -/
def Obligations.TileStops : Prop :=
  ∀ (s : State) (t : Fin 288) (code : Nat), code < 65536 →
    let x := s.blk.tile t
    let b := s.blk.tileStop t code
    (s.issues t → s.blk.fetched t = none → exec (.illegalInsn t) s = .next (s.withBlk (s.blk.tileStop t 0x0110))) ∧
    (s.live → x.seq = .run → x.wait = none → sramSize ≤ x.pc →
      ∀ c ∈ [Instr.illegalInsn t, .add t 1 1 1, .ld t 1 1 0, .beq t 0 0 0, .mzero t 0, .vmov t 0 0, .dten t 0, .sccnt t 0],
        exec c s = .next (s.withBlk (s.blk.tileStop t 0x0111))) ∧
    (x.launch = none →
      (b.tile t).seq = .err ∧ (b.tile t).wait = none ∧ (b.tile t).pc = x.pc ∧ (b.tile t).sregs = x.sregs ∧ (b.tile t).sram = x.sram ∧
      b.eff (pgTile t) F.TIL_ERR.ERR_CODE = code ∧ b.eff (pgTile t) F.TIL_ERR_PC.ERR_PC = x.pc % 2 ^ 22 ∧
      bit (b.hdr (pgTile t)).isr 0 = true ∧ b.mem = s.blk.mem ∧ (∀ u, u ≠ t.val → b.tile u = s.blk.tile u) ∧
      ∃ r, b.reports = s.blk.reports ++ [(s.blk.hearthAt t, r)] ∧ r.page = pgTile t ∧ r.code = code ∧ r.island = t.val)

/-- The transfers of a tile: what begins one, what ends one at once, and where TAG 12 to 15 is illegal (R114 to R116, R366). -/
def Obligations.TileTransfers : Prop :=
  ∀ (s : State) (t : Fin 288) (sa sb sl sd : BitVec 5) (tag : BitVec 4) (off : BitVec 32), s.issues t →
    let x := s.blk.tile t
    let b := s.blk.tileNext t x
    let a := (x.s sb.toNat + off.zeroExtend 64).toNat
    let p : Piece := { addr := (x.s sa.toNat).toNat, len := (x.s sl.toNat).toNat, sram := a }
    (12 ≤ tag.toNat → ∀ c ∈ [Instr.drd t sa sb sl tag off, .dwr t sa sb sl tag off, .dgather t sa sb sl tag off, .dscatter t sa sb sl tag off,
      .dwalk t sa sb sl tag off], (s.nextIs t c → exec c s = .next (s.withBlk (s.blk.tileStop t 0x0110).rest))) ∧
    (tag.toNat < 12 → s.blk.sramFree t a p.len →
      (p.len ≠ 0 → pieceStatus p = 4 → ∀ c ∈ [Instr.drd t sa sb sl tag off, .dwr t sa sb sl tag off],
        (s.nextIs t c → exec c s = .next (s.withBlk (b.tagAtOnce t tag.toNat 4).rest))) ∧
      (p.len = 0 → p.addr % 128 = 0 → a % 128 = 0 → ∀ c ∈ [Instr.drd t sa sb sl tag off, .dwr t sa sb sl tag off],
        (s.nextIs t c → exec c s = .next (s.withBlk (b.tagAtOnce t tag.toNat 0).rest))) ∧
      (p.len ≠ 0 → pieceStatus p = 0 →
        (s.nextIs t (.drd t sa sb sl tag off) → exec (.drd t sa sb sl tag off) s = .next (s.withBlk (b.startTag t tag.toNat .read [p] [] x.tenant t none).rest)) ∧
        (s.nextIs t (.dwr t sa sb sl tag off) → exec (.dwr t sa sb sl tag off) s = .next (s.withBlk (b.startTag t tag.toNat .write [p] [x.rdBytes a p.len] x.tenant t none).rest))) ∧
      (p.addr % 32 ≠ 0 → (s.nextIs t (.dwalk t sa sb sl tag off) → exec (.dwalk t sa sb sl tag off) s = .next (s.withBlk (b.tagAtOnce t tag.toNat 4).rest))) ∧
      (∀ o, p.addr % 32 = 0 → b.resolve p.addr 32 = some (.here o) →
        let r := b.readLocal o 32 x.tenant false (b.tilePart t) (tileClu t)
        (s.nextIs t (.dwalk t sa sb sl tag off) → exec (.dwalk t sa sb sl tag off) s = .next (s.withBlk
          (if r.2.1 = 0 then r.1.walkRun t tag.toNat a p.len (walkDesc r.2.2) else r.1.tagAtOnce t tag.toNat r.2.1).rest)))) ∧
    (tag.toNat < 12 → p.len % 16 = 0 → a + p.len ≤ sramSize →
      (∀ g ∈ (a, p.len) :: (x.records a (p.len / 16)).map (fun r => (r.sram, r.len)), s.blk.sramFree t g.1 g.2) →
      (s.nextIs t (.dgather t sa sb sl tag off) → exec (.dgather t sa sb sl tag off) s = .next (s.withBlk (b.dmaMove t tag.toNat false (x.records a (p.len / 16)) x.tenant t none).rest)) ∧
      (s.nextIs t (.dscatter t sa sb sl tag off) → exec (.dscatter t sa sb sl tag off) s = .next (s.withBlk (b.dmaMove t tag.toNat true (x.records a (p.len / 16)) x.tenant t none).rest))) ∧
    (s.nextIs t (.ffence t sd) → exec (.ffence t sd) s = .next (s.withBlk
      ((s.blk.setTile t { x with wait := some (.ffence s.blk.nextId sd.toNat) }).startFence (fun _ => .tile t sd.toNat) t).rest)) ∧
    (∀ y, s.blk.xfers.find? (fun y => decide (y.owner = .tag t tag.toNat) && decide (y.phase = .done)) = some y →
      let b1 := (s.blk.releaseLeases y.id).dropXfer y.id
      exec (.transferDone t tag) s = .next (s.withBlk ((((b1.tagDone t tag.toNat y.status).xferArrive t y).wakeTile t).rest)))

/-- A tag counts a transfer that ends, and records and reports its first nonzero status (R116). -/
def Obligations.TagRecordsFirstStatus : Prop :=
  ∀ (b : Block) (t tag st : Nat), st < 16 → tag < 16 →
    let y := (b.tagDone t tag st).tile t
    (y.tag tag).inflight = ((b.tile t).tag tag).inflight - 1 ∧
    (y.tag tag).status = (if ((b.tile t).tag tag).status = 0 then st else ((b.tile t).tag tag).status) ∧
    (∀ g, g ≠ tag → y.tag g = (b.tile t).tag g) ∧
    (st ≠ 0 → (b.tagDone t tag st).eff (pgTile t) F.TIL_DMA_ERR.LAST_STATUS = st ∧ (b.tagDone t tag st).eff (pgTile t) F.TIL_DMA_ERR.LAST_TAG = tag ∧
      bit ((b.tagDone t tag st).hdr (pgTile t)).isr 1 = true) ∧
    (st = 0 → b.tagDone t tag st = b.setTile t y)

/-! ### The Score and the service of tiles -/

/-- A Score takes, refuses or discards the oldest entry at its crossing, and SCPUSH brings it there (R119, R120, R159, R163). -/
def Obligations.ScoreTakesEntries : Prop :=
  ∀ (s : State) (i : Fin 401) (t : Fin 288) (sd sa : BitVec 5) (imm : BitVec 32) (answer : Fin 4), s.live →
    let b := s.blk
    let sc := b.score i
    (∀ a rest, sc.arriving = a :: rest → isScoreIsland i = true →
      let popped := b.setScore i { sc with arriving := rest ++ sc.held.take 1, held := sc.held.drop 1, lastRead := b.now }
      (∀ st, b.acceptStatus i a.e = some st → exec (.scoreEntryAccept i none) s = .next (s.withBlk (popped.takeEntry i a.e a.sender st))) ∧
      (b.acceptStatus i a.e = none → exec (.scoreEntryAccept i none) s = .next s) ∧
      (b.acceptStatus i a.e = none → a.since + 1000 ≤ b.now → exec (.scoreOverflow i) s = .next (s.withBlk
        ((popped.countOverflow i).tellSender a.sender 2)))) ∧
    (∀ e, sc.arriving = [] → sc.held = [] → isScoreIsland i = true → ∀ st, b.acceptStatus i e = some st →
      exec (.scoreEntryAccept i (some e)) s = .next (s.withBlk
        (((b.setScore i { sc with arriving := [{ e := e, sender := .remote, since := b.now }] }).setScore i
          { sc with arriving := [], held := [], lastRead := b.now }).takeEntry i e .remote st))) ∧
    (s.issues t →
      let x := b.tile t
      let a := (x.s sa.toNat + imm.zeroExtend 64).toNat
      let e := x.entryAt a
      s.nextIs t (.scpush t sd sa imm 0) →
      (sramSize < a + 32 → exec (.scpush t sd sa imm answer) s = .next (s.withBlk (b.tileStop t 0x0111))) ∧
      (a + 32 ≤ sramSize → b.sramFree t a 32 → isScoreIsland e.island = false →
        exec (.scpush t sd sa imm answer) s = .next (s.withBlk (b.setTile t (x.resume sd.toNat 3)))) ∧
      (a + 32 ≤ sramSize → b.sramFree t a 32 → isScoreIsland e.island = true → ¬ (e.isRemote = true ∧ e.slot ≠ b.slotId) →
        exec (.scpush t sd sa imm answer) s = .next (s.withBlk
          ((b.setTile t { x with wait := some (.scpush sd.toNat) }).pushArriving e.island e (.tile t sd.toNat)))) ∧
      (a + 32 ≤ sramSize → b.sramFree t a 32 → isScoreIsland e.island = true → e.isRemote = true → e.slot ≠ b.slotId →
        exec (.scpush t sd sa imm answer) s = .next (s.withBlk ((b.setTile t (x.resume sd.toNat answer)).emit
          (.event "score-push" [e.slot, e.launch, e.action, e.target, e.desc, e.barw])))))

/-- The due entry of a Score that fires first leaves it: a bad one is discarded, one whose barrier failed arrives as failed, a program start
waits while the sequencer runs, and every other one fires (R121, R160, R163, R169). -/
def Obligations.ScoreFiresDueEntry : Prop :=
  ∀ (s : State) (i : Fin 401) (x : SEntry), s.live → (288 ≤ i.val → s.blk.islandOpen i = true) → s.blk.nextDue i = some x →
    let b := s.blk
    let sc := b.score i
    let failed := x.e.waitBar ≠ 0 ∧ b.barFailed x.e.part x.e.waitBar ≠ 0
    let sc' : Score := { sc with entries := sc.entries.filter (fun y => decide (y.order ≠ x.order)), head := none }
    (badEntry i x.e = true → exec (.scoreFire i) s = .next (s.withBlk ((b.setScore i sc').discardBad x.e))) ∧
    (badEntry i x.e = false → failed → x.e.code ≠ 1 → exec (.scoreFire i) s = .next (s.withBlk ((b.setScore i sc').arriveEntry x.e true))) ∧
    (badEntry i x.e = false → x.e.code = 1 → (b.tile i).seq = .run ∨ (b.tile i).seq = .retired →
      exec (.scoreFire i) s = .next (s.withBlk (b.setScore i { sc with head := some x.order }))) ∧
    (badEntry i x.e = false → ¬ failed ∨ x.e.code = 1 → ¬ (x.e.code = 1 ∧ ((b.tile i).seq = .run ∨ (b.tile i).seq = .retired)) →
      exec (.scoreFire i) s = .next (s.withBlk (b.setScore i { sc' with fired := sc.fired ++ [x.e] })))

/-- Fired actions run, oldest first of their kind: program starts, idle windows, transfers, arrivals, proof and prefetch lists, segment
actions; and a shift command moves the pending entries of its bake (R94, R160 to R162, R180, R208, R243, R369). -/
def Obligations.FiredActionsRun : Prop :=
  ∀ (s : State) (t : Fin 288) (i : Fin 401) (k : Fin 16) (q : Fin 36) (toks : List (Nat × List Nat)), s.live →
    let b := s.blk
    (∀ e b1, b.takeFired t 2 = some (e, b1) →
      exec (.idleWin t) s = .next (s.withBlk ((b1.setTile t { b1.tile t with idleWin := some (b.now, e.arg * 1000) }).arriveEntry e false))) ∧
    (∀ e b1, b.takeFired i 4 = some (e, b1) → exec (.arrive i) s = .next (s.withBlk (b1.arriveEntry e false))) ∧
    (∀ e b1, b.takeFired t 3 = some (e, b1) → e.desc % 32 ≠ 0 →
      exec (.xfer t) s = .next (s.withBlk (b1.xferEnd t (12 + e.arg % 4) 4 e).rest)) ∧
    (∀ e b1, b.takeFired t 3 = some (e, b1) → e.desc % 32 = 0 →
      let tag := 12 + e.arg % 4
      let c := (b1.tile t).tag tag
      exec (.xfer t) s = .next (s.withBlk ((b1.setTile t ((b1.tile t).setTag tag { c with inflight := c.inflight + 1 })).newXfer
        { xfer0 (.xferDesc t tag) .read with pieces := [{ addr := e.desc, len := 32, sram := 0 }], group := actionGroup t e
                                             part := b1.tilePart t, page := tileClu t, entry := some e }).rest)) ∧
    (∀ e b1, b.takeFired (344 + k) 0x20 = some (e, b1) → exec (.proof k) s = .next (s.withBlk (b1.listStart (344 + k) e).rest)) ∧
    (∀ e b1, b.takeFired (344 + k) 0x21 = some (e, b1) → exec (.kvpf k) s = .next (s.withBlk (b1.listStart (344 + k) e).rest)) ∧
    (∀ e b1, b.takeFired (360 + q) 0x10 = some (e, b1) → e.desc % 32 ≠ 0 →
      exec (.segSend q toks) s = .next (s.withBlk ((b1.discardBad e).settleWith toks 4096).rest)) ∧
    (∀ e b1, b.takeFired (360 + q) 0x11 = some (e, b1) → e.desc % 32 ≠ 0 → exec (.segExpect q) s = .next (s.withBlk (b1.discardBad e).rest)) ∧
    (∀ e b1 c0 code, (c0, code) ∈ [(Instr.segSend q toks, 0x10), (.segExpect q, 0x11)] → b.takeFired (360 + q) code = some (e, b1) → e.desc % 32 = 0 →
      let act : SegAct := { id := b1.nextId, island := 360 + q, e := e, send := decide (code = 0x10), moe := noMoe, pieces := [], waitRead := 0
                            failed := false }
      let begun := ({ b1 with nextId := b1.nextId + 1, segs := b1.segs ++ [act] }).newXfer
        { xfer0 (.segList b1.nextId) .read with pieces := [{ addr := e.desc, len := 32, sram := 0 }], priv := true, part := e.part, page := pgQuad q }
      exec c0 s = .next (s.withBlk (if code = 0x10 then begun.settleWith toks 4096 else begun).rest)) ∧
    (∀ e b1, b.takeFired t 1 = some (e, b1) → (b.tile t).seq ≠ .run → (b.tile t).seq ≠ .retired → (b.tile t).retireReady = false →
      ∃ b2 : Block,
      exec (.progStart t) s = .next (s.withBlk (((b2.riseStart t e).shapeLaunch t e
        (if e.waitBar = 0 then 0 else b.barFailed e.part e.waitBar)).noteReasons.rest)) ∧
      (b2.tile t).seq = .run ∧ (b2.tile t).pc = b.eff (pgTile t) F.TIL_PROG.PROG_BASE * 8 ∧ (b2.tile t).s 1 = BitVec.ofNat 64 e.desc ∧
      (b2.tile t).s 2 = BitVec.ofNat 64 e.launch ∧ (∀ r, r ≠ 1 → r ≠ 2 → (b2.tile t).s r = 0) ∧ (b2.tile t).tenant = 0 ∧
      (b2.tile t).acc = (if (b.tile t).seq = .knock then [] else (b.tile t).acc) ∧
      (b2.tile t).sram = (b.tile t).sram ∧ (b2.tile t).lateness = b.hearthAt t - e.launch) ∧
    (∀ m, b.shifts.find? (fun c => decide (c.1 = i.val)) = some m → exec (.shiftCmd i) s = .next (s.withBlk
      (({ b with shifts := b.shifts.erase m }).shiftCmd i m.2.1 m.2.2.1 m.2.2.2.1 m.2.2.2.2)))

/-- The rise profile, retirement and Knock runs of a tile (R125 to R129, R182, R457 to R460). -/
def Obligations.TileServiceCommands : Prop :=
  ∀ (s : State) (t : Fin 288) (a : Agent) (pass : Bool), s.live →
    let b := s.blk
    let x := b.tile t
    let p := pgTile t
    (∀ r, x.rampAt = some r → let k := b.eff p F.TIL_ISSUE.RAMP_LEVEL
      16 * r + k * b.rampTime ≤ 16 * b.now → k < 15 →
        exec (.riseStep t) s = .next (s.withBlk (b.put p F.TIL_ISSUE.RAMP_LEVEL (k + 1)).noteReasons)) ∧
    (∀ r, x.rampAt = some r → let k := b.eff p F.TIL_ISSUE.RAMP_LEVEL
      16 * r + k * b.rampTime ≤ 16 * b.now → 15 ≤ k →
        exec (.riseStep t) s = .next (s.withBlk ((b.put p F.TIL_ISSUE.RAMP_LEVEL (k + 1)).setTile t { x with rampAt := none }).noteReasons)) ∧
    (x.seq ≠ .retired → x.retireNow = true → x.retireReady = true ∨ x.hungNow = true →
      exec (.tileRetire t) s = .next (s.withBlk (b.retireTile t x.retireCause))) ∧
    (x.seq ≠ .retired → s.reaches p a → exec (.retireReq t a) s = .next (s.withBlk
      (((b.put p F.TIL_RETIRE.RETIRE_REQ 1).wantRetire t 2).rest))) ∧
    (s.reaches p a → ∃ b1 : Block, exec (.perfClear t a) s = .next (s.withBlk b1.rest) ∧ b1.tiles = b.tiles ∧ b1.mem = b.mem ∧
      ∀ f ∈ [F.TIL_PERF.MAT_BUSY, F.TIL_PERF.VEC_BUSY, F.TIL_PERF.STALL_ISSUE, F.TIL_PERF.STALL_HAZ], b1.eff p f = 0) ∧
    (b.flt F.FLT_KNOCK.KNOCK_EN ≠ 0 → b.safe = false → b.asleep = false → b.upd.alive = none → x.seq = .idle → b.knockDue t = true →
      ((List.range 288).filter (fun i => decide ((b.tile i).seq = .knock))).length < b.flt F.FLT_KNOCK.KNOCK_CONC →
      (b.enabled p = true → b.windowOpen t = true ∧ b.issueLevel t = 16) →
      exec (.knockStart t) s = .next (s.withBlk
        ((b.setTile t { x with seq := .knock, idleWin := none, knockSince := b.now }).put p F.TIL_KNOCK.PATTERN_VER b.upd.knockVer))) ∧
    (x.seq = .knock → x.knockSince + 18000 ≤ b.now →
      let b1 := (b.put p F.TIL_KNOCK_TICK.LAST_TICK b.now).trace 4 0x0F05 p t (some (b.tilePart t)) (if pass then 0 else 1)
      exec (.knockComplete t pass) s = .next (s.withBlk
        (if pass then (((b1.setTile t { x.clearRegs with seq := .idle }).bump p F.TIL_KNOCK.PASS_CNT).bumpWrap pgFlt F.FLT_KRUNS.KNOCK_RUNS).knockFresh t
        else ((((((b1.bump p F.TIL_KNOCK.FAIL_CNT).raise p 4).reportTile t 0x0140).raise pgFlt 7).bump pgFlt F.FLT_KERR.KNOCK_FAILS).retireTile t 1)))) ∧
    (b.flt F.FLT_KNOCK.KNOCK_EN ≠ 0 → x.seq ≠ .retired → SMap.find b.fcol.overdue t = none →
      b.knockAge t (b.flt F.FLT_KNOCK_GAP.KNOCK_MAX) = true → ∃ b1 : Block, exec (.knockOverdue t) s = .next (s.withBlk b1) ∧
      SMap.find b1.fcol.overdue t = some b.now ∧ b1.flt F.FLT_KOVER.OVERDUE_CNT = satAdd F.FLT_KOVER.OVERDUE_CNT.width (b.flt F.FLT_KOVER.OVERDUE_CNT) 1 ∧
      bit (b1.hdr pgFlt).isr 8 = true ∧ ∃ r, b1.reports = b.reports ++ [(b.hearthAt t, r)] ∧ r.code = 0x0203 ∧ r.island = t.val)

/-! ### Registers and block states -/

/-- A write of a word whose only writable field is a read-write one: an immediate field takes it at once; a staged field takes it in OFF, and in
QUIESCED before a commit is due, and refuses it otherwise; an expert field needs expert mode too; a value outside its range is discarded with
CFG_REJECT (R11, R23, R27). -/
def Obligations.RegisterWritesFields : Prop :=
  ∀ (s : State) (p : Fin 4096) (w : Fin 1024) (v : BitVec 32) (a : Agent) (f : Field) (i : Nat), s.reaches p a →
    let b := s.blk
    let off := 4 * w.val
    let new := b.afterWord p off v.toNat f i
    let after := b.afterWord p off v.toNat
    pageKind p ≠ .reserved → 0x40 ≤ off → ¬ (pageKind p = .srv ∧ off = 0x90) → ¬ (p.val = 8 ∧ off = 0x88) → ¬ (pageKind p = .flt ∧ off = 0x64) →
    (fieldsAt p off).filter (fun x => decide (x.1.acc ≠ .ro)) = [(f, i)] → f.acc = .rw →
      (b.valueOk p f i off new after a = false → exec (.registerWrite p w v a) s = .next (s.withBlk (b.cfgReject p).rest)) ∧
      (f.kind ≠ .imm → b.takes p f = false → exec (.registerWrite p w v a) s = .next (s.withBlk (b.cfgReject p).rest)) ∧
      (f.kind ≠ .imm → b.takes p f = true → b.valueOk p f i off new after a = true →
        exec (.registerWrite p w v a) s = .next (s.withBlk (b.putPnd p f new i).rest)) ∧
      (f.kind = .imm → b.valueOk p f i off new after a = true → b.trigger p f i (f.raw i off v.toNat) a = none → pageKind p ≠ .moe →
        pageKind p ≠ .pwr → ¬ (pageKind p = .boot ∧ f = F.BOOT_UPD_CMD.ACT_MASK) → ¬ (pageKind p = .flt ∧ (f.off = 0x140 ∨ f.off = 0x144)) →
        exec (.registerWrite p w v a) s = .next (s.withBlk (b.put p f new i).rest))

/-- Reads of staged fields return the pending set while the block is QUIESCING or QUIESCED, the committed set in RUN, and in OFF the register
values, which the next ENABLE commits (R28); what is stored there reads back, and no other field changes. -/
def Obligations.StagedFieldsReadByState : Prop :=
  ∀ (b : Block) (p : Nat) (f g : Field) (i j v : Nat), f.kind ≠ .imm → g.kind ≠ .imm → v < 2 ^ f.width →
    let st := (b.hdr p).st
    (b.shown p f i = if st = .run then SMap.get f.reset (b.page p).cmt (f.key i) else SMap.get f.reset (b.page p).pnd (f.key i)) ∧
    b.eff p f i = SMap.get f.reset (b.page p).cmt (f.key i) ∧
    (st = .off →
      let c := b.setPage p { b.page p with cmt := (b.page p).pnd, hdr := { b.hdr p with enable := true, st := .run, commitPending := false } }
      c.eff p f i = b.shown p f i ∧ (c.hdr p).st = .run ∧ (pageKind p ≠ .srv → b.enableOn p = (c.commitHook p (b.page p), true)) ∧
      (pageKind p = .srv → (b.enableOn p).2 = true →
        ∃ c2, c.partOpen (p - 0x10) = some c2 ∧ b.enableOn p = (c2.commitHook p (b.page p), true))) ∧
    (st ≠ .run → (b.putPnd p f v i).shown p f i = v) ∧
    (st = .run → (b.putPnd p f v i).shown p f i = b.shown p f i) ∧
    ((b.putPnd p f v i).eff p f i = b.eff p f i) ∧
    (∀ q, q ≠ p ∨ g.key j ≠ f.key i → (b.putPnd p f v i).shown q g j = b.shown q g j) ∧
    ((b.commitPage p).eff p f i = SMap.get f.reset (b.page p).pnd (f.key i)) ∧ ((b.commitPage p).hdr p).st = .run ∧
    bit ((b.commitPage p).hdr p).isr 28 = true

/-- A write of 0x4B4E to BLK_KEY arms the key, another value disarms it and sets KEY_REJECT, and a write to BLK_CTRL that neither enables,
disables nor resumes the block consumes an armed key whatever else it contains (R21). -/
def Obligations.KeyArmsAndIsConsumed : Prop :=
  ∀ (s : State) (p : Fin 4096) (v : BitVec 32) (a : Agent), s.reaches p a → pageKind p ≠ .reserved →
    let b := s.blk
    (v.toNat % 2 ^ 16 = 0x4B4E → exec (.keyWrite p v a) s = .next (s.withBlk (b.modHdr p (fun h => { h with keyArmed := true })).rest)) ∧
    (v.toNat % 2 ^ 16 ≠ 0x4B4E →
      exec (.keyWrite p v a) s = .next (s.withBlk ((b.modHdr p (fun h => { h with keyArmed := false })).raise p 30).rest)) ∧
    ∀ w : Nat, bit w 0 = (b.hdr p).enable → bit w 2 = false → ((b.ctrlWrite p w).hdr p).keyArmed = false

/-- EXPERT written 1 with an armed key sets EXPERT_ACTIVE and changes no setting; without one it leaves EXPERT_ACTIVE at 0 and sets KEY_REJECT
(R22). EXPERT cleared gives the expert fields of the pending set their derived values in OFF, and in QUIESCED before a commit is due (R25). -/
def Obligations.ExpertModeChanges : Prop :=
  ∀ (s : State) (p : Fin 4096) (a : Agent), s.reaches p a → pageKind p ≠ .reserved →
    let b := s.blk
    let h := b.hdr p
    (h.expertActive = false → h.keyArmed = true → exec (.expertSet p a) s = .next (s.withBlk
      (b.modHdr p (fun h => { h with keyArmed := false, expertActive := true, expertBit := true })).rest)) ∧
    (h.expertActive = false → h.keyArmed = false → exec (.expertSet p a) s = .next (s.withBlk
      ((b.modHdr p (fun h => { h with keyArmed := false, expertBit := true })).raise p 30).rest)) ∧
    (h.expertActive = true ∨ h.expertBit = true → h.st = .off ∨ (h.st = .quiesced ∧ h.commitPending = false) → exec (.expertClear p a) s = .next (s.withBlk
      (b.setPage p { b.page p with pnd := b.deriveExpert p (b.page p).pnd
                                   hdr := { h with keyArmed := false, expertActive := false, expertBit := false } }).rest)) ∧
    (h.expertActive = true ∨ h.expertBit = true → h.st = .run ∨ h.st = .quiescing ∨ h.commitPending = true → h.st ≠ .off → exec (.expertClear p a) s = .next (s.withBlk
      ((b.modHdr p (fun h => { h with keyArmed := false })).cfgReject p).rest))

/-- The states of a block (R30 to R32): enabling, quiescing, resuming, disabling, and what refuses them. -/
def Obligations.BlockStateChanges : Prop :=
  ∀ (s : State) (p : Fin 4096) (v : BitVec 32) (a : Agent), s.reaches p a → pageKind p ≠ .reserved →
    let b := s.blk
    let r := b.page p
    let h := b.hdr p
    let b0 := b.modHdr p (fun h => { h with keyArmed := false })
    h.expertBit = h.expertActive → h.enable = decide (h.st ≠ .off) → b.upd.held.contains p.val = false →
      (h.st = .off → h.expertActive = false → pageKind p ≠ .srv → exec (.enableSet p a) s = .next (s.withBlk
        (((b0.setPage p { r with cmt := r.pnd, hdr := { h with keyArmed := false, enable := true, st := .run, commitPending := false } }).commitHook p
          { r with hdr := { h with keyArmed := false } })).rest)) ∧
      (h.st = .quiesced → h.commitPending = false → enableFixed (pageKind p) = false → h.expertActive = false →
        let stopped : Block := match pageKind p with
          | .srv => b0.partClose (p.val - 0x10) rqPART_DISABLED
          | .til => b0.setTile (p.val - 0x200) (b0.tile (p.val - 0x200)).halt
          | .slc => b0.dropSlice (p.val - 0x80)
          | .fab => b0.linksOff (p.val - 0x100)
          | _ => b0
        exec (.enableClear p a) s = .next (s.withBlk
          ((stopped.modHdr p (fun h => { h with enable := false, st := .off, commitPending := false })).noMoreBoundary).rest)) ∧
      (h.st = .run → exec (.enableClear p a) s = .next (s.withBlk (b0.cfgReject p).rest)) ∧
      (h.st = .run → h.expertActive = false → exec (.quiesce p a) s = .next (s.withBlk
        (b.setPage p { r with pnd := r.cmt, hdr := { h with keyArmed := false, st := .quiescing, quiesceAt := b.now } }).rest)) ∧
      (h.st = .quiescing → h.expertActive = false → exec (.resume p a) s = .next (s.withBlk
        (b.setPage p { r with pnd := r.cmt, hdr := { h with keyArmed := false, st := .run } }).rest)) ∧
      (h.st = .quiesced → h.commitPending = false → isStaged (pageKind p) = true → h.expertActive = false → exec (.resume p a) s = .next (s.withBlk
        (b.modHdr p (fun h => { h with keyArmed := false, commitPending := true, pendingAt := b.now })).rest)) ∧
      (h.st = .quiesced → isStaged (pageKind p) = false → h.expertActive = false → exec (.resume p a) s = .next (s.withBlk (b0.commitWhole p).rest)) ∧
      (h.st = .off → h.expertActive = false → exec (.quiesce p a) s = .next (s.withBlk (b0.cfgReject p).rest) ∧
        exec (.resume p a) s = .next (s.withBlk (b0.cfgReject p).rest)) ∧
      (h.st = .quiescing → exec (.quiesceDrained p) s = .next (s.withBlk ((b.modHdr p (fun h => { h with st := .quiesced })).raise p 29))) ∧
      (h.st = .quiescing → h.quiesceAt + 10000 ≤ b.now → exec (.quiesceTimeout p) s = .next (s.withBlk
        (b.reportPage p (if pageKind p = .til then 0x0150 else 0x0002)))) ∧
      (h.commitPending = true → (∀ k, b.bakeRuns k = false) →
        exec (.idleCommit p) s = .next (s.withBlk (b.commitWhole p).rest)) ∧
      exec (.isrClear p v a) s = .next (s.withBlk (b.isrClear p v.toNat).rest)

/-- A W1C write to BLK_ISR clears the bits it names and sends one more message while enabled bits stay set; a latched event sends one when it
makes an enabled bit the first (R17). -/
def Obligations.InterruptLatchAndClear : Prop :=
  ∀ (b : Block) (p i m : Nat), i < 32 → m < 2 ^ 32 → (b.hdr p).isr < 2 ^ 32 →
    let h := b.hdr p
    let n := (b.isrClear p m).hdr p
    let u := (b.raise p i).hdr p
    (∀ j, bit n.isr j = (bit h.isr j && !bit m j)) ∧ n.ier = h.ier ∧ n.st = h.st ∧
    (∀ j, bit u.isr j = (bit h.isr j || decide (j = i))) ∧ u.ier = h.ier ∧ u.st = h.st ∧
    (n.isr &&& h.ier = 0 → (b.isrClear p m).out = b.out ∧ (b.isrClear p m).pcie = b.pcie) ∧
    (n.isr &&& h.ier ≠ 0 → (b.isrClear p m).out = (b.msix h.ivec).out ∧ (b.isrClear p m).pcie = (b.msix h.ivec).pcie) ∧
    (h.isr &&& h.ier = 0 → bit h.ier i = true → (b.raise p i).out = (b.msix h.ivec).out ∧ (b.raise p i).pcie = (b.msix h.ivec).pcie) ∧
    (h.isr &&& h.ier ≠ 0 ∨ bit h.ier i = false → (b.raise p i).out = b.out ∧ (b.raise p i).pcie = b.pcie)

/-- A crossing that has been full for HS_STALL_LIMIT with no entry read reports ISLAND_HUNG on the writer's page for the reader's island, and
sets the reader's bit; before that, or where there is no crossing, nothing happens (R42). -/
def Obligations.HungCrossingReports : Prop :=
  ∀ (s : State) (w r : Fin 401) (since : BitVec 64), s.live →
    (s.blk.stalled w r since.toNat = false → exec (.islandHung w ⟨r, since⟩) s = .next s) ∧
    (crossings w r ≠ [] → since.toNat + s.blk.eff pgDev F.DEV_HS_STALL.HS_STALL_LIMIT * 1000 ≤ s.blk.now →
      (s.blk.score r).lastRead ≤ since.toNat → ∃ t, exec (.islandHung w ⟨r, since⟩) s = .next t ∧
    bit (t.blk.eff pgDev F.DEV_ISL_HUNG.HUNG (r / 32)) (r % 32) = true ∧
    (bit (s.blk.eff pgDev F.DEV_ISL_HUNG.HUNG (r / 32)) (r % 32) = false → bit (t.blk.hdr pgDev).isr 0 = true) ∧
    ∃ e, t.blk.reports = s.blk.reports ++ [(s.blk.hearthAt r, e)] ∧ e.page = islandPage w ∧ e.code = 0x0001 ∧ e.island = r.val)

/-! ### The timebase, barriers and votes -/

/-- Hearth time and who it follows: time words, reads of the time, timestamp sets, the election and its loss (R149 to R155). -/
def Obligations.TimebaseFollows : Prop :=
  ∀ (s : State) (a : Agent) (n : Fin 63) (set : TsSet) (frac : BitVec 8), s.live →
    let b := s.blk
    let T := F.TBS_STATUS.SYNC
    (exec .timeWord s = .next (s.withBlk
      ({ b with tb := { b.tb with
          replica := if b.isReady then max b.tb.replica b.now else b.now
          replicas := b.tb.replicas.filter (fun e => !(b.isUp e.1 && !(b.isReady &&
            decide ((if b.isReady then max b.tb.replica b.now else b.now) < e.2)))) } }).wakeScwait)) ∧
    (exec (.nowLoRead a) s = .next (s.withBlk
      { b with tb := { b.tb with nowHi := some (b.now / 2 ^ 32 % 2 ^ 32) }, out := .read a [b.now % 2 ^ 32] :: b.out })) ∧
    (b.linkUp n = true → ∃ m : TsSet, exec (.tsSend n) s = .next (s.withBlk { b with out := .tsSet n m :: b.out }) ∧
      m.srcSlot = b.slotId ∧ m.tbmEn = b.tbmEn ∧ m.isMaster = decide (b.sync = 4) ∧ m.sync = b.sync ∧ m.partEn = b.partEn ∧
      m.partActive = b.partActive ∧ m.txTime = b.now % 2 ^ 56 * 256) ∧
    (b.linkUp n = true →
      let t2 := b.now * 256 + frac.toNat
      let d := tsMeasure set.txTime (t2 % 2 ^ 64) set.echoTx set.echoRx (b.asymOf n)
      let m := b.eff pgTbs F.TBS_STATUS.MASTER_SLOT
      let src := set.srcSlot % 64
      let h : Heard := { at_ := b.now, tbmEn := set.tbmEn, isMaster := set.isMaster, sync := set.sync, partEn := set.partEn
                         partActive := set.partActive, off := d.2 }
      let b1 : Block := ({ b with tb := { b.tb with lastRx := SMap.set b.tb.lastRx n (set.txTime, t2 % 2 ^ 64), heard := SMap.set b.tb.heard src h }
                                  lastHeard := SMap.set b.lastHeard src b.now }).setLk n F.FAB_LTIME.DELAY (d.1.toNat / 256)
      (b.sync = 0 → exec (.tsSet n set frac) s = .next (s.withBlk b1)) ∧
      let known := b.sync = 2 ∨ (b.sync = 1 ∧ (set.isMaster = true → src = m))
      (b.sync = 1 → set.isMaster = true → src < m → ∃ b2 : Block, exec (.tsSet n set frac) s = .next (s.withBlk b2) ∧
        b2.eff pgTbs F.TBS_STATUS.MASTER_SLOT = src ∧ b2.eff pgTbs F.TBS_STATUS.MASTER_VALID = 1) ∧
      (known → b1.follows n set = none → exec (.tsSet n set frac) s = .next (s.withBlk b1)) ∧
      (∀ st, known → b1.follows n set = some st → ∃ b2 : Block,
        exec (.tsSet n set frac) s = .next (s.withBlk b2) ∧ b2 = b1.followSet st d.2 ∧
        b2.eff pgTbs F.TBS_STATUS.STRATUM = st % 2 ^ F.TBS_STATUS.STRATUM.width ∧
        (b.sync = 1 → d.2.natAbs ≤ b.eff pgTbs F.TBS_X_LOCK.LOCK_THR * 16 → b.eff pgTbs F.TBS_X_LOCK.LOCK_COUNT ≤ b.tb.lockRun + 1 →
          b2.sync = 2 ∧ bit (b2.hdr pgTbs).isr 0 = true) ∧
        (b.sync = 1 → b.eff pgTbs F.TBS_X_LOCK.LOCK_THR * 16 < d.2.natAbs → 0 < b.eff pgTbs F.TBS_X_LOCK.LOCK_COUNT →
          b2.sync = 1 ∧ b2.tb.lockRun = 0))) ∧
    (∀ t0, b.tb.trainedAt = some t0 → b.sync = 0 → b.tb.elected = false → t0 + 100000000 ≤ b.now →
      let masters := (b.tb.heard.filter (fun h => h.2.isMaster && b.stillHeard h.2)).map Prod.fst
      let cands := if masters ≠ [] then masters else (if b.tbmEn then [b.slotId] else []) ++ (b.tb.heard.filter (fun h => h.2.tbmEn)).map Prod.fst
      let b1 : Block := { b with tb := { b.tb with elected := true } }
      (cands = [] → exec .election s = .next (s.withBlk b1)) ∧
      ∀ m ∈ cands, (∀ c ∈ cands, m ≤ c) →
        (m = b.slotId → exec .election s = .next (s.withBlk
          (((b1.takeMaster m).put pgTbs F.TBS_STATUS.STRATUM 0).enterSync 4).masterChanged)) ∧
        (m ≠ b.slotId → exec .election s = .next (s.withBlk (((b1.takeMaster m).enterSync 1).stepTime
          (match SMap.find b.tb.heard m with
            | some h => ticksOf h.off
            | none => 0))))) ∧
    (b.sync = 2 → b.tb.lastSet + b.eff pgTbs F.TBS_CFG.MASTER_LOSS * 1000 ≤ b.now →
      let b1 := b.enterSync 3
      b1.eff pgTbs T = 3 ∧
      (b1.claims = false → exec .masterLoss s = .next (s.withBlk b1)) ∧
      (b1.claims = true → exec .masterLoss s = .next (s.withBlk (b1.becomeMaster.reportPage pgTbs 0x0404)))) ∧
    (b.sync = 3 → b.tb.since + b.eff pgTbs F.TBS_CFG.HOLDOVER_MAX * 1000000 ≤ b.now →
      exec .holdoverTimeout s = .next (s.withBlk ((((b.enterSync 5).bump pgTbs F.TBS_CNT0.LOCK_LOSS_CNT).raise pgTbs 1).reportPage pgTbs 0x0401)))

/-- The reference inputs of a package that follows none (R156), and the step starts that the master announces (R176, R177). -/
def Obligations.TimebaseReference : Prop :=
  ∀ (s : State) (h : CtrlIn) (k : Fin 16) (no start : BitVec 64), s.live →
    let b := s.blk
    (b.usesRef = true → b.eff pgTbs F.TBS_CFG.PPS_EN = 1 →
      let stamp := wrapInt 64 ((b.now : Int) - sext 16 (b.eff pgTbs F.TBS_X_PPS.PPS_DELAY) / 16)
      let r := stamp % 1000000000
      let up := (1000000000 - r) % 1000000000
      let stamped (b : Block) (now stamp : Nat) : Block :=
        ({ b with tb := { b.tb with lastPps := some now, ppsMissed := false } }.put pgTbs F.TBS_LAST_PPS.LAST_PPS stamp).put pgTbs F.TBS_STATUS.PPS_OK 1
      let b1 := stamped b b.now stamp
      (b.eff pgTbs F.TBS_CFG.PPS_ALIGN = 0 → exec .ppsEdge s = .next (s.withBlk b1)) ∧
      (b.eff pgTbs F.TBS_CFG.PPS_ALIGN = 1 → b.sync = 0 → b.tb.ppsAligned = false → exec .ppsEdge s = .next (s.withBlk
        (stamped { b with now := (b.now + up) % 2 ^ 64, tb := { b.tb with ppsAligned := true } } ((b.now + up) % 2 ^ 64) ((stamp + up) % 2 ^ 64)))) ∧
      (b.eff pgTbs F.TBS_CFG.PPS_ALIGN = 1 → b.sync = 0 → b.tb.ppsAligned = true → exec .ppsEdge s = .next (s.withBlk b1)) ∧
      (b.eff pgTbs F.TBS_CFG.PPS_ALIGN = 1 → b.sync = 4 → b.isReady = false → exec .ppsEdge s = .next (s.withBlk b1)) ∧
      (b.eff pgTbs F.TBS_CFG.PPS_ALIGN = 1 → b.sync = 4 → b.isReady = true → exec .ppsEdge s = .next (s.withBlk
        { b1 with tb := { b1.tb with slew := if r ≤ 500000000 then -(r : Int) else 1000000000 - (r : Int) } }))) ∧
    (b.usesRef = true → b.eff pgTbs F.TBS_CFG.PPS_EN = 1 → b.tb.ppsMissed = false → b.tb.lastPps.getD 0 + 1100000000 < b.now →
      exec .ppsMiss s = .next (s.withBlk (((({ b with tb := { b.tb with ppsMissed := true } }.put pgTbs F.TBS_STATUS.PPS_OK 0).bump pgTbs
        F.TBS_CNT1.PPS_MISS_CNT).raise pgTbs 4).reportPage pgTbs 0x0403))) ∧
    (b.usesRef = true → b.eff pgTbs F.TBS_CFG.EXT_REF_EN = 1 → b.eff pgTbs F.TBS_STATUS.REF_OK = 1 →
      exec .refLoss s = .next (s.withBlk (((b.put pgTbs F.TBS_STATUS.REF_OK 0).raise pgTbs 3).reportPage pgTbs 0x0402))) ∧
    (b.usesRef = true → b.eff pgTbs F.TBS_CFG.EXT_REF_EN = 1 → exec .refOk s = .next (s.withBlk
      ((b.draw.2.put pgTbs F.TBS_STATUS.REF_OK 1).put pgTbs F.TBS_FREQ.FREQ (Config.refFreq b.draw.1).toNat))) ∧
    (b.sync = 4 → b.safe = false → b.stepDue k = false → bit b.partActive k = true ∨ (∃ e ∈ b.tb.heard, bit e.2.partEn k = true ∧ bit e.2.partActive k = true ∧ b.stillHeard e.2 = true) →
      let at_ := max (b.eff pgTbs F.TBS_PLAN_END.PLAN_END k) (b.now + b.eff pgTbs F.TBS_STEP.ANNOUNCE_LEAD * 1000)
      let n := SMap.get 0 b.tb.lastBakeNo k + 1
      exec (.announceNextStart k) s = .next (s.withBlk
        ((b.recordStart k n at_).castCtrl (2 ^ 64 - 1) ckSTEP_ANNOUNCE (stepBody k n at_))) ∧ (b.recordStart k n at_).stepDue k = true) ∧
    (let body := stepBody k no.toNat start.toNat
     let b1 := b.noted h ckSTEP_ANNOUNCE body
     s.hears h ckSTEP_ANNOUNCE body →
      (SMap.get 0 b.tb.lastBakeNo k < no.toNat → exec (.stepAnnounce h k no start) s = .next (s.withBlk (b1.recordStart k no.toNat start.toNat))) ∧
      (no.toNat ≤ SMap.get 0 b.tb.lastBakeNo k → exec (.stepAnnounce h k no start) s = .next (s.withBlk b1)))

/-- Barriers over the rack complete, release and fail (R167 to R170), plan entries go to their Scores (R174), and a layer's rounds are voted
and closed (R179, R180). -/
def Obligations.BarriersAndVotes : Prop :=
  ∀ (s : State) (h : CtrlIn) (k : Fin 16) (tag : BitVec 8) (id : BitVec 12) (failed : Bool) (l : Fin 256) (no : BitVec 64) (rounds : BitVec 8),
    s.live →
    let b := s.blk
    let x := b.bar k id.toNat
    let q := b.bake k
    let lay := q.layer l
    (let body := barDoneBody k tag.toNat id.toNat failed
     let b1 := b.noted h ckBAR_DONE body
     s.hears h ckBAR_DONE body →
      (b.tagCurrent k tag.toNat = false → exec (.barDone h k tag id failed) s = .next (s.withBlk b1.countStale.missCounts)) ∧
      (b.tagCurrent k tag.toNat = true → x.st = .opened →
        let y : Bar := { x with doneFrom := setBits x.doneFrom h.src 1 1 }
        let b2 := b1.setBar k id.toNat y
        (failed = true → exec (.barDone h k tag id failed) s = .next (s.withBlk (b1.failBar k id.toNat 2).missCounts)) ∧
        (failed = false → x.localDone = true → b.allDone k y = true → exec (.barDone h k tag id failed) s = .next (s.withBlk
          (b2.setBar k id.toNat { y with st := .completed (b.now + b.eff pgTbs F.TBS_BAR.RELEASE_LEAD) }).missCounts)) ∧
        (failed = false → x.localDone = false ∨ b.allDone k y = false → exec (.barDone h k tag id failed) s = .next (s.withBlk b2.missCounts)))) ∧
    (∀ r, x.st = .completed r → r ≤ b.tb.replica → exec (.barRelease k id) s = .next (s.withBlk
      ((b.setBar k id.toNat { x with st := .released r }).wakeBarw k id.toNat 0))) ∧
    (id ≠ 0 → x.st = .opened → b.barTimedOut k id.toNat = true → ∃ b1 : Block,
      exec (.barTimeout k id) s = .next (s.withBlk b1.missCounts) ∧ b1 = b.failBar k id.toNat 1 ∧ (b1.bar k id.toNat).st = .failed 1 ∧
      bit (b1.hdr pgTbs).isr 5 = true ∧ ∃ e ∈ b1.reports, e.2.code = 0x0405) ∧
    (∀ before e after, q.pushQ.filter (fun c => !b.scoreFull c.island) = before ++ e :: after →
      (∀ c ∈ before, b.queuedLaunch k e < b.queuedLaunch k c) → (∀ c ∈ after, b.queuedLaunch k e ≤ b.queuedLaunch k c) →
      exec (.planPush k) s = .next (s.withBlk
        ((b.setBake k { q with pushQ := q.pushQ.erase e }).pushArriving e.island (q.entry k (b.planRec e.record) e) .serving))) ∧
    (∀ p, q.active = true → l < q.layers.length → SMap.get false q.voteSent l = false → SMap.find q.rounds l = none →
      b.plan? k (b.plcLayerOf k l) = some p → p.failed = false → q.start + lay.voteOff + q.shift lay.voteOff ≤ b.now →
      exec (.voteSend k l) s = .next (s.withBlk
        (((b.setBake k { q with voteSent := SMap.set q.voteSent l true }).recordVote k l b.slotId (p.vote b.slotId)).castCtrl
          (q.members ||| 2 ^ b.eff pgTbs F.TBS_STATUS.MASTER_SLOT) ckVOTE
          (leBytes 1 k ++ leBytes 8 q.bakeNo ++ leBytes 2 l ++ leBytes 1 (p.vote b.slotId))))) ∧
    (let body := leBytes 1 k ++ leBytes 8 no.toNat ++ leBytes 2 l ++ leBytes 1 rounds.toNat
     s.hears h ckVOTE body → q.active = true ∨ q.watched = true → q.bakeNo = no.toNat → l < q.layers.length →
      exec (.vote h k no l rounds) s = .next (s.withBlk ((b.noted h ckVOTE body).setBake k
        { q with votes := SMap.set q.votes (l * 64 + h.src) rounds.toNat }))) ∧
    (q.active = false → q.watched = true → l < q.layers.length → SMap.find q.rounds l = none → q.start + lay.closeOff + q.shift lay.closeOff ≤ b.now →
      let r := (bitIndices 64 q.members).foldl (fun m v => max m ((SMap.find q.votes (l * 64 + v)).getD (b.eff pgMoe F.MOE_PCTL.OVERFLOW_ROUNDS_MAX k))) 0
      ∃ b1 : Block, exec (.voteClose k l) s = .next (s.withBlk b1) ∧ SMap.find (b1.bake k).rounds l = some r ∧
        (b1.bake k).planEnd = q.planEnd + r * lay.roundTicks ∧ b1.eff pgTbs F.TBS_PLAN_END.PLAN_END k = (q.planEnd + r * lay.roundTicks) % 2 ^ 64 ∧
        b1.shifts = b.shifts ∧ (b1.bake k).pushQ = q.pushQ) ∧
    (q.active = true → l < q.layers.length → SMap.find q.rounds l = none → q.start + lay.closeOff + q.shift lay.closeOff ≤ b.now →
      let voters := bitIndices 64 (q.members ||| 2 ^ b.slotId)
      let r := voters.foldl (fun m v => max m ((SMap.find q.votes (l * 64 + v)).getD (b.eff pgMoe F.MOE_PCTL.OVERFLOW_ROUNDS_MAX k))) 0
      let held := (b.scores.filter (fun p => p.2.entries.any (fun e => decide (e.e.part = k)))).map Prod.fst
      ∃ b1 : Block, exec (.voteClose k l) s = .next (s.withBlk b1) ∧ SMap.find (b1.bake k).rounds l = some r ∧
        (b1.bake k).planEnd = q.planEnd + r * lay.roundTicks ∧ b1.scores = b.scores ∧
        b1.shifts = b.shifts ++ held.map (fun i => (i, k.val, q.bakeNo % 256, q.start + lay.insertOff + q.shiftBefore lay, r * lay.roundTicks)) ∧
        (r = 0 → b1.eff pgMoe F.MOE_DEFER_CNT.DEFER_CNT = b.eff pgMoe F.MOE_DEFER_CNT.DEFER_CNT) ∧
        (r ≠ 0 → bit (b1.hdr pgMoe).isr 1 = true ∧
          b1.eff pgMoe F.MOE_DEFER_CNT.DEFER_CNT = (b.eff pgMoe F.MOE_DEFER_CNT.DEFER_CNT + r) % 2 ^ F.MOE_DEFER_CNT.DEFER_CNT.width))

/-! ### Steps and serving -/

/-- The boundary of a step, the idle poll, delivery, tenant updates and draft requests (R46 to R49, R297, R300, R308, R316, R321, R326). -/
def Obligations.StepsRunInOrder : Prop :=
  ∀ (s : State) (k : Fin 16) (toks : List (Nat × List Nat)) (ten : BitVec 12) (a : Agent) (h : CtrlIn) (seq : Fin 16384) (model : BitVec 8)
    (pool : Fin 16) (lused : BitVec 4) (len : BitVec 32), s.live →
    let b := s.blk
    let v := b.srv k
    (let r := b.rampAuto
     ∀ st, SMap.find r.tb.steps k = some st → st.due = true → st.start ≤ r.now →
      let b1 : Block := { r with stepTick := some r.now, tb := { r.tb with steps := SMap.set r.tb.steps k { st with due := false } } }
      (r.safe = true → exec (.stepStartTick k toks) s = .next (s.withBlk (b1.watchBake k st).rest)) ∧
      (r.safe = false → r.enabled (pgPart k) = false ∨ r.synced = false →
        exec (.stepStartTick k toks) s = .next (s.withBlk ((b1.commitShared st.announcedAt).watchBake k st).rest)) ∧
      (r.safe = false → r.enabled (pgPart k) = true → r.synced = true → (r.srv k).delivered = true →
        let b2 := (b1.commitShared st.announcedAt).trace 2 0x0F03 (pgPart k) 399 (some k.val) (st.bakeNo % 65536)
        let c := b2.item1 k st.bakeNo
        let b3 := ((c.commitPart k).tenTakes k (c.sv k F.SRV_X_ADMIT.TEN_UPD_MAX)).modelSwitch k st.bakeNo
        let b4 := b3.plcBoundary k st.bakeNo
        let b5 := (((List.range 16).foldl (fun b i => b.readRing k st.start i) (b4.companions k st.start)).ageCancels k).item5 k st.start
        exec (.stepStartTick k toks) s = .next (s.withBlk (b5.item6 k st.bakeNo st.start (b4.membersOf k) toks).rest))) ∧
    (b.enabled (pgPart k) = true → b.sv k F.SRV_STAT.ACTIVE = 0 → b.safe = false →
      (∀ t0, v.polled = some t0 → b.now < t0 + b.sv k F.SRV_POLL.IDLE_POLL * 1000 → exec (.idlePoll k) s = .next (s.withBlk b.rest)) ∧
      ((∀ t0, v.polled = some t0 → t0 + b.sv k F.SRV_POLL.IDLE_POLL * 1000 ≤ b.now) →
      exec (.idlePoll k) s = .next (s.withBlk (b.setSrv k { v with polled := some b.now, want := v.want || (List.range 16).any (fun i =>
        decide (b.eff (pgPart k) F.SRV_RING_CFG.RING_EN i = 1) && decide (b.eff (pgPart k) F.SRV_RING_CFG.ERR i = 0)
          && decide (b.m64 (b.ringOff k i) ≠ b.m64 (b.ringOff k i + 0x40))) }).rest))) ∧
    ((b.bake k).active = true → v.delivered = false → b.safe = false → b.enabled (pgPart k) = true → b.bakeBusy k = false →
      let es := (b.lenEntries k).map (fun p => (p, b.sampled k p.1 p.2 toks))
      let b1 := es.foldl (fun b x => b.phase6 k x.1 x.2) b
      let b2 := (b1.srv k).finals.foldl (fun b q =>
        let f := b.finalRecord k q (b.cx k q 0xE 1) 0
        f.1.setCx k q 0xE 1 f.2) b1
      let b3 := es.foldl (fun b x => (b.phase7 k x.1.2 x.2).adaptEntry k x.1.2 x.2) (b2.setSrv k { b2.srv k with finals := [] })
      let b4 := es.foldl (fun b x => b.askDraft k x.1.2.seq (b.lenAfter k x.1)) b3
      exec (.deliver k toks) s = .next (s.withBlk (b4.setSrv k { b4.srv k with delivered := true }).rest)) ∧
    (b.enabled (pgPart k) = true → b.sv k F.SRV_STAT.ACTIVE = 0 → b.sv k F.SRV_CFG.ADMIT_STOP = 1 → v.drained = false →
      exec (.drained k) s = .next (s.withBlk ((b.setSrv k { v with drained := true }).raise (pgPart k) 7))) ∧
    (s.reaches (pgPart k) a →
      (v.tenQ.length < 256 → exec (.tenUpd k ten a) s = .next (s.withBlk
        ((b.setSrv k { v with tenQ := v.tenQ ++ [ten.toNat] }).put (pgPart k) F.SRV_TEN_Q.QUEUED (v.tenQ.length + 1)).rest)) ∧
      (256 ≤ v.tenQ.length → exec (.tenUpd k ten a) s = .next (s.withBlk (b.cfgReject (pgPart k)).rest))) ∧
    (let body := draftBody seq ten.toNat model.toNat pool lused.toNat len.toNat
     s.hears h ckDRAFT_REQ body →
      let j := (b.pool pool).part
      let d : Draft := { src := h.src, homeSeq := seq, tenant := ten.toNat, model := model.toNat, pool := pool, lused := min lused.toNat 8
                         homeLen := len.toNat, comp := none, n := 0, c := 0, idx := 0 }
      exec (.draftReq h seq ten model pool lused len) s = .next (s.withBlk ((b.noted h ckDRAFT_REQ body).setSrv j
        { b.srv j with draftsIn := (b.srv j).draftsIn.filter (fun y => !(decide (y.src = h.src.val) && decide (y.homeSeq = seq.val))) ++ [d] })))

/-! ### Frames, slices and channel groups -/

/-- Frames freeze and thaw through the freeze engine, and writers wait for their leases (R197 to R204). -/
def Obligations.FramesFreezeAndThaw : Prop :=
  ∀ (s : State) (id : Nat) (priv : Bool) (bytes : List Byte) (i : Fin 16) (sl : Fin 32) (slot : Fin 64) (first count : Nat), s.live →
    let b := s.blk
    (∀ x w, b.xfer? id = some x → x.phase = .retry w → w ≤ b.now → exec (.leaseRetry id) s = .next (s.withBlk (b.beginXfer id).rest)) ∧
    (let all := b.frzQueue ++ b.frzHeld ++ (frzRecords priv bytes).map (fun r => { r with writer := 0 })
     exec (.freezeDoorbell priv bytes) s = .next (s.withBlk { b with frzQueue := all.take 256, frzHeld := all.drop 256 })) ∧
    (∀ r q, b.frzQueue = r :: q →
      let b0 : Block := { b with frzQueue := (q ++ b.frzHeld).take 256, frzHeld := (q ++ b.frzHeld).drop 256 }
      let b1 : Block := match b.frzHeld with
        | h :: _ => b0.writeOver h.writer
        | [] => b0
      (r.op = 0 → exec .freezeNop s = .next (s.withBlk b1.rest)) ∧
      (r.op ≠ 0 → r.op ≠ 2 → b.frzStatus r ≠ 0 → exec .freezeOp s = .next (s.withBlk (b1.frzEnd r (b.frzStatus r) 0).rest)) ∧
      (r.op ≠ 0 → r.op ≠ 2 → b.frzStatus r = 0 → b.frzRuns.length < 16 → b.frzShares r = false →
        let fs := ((List.range r.frames).map (· + r.first)).filter (fun f => decide (b.frame f = frWRITABLE))
        (fs = [] → exec .freezeOp s = .next (s.withBlk (b1.frzEnd r 0 0).rest)) ∧
        (fs ≠ [] → exec .freezeOp s = .next (s.withBlk (let b2 := fs.foldl (fun b f => b.setFrame f frFREEZING) b1
          ({ b2 with frzRuns := b2.frzRuns ++ [{ req := r, first := r.first, todo := fs, frames := fs, acks := [], since := b.now
                                                 slowSeen := false }] } : Block).rest)))) ∧
      (r.op = 2 → b.frzStatus r ≠ 0 → exec .thawOp s = .next (s.withBlk (b1.frzEnd r (b.frzStatus r) 0).rest)) ∧
      (r.op = 2 → b.frzStatus r = 0 → b.frzRuns.length < 16 → b.frzShares r = false →
        (b.toThaw r = [] → exec .thawOp s = .next (s.withBlk (b1.frzEnd r 0 0).rest)) ∧
        (b.toThaw r ≠ [] → exec .thawOp s = .next (s.withBlk (let b2 := (b.toThaw r).foldl (fun b f => b.setFrame f frTHAWING) b1
          ({ b2 with frzRuns := b2.frzRuns ++ [{ req := r, first := r.first, todo := b.toThaw r, frames := b.toThaw r, acks := b.thawAcks
                                                 since := b.now, slowSeen := false }] } : Block).rest))))) ∧
    (∀ x, b.frzRuns[i.val]? = some x →
      let ready := x.todo.filter (fun f => decide (b.leaseCount f = 0))
      let left := x.todo.filter (fun f => decide (b.leaseCount f ≠ 0))
      let b1 := ready.foldl (fun b f => b.setFrame f frFROZEN) b
      (x.req.op = 1 → left = [] → exec (.freezeDrained i) s = .next (s.withBlk ((b1.dropRun i).frzEnd x.req 0 x.frames.length).rest)) ∧
      (x.req.op = 1 → left ≠ [] → exec (.freezeDrained i) s = .next (s.withBlk (b1.setRun i { x with todo := left }).rest)) ∧
      (x.req.op = 1 → x.slowSeen = false → x.since + b.eff pgDev F.DEV_FRZ_CFG.DRAIN_WARN * 1000 < b.now → exec (.freezeSlow i) s = .next (s.withBlk
        (((b.setRun i { x with slowSeen := true }).raise pgDev 1).reportPage pgDev 0x0609))) ∧
      (∀ c b2, (c, b2) ∈ [(ThawAck.slice i sl, b.applyThaw sl (b.slotId * 2 ^ 29 + x.first) x.req.frames), (.peer i slot, b)] →
        let who := if c = .slice i sl then sl.val else 32 + slot.val
        x.req.op = 2 → who ∈ x.acks →
          let acks := x.acks.filter (fun n => decide (n ≠ who))
          (acks ≠ [] → exec (.thawAck c) s = .next (s.withBlk (b2.setRun i { x with acks := acks }).rest)) ∧
          (acks = [] → exec (.thawAck c) s = .next (s.withBlk
            (((x.todo.foldl (fun b f => b.setFrame f frWRITABLE) b2).dropRun i).frzEnd x.req 0 x.frames.length).rest)))) ∧
    exec (.thawAck (.foreign slot first count sl)) s = .next (s.withBlk
      ((b.applyThaw sl (slot.val * 2 ^ 29 + first) count).emit (.event "thaw-ack" [slot.val, first, count, sl.val])).rest)

/-- A slice installs or refuses a fill (R204), lines are unpinned (R211), arbiters report starvation (R215), the scrub corrects or poisons
(R217 to R219), and channel groups retrain and retire at step starts (R221, R222). -/
def Obligations.MemoryIsRepaired : Prop :=
  ∀ (s : State) (sl g : Fin 32) (k : Fin 16) (m16 : BitVec 16) (m2 : BitVec 2) (a : Agent) (p : Fin 4096) (i : Fin 16) (off : BitVec 41)
    (bad : Fin 137) (temp : BitVec 8) (mr4 : BitVec 3), s.live →
    let b := s.blk
    let pm := pgMem (g / 2)
    let x := b.group g
    (∀ f, b.fills.find? (fun f => decide (f.slice = sl.val)) = some f →
      let b1 : Block := { b with fills := b.fills.erase f }
      (b.islandOpen (312 + sl) = true → b.fillOk sl f.line f.readTick = true → exec (.sliceFill sl) s = .next (s.withBlk (b1.installLine sl f.line f.part f.pin f.data).1)) ∧
      (b.islandOpen (312 + sl) = false ∨ b.fillOk sl f.line f.readTick = false → exec (.sliceFill sl) s = .next (s.withBlk (b1.bumpWrap (pgSlice sl) F.SLC_PERF.NOFILL)))) ∧
    (s.reaches (pgSlice sl) a → exec (.slcUnpin sl m16 a) s = .next (s.withBlk
      ({ b with lines := b.lines.map (fun e =>
          (e.1, if e.2.slice = sl.val ∧ m16.toNat.testBit e.2.part then { e.2 with pinned := false } else e.2)) } : Block).rest)) ∧
    (let b1 := (b.modHdr p (fun h => { h with stall := setBits h.stall i 1 1 })).raise p 0
     (pageKind p = .mem → b.retraining (2 * (p.val - 0xC0) + i.val / 8) = false →
        exec (.starve p i) s = .next (s.withBlk (b1.bump p F.MEM_STARVE_CNT.STARVE_CNT))) ∧
     (pageKind p = .slc → i < 2 → exec (.starve p i) s = .next (s.withBlk (b1.bump p F.SLC_STARVE_CNT.STARVE_CNT))) ∧
     (pageKind p = .fab → i < 3 → exec (.starve p i) s = .next (s.withBlk (b1.bump p F.FAB_QSTARVE_CNT.STARVE_CNT))) ∧
     (pageKind p = .clu → i < 2 → exec (.starve p i) s = .next (s.withBlk (b1.bump p F.CLU_STARVE_CNT.STARVE_CNT)))) ∧
    (let ch := b.channelOf off.toNat
     let pc := pgMem (ch / 16)
     let y := b.group (ch / 8)
     let fixed (c : Block) : Block := (c.bump pc F.MEM_ECC.CE_CNT (ch % 16)).reportPage pc 0x0601 ch
     (bad = 0 ∨ SMap.get false b.poison (off.toNat / 128) = true → exec (.scrub off bad) s = .next s) ∧
     (SMap.get false b.poison (off.toNat / 128) = false → 1 ≤ bad.val → bad.val ≤ 2 → exec (.scrub off bad) s = .next (s.withBlk (fixed b))) ∧
     (SMap.get false b.poison (off.toNat / 128) = false → 4 < bad.val →
       exec (.scrub off bad) s = .next (s.withBlk b.draw.2) ∨ exec (.scrub off bad) s = .next (s.withBlk (fixed b.draw.2)) ∨
       exec (.scrub off bad) s = .next (s.withBlk (b.draw.2.lineUe off.toNat))) ∧
     (SMap.get false b.poison (off.toNat / 128) = false → 3 ≤ bad.val → bad.val ≤ 4 →
        let recent := (y.ueTicks.filter (fun t => decide (b.now < t.2 + 3600000000000))) ++ [(ch, b.now)]
        let n := (recent.filter (fun t => decide (t.1 = ch))).length
        exec (.scrub off bad) s = .next (s.withBlk
          ((((({ b with poison := SMap.set b.poison (off.toNat / 128) true }).bump pc F.MEM_ECC.UE_CNT (ch % 16)).raise pc 1).setGroup (ch / 8)
            { y with ueTicks := recent, retireDue := y.retireDue || decide (b.eff pc F.MEM_UE_LIMIT.CH_UE_LIMIT ≤ n) }).reportPage pc 0x0602 ch)))) ∧
    (let l := [(F.MEM_RETRAIN.RETRAIN_PERIOD, 0), (F.MEM_RETRAIN.RETRAIN_DTEMP, 0)]
     s.reaches (pgMem k) a → b.standing (pgMem k) l → exec (.memRetrainReq k m2 a) s = .next (s.withBlk
      ((bitIndices 2 m2.toNat).foldl (fun b i => b.setGroup (2 * k.val + i) { b.group (2 * k.val + i) with retrainDue := true })
        (b.rewritten (pgMem k) l)).rest)) ∧
    (s.reaches (pgMem k) a → exec (.chRetireReq k m16 a) s = .next (s.withBlk
      ((bitIndices 16 m16.toNat).foldl (fun b c => b.setGroup (2 * k.val + c / 8) { b.group (2 * k.val + c / 8) with retireDue := true }) b).rest)) ∧
    (let bt := (b.put pm F.MEM_TEMP.TEMP temp.toNat).put pm F.MEM_TEMP.MR4_RATE mr4.toNat
     (b.atStep = false ∨ bt.retrainIsDue g = false ∨ b.groupRetired g = true ∨ (∃ j : Fin 32, b.retraining j = true) →
       exec (.retrainStart ⟨g, temp, mr4⟩) s = .next (s.withBlk bt)) ∧
     (b.atStep = true → bt.retrainIsDue g = true → b.groupRetired g = false → (∀ j : Fin 32, b.retraining j = false) →
       exec (.retrainStart ⟨g, temp, mr4⟩) s = .next (s.withBlk
         ((bt.setGroup g { x with since := b.now }).putBit pm F.MEM_GRP_STATUS.RETRAINING (g % 2) true)))) ∧
    (b.retraining g = true →
      let b1 := (b.putBit pm F.MEM_GRP_STATUS.RETRAINING (g % 2) false).bumpWrap pm F.MEM_PERF.RETRAIN_STALL 0 ((b.now - x.since) * 4 / 3)
      exec (.retrainDone g true) s = .next (s.withBlk ((b1.setGroup g
        { x with fails := 0, retrainDue := false, lastTrain := b.now, lastTemp := b.eff pm F.MEM_TEMP.TEMP }).raise pm 3)) ∧
      exec (.retrainDone g false) s = .next (s.withBlk ((b1.setGroup g
        { x with fails := x.fails + 1, retrainDue := decide (x.fails + 1 < 3), retireDue := x.retireDue || decide (3 ≤ x.fails + 1) }).reportPage
          pm 0x0607 (g % 2)))) ∧
    (x.retireDue = true → b.atStep = true → b.groupRetired g = false → ∃ b1 : Block, exec (.groupRetire g) s = .next (s.withBlk b1.rest) ∧
      b1 = b.retireGroup g ∧ b1.groupRetired g = true ∧ b1.retraining g = false ∧ (b1.group g).retireDue = false ∧
      bit (b1.hdr pm).isr 2 = true ∧ ∃ e, b1.reports = b.reports ++ [(b.hearthAt (344 + g / 2), e)] ∧ e.page = pm ∧ e.code = 0x0606)

/-! ### KV pools, expert placement and models -/

/-- KV pools, pages and prefix entries (R231, R236, R245, R251), the placement table and the plan of a layer (R264, R265, R276). -/
def Obligations.PoolsAndPlacement : Prop :=
  ∀ (s : State) (k : Fin 16) (pg : BitVec 32) (seq : Fin 16384) (i : BitVec 16) (l : Fin 256) (a : Agent), s.live →
    let b := s.blk
    let r := b.seqRec seq
    (b.kvmWorks = false → exec (.poolInitDone k) s = .next (s.withBlk b.rest) ∧ exec (.pageThawDone k pg) s = .next (s.withBlk b.rest) ∧
      exec (.kvFreezeDone seq i pg) s = .next (s.withBlk b.rest)) ∧
    (∀ st, b.kvmWorks = true → b.poolState k = poINIT → b.takeDone (.poolInit k) = some st → let b1 := b.dropDone (.poolInit k)
      (st = 0 → exec (.poolInitDone k) s = .next (s.withBlk ((b1.put pgKvm F.KVM_FREE.FREE (b.pool k).pages k).setPoolState k poON).rest)) ∧
      (st ≠ 0 → exec (.poolInitDone k) s = .next (s.withBlk
        (b1.kvmAsk (.poolInit k) 2 ((b.pool k).wfirst * winSize) ((b.pool k).wcount * winFrames)).rest))) ∧
    (∀ st, b.kvmWorks = true → b.takeDone (.kvThaw k pg.toNat) = some st → let b1 := b.dropDone (.kvThaw k pg.toNat)
      (st = 0 → exec (.pageThawDone k pg) s = .next (s.withBlk (b1.pushPage k pg.toNat).rest)) ∧
      (st ≠ 0 → exec (.pageThawDone k pg) s = .next (s.withBlk
        (b1.kvmAsk (.kvThaw k pg.toNat) 2 ((b.pool k).pageOff pg.toNat) ((b.pool k).pageBytes / 4096)).rest))) ∧
    (∀ st, b.kvmWorks = true → b.takeDone (.kvPage seq i.toNat pg.toNat) = some st → let b1 := b.dropDone (.kvPage seq i.toNat pg.toNat)
      (st ≠ 0 ∨ r.valid = false ∨ r.held ≤ i.toNat ∨ b.plEntry seq i.toNat ≠ pg.toNat →
        exec (.kvFreezeDone seq i pg) s = .next (s.withBlk b1.rest)) ∧
      (st = 0 → r.valid = true → i.toNat < r.held → b.plEntry seq i.toNat = pg.toNat → r.frozen = i.toNat → ∃ b2 : Block,
        exec (.kvFreezeDone seq i pg) s = .next (s.withBlk b2.rest) ∧ (let c := b1.setSeqRec seq { r with frozen := i.toNat + 1 }
          let j := (c.pool r.pool).part
          b2 = c.pfxInsert j seq i.toNat (c.cxModel j seq) (c.bake j).bakeNo))) ∧
    (s.reaches pgKvm a →
      let t := b.rewritten pgKvm [(F.KVM_PFX_CFG.PREFIX_EN, k.val), (F.KVM_PFX_CFG.VERIFY, k.val), (F.KVM_PFX_CFG.BLOCK_LOG2, k.val)]
      (b.takes pgKvm F.KVM_PFX_CFG.CLEAR = false → exec (.pfxClear k a) s = .next (s.withBlk (b.cfgReject pgKvm).rest)) ∧
      (b.takes pgKvm F.KVM_PFX_CFG.CLEAR = true →
        b.standing pgKvm [(F.KVM_PFX_CFG.PREFIX_EN, k.val), (F.KVM_PFX_CFG.VERIFY, k.val), (F.KVM_PFX_CFG.BLOCK_LOG2, k.val)] →
        exec (.pfxClear k a) s = .next (s.withBlk (t.putPnd pgKvm F.KVM_PFX_CFG.CLEAR (b.shown pgKvm F.KVM_PFX_CFG.CLEAR k ||| 1) k).rest))) ∧
    (s.reaches pgMoe a → b.standing pgMoe [(F.MOE_PCTL.OVERFLOW_ROUNDS_MAX, k.val)] →
      let done (c : Block) : State := s.withBlk (c.rewritten pgMoe [(F.MOE_PCTL.OVERFLOW_ROUNDS_MAX, k.val)]).rest
      let fresh := ((b.put pgMoe F.MOE_PCTL.ARM 1 k).put pgMoe F.MOE_PCTL.SWAP_ERR 0 k).put pgMoe F.MOE_PCTL.CHECKED 0 k
      (b.eff pgBoot F.BOOT_STAT.READY = 0 → exec (.arm k true a) s = .next (done (b.cfgReject pgMoe))) ∧
      (b.eff pgBoot F.BOOT_STAT.READY ≠ 0 → b.eff pgMoe F.MOE_PCTL.ARM k = 1 → exec (.arm k true a) s = .next (done b)) ∧
      (b.eff pgBoot F.BOOT_STAT.READY ≠ 0 → b.eff pgMoe F.MOE_PCTL.ARM k ≠ 1 → exec (.arm k true a) s = .next (done fresh)) ∧
      exec (.arm k false a) s = .next (done ((b.put pgMoe F.MOE_PCTL.ARM 0 k).put pgMoe F.MOE_PCTL.CHECKED 0 k))) ∧
    (b.eff pgMoe F.MOE_PCTL.ARM k = 1 → b.eff pgMoe F.MOE_PCTL.CHECKED k ≠ 1 → b.safe = false → b.runs pgMoe = true →
      let t := b.eff pgMoe F.MOE_PLC_NEXT.PLC_NEXT k % 2 ^ 41
      let bw := b.watch t (64 + b.plcLayers t * b.plcStride t * 32)
      let ok := ({ bw with plcNext := SMap.set bw.plcNext k (bw.plcSumOf t) }.put pgMoe F.MOE_PCTL.CHECKED 1 k).raise pgMoe 6
      (b.plcOk k t = false → exec (.plcCheckDone k) s = .next (s.withBlk
        (((((bw.put pgMoe F.MOE_PCTL.ARM 0 k).put pgMoe F.MOE_PCTL.CHECKED 0 k).put pgMoe F.MOE_PCTL.SWAP_ERR 1 k).raise pgMoe 4).reportPart
          pgMoe 0x0801 k))) ∧
      (b.plcOk k t = true → b.epoch k ≠ 0 → exec (.plcCheckDone k) s = .next (s.withBlk ok)) ∧
      (b.plcOk k t = true → b.epoch k = 0 → ∃ b1 : Block, exec (.plcCheckDone k) s = .next (s.withBlk b1) ∧ b1 = ok.plcSwap k ∧
        b1.epoch k = b.m32 (t + 4) ∧ b1.plcActive k = t ∧ b1.eff pgMoe F.MOE_PCTL.ARM k = 0)) ∧
    (∀ w ws, b.plan? k l = none → b.countWindows k l = w :: ws → b.safe = false → b.runs pgMoe = true → b.countComplete k l = true →
      let rec_ := b.mem.read (w.moe.lrec % 2 ^ 41) 128
      let p : MoePlan := { rec128 := rec_, rlim := b.rlimOf k rec_, members := (b.bake k).members, bakeNo := (b.bake k).bakeNo
                           hist := b.readHists rec_ (b.bake k).members, failed := false, countAt := b.now }
      (b.routes? k rec_ = false → exec (.moePlan k l) s = .next (s.withBlk
        ((if b.epoch k = 0 then b else b.reportPart pgMoe 0x0806 k).countFailed k l rec_).rest)) ∧
      (b.routes? k rec_ = true → exec (.moePlan k l) s = .next (s.withBlk
        ((({ b with plans := SMap.set b.plans (planKey k l) p }).countPlan k p).writeStats p).rest)))

/-- The commands of the breadbox and their ends (R312 to R314): what each state takes, and CHK_ERR with the error bit for what it does not. -/
def Obligations.ModelsAreManaged : Prop :=
  ∀ (s : State) (k : Fin 16) (i : Fin 256) (a : Agent), s.live →
    let b := s.blk
    let x := b.brd i
    let p := pgPart k
    let refused := s.withBlk (((b.setBrd i { x with chkErr := 5 }).raise p 3).rest)
    let idle := ∀ e ∈ b.acts, e.id ≠ x.job
    (s.reaches p a →
      (x.st = bbEMPTY → ∃ d, ∃ c : Block,
        exec (.bbCheck k i a) s = .next (s.withBlk (c.setBrd i { st := bbCHECKING, part := k, chkErr := 0, desc := d, job := 0 }).rest) ∧
        ∀ off, b.localOff (b.sv k F.SRV_BB_DESC.DESC) = some off → c = b.watch off 128 ∧
          (b.usable off 128 = true → b.poisoned off 128 = false → d = b.mem.read off 128)) ∧
      (x.st ≠ bbEMPTY → exec (.bbCheck k i a) s = .next refused) ∧
      (x.st = bbWARM → x.part = k → exec (.promote k i a) s = .next (s.withBlk
        (((b.setBrd i { x with st := bbPROMOTING, job := b.nextId }).bbList k (field x.desc 0x40 8)).rest))) ∧
      (x.st ≠ bbWARM ∨ x.part ≠ k → exec (.promote k i a) s = .next refused) ∧
      (x.st = bbHOT → x.part = k → b.bbUsers i = 0 → exec (.demote k i a) s = .next (s.withBlk
        (((b.setBrd i { x with st := bbDEMOTING, job := b.nextId }).bbList k (field x.desc 0x48 8)).rest))) ∧
      (x.st ≠ bbHOT ∨ x.part ≠ k ∨ b.bbUsers i ≠ 0 → exec (.demote k i a) s = .next refused) ∧
      (x.st = bbWARM → x.part = k → b.bbUsers i = 0 → exec (.bbFree k i a) s = .next (s.withBlk (b.setBrd i { x with st := bbFREEING }).rest)) ∧
      (x.st ≠ bbWARM ∨ x.part ≠ k ∨ b.bbUsers i ≠ 0 → exec (.bbFree k i a) s = .next refused)) ∧
    (x.st = bbCHECKING → let c := b.residency x.part x.desc
      (c = 0 → exec (.bbCheckDone i) s = .next (s.withBlk (((b.watchModel x.desc).setBrd i { x with st := bbWARM }).raise (pgPart x.part) 2))) ∧
      (c ≠ 0 → exec (.bbCheckDone i) s = .next (s.withBlk
        ((((b.watchModel x.desc).setBrd i { x with st := bbEMPTY, chkErr := c, desc := [] }).raise (pgPart x.part) 3).reportPart (pgPart x.part) 0x0903 x.part)))) ∧
    (x.st = bbPROMOTING → idle →
      exec (.promoteDone i) s = .next (s.withBlk ((b.setBrd i { x with st := bbHOT }).raise (pgPart x.part) 2).rest)) ∧
    (x.st = bbDEMOTING → idle →
      exec (.demoteDone i) s = .next (s.withBlk ((b.setBrd i { x with st := bbWARM }).raise (pgPart x.part) 2).rest)) ∧
    (x.st = bbFREEING → ∃ b1 : Block, exec (.freeDone i) s = .next (s.withBlk b1.rest) ∧ b1.brd i = breadNone ∧
      bit (b1.hdr (pgPart x.part)).isr 2 = true ∧ b1.tiles = b.tiles ∧ b1.bake k = b.bake k)

/-! ### Links and the fabric -/

/-- A link detects, trains, aligns, learns its peer and comes UP, or goes DOWN or REFUSED (R339 to R342). -/
def Obligations.LinksComeUp : Prop :=
  ∀ (s : State) (n : Fin 63) (lanes pol : BitVec 8) (lane : Fin 8) (set : IdentSet) (asym : BitVec 16), s.live →
    let b := s.blk
    let x := b.link n
    let p := linkPage n
    let good := lanes.toNat &&& allLanes n
    (b.lstate n = lsDETECT → exec (.laneSignalDetect n) s = .next (s.withBlk (b.enterLink n lsTRAIN))) ∧
    (b.lstate n = lsDETECT → x.since + 100000000 ≤ b.now → exec (.detectTimeout n) s = .next (s.withBlk (b.linkDown n 0).rest)) ∧
    (b.lstate n = lsTRAIN → good = 0 → exec (.trainDone n lanes pol) s = .next (s.withBlk (b.linkDown n 0x0B01).rest)) ∧
    (b.lstate n = lsTRAIN → good ≠ 0 → exec (.trainDone n lanes pol) s = .next (s.withBlk
      (((((b.setLk n F.FAB_LEXP.POL_INV (pol.toNat &&& good)).showLanes n 0 (allLanes n - good)).setLink n { x with trained := good }).enterLink
        n lsALIGN).rest))) ∧
    (b.lstate n = lsALIGN → exec (.alignLock n) s = .next (s.withBlk ((b.enterLink n lsIDENT).identSet n false))) ∧
    (b.lstate n = lsIDENT → x.trained.testBit lane = true →
      let slot := set.slot % 64
      let y : LinkX := { x with peerGood := set.good, order := SMap.set x.order lane set.lane }
      let b1 : Block := { b with occupied := setBits b.occupied slot 1 1 }
      let named := (((b1.setLk n F.FAB_LSTAT.PEER_SLOT slot).setLk n F.FAB_LPSER.PEER_SERIAL set.serial).setLk n
        F.FAB_LSTAT.LANE_PERM (b2n y.permuted)).setLk n F.FAB_LSTAT.PEER_VALID 1
      let known (loop : Nat) := ((named.setLink n y).setLk n F.FAB_LSTAT.LOOPBACK loop).setLk n
        F.FAB_LSTAT.PEER_MISMATCH 0
      let twice := ∃ m : Fin 63, m ≠ n ∧ b.knowsPeer m = true ∧ b.peerOf m = slot ∧
        b.lk m F.FAB_LPSER.PEER_SERIAL ≠ set.serial % 2 ^ 64
      (set.refuse = true → exec (.identSet n ⟨lane, set⟩) s = .next (s.withBlk
        ((b1.setLk n F.FAB_LSTAT.REFUSED_BY_PEER 1).linkRefuse n 0x0B04).rest)) ∧
      (set.refuse = false → slot = b.slotId → exec (.identSet n ⟨lane, set⟩) s = .next (s.withBlk ((known 1).linkRefuse n 0x0B04).rest)) ∧
      (set.refuse = false → slot ≠ b.slotId → twice → exec (.identSet n ⟨lane, set⟩) s = .next (s.withBlk ((known 0).slotDup slot).rest)) ∧
      (set.refuse = false → slot ≠ b.slotId → ¬ twice → slot ≠ expectedPeer b.slotId n →
        let odd := (((known 0).setLk n F.FAB_LSTAT.PEER_MISMATCH 1).raise p 4).reportPage p 0x0B03 n
        exec (.identSet n ⟨lane, set⟩) s = .next (s.withBlk
          (if b.lk n F.FAB_LCFG.STRICT_SLOT = 1 then odd.linkRefuse n 0x0B04 else odd.identNews n x).rest)) ∧
      (set.refuse = false → slot ≠ b.slotId → ¬ twice → slot = expectedPeer b.slotId n →
        exec (.identSet n ⟨lane, set⟩) s = .next (s.withBlk ((known 0).identNews n x).rest))) ∧
    (∀ g, b.lstate n = lsIDENT → b.knowsPeer n = true → chooseGroup n (x.usable n) = some g →
      exec (.identDone n asym) s = .next (s.withBlk
        (((((b.setLink n { x with credit := fullCredit n }).setLk n F.FAB_LTIME.ASYM asym.toNat).linkGroup n g).enterLink n lsUP).raise p 1).rest))

/-- An UP link narrows, is lost, retrains, retries and carries flits with their acknowledgements and replays (R339, R343 to R347). -/
def Obligations.LinksCarryFlits : Prop :=
  ∀ (s : State) (n : Fin 63) (lane : Fin 8) (mask : BitVec 8) (a : Agent) (kind : BitVec 4) (fseq : BitVec 16) (fec : BitVec 8) (crc : Bool)
    (u : LinkAck) (nak : Bool), s.live →
    let b := s.blk
    let x := b.link n
    let p := linkPage n
    let i := linkPos n
    (b.lstate n = lsUP → lane < linkLanes n → x.trained.testBit lane = true →
      let left := setBits x.trained lane 1 0
      let q := laneAt n lane
      let b1 := (((b.setLink n { x with trained := left }).putBit (pgQuad q.1) F.FAB_QLANE.LANE_UP q.2 false).putBit (pgQuad q.1)
        F.FAB_QLANE.LANE_DIS q.2 true).reportPage p 0x0B02 n
      let usable := ({ x with trained := left } : LinkX).usable n
      (chooseGroup n usable = none → exec (.laneRetire n lane) s = .next (s.withBlk (b1.linkDown n 0x0B01).rest)) ∧
      (chooseGroup n usable ≠ none → exec (.laneRetire n lane) s = .next (s.withBlk (b1.narrowStart n usable).rest))) ∧
    (b.linkUp n = true →
      let b0 := if b.lstate n = lsUP then b.narrowStart n (x.usable n) else b
      let y := b0.link n
      let m := y.narrowMask &&& mask.toNat
      let sets := if m = y.narrowMask ∧ m = mask.toNat then y.narrowSets + 1 else 0
      let b1 := b0.setLink n { y with narrowMask := m, narrowSets := sets }
      (chooseGroup n m = none → exec (.narrowSet n mask) s = .next (s.withBlk (b1.linkDown n 0x0B01).rest)) ∧
      (∀ g, chooseGroup n m = some g → sets < 16 → exec (.narrowSet n mask) s = .next (s.withBlk b1.rest)) ∧
      (∀ g, chooseGroup n m = some g → 16 ≤ sets → exec (.narrowSet n mask) s = .next (s.withBlk
        ((((b1.setLink n { b1.link n with peerGood := y.peerGood &&& m }).linkGroup n g).enterLink n lsUP).pump n).rest))) ∧
    (b.linkUp n = true → exec (.linkLoss n) s = .next (s.withBlk (b.linkDown n 0x0B01).rest) ∧
      (b.linkDown n 0x0B01).lstate n = lsDOWN ∧ (b.linkDown n 0x0B01).width n = 0) ∧
    (let l := [(F.FAB_LCFG.LINK_EN, i), (F.FAB_LCFG.STRICT_SLOT, i)]
     let r := b.rewritten p l
     s.reaches p a → b.standing p l →
      (b.linkUp n = true → exec (.linkRetrainReq n a) s = .next (s.withBlk (r.linkDown n 0).rest)) ∧
      (b.lstate n = lsDOWN ∨ (b.lstate n = lsREFUSED ∧ x.dupRefused = false) →
        exec (.linkRetrainReq n a) s = .next (s.withBlk (r.linkDetect n).rest)) ∧
      (b.lstate n = lsREFUSED → x.dupRefused = true → exec (.linkRetrainReq n a) s = .next (s.withBlk r.rest))) ∧
    (x.since + 1000000000 ≤ b.now →
      b.lstate n = lsDOWN ∨ (b.lstate n = lsREFUSED ∧ b.lk n F.FAB_LSTAT.REFUSED_BY_PEER = 1 ∧ x.dupRefused = false) →
      exec (.downRetry n) s = .next (s.withBlk (b.linkDetect n))) ∧
    (b.linkUp n = true →
      (kind = 1 → fec.toNat ≤ 1 → crc = true → fseq.toNat = x.rxSeq → exec (.flitRx n kind fseq fec crc) s = .next (s.withBlk
        (((if fec = 1 then b.bumpWrap p F.FAB_LERR0.FEC_CORR_CNT i else b).setLink n
          { x with rxSeq := (x.rxSeq + 1) % 1024, nakSent := false, sinceAck := x.sinceAck + 1 }).bumpWrap p F.FAB_LRX.RX_UNITS i 20).rest)) ∧
      (kind = 1 → fec = 0 → crc = true → fseq.toNat ≠ x.rxSeq → x.nakSent = true →
        exec (.flitRx n kind fseq fec crc) s = .next (s.withBlk b.rest)) ∧
      (kind = 1 → x.nakSent = false → (2 ≤ fec.toNat ∨ crc = false ∨ fseq.toNat ≠ x.rxSeq) →
        let c := if fec = 1 then b.bumpWrap p F.FAB_LERR0.FEC_CORR_CNT i else if fec = 0 then b else b.bump p F.FAB_LERR1.FEC_UNCORR_CNT i
        let d := if fec.toNat ≤ 1 ∧ crc = false then c.bump p F.FAB_LERR2.CRC_ERR_CNT i else c
        exec (.flitRx n kind fseq fec crc) s = .next (s.withBlk
          ((d.setLink n { x with nakSent := true, sinceAck := 0, freed := [0, 0, 0, 0, 0] }).emit
            (.linkUnit n { ack := (x.rxSeq + 1023) % 1024, cred := x.freed } true)).rest))) ∧
    (b.linkUp n = true →
      let y := x.took u
      (∀ v : Fin 5, y.credit.getD v 0 = x.credit.getD v 0 + u.cred.getD v 0) ∧
      (x.unacked < (u.ack + 1024 - x.ackSeq) % 1024 → y.ackSeq = x.ackSeq) ∧
      (0 < (u.ack + 1024 - x.ackSeq) % 1024 → (u.ack + 1024 - x.ackSeq) % 1024 ≤ x.unacked → y.ackSeq = u.ack ∧ y.replays = 0) ∧
      (nak = false → exec (.linkUnit n u nak) s = .next (s.withBlk ((b.setLink n y).pump n).rest)) ∧
      (nak = true → exec (.linkUnit n u nak) s = .next (s.withBlk
        ((((b.setLink n { y with replays := y.replays + 1 }).bump p F.FAB_LERR1.REPLAY_CNT i).raise p 6).pump n).rest))) ∧
    (b.linkUp n = true → exec (.linkUnitSend n) s = .next (s.withBlk
      ((b.setLink n { x with sinceAck := 0, freed := [0, 0, 0, 0, 0] }).emit
        (.linkUnit n { ack := (x.rxSeq + 1023) % 1024, cred := x.freed } false)))) ∧
    (b.lstate n = lsUP → b.eff p F.FAB_X_LINK.REPLAY_MAX ≤ x.replays + 1 →
      exec (.replayExhaust n) s = .next (s.withBlk (b.linkDown n 0x0B08).rest))

/-- The ten atomics (R353), from a packet at this package and from a tile: the value each stores, the old value each returns, and ALIGN. -/
def Obligations.AtomicOperations : Prop :=
  ∀ (s : State) (q : Fin 36) (p : Packet) (t : Fin 288) (sa sb : BitVec 5) (tag : BitVec 4) (off : BitVec 32),
    let b := s.blk.freeUnits q p
    let old := b.m64 p.addr
    let opd := leNat (p.payload.take 8)
    let cmp := leNat ((p.payload.drop 8).take 8)
    let answer (st v : Nat) : Packet := { respond p ptATOM_CPL st with payload := leBytes 8 v ++ List.replicate 24 0, len := 32 }
    ∀ r ∈ [((fun x => Instr.atomAdd x : AtomSrc → Instr), 0, (old + opd) % 2 ^ 64), (fun x => .atomAnd x, 1, old &&& opd),
        (fun x => .atomOr x, 2, old ||| opd), (fun x => .atomXor x, 3, old ^^^ opd), (fun x => .atomSwap x, 4, opd),
        (fun x => .atomCas x, 5, if old = cmp then opd else old), (fun x => .atomMaxu x, 6, max old opd), (fun x => .atomMinu x, 7, min old opd),
        (fun x => .atomMaxs x, 8, if sext 64 old < sext 64 opd then opd else old),
        (fun x => .atomMins x, 9, if sext 64 opd < sext 64 old then opd else old)],
      (s.meant q p → b.safe = false → b.asleep = false → p.acode < 10 →
        (p.addr % 8 ≠ 0 → exec (r.1 (.packet q p)) s = .next (s.withBlk (b.reply (answer stALIGN 0)).rest)) ∧
        (p.addr % 8 = 0 → b.usable p.addr 8 = true → b.keysOk p.tenant p.addr 8 p.priv = true → b.frame (p.addr / 4096) = frWRITABLE →
          b.leaseFull (p.addr / 4096) = false → b.memOpen (pgQuad q) p.addr 8 = true → b.poisoned p.addr 8 = false →
          exec (r.1 (.packet q p)) s = .next (s.withBlk (((b.storeNat p.addr 8 r.2.2).countWrite p.addr 8).reply (answer stOK old)).rest))) ∧
      (s.issues t → s.nextIs t (r.1 (.datom t sa sb tag off)) → 16 ≤ off.toNat →
        exec (r.1 (.datom t sa sb tag off)) s = .next (s.withBlk (s.blk.illegal t).rest)) ∧
      (s.issues t → s.nextIs t (r.1 (.datom t sa sb tag off)) → tag.toNat < 12 → off.toNat = r.2.1 →
        let b := s.blk
        let x := b.tile t
        let b1 := b.tileNext t x
        let a := (x.s sb.toNat).toNat
        let addr := (x.s sa.toNat).toNat
        b.sramFree t a 16 →
          (addr % 8 ≠ 0 ∨ sramSize < a + 16 → exec (r.1 (.datom t sa sb tag off)) s = .next (s.withBlk (b1.tagAtOnce t tag.toNat stALIGN).rest)) ∧
          (addr % 8 = 0 → a + 16 ≤ sramSize → exec (r.1 (.datom t sa sb tag off)) s = .next (s.withBlk
            (b1.startTag t tag.toNat (.atomic r.2.1 (rd64 x.byte a) (rd64 x.byte (a + 8))) [{ addr := addr, len := 8, sram := a }] [] x.tenant t
              none).rest)))

/-- Reads and writes of other packages are served here, and the answers to this package's requests end its transfers (R349, R352 to R354, R364,
R367). -/
def Obligations.PacketsAreServed : Prop :=
  ∀ (s : State) (q : Fin 36) (p : Packet) (cache : Bool) (path : Nat),
    let b0 := s.blk
    let b := b0.freeUnits q p
    let bs := p.payload.take 4096
    let bad (c : Block) (st : Nat) : State := s.withBlk (((c.ackSend (ackKey p)).reply { respond p ptWR_ACK st with len := 1 }).rest)
    (s.live → packetTypes.contains p.type = false → exec (.badPacket q p) s = .next (s.withBlk (b0.bump (pgQuad q) F.FAB_QCNT0.BAD_PKT_CNT))) ∧
    (∀ e, s.live → SMap.find b0.ackq path = some e → e.since + b0.eff pgGfab F.FAB_X_ACK.ACK_COALESCE ≤ b0.now →
      exec (.ackCoalesceExpire path) s = .next (s.withBlk
        (({ b0 with ackq := SMap.erase b0.ackq path } : Block).reply { respond e.pkt ptWR_ACK stOK with len := e.count }))) ∧
    (s.meant q p →
      (b.safe = true → exec (.rdReq q p) s = .next (s.withBlk (b.reply (respond p ptRD_CPL stSAFE)).rest)) ∧
      (b.safe = false → b.asleep = true → exec (.rdReq q p) s = .next (s.withBlk (b.reply (respond p ptRD_CPL stISLAND)).rest)) ∧
      (b.safe = false → b.asleep = false →
        let r := b.readLocal p.addr (min p.len 4096) p.tenant p.priv p.part (pgQuad q)
        let ans : Packet := { respond p ptRD_CPL r.2.1 with payload := r.2.2, len := r.2.2.length, addr := p.addr, injTick := b.now % 2 ^ 32 }
        exec (.rdReq q p) s = .next (s.withBlk
          ((if r.2.1 = stOK ∧ (∀ f ∈ framesOf p.addr p.len, b.frame f = frFROZEN) then r.1.emit (.event "cacheable" [p.src, p.tag]) else r.1).reply
            ans).rest)) ∧
      (b.safe = true → isDoorbell p.addr bs.length = true ∨ ¬ (∀ f ∈ framesOf p.addr bs.length, f ∈ b.leaseOf p.src p.lease) →
        exec (.wr q p) s = .next (bad b stSAFE)) ∧
      (b.safe = true → isDoorbell p.addr bs.length = false → (∀ f ∈ framesOf p.addr bs.length, f ∈ b.leaseOf p.src p.lease) →
        let b1 := b.undefine p.addr bs.length
        exec (.wr q p) s = .next (s.withBlk (((b1.ackSend (ackKey p)).reply { respond p ptWR_ACK stSAFE with len := 1 }).rest))) ∧
      (b.safe = false → b.asleep = true → exec (.wr q p) s = .next (bad b stISLAND)) ∧
      (b.safe = false → b.asleep = false → isDoorbell p.addr bs.length = true →
        (b.groupRetired 31 = true → exec (.wr q p) s = .next (bad (b.reportRange (pgQuad q)) stRANGE)) ∧
        (b.groupRetired 31 = false → 256 < b.frzQueue.length + b.frzHeld.length + bs.length / 32 →
          exec (.wr q p) s = .next (s.withBlk b.rest)) ∧
        (b.groupRetired 31 = false → b.frzQueue.length + b.frzHeld.length + bs.length / 32 ≤ 256 →
          exec (.wr q p) s = .next (s.withBlk ((b.doorbellWrite p.priv bs).ackOwe p).rest))) ∧
      (b.safe = false → b.asleep = false → isDoorbell p.addr bs.length = false →
        ((∀ f ∈ framesOf p.addr bs.length, f ∈ b.leaseOf p.src p.lease) →
          exec (.wr q p) s = .next (s.withBlk (((b.store p.addr bs).countWrite p.addr bs.length).ackOwe p).rest)) ∧
        (∀ f, (framesOf p.addr bs.length).find? (fun f => !(b.leaseOf p.src p.lease).contains f) = some f →
          exec (.wr q p) s = .next (bad (b.writeFrozen f) stFROZEN))) ∧
      (let k := pathKey p.src p.rslot p.gen
       let rs := ((b.pathReqs k).filter (fun r => decide (r.pkt.type = ptWR))).take p.len
       exec (.wrAck q p) s = .next (s.withBlk
         ((rs.foldl (fun b r => ((b.dropReq r).pieceOver r.xfer p.status).writeSettle r.xfer) (b.ackPath k rs.length)).settleFences.rest))) ∧
      (∀ r x, b.reqOf p = some r → r.pkt.type = ptRD_REQ → ((b.dropReq r).pieceOver r.xfer p.status).xfer? r.xfer = some x →
        let tick := b.tick32 p.injTick
        let b1 := (((b.dropReq r).pieceOver r.xfer p.status).countFarRead r.pkt.dst r.pkt.addr r.pkt.len cache).setXfer
          { x with data := setAt x.data r.piece (p.payload.take r.pkt.len), uncached := x.uncached || !cache
                   readTick := some (match x.readTick with
                     | some t => min t tick
                     | none => tick) }
        (p.status ≠ 0 ∨ cache = false ∨ (∃ i j l, x.owner = .proof i j l) → exec (.rdCpl q p cache) s = .next (s.withBlk (b1.readSettle r.xfer).rest)) ∧
        (p.status = 0 → cache = true → (∀ i j l, x.owner ≠ .proof i j l) → exec (.rdCpl q p cache) s = .next (s.withBlk
          ((b1.farFills r.pkt.dst r.pkt.addr x.part tick (p.payload.take r.pkt.len)).readSettle r.xfer).rest))) ∧
      (∀ r, b.reqOf p = some r → r.pkt.type = ptATOM →
        (p.status = stRETRY → exec (.atomCpl q p) s = .next (s.withBlk ((b.dropReq r).leaseRefused r.xfer stRETRY).rest)) ∧
        (∀ x, p.status ≠ stRETRY → ((b.dropReq r).pieceOver r.xfer p.status).xfer? r.xfer = some x →
          exec (.atomCpl q p) s = .next (s.withBlk
            ((((b.dropReq r).pieceOver r.xfer p.status).setXfer { x with data := [p.payload.take 8] }).readSettle r.xfer).rest))))

/-- Leases over the fabric (R352), flush markers (R366) and segments with their acknowledgements and resends (R369). -/
def Obligations.LeasesAndSegments : Prop :=
  ∀ (s : State) (q : Fin 36) (p : Packet),
    let b := s.blk.freeUnits q p
    s.meant q p →
      (∀ st, (b.safe = true ∧ st = stSAFE) ∨ (b.safe = false ∧ b.asleep = true ∧ st = stISLAND) →
        exec (.leaseReq q p) s = .next (s.withBlk (b.reply (respond p ptLEASE_RSP st)).rest) ∧
        exec (.seg q p) s = .next (s.withBlk (b.reply (respond p ptSEG_ACK st)).rest)) ∧
      (b.safe = false → b.asleep = false →
        (∀ l, b.leaseFor p.src p.tag = some l →
          exec (.leaseReq q p) s = .next (s.withBlk (b.reply { respond p ptLEASE_RSP stOK with lease := l }).rest)) ∧
        (b.leaseFor p.src p.tag = none →
          let first := p.addr / 4096
          let fs := (List.range p.len).map (· + first)
          let c := b.writeCheck (first * 4096) (p.len * 4096) p.tenant p.priv (pgQuad q)
          let g := c.1.takeLeases fs
          (c.2 ≠ stOK → exec (.leaseReq q p) s = .next (s.withBlk (c.1.reply (respond p ptLEASE_RSP c.2)).rest)) ∧
          (c.2 = stOK → g.2 ≠ stOK → exec (.leaseReq q p) s = .next (s.withBlk (g.1.reply (respond p ptLEASE_RSP g.2)).rest)) ∧
          (c.2 = stOK → g.2 = stOK → ∃ (id : Nat) (b1 : Block),
            exec (.leaseReq q p) s = .next (s.withBlk ((b1.reply { respond p ptLEASE_RSP stOK with lease := id }).rest)) ∧ id < 65536 ∧
            b1.leaseOf p.src id = fs ∧ b1.leases = g.1.leases ∧ b1.frames = b.frames))) ∧
      (∀ l, SMap.find b.rleases p.lease = some l → l.src = p.src → exec (.leaseRel q p) s = .next (s.withBlk
        ((({ b with rleases := SMap.erase b.rleases p.lease } : Block).unlease l.frames).rest))) ∧
      (∀ r x, b.reqOf p = some r → r.pkt.type = ptLEASE_REQ → (b.dropReq r).xfer? r.xfer = some x →
        (p.status ≠ 0 → exec (.leaseRsp q p) s = .next (s.withBlk ((b.dropReq r).leaseRefused r.xfer p.status).rest)) ∧
        (p.status = 0 →
          let y : Xfer := { x with outstanding := x.outstanding - 1
                                   remote := x.remote ++ [{ slot := r.pkt.dst, lease := p.lease, first := r.pkt.addr / 4096, count := r.pkt.len }] }
          let b1 := (b.dropReq r).setXfer y
          (y.outstanding ≠ 0 → exec (.leaseRsp q p) s = .next (s.withBlk b1.rest)) ∧
          (y.outstanding = 0 → exec (.leaseRsp q p) s = .next (s.withBlk (((b1.sendWrites r.xfer).writeSettle r.xfer).rest))))) ∧
      (exec (.pflush q p) s = .next (s.withBlk ((b.ackSend (ackKey p)).reply (respond p ptPFLUSH_ECHO stOK)).rest)) ∧
      (let k := pathKey p.src p.rslot p.gen
       (b.path k).st = .flushing → exec (.pflushEcho q p) s = .next (s.withBlk (b.settlePath k).settleFences.rest) ∧
         ((b.settlePath k).path k).st = .settled) ∧
      (b.safe = false → b.asleep = false →
        let w? := b.windows.find? (fun w => decide (w.src = p.src) && decide (w.key = p.addr % 2 ^ 40))
        (w? = none → exec (.seg q p) s = .next (s.withBlk ((b.reportPage (pgQuad q) 0x0B0B).reply (respond p ptSEG_ACK stNOWIN)).rest)) ∧
        (∀ w, w? = some w → exec (.seg q p) s = .next (s.withBlk
          (((b.segPiece q w p).1.reply (respond p ptSEG_ACK (b.segPiece q w p).2)).rest)))) ∧
      (∀ r g, b.reqOf p = some r → r.pkt.type = ptSEG →
        let b1 := (b.dropReq r).ackPath (pathKey r.pkt.dst r.pkt.rslot r.pkt.gen) 1
        let mine (x : Packet × Option Nat) : Bool := decide (x.1.tag = p.tag) && decide (x.1.dst = p.src)
        b.seg? r.xfer = some g →
          (p.status = 0 → exec (.segAck q p) s = .next (s.withBlk
            ((b1.setSeg { g with pieces := g.pieces.filter (fun x => !mine x) }).segSettle r.xfer).settleFences.rest)) ∧
          (p.status = stNOWIN → exec (.segAck q p) s = .next (s.withBlk
            (b1.setSeg { g with pieces := g.pieces.map (fun x =>
              if mine x then (x.1, some (b.now + b.eff pgGfab F.FAB_SEG.SEG_RETRY * 1000)) else x) }).settleFences.rest)) ∧
          (p.status ≠ 0 → p.status ≠ stNOWIN → exec (.segAck q p) s = .next (s.withBlk
            ((b1.setSeg { g with failed := true }).segSettle r.xfer).settleFences.rest))) ∧
      (let due (c : Block) (x : Packet × Option Nat) : Bool := match x.2 with
         | some w => decide (w ≤ c.now)
         | none => false
       exec (.segResend q) s = .next (s.withBlk ((s.blk.segs.filter (fun g => g.send && decide (g.island = 360 + q.val))).foldl (fun c g =>
         if g.e.arriveBar ≠ 0 ∧ c.barFailed g.e.part g.e.arriveBar ≠ 0 then (c.dropSeg g.id).orphan g.id
         else (g.pieces.filter (due c)).foldl (fun d x => match d.seg? g.id with
           | some y => d.sendPiece y x.1 x.1.dst
           | none => d) (c.setSeg { g with pieces := g.pieces.filter (fun x => !due c x) })) s.blk).rest))


/-- LINK_STATE messages, route tables, paths that die, unreachable slots, region keys and tags (R358, R361, R363, R366, R367). -/
def Obligations.RoutesKeysAndTags : Prop :=
  ∀ (s : State) (h : CtrlIn) (widths : List Nat) (safe : Bool) (d : Fin 64) (r : Fin 8) (g : Fin 4) (v : BitVec 32) (a : Agent), s.live →
    let b := s.blk
    (let body := linkStateBytes widths safe
     s.hears h ckLINK_STATE body →
      let b0 := b.noted h ckLINK_STATE body
      let named := (List.range 64).foldl (fun m d => if widths.getD d 0 ≠ 0 then setBits m d 1 1 else m) (2 ^ h.src.val)
      let b1 := ({ b0 with
        adv := (List.range 64).foldl (fun m d => SMap.put 0 m (h.src.val * 64 + d) (widths.getD d 0 % 5)) b.adv
        lastHeard := SMap.set b.lastHeard h.src b.now, lsFrom := setBits b.lsFrom h.src 1 1
        occupied := b.occupied ||| named } : Block).putBit pgGfab F.FAB_SAFE_SEEN.SAFE h.src safe
      exec (.linkState h widths safe) s = .next (s.withBlk ((if safe then b1.endLeasesOf h.src else b1).reachCheck h.src).rest)) ∧
    (exec .linkStateSend s = .next (s.withBlk (b.castCtrl (2 ^ 64 - 1) ckLINK_STATE b.linkStateBody))) ∧
    (d.val = b.slotId → exec (.routeRefill d) s = .next (s.withBlk b.rest)) ∧
    (d.val ≠ b.slotId → exec (.routeRefill d) s = .next (s.withBlk ((((List.range 8).foldl (fun c i =>
      if sameRoute (c.fillSlot d i) (c.route d i) then c else c.changeRoute d i (c.fillSlot d i)) b).reachCheck d).rest))) ∧
    (let k := pathKey d r g
     let p := b.path k
     p.st = .flushing → p.since + b.eff pgGfab F.FAB_AGE.FENCE_PATH_TIMEOUT * 1000 ≤ b.now →
       exec (.pathDead d r g) s = .next (s.withBlk (b.killPath k).rest)) ∧
    (let lim := b.eff pgGfab F.FAB_UNREACH.UNREACH_TIMEOUT * 1000
     d.val ≠ b.slotId → b.reachable d = true →
      (∃ t, (SMap.find b.noneSince d = some t ∨ SMap.find b.lastHeard d = some t) ∧ t + lim ≤ b.now) →
        let lost := b.reqs.filter (fun q => decide (q.pkt.dst = d.val))
        let b1 := ({ b with reqs := b.reqs.filter (fun q => decide (q.pkt.dst ≠ d.val)), lsFrom := setBits b.lsFrom d 1 0 } : Block).putBit pgGfab
          F.FAB_REACH.REACH d false
        exec (.unreachable d) s = .next (s.withBlk
          ((((((lost.foldl Block.reqLost b1).endLeasesOf d).ackUnreachable d).bump pgGfab F.FAB_GCNT1.UNREACH_CNT).raise pgGfab 2).reportPage
            pgGfab 0x0B09 d).settleFences.rest)) ∧
    (s.reaches pgGfab a → exec (.fabKeyWrite v a) s = .next (s.withBlk
      ({ b with keys := SMap.put 0 b.keys (b.eff pgGfab F.FAB_KEY_IDX.TENANT) v.toNat } : Block).rest)) ∧
    (s.reaches pgGfab a →
      let base := b.eff pgGfab F.FAB_TAG_BASE.BASE
      let n := b.eff pgGfab F.FAB_TAG_CNT.COUNT
      let bad := b.eff pgGfab F.FAB_TAG_CMD.BUSY = 1 ∨ spaceSize < base + n * 2 ^ 20 ∨ ∃ w ∈ windowsOf base (n * 2 ^ 20), b.groupRetired w = true
      (bad → exec (.tagGo a) s = .next (s.withBlk (b.cfgReject pgGfab).rest)) ∧
      (¬ bad → exec (.tagGo a) s = .next (s.withBlk
        (({ b with tagJob := some (base / 2 ^ 20, n, b.eff pgGfab F.FAB_TAG_VAL.VAL) } : Block).put pgGfab F.FAB_TAG_CMD.BUSY 1).rest))) ∧
    (∀ first n val, b.tagJob = some (first, n, val) →
      let mine := ((List.range n).map (· + first)).filter (fun q => decide (q * 2 ^ 20 % winSize < resvPos))
      let kept := b.rtags.filter (fun e => !(decide (first ≤ e.1) && decide (e.1 < first + n) && decide (e.1 * 2 ^ 20 % winSize < resvPos)))
      exec .tagDone s = .next (s.withBlk
        ((({ b with tagJob := none, rtags := if val = 0xFFFFFFFF then kept else mine.foldl (fun m q => SMap.set m q val) kept } : Block).put
          pgGfab F.FAB_TAG_CMD.BUSY 0).raise pgGfab 3)))

/-! ### Model weights, storage queue pairs and Ethernet -/

/-- A load runs its checks, lands and hashes its shards, reports, and ends (R386 to R397). -/
def Obligations.LoadsRunTheirCourse : Prop :=
  ∀ (s : State) (ld : Fin 4) (m : Fin 64) (shard : BitVec 16) (off : BitVec 32) (bytes : List Byte) (a : Agent), s.live →
    let b := s.blk
    let l := b.load ld
    let i := shard.toNat
    let st := b.ldState ld
    (s.reaches pgWld a →
      (b.eff pgBoot F.BOOT_STAT.READY = 0 → exec (.loadStart ld a) s = .next (s.withBlk (b.cfgReject pgWld).rest)) ∧
      (b.eff pgBoot F.BOOT_STAT.READY ≠ 0 → ldIdle st = false ∨ b.safe = true ∨ b.runs pgWld = false → exec (.loadStart ld a) s = .next (s.withBlk b.rest)) ∧
      (b.eff pgBoot F.BOOT_STAT.READY ≠ 0 → ldIdle st = true → b.safe = false → b.runs pgWld = true → ∃ b1 : Block,
        exec (.loadStart ld a) s = .next (s.withBlk b1.rest) ∧ b1.ldState ld = ldCHECK ∧ b1.mem = b.mem ∧ b1.xfers = b.xfers ∧
        (b1.load ld).shards = [] ∧ (b1.load ld).policy = b.eff pgWld F.WLD_CFG.MISSING_SHARD_POLICY ∧
        (b1.load ld).retryMax = b.eff pgWld F.WLD_CFG.RETRY_MAX ∧ (b1.load ld).shardTimeout = b.eff pgWld F.WLD_CFG.SHARD_TIMEOUT ∧
        (∀ o, b.localOff (b.eff pgWld F.WLD_LDESC.LOAD_DESC ld) = some o → b.usable o 64 = true → o % 64 = 0 → (b1.load ld).desc = b.mem.read o 64) ∧
        ∀ f ∈ [F.WLD_LSTAT.STATUS, F.WLD_LSTAT.REPORTED, F.WLD_LOK.SHARDS_OK, F.WLD_LMISS.SHARDS_MISSING, F.WLD_LRET.RETRY_CNT,
          F.WLD_LRET.DIGEST_BAD_CNT, F.WLD_LUNAV.UNAVAIL_CNT], b1.eff pgWld f ld = 0) ∧
      (ldIdle st = true → exec (.loadAbort ld a) s = .next (s.withBlk b.rest)) ∧
      (ldIdle st = false → exec (.loadAbort ld a) s = .next (s.withBlk (b.loadFail ld lsABORTED (decide (st ≠ ldCHECK))).rest))) ∧
    (b.runs pgWld = false → ∀ c ∈ [Instr.loadCheckDone ld, .nvmeReadCpl ld shard off true bytes, .nvmeReadCpl ld shard off false bytes,
      .pieceLanded ld shard, .hashDone ld shard, .shardFreezeDone ld shard, .shardTimeout ld shard, .memberRecord ld m, .reportTimeout ld,
      .loadFinal ld], exec c s = .next (s.withBlk b.rest)) ∧
    (b.runs pgWld = true → st = ldCHECK →
      let r := b.loadStatus ld l
      let own := b.ownShards l
      let signed := sha256 (b.signedPart l)
      (r ≠ 0 →
        let b1 := if r = lsSIG_FAIL then ((b.bump pgWld F.WLD_ERR_CNT.SIG_FAIL_CNT).raise pgWld 4).reportPage pgWld 0x0C01 else b
        let b2 := if 3 < r then b1.setLoad ld { l with digest := signed } else b1
        exec (.loadCheckDone ld) s = .next (s.withBlk ((((b2.loadFail ld r (decide (3 < r))).raise pgWld 1).reportPage pgWld 0x0C04).rest))) ∧
      (r = 0 →
        let b1 : Block := { (b.setLoad ld { l with digest := signed, shards := own.map (fun i => (i, shardNone)) }).setLdState ld ldFETCH with
          conns := (b.loadTargets l).foldl (fun m t => if (SMap.find m t).isSome then m else SMap.set m t b.now) b.conns }
        exec (.loadCheckDone ld) s = .next (s.withBlk (((own.foldl (fun b i => b.beginAttempt ld i
          (if b.allFrames (b.shardDest l i) (b.shardLen l i) frFROZEN then 3 else if b.chainPos l i = 0 then 0 else 1)) b1).checkReport ld).rest)))) ∧
    (b.runs pgWld = true → b.shard? ld i = none →
      exec (.nvmeReadCpl ld shard off true bytes) s = .next (s.withBlk (b.bump pgWld F.WLD_REMOTE_REJ.REMOTE_REJ_CNT).rest) ∧
      (∀ c ∈ [Instr.nvmeReadCpl ld shard off false bytes, .pieceLanded ld shard, .hashDone ld shard, .shardFreezeDone ld shard,
        .shardTimeout ld shard], exec c s = .next (s.withBlk b.rest))) ∧
    (∀ x, b.runs pgWld = true → b.shard? ld i = some x →
      let n := b.nextPiece l i x.landed
      let len := b.shardLen l i
      let dest := b.shardDest l i
      let at' := dest + off.toNat
      let good := sha256 (b.mem.read dest len) = b.shardDigest l i
      let isBad := ((b.bump pgWld F.WLD_LRET.DIGEST_BAD_CNT ld).raise pgWld 3).reportPage pgWld 0x0C02 i
      (x.phase = .landing → x.src = 0 → exec (.nvmeReadCpl ld shard off false bytes) s = .next (s.withBlk
        ((((b.bump pgWld F.WLD_ERR_CNT.NVME_ERR_CNT).reportPage pgWld 0x0C05).endAttempt ld i true).rest))) ∧
      (x.phase = .landing → x.src = 0 → x.frames ≠ [] → x.landed ≤ off.toNat → off.toNat + bytes.length ≤ x.landed + n →
        exec (.nvmeReadCpl ld shard off true bytes) s = .next (s.withBlk
          (((((b.store at' bytes).countWrite at' bytes.length).bumpWrap pgWld F.WLD_ETH_BYTES.ETH_BYTES 0 bytes.length).setShard ld i
            { x with got := x.got ++ [(off.toNat, bytes.length)], lastLand := b.now }).rest))) ∧
      (x.phase = .landing → x.src = 0 → x.frames ≠ [] → 0 < n → n ≤ x.got.foldl (fun m g => m + g.2) 0 →
        exec (.pieceLanded ld shard) s = .next (s.withBlk (b.landTo ld i (x.landed + n)).rest)) ∧
      (x.phase = .landing → x.src = 1 → x.landed < min (b.progress l i % 2 ^ 40) len →
        exec (.pieceLanded ld shard) s = .next (s.withBlk (b.landTo ld i (min (b.progress l i % 2 ^ 40) len)).rest)) ∧
      (x.phase = .landing → x.landed = len → good → x.src ≠ 3 → exec (.hashDone ld shard) s = .next (s.withBlk
        (((b.setShard ld i { x with phase := .freezing }).askFreeze (.shard ld i x.begun) 1 dest (len / 4096)).rest))) ∧
      (x.phase = .landing → x.landed = len → good → x.src = 3 →
        exec (.hashDone ld shard) s = .next (s.withBlk (b.shardVerified ld i x).rest)) ∧
      (x.phase = .landing → x.landed = len → ¬ good → exec (.hashDone ld shard) s = .next (s.withBlk
        ((if x.src = 3 then isBad.loadFail ld lsDEST_FROZEN true else isBad.endAttempt ld i true).rest))) ∧
      (x.phase = .freezing → b.takeDone (.shard ld i x.begun) = some 0 →
        let b1 := b.dropDone (.shard ld i x.begun)
        exec (.shardFreezeDone ld shard) s = .next (s.withBlk
          (if l.recheck then b1.setShard ld i { x with phase := .recheck } else b1.shardVerified ld i x).rest)) ∧
      (x.phase = .recheck → good → exec (.hashDone ld shard) s = .next (s.withBlk (b.shardVerified ld i x).rest)) ∧
      (x.phase = .landing → x.landed < len → x.lastLand + l.shardTimeout * 100000000 ≤ b.now →
        exec (.shardTimeout ld shard) s = .next (s.withBlk (b.endAttempt ld i true).rest))) ∧
    (b.runs pgWld = true → st = ldREPORT →
      let ms := b.loadMembers l
      let here := ms.filter (b.recordHere l)
      let b1 := b.put pgWld F.WLD_LSTAT.REPORTED here.length ld
      let failed := here.any (fun m => decide (b.byteAt (l.record m + 4) = 3))
      let differs := here.any (fun m => decide (b.mem.read (l.record m + 8) 32 ≠ l.digest) || decide (b.byteAt (l.record m + 5) ≠ l.policy))
      (b.recordHere l m = true → exec (.memberRecord ld m) s = .next (s.withBlk
        (if failed then b1.loadFail ld lsMEMBER_FAILED true else if differs then b1.loadFail ld lsMEMBER_MISMATCH true
          else if here.length = ms.length then b1.setLdState ld ldFINAL else b1).rest)) ∧
      (l.since + l.reportTimeout * 100000000 ≤ b.now → ms.all (b.recordHere l) = false →
        exec (.reportTimeout ld) s = .next (s.withBlk ((b.loadFail ld lsMEMBER_LOST true).reportPage pgWld 0x0C06).rest))) ∧
    (b.runs pgWld = true → st = ldFINAL →
      let u := b.unionMissing l
      let gone := u.any (fun i => decide (b.shardClass l i = 0)) || (!u.isEmpty && decide (l.policy = 1))
      (gone = true → exec (.loadFinal ld) s = .next (s.withBlk (b.loadFail ld lsSHARD_MISSING true).rest)) ∧
      (gone = false → b.plcFree l = false → exec (.loadFinal ld) s = .next (s.withBlk ((b.loadFail ld lsPLC_BUSY true).raise pgWld 1).rest)) ∧
      (gone = false → b.plcFree l = true → exec (.loadFinal ld) s = .next (s.withBlk
        ((((if l.plc = 0 then b else u.foldl (fun b i => b.maskExpert ld l i) b).setLdState ld ldDONE).raise pgWld 0).rest))))

/-- Storage queue pairs, responder queue pairs and the Ethernet ports (R377, R404, R516 to R518). -/
def Obligations.EthernetAndQueuePairs : Prop :=
  ∀ (s : State) (i : Fin 1024) (q : Fin 256) (port : Fin 2) (mask : BitVec 4) (psn : BitVec 24) (rkey : BitVec 32) (va : BitVec 64) (len : BitVec 32)
    (bytes : List Byte) (ip : BitVec 32) (ip6 : BitVec 128) (a : Agent), s.live →
    let b := s.blk
    let p := 8 + port.val
    let r := (b.qpRate q).1
    (let cut := r * b.eff pgWld F.WLD_X_RATE.CNP_CUT / 256
     exec (.cnp port q) s = .next (s.withBlk { b.bump p F.ETH_CNT.CNP_RX_CNT with rates := SMap.put (2 ^ 32, 0) b.rates q (r - cut, cut) })) ∧
    (let back := min (2 ^ 32) (r + ceilDiv (b.qpRate q).2 16)
     let entry := if back = 2 ^ 32 then (2 ^ 32, 0) else (back, (b.qpRate q).2)
     exec (.rateRecover q) s = .next (s.withBlk { b with rates := SMap.put (2 ^ 32, 0) b.rates q entry })) ∧
    (∀ t, SMap.find b.conns q = some t →
      exec (.keepAlive q) s = .next (s.withBlk (({ b with conns := SMap.set b.conns q b.now } : Block).emit (.event "nvme-keep-alive" [q.val])))) ∧
    (s.reaches pgWld a → mask ≠ 0 → exec (.mkeyLock mask a) s = .next (s.withBlk
      (b.put pgWld F.WLD_MKEY_LOCK.LOCK (b.eff pgWld F.WLD_MKEY_LOCK.LOCK ||| mask.toNat)).rest)) ∧
    (s.reaches 8 a →
      let e := b.qpEntry i
      let some' : Qp := { flags := field e 0 1, tenant := field e 2 2 % 4096, rkey := field e 0x0C 4, base := field e 0x10 8, len := field e 0x18 4
                          psn := field e 8 4 % 2 ^ 24, err := false, waiting := [], busy := false }
      (b.eff 8 F.ETH_QP_RESV.RESP_MAX ≤ i.val → ∀ c ∈ [Instr.qpOpen i a, .qpClose i a], exec c s = .next (s.withBlk (b.cfgReject 8).rest)) ∧
      (i.val < b.eff 8 F.ETH_QP_RESV.RESP_MAX →
        exec (.qpClose i a) s = .next (s.withBlk ({ b with qps := SMap.erase b.qps i } : Block).rest) ∧
        exec (.qpOpen i a) s = .next (s.withBlk (if b.qpEntryOk e then ({ b with qps := SMap.set b.qps i some' } : Block) else b.cfgReject 8).rest))) ∧
    (∀ x, SMap.find b.qps i = some x → x.err = false →
      ∀ c ∈ [(Instr.rdmaWrite i psn rkey va bytes, bytes.length, bytes, true), (.rdmaRead i psn rkey va len, len.toNat, [], false)],
        (psn.toNat ≠ x.psn → exec c.1 s = .next (s.withBlk (b.emit (.event "rdma-sequence" [i.val, x.psn])).rest)) ∧
        (psn.toNat = x.psn → rkey.toNat ≠ x.rkey ∨ x.len < va.toNat + c.2.1 ∨ bit x.flags (if c.2.2.2 then 3 else 4) = false →
          exec c.1 s = .next (s.withBlk (b.qpNak i x psn.toNat).rest)) ∧
        (psn.toNat = x.psn → rkey.toNat = x.rkey → va.toNat + c.2.1 ≤ x.len → bit x.flags (if c.2.2.2 then 3 else 4) = true →
          exec c.1 s = .next (s.withBlk (((b.setQp i { x with psn := (x.psn + 1) % 2 ^ 24, waiting := x.waiting ++
            [{ psn := psn.toNat, va := va.toNat, write := c.2.2.2, len := c.2.1, bytes := c.2.2.1 }] }).qpStart i).rest)))) ∧
    (exec (.arpRequest port ip) s = .next (s.withBlk
      (if ip ≠ 0 ∧ b.eff p F.ETH_IP4.IP4 = ip.toNat then b.emit (.response "arp-reply" [port.val, ip.toNat, b.ethMac port]) else b))) ∧
    (exec (.neighborSolicit port ip6) s = .next (s.withBlk
      (if ip6 ≠ 0 ∧ b.eff p F.ETH_IP6.IP6 = ip6.toNat then b.emit (.response "neighbor-advert" [port.val, ip6.toNat, b.ethMac port]) else b))) ∧
    (exec (.ethLinkUp port) s = .next (s.withBlk ((b.put p F.ETH_STAT.LINK_UP 1).raise p 0))) ∧
    (exec (.ethLinkDown port) s = .next (s.withBlk
      ((((b.qpsDown (fun x => decide (b2n (bit x.flags 1) = port.val))).put p F.ETH_STAT.LINK_UP 0).raise p 1).reportPage p 0x0E03))) ∧
    (exec (.ethDiscard port) s = .next (s.withBlk (b.bump p F.ETH_CNT.DISCARD_CNT)))

/-! ### Power, pins and Rest -/

/-- The governor's periods, loops and timers (R406 to R417, R425, R426), and the clamp of an overrun at once (R412, R414). -/
def Obligations.GovernorLoops : Prop :=
  ∀ (s : State) (est i0 i1 i2 i3 w : BitVec 12) (c : Fin 24) (v : BitVec 12) (hb : BitVec 32) (a : Agent), s.live →
    let b := s.blk
    let x := b.power
    let q := b.countReasons
    let p1 := ((est.toNat : Int) + q.power.calib).toNat
    let y : Power := { q.power with raw := est.toNat, samples := (p1 :: q.power.samples).take 10000 }
    let c1 := ((q.setPwr y).put pgPwr F.PWR_NOW.P_FAST (min 4095 y.p10.floor)).put pgPwr F.PWR_NOW.P_AVG (min 4095 (q.setPwr y).pWin.floor)
    (b.asleep = true → exec (.govPeriod est i0 i1 i2 i3) s = .next (s.withBlk c1)) ∧
    (b.asleep = false → exec (.govPeriod est i0 i1 i2 i3) s = .next (s.withBlk
      ((((c1.capPeriod.edcPeriod).quadPeriod [i0.toNat, i1.toNat, i2.toNat, i3.toNat]).alertPeriod).powerChanged))) ∧
    (let due := SMap.get 0 x.riseRef c + b.rampTime
     (b.gOf c < b.targetOf c → due ≤ 16 * b.hearth → ∃ b1 : Block, exec (.gRiseStep c) s = .next (s.withBlk b1) ∧ b1.gOf c = b.gOf c + 1 ∧
       (∀ d, d ≠ c.val → b1.gOf d = b.gOf d) ∧ b1.mem = b.mem ∧ b1.tiles = b.tiles) ∧
     (¬ (b.gOf c < b.targetOf c ∧ due ≤ 16 * b.hearth) → exec (.gRiseStep c) s = .next (s.withBlk b))) ∧
    (let span := b.pw? F.PWR_X_MODEL.P_FULL - b.pw? F.PWR_X_MODEL.P_IDLE
     let m := x.p10
     b.asleep = false →
      (x.capEff * m.n < m.sum → exec .capLoop s = .next (s.withBlk (b.setPwr { x with gCap := x.gCap - 1 }).powerChanged)) ∧
      (m.sum ≤ x.capEff * m.n → 16 * m.sum + span * m.n < 16 * x.capEff * m.n →
        exec .capLoop s = .next (s.withBlk (b.setPwr { x with gCap := min 16 (x.gCap + 1) }).powerChanged)) ∧
      (m.sum ≤ x.capEff * m.n → 16 * x.capEff * m.n ≤ 16 * m.sum + span * m.n → exec .capLoop s = .next (s.withBlk b))) ∧
    (s.reaches pgPwr a →
      (600 ≤ v.toNat → v.toNat ≤ 2400 → exec (.capWrite v a) s = .next (s.withBlk (b.put pgPwr F.PWR_CAP.CAP v.toNat).rest)) ∧
      (v.toNat < 600 ∨ 2400 < v.toNat → exec (.capWrite v a) s = .next (s.withBlk (b.cfgReject pgPwr).rest)) ∧
      exec (.heartbeat hb a) s = .next (s.withBlk
        (((b.setPwr { x with lastBeat := b.now }).put pgPwr F.PWR_ORPHAN.HB_SEEN 1).put pgPwr F.PWR_ORPHAN.ORPHANED 0).rest)) ∧
    (∀ t, x.overSince = some t → t + 1000000 ≤ b.now → x.edcTimed = false → exec .edcTimeout s = .next (s.withBlk
      ((b.setPwr { x with edcTimed := true, gEdc := min x.gEdc (b.floorLevel x.capEff), edcAt := b.now }).reportPage pgPwr 0x0309).powerChanged)) ∧
    exec (.powerRecal w) s = .next (s.withBlk (b.setPwr { x with calib := (w.toNat : Int) - x.raw })) ∧
    (∀ t, x.alertEnd = some t → t + b.pw? F.PWR_ALERT.ALERT_RELEASE * 100000 ≤ b.now →
      exec .alertRelease s = .next (s.withBlk (b.setPwr { x with gAlert := 16, alertEnd := none }).powerChanged)) ∧
    (b.pw? F.PWR_ORPHAN.HB_SEEN = 1 → b.pw? F.PWR_ORPHAN.ORPHANED = 0 → b.asleep = false →
      x.lastBeat + b.pw? F.PWR_ORPHAN.ORPHAN_TIMEOUT * 1000000 ≤ b.now →
      exec .orphanTimeout s = .next (s.withBlk (((b.put pgPwr F.PWR_ORPHAN.ORPHANED 1).raise pgPwr 4).reportPage pgPwr 0x0305))) ∧
    (let exceeds (w : Nat) := w * x.p10.n < x.p10.sum
     let e := b.capPeriod
     e.power.capEff = b.capNow ∧
     (b.capNow < x.capEff → exceeds b.capNow → e.power.gClamp = min (b.floorLevel b.capNow) x.gClamp ∧ e.power.gCap = b.floorLevel b.capNow ∧
       e.pw? F.PWR_LEVEL.CLAMP_ON = 1 ∧ e.pw? F.PWR_LEVEL.CLAMP_LEVEL = e.power.gClamp) ∧
     (x.capEff ≤ b.capNow → b.pw? F.PWR_LEVEL.CLAMP_ON = 1 → ¬ exceeds b.capNow →
       e.power.gClamp = 16 ∧ e.pw? F.PWR_LEVEL.CLAMP_ON = 0 ∧ e.power.gCap = x.gCap) ∧
     (b.pw? F.PWR_X_EDC.EDC_W < x.p1 → b.edcPeriod.power.gEdc = (List.range 24).foldl (fun m c => min m (b.gOf c)) 16 - 2) ∧
     ∀ d, b.levelTarget d ≤ x.gTrip ∧ b.levelTarget d ≤ x.gAlert ∧ b.levelTarget d ≤ x.gClamp ∧ b.levelTarget d ≤ x.gCap ∧
       b.levelTarget d ≤ x.gEdc)

/-- The sideband inputs and outputs, rails and alarms (R413, R425, R428, R473, R528, R530, R534 to R537). -/
def Obligations.SidebandPins : Prop :=
  ∀ (s : State) (i : Fin 2) (n : Fin 4) (r : Fin 12) (c : Fin 24) (on lost : Bool), s.live →
    let b := s.blk
    (∀ p ∈ [((2 : Nat), Instr.capStepAssert, Instr.capStepDeassert), (i.val, .alertAssert i, .alertDeassert i), (3, .perstNLow, .perstNHigh)],
      let cmd := if on then p.2.1 else p.2.2
      let x := b.pin p.1
      let es := b.now :: x.edges.filter (fun t => decide (b.now < t + 1000000))
      let b1 := b.setPin p.1 { x with level := on, edges := es }
      (x.level = on → exec cmd s = .next (s.withBlk b)) ∧
      (x.level ≠ on → es.length ≤ 20 → exec cmd s = .next (s.withBlk (b1.treat p.1 (on || b.chatters p.1)))) ∧
      (x.level ≠ on → 20 < es.length → exec cmd s = .next (s.withBlk ((b1.chatterOn p.1).treat p.1 (on || (b1.chatterOn p.1).chatters p.1))))) ∧
    (let x := b.pin n
     exec (.sbChatter n) s = .next (s.withBlk (((b.setPin n { x with edges := List.replicate 21 b.now }).chatterOn n).treat n true)) ∧
     (b.chatters n = true → x.level = false → x.edges.headD 0 + 1000000 ≤ b.now →
       exec (.chatterClear n) s = .next (s.withBlk ((b.putBit pgDev F.DEV_SB_CHATTER.CHATTER n false).treat n false))) ∧
     (x.treated = true → x.stuckSeen = false → x.since + 100000000 < b.now → exec (.sbStuck n) s = .next (s.withBlk
       ((((b.setPin n { x with stuckSeen := true }).putBit pgDev F.DEV_SB_STUCK.STUCK n true).raise pgDev 3).reportPage pgDev 0x0003)))) ∧
    (∀ o ∈ [((0 : Fin 2), F.DEV_SB_LEVEL.THERMTRIP_OUT, F.DEV_SB_LEVEL.THERMTRIP_PAD), (1, F.DEV_SB_LEVEL.FAULT_OUT, F.DEV_SB_LEVEL.FAULT_PAD)],
      (b.eff pgDev o.2.1 = 1 → exec (.outStuck o.1) s = .next (s.withBlk b)) ∧
      (b.eff pgDev o.2.1 ≠ 1 → exec (.outStuck o.1) s = .next (s.withBlk
        (((b.put pgDev o.2.2 1).putBit pgDev F.DEV_SB_STUCK.OUT_STUCK o.1 true).reportPage pgDev 0x0003)))) ∧
    (b.eff pgDev F.DEV_SB_LEVEL.THERMTRIP_OUT = 1 → exec (.railUv r) s = .next (s.withBlk b.rest)) ∧
    (b.eff pgDev F.DEV_SB_LEVEL.THERMTRIP_OUT ≠ 1 → exec (.railUv r) s = .next (s.withBlk
      ((((b.putBit pgDev F.DEV_RAIL.RAIL_OK r false).putBit pgDev F.DEV_RAIL_FAIL.RAIL_FAIL r true).raise pgDev 5).reportPage pgDev 0x0005 r).rest)) ∧
    (b.power.gTrip ≠ 0 → exec (.thermtrip c) s = .next (s.withBlk
      (((((b.setPwr { b.power with gTrip := 0 }).put pgDev F.DEV_SB_LEVEL.THERMTRIP_OUT 1).put pgDev F.DEV_SB_LEVEL.THERMTRIP_PAD 1).reportClu
        c 0x0303).powerChanged).rest)) ∧
    exec (.avsResend lost) s = .next (s.withBlk (b.bump pgDev (if lost then F.DEV_AVS.AVS_NACK_CNT else F.DEV_AVS.AVS_CRC_CNT)))

/-- Temperatures, droop, boost and its end (R419 to R424, R427). -/
def Obligations.ClocksFollowVoltageAndHeat : Prop :=
  ∀ (s : State) (c : Fin 24) (temp : Int) (v : Bool) (a : Agent), s.live →
    let b := s.blk
    let x := b.power
    (let prev : Int := b.pw? F.PWR_CTEMP.TEMP c
     let target : Int := b.pw? F.PWR_THERM.THERM_TARGET
     let g := b.pw? F.PWR_CTEMP.G_THERM c
     let bad := temp < 0 ∨ 150 < temp ∨ (bit x.sampled c = true ∧ 20 < (temp - prev).natAbs)
     let b1 := (b.setPwr { x with sampled := setBits x.sampled c 1 1 }).put pgPwr F.PWR_CTEMP.TEMP (min 255 temp.toNat) c
     let answers (r : Block) : Prop := exec (.thermalLoop c temp) s = .next (s.withBlk r.showHot.powerChanged)
     (bit x.failed c = true → answers b1) ∧
     (bit x.failed c = false →
       (bad → answers (((b1.setPwr { b1.power with failed := setBits x.failed c 1 1 }).put pgPwr F.PWR_CTEMP.G_THERM 8 c).reportClu c 0x0308)) ∧
       (¬ bad → 105 ≤ temp → answers (((b1.put pgPwr F.PWR_CTEMP.G_THERM 0 c).raise pgPwr 1).reportClu c 0x0302)) ∧
       (¬ bad → temp < 105 → target ≤ temp → answers (b1.put pgPwr F.PWR_CTEMP.G_THERM (g - 1) c)) ∧
       (¬ bad → temp < 105 → temp < target → temp < target - b.pw? F.PWR_THERM.THERM_HYST →
         answers (b1.put pgPwr F.PWR_CTEMP.G_THERM (min 16 (g + 1)) c)) ∧
       (¬ bad → temp < 105 → temp < target → target - b.pw? F.PWR_THERM.THERM_HYST ≤ temp → answers b1))) ∧
    (let droop (on : Nat) (b : Block) : Block := (List.range 12).foldl (fun b i => b.put (pgTile (12 * c.val + i)) F.TIL_ISSUE.DROOP on) b
     let b1 := (((droop 1 b).bumpWrap pgPwr F.PWR_DROOP_CNT.DROOP_CNT).bumpWrap (pgClu c) F.CLU_DROOP.DROOP_CNT).raise pgPwr 2
     exec (.droopAssert c) s = .next (s.withBlk (b1.setPwr { b1.power with lastDroop := some b.now, goodSince := none }).noteReasons.freqCheck) ∧
     exec (.droopRelease c) s = .next (s.withBlk (droop 0 b).noteReasons.freqCheck)) ∧
    (x.freq = .nominal → b.boostOk = true → (∃ t, x.goodSince = some t ∧ t + b.pw? F.PWR_X_BOOST.BOOST_DWELL * 10000 ≤ b.now) →
      exec .boostEntry s = .next (s.withBlk
        (((b.setPwr { x with freq := .entering, freqAt := b.now }).put pgPwr F.PWR_MODE.FREQ_BUSY 1).coreVolt b.vboost))) ∧
    (x.freq = .entering → b.boostOk = true → x.freqAt + b.pw? F.PWR_X_BOOST.VOLT_SETTLE * 1000 ≤ b.now → exec .voltSettle s = .next (s.withBlk
      ((((b.setPwr { x with freq := .boost }).put pgPwr F.PWR_MODE.BOOST_ACTIVE 1).put pgPwr F.PWR_MODE.FREQ_BUSY 0).bump pgPwr
        F.PWR_FREQ_CNT.BOOST_ENTRIES))) ∧
    (x.freq = .leaving → exec .voltSettle s = .next (s.withBlk ((b.setPwr { x with freq := .nominal }).put pgPwr F.PWR_MODE.FREQ_BUSY 0))) ∧
    (x.freq = .boost → b.boostOk = false → exec .boostExit s = .next (s.withBlk b.leaveBoost)) ∧
    (x.freq = .entering → b.boostOk = false → exec .freqAbort s = .next (s.withBlk b.abortBoost)) ∧
    (b.leaveBoost.power.freq = .leaving ∧ b.leaveBoost.pw? F.PWR_MODE.BOOST_ACTIVE = 0 ∧ b.leaveBoost.pw? F.PWR_MODE.FREQ_BUSY = 1) ∧
    (∀ t, x.quiet = some t → max t (x.lastDroop.getD 0) + 10000 ≤ b.now →
      exec .freqAbortClear s = .next (s.withBlk (b.setPwr { x with quiet := none }).noteReasons.freqCheck)) ∧
    (x.freq = .entering ∨ x.freq = .leaving → x.freqAt + 1000000 ≤ b.now → exec .avsTimeout s = .next (s.withBlk
      ((((((b.setPwr { x with freq := .nominal, avsFailed := true, goodSince := none }).put pgPwr F.PWR_MODE.BOOST_ACTIVE 0).put pgPwr
        F.PWR_MODE.FREQ_BUSY 0).coreVolt b.vnom).raise pgPwr 9).reportPage pgPwr 0x0307))) ∧
    (x.avsFailed = true → b.boostOk = false) ∧
    (let l := [(F.PWR_MODE.VEC_GATE, 0)]
     s.reaches pgPwr a → b.standing pgPwr l →
       exec (.fixedFreqWrite v a) s = .next (s.withBlk ((((b.put pgPwr F.PWR_MODE.FIXED_FREQ (b2n v)).freqCheck).rewritten pgPwr l).rest)))

/-- Rest and wake, the safe state and its end (R371, R399, R431 to R434, R456 to R458). -/
def Obligations.RestAndSafeState : Prop :=
  ∀ (s : State) (a : Agent), s.live →
    let b := s.blk
    let st := b.pw? F.PWR_REST.REST_STATE
    let n := s.blk.now
    (s.reaches pgPwr a →
      (b.asleep = true → exec (.restReq a) s = .next (s.withBlk b.rest)) ∧
      (b.asleep = false → b.restOk = false → exec (.restReq a) s = .next (s.withBlk ((b.cfgReject pgPwr).raise pgPwr 8).rest)) ∧
      (b.asleep = false → b.restOk = true → ∃ b1 : Block, exec (.restReq a) s = .next (s.withBlk b1.rest) ∧
        b1.pw? F.PWR_REST.REST_STATE = restENTERING ∧ b1.scores = [] ∧ b1.reqs = [] ∧ b1.acts = [] ∧
        ∀ t : Fin 288, (b1.tile t).seq = .idle ∨ (b1.tile t).seq = .retired) ∧
      (st = restENTERING → exec (.wake a) s = .next (s.withBlk (b.setPwr { b.power with wakePend := true }).rest)) ∧
      (st = restREST → exec (.wake a) s = .next (s.withBlk (((b.setPwr { b.power with wakePend := false, wakeAt := n }).coreVolt b.vnom).put
        pgPwr F.PWR_REST.REST_STATE restWAKING).rest)) ∧
      (st = restRUN ∨ st = restWAKING → exec (.wake a) s = .next (s.withBlk b.rest))) ∧
    (st = restENTERING →
      let b1 := (b.put pgPwr F.PWR_REST.REST_STATE restREST).raise pgPwr 6
      exec .restEntryDone s = .next (s.withBlk (if b.power.wakePend then b1.startWake else b1))) ∧
    (st = restWAKING → b.power.wakeAt + 1000000 ≤ n → b.wokenUp.pw? F.PWR_REST.REST_STATE = restRUN ∧
      exec .wakeDone s = .next (s.withBlk (if b.flt F.FLT_SAFE.SAFE_STATE = sfRUN then b.wokenUp else b.wokenUp.safeNow).rest)) ∧
    (let sf := b.flt F.FLT_SAFE.SAFE_STATE
     s.reaches pgFlt a →
      (sf = sfRUN → exec (.safeReq a) s = .next (s.withBlk ((b.put pgFlt F.FLT_SAFE.HOLD 1).enterSafe 4 false).rest) ∧
        exec (.release a) s = .next (s.withBlk b.rest)) ∧
      (sf = sfSAFE → exec (.safeReq a) s = .next (s.withBlk (b.put pgFlt F.FLT_SAFE.HOLD 1).rest) ∧
        exec (.release a) s = .next (s.withBlk (((b.put pgFlt F.FLT_SAFE.HOLD 0).setFcol
          { (b.put pgFlt F.FLT_SAFE.HOLD 0).fcol with quietFrom := n }).rest))) ∧
      (sf = sfLATCHED → ∀ c ∈ [Instr.safeReq a, .release a], exec c s = .next (s.withBlk b.rest))) ∧
    (b.flt F.FLT_SAFE.SAFE_STATE = sfSAFE → b.flt F.FLT_SAFE.HOLD = 0 → b.fcol.quietFrom + b.flt F.FLT_QUIET.QUIET_PERIOD * 1000000 ≤ n →
      let recent := (b.fcol.exits.filter (fun t => decide (n ≤ t + 3600000000000))).length
      (recent < b.flt F.FLT_RECOV.RECOVERY_LIMIT → exec .quietExpire s = .next (s.withBlk b.exitSafe.rest)) ∧
      (b.flt F.FLT_RECOV.RECOVERY_LIMIT ≤ recent → exec .quietExpire s = .next (s.withBlk
        ((b.modHdr pgFlt (fun h => h.summarise 0x0202 3)).fcolTake b.hearth
          { page := pgFlt, code := 0x0202, island := 399, detail := 0, part := none } 3 false true 5).rest)))

/-! ### Faults, boot and update -/

/-- Reports, the history, telemetry, storms, summaries and injection (R441 to R448, R456, R461 to R467). -/
def Obligations.FaultsAreCollected : Prop :=
  ∀ (s : State) (hw : Option HwFind) (slotOk : Bool) (p : Fin 4096) (a : Agent), s.live →
    let b := s.blk
    (let b1 := match hw with
       | some r => b.hwFault r
       | none => b
     (b1.reports = [] → exec (.faultReport hw) s = .next (s.withBlk b1.rest)) ∧
     (∀ tick r rest, b1.reports = (tick, r) :: rest → exec (.faultReport hw) s = .next (s.withBlk
       ((({ b1 with reports := rest } : Block).fcolTake tick r (codeSev r.code) false true 2).rest)))) ∧
    exec (.parityScrub false slotOk) s = .next (s.withBlk b.rest) ∧
    exec (.parityScrub true slotOk) s = .next (s.withBlk ((b.modHdr pgFlt (fun h => h.summarise 0x0201 3)).fcolTake b.hearth
      { page := pgFlt, code := 0x0201, island := 399, detail := 0, part := none } 3 false slotOk 3).rest) ∧
    (let l := [(F.FLT_HCTL.HIST_CORR, 0)]
     let r := b.rewritten pgFlt l
     s.reaches pgFlt a → b.standing pgFlt l →
      exec (.unfreeze a) s = .next (s.withBlk (((r.put pgFlt F.FLT_HSTAT.FROZEN 0).put pgFlt F.FLT_HLOST.HIST_LOST 0).rest)) ∧
      ∃ b1 : Block, exec (.histClear a) s = .next (s.withBlk b1.rest) ∧ (∀ i : Fin 32, b1.flt F.FLT_HIST.RECORD i = 0) ∧
        b1.flt F.FLT_HSTAT.NEXT = 0 ∧ b1.flt F.FLT_HSTAT.WRAPPED = 0 ∧ b1.flt F.FLT_HSTAT.FROZEN = 0 ∧ b1.flt F.FLT_HLOST.HIST_LOST = 0) ∧
    (s.reaches pgFlt a →
      (pageKind p = .reserved → exec (.sumclrPage p a) s = .next (s.withBlk b.rest)) ∧
      (pageKind p ≠ .reserved → exec (.sumclrPage p a) s = .next (s.withBlk
        (b.modHdr p (fun h => { h with seen := 0, firstCode := 0 })).rest)) ∧
      (∃ b1 : Block, exec (.sumclrAll a) s = .next (s.withBlk b1.rest) ∧ b1.mem = b.mem ∧
        ∀ q : Nat, (b1.hdr q).seen = 0 ∧ (b1.hdr q).firstCode = 0 ∧ (b1.hdr q).st = (b.hdr q).st ∧ (b1.hdr q).isr = (b.hdr q).isr) ∧
      (b.injEn = false → exec (.injectGo a) s = .next (s.withBlk (((b.cfgReject pgFlt).reportPage pgFlt 0x0204).rest))) ∧
      (b.injEn = true →
        let page := b.flt F.FLT_INJ0.PAGE
        let code := b.flt F.FLT_INJ0.CODE
        let sev := b.flt F.FLT_INJ0.SEV
        let r : Report := { page := page, code := code, island := pageIsland page, detail := b.flt F.FLT_INJ1.DETAIL
                            part := if b.flt F.FLT_INJ1.PART_VALID = 1 then some (b.flt F.FLT_INJ1.PART) else none }
        (code = 0x0201 → exec (.injectGo a) s = .next (s.withBlk (b.parityError true true).rest)) ∧
        (code ≠ 0x0201 → exec (.injectGo a) s = .next (s.withBlk
          (((if pageKind page = .reserved then b else b.modHdr page (fun h => h.summarise code sev)).fcolTake b.hearth r sev true true 2).rest))))) ∧
    (b.flt F.FLT_STORM.STORM = 1 → b.fcol.lastStorm + b.flt F.FLT_STORM.STORM_WINDOW * 1000000 ≤ b.now →
      exec .stormClear s = .next (s.withBlk (b.put pgFlt F.FLT_STORM.STORM 0))) ∧
    exec .telPoll s = .next (s.withBlk
      ((Block.alarmDrain 512 (([0, 1, 2].filter b.ringOn).foldl Block.ringCons b)).traceDrain).rest)

/-- The package boots: fuses, image, firmware, training, memory and READY, and the ways it may not (R474 to R483). -/
def Obligations.PackageBoots : Prop :=
  ∀ (s : State) (f : Fuses) (image : List Byte) (failed : BitVec 32) (temp : BitVec 8) (key : BitVec 16) (mask : BitVec 4) (svn : BitVec 7) (a : Agent), s.live →
    let b := s.blk
    (s.reaches pgBoot a →
      (key = 0xC0DE → exec (.bootReset key a) s = .next (s.withBlk (b.reset false).rest)) ∧
      (key ≠ 0xC0DE → exec (.bootReset key a) s = .next (s.withBlk b.rest))) ∧
    (b.stage = 0 →
      exec (.porDone f false) s = .next (s.withBlk ((b.setStage 0xF).reportPage pgBoot 0x0D07)) ∧
      ∃ b1 f1, exec (.porDone f true) s = .next (s.withBlk b1) ∧ b1.stage = 1 ∧ b1.boot.fuses = some f1 ∧
        f1.keyRevoke = ((b.boot.fuses.getD f).keyRevoke ||| b.boot.burnRevoke) % 16 ∧ f1.svn = min 64 (max (b.boot.fuses.getD f).svn b.boot.burnSvn) ∧
        b1.eff pgBoot F.BOOT_FUSE.KEY_VALID = f1.keyValid % 16 ∧ b1.eff pgBoot F.BOOT_FUSE.SVN_FUSE = f1.svn ∧
        b1.eff pgBoot F.BOOT_FUSE.TEST_STRAP = b2n b.testMode ∧ b1.mem = b.mem) ∧
    (b.stage = 1 → exec (.romLoadDone none) s = .next (s.withBlk (b.flashFailed 0x01)) ∧
      exec (.romLoadDone (some image)) s = .next (s.withBlk (({ b with boot := { b.boot with buffer := image } } : Block).setStage 2))) ∧
    (b.stage = 2 → exec .romVerify s = .next (s.withBlk (if b.imageCheck b.boot.buffer true = 0
      then (b.accept b.boot.buffer).put pgBoot F.BOOT_STAT.FLASH_OK 1 else b.flashFailed (b.imageCheck b.boot.buffer true)))) ∧
    (s.reaches pgBoot a →
      (b.stage ≠ 3 → exec (.pushGo a) s = .next (s.withBlk b.rest)) ∧
      (b.stage = 3 →
        let m := Bytes.read 0 b.boot.push 0 (b.eff pgBoot F.BOOT_PUSH_LEN.PUSH_LEN)
        let b0 : Block := { b with boot := { b.boot with start := b.now, late := false } }
        exec (.pushGo a) s = .next (s.withBlk (if b0.imageCheck m true = 0 then (b0.accept m).put pgBoot F.BOOT_STAT.FROM_PUSH 1
          else (b.put pgBoot F.BOOT_STAT.BOOT_ERR (b0.imageCheck m true)).bump pgBoot F.BOOT_ERR_CNT.PUSH_FAIL_CNT).rest))) ∧
    (b.stage = 4 → ∃ b1, exec .fwStartDone s = .next (s.withBlk b1) ∧ b1.stage = 5 ∧ b1.mem = b.mem ∧
      ∀ t : Fin 288, (b1.tile t).sram = [] ∧ (b1.tile t).acc = [] ∧
        ∀ c, component? b.boot.booted 2 = some c → (b1.tile t).ucode = c.bytes b.boot.booted) ∧
    (5 ≤ b.stage → b.stage < 9 →
      let b0 := (List.range 16).foldl (fun b k => b.put (pgMem k) F.MEM_CH_STATUS.CH_UP 0xFFFF)
        ({ b with boot := { b.boot with memTrained := true } } : Block)
      let b1 := (List.range 32).foldl (fun c g => (c.put (pgMem (g / 2)) F.MEM_TEMP.TEMP temp.toNat).setGroup g
        { c.group g with lastTrain := c.now, lastTemp := temp.toNat }) b0
      (b.boot.memTrained = false → exec (.memTrainDone ⟨failed, temp⟩) s = .next (s.withBlk
        (((bitIndices 32 failed.toNat).foldl Block.retireGroup b1).setStage (max 6 b.stage)).rest)) ∧
      (b.boot.fabTrained = false → (∀ n < 63, b.linkSettled n = true) → exec .fabricTrained s = .next (s.withBlk
        (({ b with boot := { b.boot with fabTrained := true }, tb := { b.tb with trainedAt := some b.now } } : Block).setStage 7)))) ∧
    (b.boot.memTrained = true → b.boot.memInit = false → exec .memInitDone s = .next (s.withBlk
      { b with boot := { b.boot with memInit := true }, mem := { undef := [], cells := [] }, poison := [], frames := [], rtags := [] })) ∧
    (5 ≤ b.stage → b.stage < 9 → b.boot.memInit = true → b.boot.fabTrained = true → b.sync = tbLOCKED ∨ b.sync = tbMASTER →
      (∃ g < 32, b.groupRetired g = false) →
        let b1 := allPages.foldl (fun b p => b.modHdr p (fun h => { h with ivec := p })) b
        let b2 := match b.boot.fuses with
          | some f => (b1.putCmt pgPwr F.PWR_X_MODEL.P_IDLE f.pIdle).putCmt pgPwr F.PWR_X_MODEL.P_FULL f.pFull
          | none => b1
        (b.flt F.FLT_SAFE.SAFE_STATE = sfRUN → exec .bootFinal s = .next (s.withBlk b2.reachReady.rest)) ∧
        (b.flt F.FLT_SAFE.SAFE_STATE ≠ sfRUN → exec .bootFinal s = .next (s.withBlk
          (({ b2 with boot := { b2.boot with readyDue := true } } : Block).setStage 8).rest))) ∧
    (b.reachReady.eff pgBoot F.BOOT_STAT.READY = 1 ∧ b.reachReady.stage = 9) ∧
    (b.eff pgBoot F.BOOT_STAT.READY ≠ 1 → b.boot.late = false → b.boot.start + 4000000000 ≤ b.now → exec .bootLate s = .next (s.withBlk
      (({ b with boot := { b.boot with late := true } } : Block).reportPage pgBoot 0x0D03))) ∧
    (s.reaches pgBoot a →
      let all := b.eff pgBoot F.BOOT_FUSE.KEY_REVOKE ||| b.boot.burnRevoke ||| mask.toNat
      let left := (List.range 4).any (fun k => bit (b.eff pgBoot F.BOOT_FUSE.KEY_VALID) k && !bit all k)
      (mask ≠ 0 → exec (.revokeBurn mask a) s = .next (s.withBlk (if left
        then ({ b with boot := { b.boot with burnRevoke := b.boot.burnRevoke ||| mask.toNat } } : Block) else b.cfgReject pgBoot).rest)) ∧
      (b.eff pgBoot F.BOOT_IMG.IMG_SVN < svn.toNat → exec (.svnBurn svn a) s = .next (s.withBlk (b.cfgReject pgBoot).rest)) ∧
      (svn.toNat ≤ b.eff pgBoot F.BOOT_IMG.IMG_SVN → b.eff pgBoot F.BOOT_FUSE.SVN_FUSE < svn.toNat → exec (.svnBurn svn a) s = .next (s.withBlk
        ({ b with boot := { b.boot with burnSvn := max b.boot.burnSvn svn.toNat } } : Block).rest)))

/-- A live update verifies, activates component by component, may be cut short, and is written to flash (R487 to R493). -/
def Obligations.UpdatesActivateInOrder : Prop :=
  ∀ (s : State) (mask : BitVec 8) (p : Fin 4096) (v : BitVec 32) (ok : Bool) (a : Agent), s.live →
    let b := s.blk
    let u := b.upd
    let st := b.updState
    let open' := a = .pldm ∨ b.updLocked = false
    let r := b.put pgBoot F.BOOT_UPD_CMD.ACT_MASK (b.eff pgBoot F.BOOT_UPD_CMD.ACT_MASK)
    (s.reaches pgBoot a →
      (¬ open' → ∀ c ∈ [Instr.updVerify a, .flashWrite a], exec c s = .next (s.withBlk (r.cfgReject pgBoot).rest)) ∧
      (¬ open' → exec (.updActivate mask a) s = .next (s.withBlk ((b.put pgBoot F.BOOT_UPD_CMD.ACT_MASK mask.toNat).cfgReject pgBoot).rest)) ∧
      (open' → st = upIDLE ∨ st = upFAILED → exec (.updVerify a) s = .next (s.withBlk
        ((((r.askFreeze .staging 1 b.stgBase (b.stagedLen / 4096)).setUpd upVERIFYING).put pgBoot F.BOOT_UPD_STAT.UPD_ERR 0).rest))) ∧
      (open' → st = upSTAGED → mask.toNat &&& presentMask u.image = mask.toNat →
        exec (.updActivate mask a) s = .next (s.withBlk (((({ b.put pgBoot F.BOOT_UPD_CMD.ACT_MASK mask.toNat with
          upd := { u with queue := [7, 5, 6, 4, 3, 2, 1].filter (fun c => bit mask.toNat c) } } : Block).setUpd upACTIVATING).updNext).rest))) ∧
      (open' → st = upSTAGED ∨ st = upFAILED → b.eff pgBoot F.BOOT_UPD_STAT.FLASH_BUSY = 0 →
        exec (.flashWrite a) s = .next (s.withBlk
          ((({ r with upd := { u with flashSrc := if st = upSTAGED then u.image else b.boot.booted } } : Block).put pgBoot
            F.BOOT_UPD_STAT.FLASH_BUSY 1).rest))) ∧
      (st = upVERIFYING ∨ st = upSTAGED ∨ st = upACTIVATING →
        exec (.updAbort a) s = .next (s.withBlk ((r.showMixed.updRelease).setUpd upIDLE).unlockUpd.rest)) ∧
      (st = upIDLE ∨ st = upFAILED → exec (.updAbort a) s = .next (s.withBlk (r.cfgReject pgBoot).rest)) ∧
      (u.alive = none → exec (.bootAlive v a) s = .next (s.withBlk b.rest)) ∧
      (u.alive ≠ none → exec (.bootAlive v a) s = .next (s.withBlk
        (({ b with upd := { u with alive := none } } : Block).commitWhole pgMgt).rest))) ∧
    (∀ fz, st = upVERIFYING → b.takeDone .staging = some fz →
      let b1 := b.dropDone .staging
      let m := b.mem.read b.stgBase b.stagedLen
      let e := b1.imageCheck m false
      (fz ≠ 0 → exec .updVerifyDone s = .next (s.withBlk (b1.verifyFail 0x11).rest)) ∧
      (fz = 0 → e ≠ 0 → exec .updVerifyDone s = .next (s.withBlk (b1.verifyFail e).rest)) ∧
      (fz = 0 → e = 0 → exec .updVerifyDone s = .next (s.withBlk
        (((({ b1 with upd := { b1.upd with image := m.take (imgLen m) } } : Block).setUpd upSTAGED).put pgBoot
          F.BOOT_UPD_STAT.DONE_MASK 0).raise pgBoot 2).rest))) ∧
    (st = upACTIVATING →
      (p.val ∈ u.held → p.val ∉ u.loaded → (b.hdr p).st = .quiesced →
        let b1 : Block := { b.loadUcode p with upd := { u with loaded := u.loaded ++ [p.val] } }
        exec (.componentLoaded p) s = .next (s.withBlk (if u.cur = some 1 then b1
          else if isStaged (pageKind p) then b1.modHdr p (fun h => { h with commitPending := true, pendingAt := b.now }) else b1.commitWhole p).rest)) ∧
      (u.cur = none → exec .componentCommitted s = .next (s.withBlk b.updNext.rest)) ∧
      (∀ id, u.cur = some id →
        let b0 := b.updTake
        (b0.upd.todo ≠ [] ∨ b0.upd.held ≠ [] → exec .componentCommitted s = .next (s.withBlk b0.showMixed.rest)) ∧
        (∀ c, b0.upd.todo = [] → b0.upd.held = [] → component? u.image id = some c →
          let b1 := ((b0.showComponent c).put pgBoot F.BOOT_COMP.PENDING 0 id).put pgBoot F.BOOT_COMP.MIXED 0 id
          exec .componentCommitted s = .next (s.withBlk
            (b1.put pgBoot F.BOOT_UPD_STAT.DONE_MASK (setBits (b1.eff pgBoot F.BOOT_UPD_STAT.DONE_MASK) id 1 1)).updNext.rest)) ∧
        (u.since + 10000000000 ≤ b.now → exec .activateLimit s = .next (s.withBlk (b.showMixed.actFail 0x10).rest)) ∧
        (id = 1 → pgMgt ∈ u.loaded → u.alive = none → b.announcedAll = true →
          exec .mgmtFwHandover s = .next (s.withBlk { b with upd := { u with alive := some b.now } })))) ∧
    (∀ t, u.alive = some t → t + 100000000 ≤ b.now → exec .aliveTimeout s = .next (s.withBlk
      ((((((b.raise pgBoot 6).bump pgBoot F.BOOT_CNT.REVERT_CNT).reportPage pgBoot 0x0D06).put pgBoot F.BOOT_COMP.PENDING 0 1).actFail 0x12).rest))) ∧
    (b.eff pgBoot F.BOOT_UPD_STAT.FLASH_BUSY = 1 → exec (.flashWriteDone ok) s = .next (s.withBlk
      ((((b.put pgBoot F.BOOT_UPD_STAT.FLASH_BUSY 0).put pgBoot F.BOOT_STAT.FLASH_OK (b2n ok)).raise pgBoot 7).emit (.blob "flash" u.flashSrc)).unlockUpd))

/-! ### Attestation, host and management -/

/-- The attestation responder answers from FW_START on, and only then (R484 to R486). -/
def Obligations.ResponderAttests : Prop :=
  ∀ (s : State) (meas i : BitVec 8) (asym hash : BitVec 32) (slot : BitVec 4) (off len : BitVec 16) (nonce : List Byte) (signed : Bool), s.live →
    let b := s.blk
    let answers (c : Instr) (o : Out) : Prop := exec c s = .next (s.withBlk (b.emit o))
    let signs (c : Instr) (name : String) (bs : List Byte) : Prop := ∃ sig : List Byte, sig.length ≤ 384 ∧
      exec c s = .next (s.withBlk (({ b with fresh := b.fresh + 1 } : Block).emit (.blob name (bs ++ sig))))
    let block (k : Nat) : List Byte := b.measurement k
    (b.spdmUp = true ↔ 4 ≤ b.stage ∧ b.stage ≤ 9) ∧
    (b.spdmUp = false → ∀ c ∈ [Instr.getVersion, .getCapabilities, .negotiateAlgorithms meas asym hash, .getDigests, .getCertificate slot off len,
      .challenge slot nonce, .getMeasurements i signed slot], exec c s = .next (s.withBlk b)) ∧
    (b.spdmUp = true →
      answers .getVersion (.response "spdm-version" [0x12]) ∧ answers .getCapabilities (.response "spdm-capabilities" [17, 0x16]) ∧
      answers (.negotiateAlgorithms meas asym hash) (.response "spdm-algorithms"
        [(meas &&& 1).toNat, if meas &&& 1 = 1 then 2 else 0, (asym &&& 4).toNat, (hash &&& 1).toNat]) ∧
      answers .getDigests (.blob "spdm-digests" (1 :: sha256 Config.certChain)) ∧
      (slot ≠ 0 ∨ Config.certChain.length ≤ off.toNat → answers (.getCertificate slot off len) (.response "spdm-error" [1])) ∧
      (off.toNat < Config.certChain.length →
        answers (.getCertificate 0 off len) (.blob "spdm-certificate" ((Config.certChain.drop off.toNat).take len.toNat))) ∧
      (slot ≠ 0 → answers (.challenge slot nonce) (.response "spdm-error" [1]) ∧
        answers (.getMeasurements i true slot) (.response "spdm-error" [1])) ∧
      signs (.challenge 0 nonce) "spdm-challenge-auth" (sha256 Config.certChain ++ nonce) ∧
      (10 < i.toNat → i ≠ 0xFF → answers (.getMeasurements i signed 0) (.response "spdm-error" [1])) ∧
      (∀ r ∈ [((0 : BitVec 8), [(10 : Byte)]), (1, block 1), (2, block 2), (3, block 3), (4, block 4), (10, block 10),
          (0xFF, (List.range 10).flatMap (fun k => block (k + 1)))],
        answers (.getMeasurements r.1 false slot) (.blob "spdm-measurements" r.2) ∧
        signs (.getMeasurements r.1 true 0) "spdm-measurements" r.2) ∧
      (1 ≤ i.toNat → i.toNat ≤ 10 → answers (.getMeasurements i false slot) (.blob "spdm-measurements" (block i.toNat))))

/-- The host's window, bad accesses, its fence, the link and MSI-X (R499 to R509). -/
def Obligations.HostReachesThePackage : Prop :=
  ∀ (s : State) (off : BitVec 30) (len : BitVec 12) (bytes : List Byte) (isRead : Bool) (words : BitVec 10) (v : Fin 2048)
    (en mask master masked : Bool) (speed : BitVec 4) (width : BitVec 6) (a : Agent), s.live →
    let b := s.blk
    let o := off.toNat
    let n := len.toNat
    let addr := b.eff pgPci F.PCI_WIN_BASE.WIN_BASE + o
    let bad := ((b.bump pgPci F.PCI_CNT1.BAD_ACC_CNT).raise pgPci 2).reportPage pgPci 0x0E06
    let c1 := ((({ b with pcie := { b.pcie with linkUp := false }, pciq := [] } : Block).put pgPci F.PCI_LINK.SPEED 0).put pgPci
      F.PCI_LINK.WIDTH 0).put pgPci F.PCI_LINK.FLIT 0
    (b.pcie.inReset = true → ∀ c ∈ [Instr.bar2Read off len, .bar2Write off bytes, .bar0BadAccess isRead words,
      .msixPendingSend v en mask master masked, .pcieLinkUp speed width], exec c s = .next (s.withBlk b)) ∧
    (b.pcie.inReset = false →
      (b.stage = 3 →
        (o + n ≤ 2 ^ 24 → exec (.bar2Read off len) s = .next (s.withBlk (b.emit (.bar2Read (Bytes.read 0 b.boot.push o n))))) ∧
        (2 ^ 24 < o + n → exec (.bar2Read off len) s = .next (s.withBlk (b.emit (.bar2Read (List.replicate n 0xFF))))) ∧
        (o + bytes.length ≤ 2 ^ 24 →
          exec (.bar2Write off bytes) s = .next (s.withBlk { b with boot := { b.boot with push := Bytes.write 0 b.boot.push o bytes } })) ∧
        (2 ^ 24 < o + bytes.length → exec (.bar2Write off bytes) s = .next (s.withBlk b))) ∧
      (b.stage ≠ 3 → b.asleep = true → exec (.bar2Read off len) s = .next (s.withBlk (b.emit (.bar2Read (List.replicate n 0xFF))))) ∧
      (b.stage ≠ 3 → b.asleep = false → exec (.bar2Read off len) s = .next (s.withBlk (b.newXfer
        { xfer0 (.bar2 addr) .read with pieces := [{ addr := addr, len := n, sram := 0 }], priv := true, page := pgPci }).rest)) ∧
      (b.stage ≠ 3 → b.asleep = true ∨ b.safe = true →
        exec (.bar2Write off bytes) s = .next (s.withBlk ((b.bump pgPci F.PCI_CNT0.WR_DROP_CNT).raise pgPci 0))) ∧
      (b.stage ≠ 3 → b.asleep = false → b.safe = false →
        let waits := (b.localOff addr).isSome = true ∧ b.barWriteOpen = true
        (waits → exec (.bar2Write off bytes) s = .next (s.withBlk { b with pciq := b.pciq ++ [(addr, bytes)] })) ∧
        (¬ waits → exec (.bar2Write off bytes) s = .next (s.withBlk (b.bar2WriteStart addr bytes).rest))) ∧
      exec (.bar0BadAccess true words) s = .next (s.withBlk (bad.emit (.read .host (List.replicate words.toNat 0xFFFFFFFF)))) ∧
      exec (.bar0BadAccess false words) s = .next (s.withBlk bad) ∧
      exec (.msixPendingSend v en mask master masked) s = .next (s.withBlk ({ b with pcie := { b.pcie with
        msixEn := en, funcMask := mask, busMaster := master, masked := SMap.put false b.pcie.masked v masked } } : Block).sendPending) ∧
      (b.pcie.linkUp = false → exec (.pcieLinkUp speed width) s = .next (s.withBlk
        (((({ b with pcie := { b.pcie with linkUp := true } } : Block).put pgPci F.PCI_LINK.SPEED speed.toNat).put pgPci F.PCI_LINK.WIDTH
          width.toNat).put pgPci F.PCI_LINK.FLIT (if speed = 6 then 1 else 0)))) ∧
      (b.pcie.linkUp = true → exec (.pcieLinkUp speed width) s = .next (s.withBlk b))) ∧
    (b.pcie.linkUp = true → exec .pcieLinkDown s = .next (s.withBlk
      (((c1.bump pgPci F.PCI_CNT1.LINK_DOWN_CNT).raise pgPci 1).reportPage pgPci 0x0E01))) ∧
    (s.reaches pgPci a →
      (b.eff pgPci F.PCI_FENCE.BUSY = 1 → exec (.fenceGo a) s = .next (s.withBlk b.rest)) ∧
      (b.eff pgPci F.PCI_FENCE.BUSY ≠ 1 → exec (.fenceGo a) s = .next (s.withBlk
        ((((b.put pgPci F.PCI_FENCE.BUSY 1).put pgPci F.PCI_FENCE.LOST 0).startFence (fun _ => .pci) 341).rest).rest)))

/-- Register messages, addresses and identifiers, PLDM control, sensors, events and updates (R510 to R515, R538). -/
def Obligations.ManagementIsServed : Prop :=
  ∀ (s : State) (p off : BitVec 16) (count : BitVec 8) (ws : List (BitVec 32)) (t : Fin 2) (eid tid : BitVec 8) (static addr : BitVec 7) (type : BitVec 6)
    (handle foff : BitVec 32) (sensor : BitVec 16) (bytes : List Byte), s.live →
    let b := s.blk
    let valid := b.eff pgMgt F.MGT_I3C.ADDR_VALID
    let tells (c : Instr) (b1 : Block) (name : String) (l : List Nat) : Prop := exec c s = .next (s.withBlk (b1.emit (.response name l)))
    let inPage (n : Nat) := 1 ≤ n ∧ n ≤ 16 ∧ off.toNat % 4 = 0 ∧ off.toNat + 4 * n ≤ 4096 ∧ p.toNat < 4096
    (¬ inPage count.toNat → tells (.regRead p off count) b "register" [2]) ∧
    (inPage count.toNat → let r := b.readWords p.toNat off.toNat count.toNat
      tells (.regRead p off count) r.1 "register" (0 :: r.2) ∧ r.2.length = count.toNat) ∧
    (¬ inPage ws.length → tells (.regWrite p off ws) b "register" [2]) ∧
    (inPage ws.length → tells (.regWrite p off ws) (b.writeWords p.toNat off.toNat (ws.map BitVec.toNat)) "register" [0]) ∧
    tells (.setEndpointId t eid) ((b.put pgMgt (if t = 0 then F.MGT_EID.EID_I3C else F.MGT_EID.EID_PCIE) eid.toNat).raise pgMgt 0) "mctp-eid"
      [t.val, eid.toNat] ∧
    (valid = 1 → ∀ c ∈ [Instr.entdaa addr, .setdasa static addr, .hotJoin], exec c s = .next (s.withBlk b)) ∧
    (valid = 0 →
      let given := (b.put pgMgt F.MGT_I3C.DYN_ADDR addr.toNat).put pgMgt F.MGT_I3C.ADDR_VALID 1
      exec (.entdaa addr) s = .next (s.withBlk given) ∧
      exec (.setdasa static addr) s = .next (s.withBlk (if static.toNat = 0x40 + b.slotId % 4 then given else b)) ∧
      exec .hotJoin s = .next (s.withBlk (b.emit (.event "hot-join" [])))) ∧
    exec .i3cBusError s = .next (s.withBlk (((b.bump pgMgt F.MGT_CNT.I3C_ERR_CNT).raise pgMgt 1).reportPage pgMgt 0x0E05)) ∧
    tells .getTid b "pldm-tid" [0, b.eff pgMgt F.MGT_EID.TID] ∧
    tells (.setTid tid) (b.put pgMgt F.MGT_EID.TID tid.toNat) "pldm-set-tid" [0] ∧
    (∃ v, tells (.getPldmVersion type) b "pldm-version" v ∧ (type = 5 → v = [0, 0x0101])) ∧
    tells .getPldmTypes b "pldm-types" [0, 0, 2, 5] ∧
    (∃ l, tells (.getPldmCommands type) b "pldm-commands" l ∧ (type = 0 ∨ type = 2 ∨ type = 5 ↔ l.head? = some 0)) ∧
    (∃ l, tells (.getPdr handle) b "pldm-pdr" l) ∧
    (∀ v, b.numericSensor sensor.toNat = some v → tells (.getSensorReading sensor) b "pldm-sensor" [0, sensor.toNat, v]) ∧
    (b.numericSensor sensor.toNat = none → tells (.getSensorReading sensor) b "pldm-sensor" [0x80, sensor.toNat]) ∧
    (∀ v, b.stateSensor sensor.toNat = some v → tells (.getStateSensorReadings sensor) b "pldm-state" [0, sensor.toNat, v]) ∧
    (b.stateSensor sensor.toNat = none → tells (.getStateSensorReadings sensor) b "pldm-state" [0x80, sensor.toNat]) ∧
    tells .eventMessageSupported b "pldm-events" [0, 1] ∧
    (b.fcol.pldm = [] → ∀ ack, tells (.pollForPlatformEvent ack) b "pldm-event" [0]) ∧
    (∀ x l, b.fcol.pldm = x :: l → exec (.pollForPlatformEvent false) s = .next (s.withBlk
      (b.emit (.blob "pldm-event" (telRecord b.fcol.pldmSeq 0 x.count x.last x.words))))) ∧
    (∀ x l, b.fcol.pldm = x :: l → ∃ b1 : Block, b1.fcol.pldmSeq = b.fcol.pldmSeq + 1 ∧
      b1.fcol.pldm = l ++ b.fcol.pldmWait.take (64 - l.length) ∧ b1.fcol.pldmWait = b.fcol.pldmWait.drop (64 - l.length) ∧
      ∃ o, exec (.pollForPlatformEvent true) s = .next (s.withBlk (b1.emit o))) ∧
    (let st := b.updState
     let free := b.eff pgBoot F.BOOT_STG_BASE.STG_BASE ≠ 0 ∧ (st = upIDLE ∨ st = upFAILED)
     (b.updLocked = false → free → tells .requestUpdate (b.put pgMgt F.MGT_PLDM.UPD_LOCK 1) "pldm-request-update" [0]) ∧
     (b.updLocked = true ∨ ¬ free → tells .requestUpdate b "pldm-request-update" [0x80]) ∧
     tells .verifyComplete b "pldm-verify-complete" [0, st, b.eff pgBoot F.BOOT_UPD_STAT.UPD_ERR] ∧
     (b.updLocked = false → tells .transferComplete b "pldm-transfer-complete" [0x80] ∧
       exec (.requestFirmwareData foff bytes) s = .next (s.withBlk (b.emit (.response "pldm-firmware-data" [0x80])).rest) ∧
       exec .activateFirmware s = .next (s.withBlk (b.emit (.response "pldm-activate" [0x80])).rest) ∧
       exec .cancelUpdate s = .next (s.withBlk (b.emit (.response "pldm-cancel" [0x80])).rest)) ∧
     (b.updLocked = true →
       (let w := b.privWrite (b.stgBase + foff.toNat) bytes
        foff.toNat + bytes.length ≤ 12582912 → exec (.requestFirmwareData foff bytes) s = .next (s.withBlk
          (w.1.emit (.response "pldm-firmware-data" [if w.2 = 0 then 0 else 1])).rest)) ∧
       exec .transferComplete s = .next (s.withBlk (b.updVerify.emit (.response "pldm-transfer-complete" [0])).rest) ∧
       (st = upSTAGED → exec .activateFirmware s = .next (s.withBlk
         ((({ b with upd := { b.upd with autoFlash := true } } : Block).updActivate (presentMask b.upd.image)).emit (.response "pldm-activate" [0])).rest)) ∧
       exec .cancelUpdate s = .next (s.withBlk ((if st = upVERIFYING ∨ st = upSTAGED ∨ st = upACTIVATING then b.updAbort else b.unlockUpd).emit
         (.response "pldm-cancel" [0])).rest)))

/-! ### Memory, and what operations leave alone -/

/-- Every operation on rack memory keeps its form; a store reads back, and every other byte stays as it was. -/
def Obligations.MemoryReadsBack : Prop :=
  ∀ (m : Memory) (a n id : Nat) (bs : List Byte), m.wf = true →
    (m.write a bs).wf = true ∧ (m.blit a bs).wf = true ∧ (m.zero a n).wf = true ∧ (m.scramble a id).wf = true ∧
    (m.write a bs).read a bs.length = bs ∧ (∀ i, i < a ∨ a + bs.length ≤ i → (m.write a bs).byte i = m.byte i) ∧ State.reset.memOk

/-- What the operations that the other statements name leave alone: a tile's next state, a field's new value, an event and a report. -/
def Obligations.OperationsAreLocal : Prop :=
  ∀ (b : Block) (t u p q i j n : Nat) (x : Tile) (f g : Field) (v : Nat) (r : Report),
    (u ≠ t → (b.tileNext t x).tile u = b.tile u) ∧ (b.tileNext t x).tile t = { x with pc := x.pc + 8 } ∧
    (b.tileNext t x).eff p f i = b.eff p f i ∧ (b.tileNext t x).hdr p = b.hdr p ∧ (b.tileNext t x).mem = b.mem ∧
    (b.tileNext t x).reports = b.reports ∧ (b.tileNext t x).scores = b.scores ∧ (b.tileNext t x).xfers = b.xfers ∧
    (q ≠ p ∨ g.key j ≠ f.key i → (b.put p f v i).eff q g j = b.eff q g j) ∧ (f.kind = .imm → (b.put p f v i).eff p f i = v % 2 ^ f.width) ∧
    (b.put p f v i).hdr q = b.hdr q ∧ (b.put p f v i).tile u = b.tile u ∧ (b.put p f v i).mem = b.mem ∧
    (b.raise p n).eff q f i = b.eff q f i ∧ (b.raise p n).tile u = b.tile u ∧ (b.raise p n).mem = b.mem ∧
    (b.raise p n).hdr q = (if q = p then { b.hdr p with isr := setBits (b.hdr p).isr n 1 1 } else b.hdr q) ∧
    (b.report r).eff q f i = b.eff q f i ∧ (b.report r).tile u = b.tile u ∧ (b.report r).mem = b.mem ∧
    (b.report r).reports = b.reports ++ [(b.hearthAt r.island, r)] ∧
    (b.report r).hdr q = (if q = r.page then (b.hdr q).summarise r.code (codeSev r.code) else b.hdr q)
end

