-- ==== Sys2Proof/Laws/State.lean ====
section
/-! SUPPORT. Laws of the state: one lemma per field and update, and what a command may do to the state as a whole. -/
namespace Sys2Proof.Machine

variable {s : State} {f : Block → Block}

@[simp] theorem State.withBlk_blk (s : State) (b : Block) : (s.withBlk b).blk = b := rfl
@[simp] theorem State.withBlk_pwrok (s : State) (b : Block) : (s.withBlk b).pwrokIsLow = s.pwrokIsLow := rfl
@[simp] theorem State.withBlk_reset (s : State) (b : Block) : (s.withBlk b).resetIsLow = s.resetIsLow := rfl
@[simp] theorem State.withBlk_pending (s : State) (b : Block) : (s.withBlk b).pending = s.pending := rfl
@[simp] theorem State.withBlk_self (s : State) : s.withBlk s.blk = s := rfl

@[simp] theorem State.act_pwrok (s : State) (f : Block → Block) : (s.act f).pwrokIsLow = s.pwrokIsLow := by
  unfold State.act; split <;> rfl
@[simp] theorem State.act_reset (s : State) (f : Block → Block) : (s.act f).resetIsLow = s.resetIsLow := by
  unfold State.act; split <;> rfl
@[simp] theorem State.act_pending (s : State) (f : Block → Block) : (s.act f).pending = s.pending := by
  unfold State.act; split <;> rfl
@[simp] theorem State.act_held (s : State) (f : Block → Block) : (s.act f).held = s.held := by
  simp [State.held]

/-- Out of reset, a command changes the block alone. -/
theorem State.act_live (h : s.live) : s.act f = s.withBlk (f s.blk) := by
  simp only [State.live] at h
  simp [State.act, h, State.withBlk]

/-- In reset, a command changes nothing. -/
theorem State.act_of_held (h : s.held = true) : s.act f = s := by simp [State.act, h]

@[simp] theorem State.pwrokLow_blk (s : State) : s.pwrokLow.blk = s.blk.reset true := rfl
@[simp] theorem State.pwrokLow_pwrok (s : State) : s.pwrokLow.pwrokIsLow = true := rfl
@[simp] theorem State.pwrokLow_reset (s : State) : s.pwrokLow.resetIsLow = s.resetIsLow := rfl
@[simp] theorem State.pwrokLow_pending (s : State) : s.pwrokLow.pending = s.pending := rfl
@[simp] theorem State.resetLow_blk (s : State) : s.resetLow.blk = s.blk.reset s.pwrokIsLow := rfl
@[simp] theorem State.resetLow_pwrok (s : State) : s.resetLow.pwrokIsLow = s.pwrokIsLow := rfl
@[simp] theorem State.resetLow_reset (s : State) : s.resetLow.resetIsLow = true := rfl
@[simp] theorem State.resetLow_pending (s : State) : s.resetLow.pending = s.pending := rfl

@[simp] theorem State.resetExit_pending (s : State) (slot : Nat) (tbm test : Bool) : (s.resetExit slot tbm test).pending = s.pending := by
  unfold State.resetExit; split <;> rfl

/-- After the exit from reset, no reset input is asserted. -/
theorem State.resetExit_live (s : State) (slot : Nat) (tbm test : Bool) (h : s.held = true ∨ s.blk.now = 0) :
    (s.resetExit slot tbm test).live := by
  unfold State.resetExit
  rw [if_pos h]
  rfl

end Sys2Proof.Machine
end

