-- ==== Sys2Proof/Laws/Link.lean ====
section
/-! SUPPORT. Laws of the links: what the units that a packet frees leave alone (R345), and what a transmitter sends (R346, R347). -/
namespace Sys2Proof.Machine

variable {b : Block} {q : Nat} {p : Packet}

/-- Freeing the units of a packet changes the links alone. -/
theorem Block.freeUnits_eq : ∃ l, b.freeUnits q p = { b with links := l } := by
  unfold Block.freeUnits
  simp only []
  split
  · exact ⟨_, rfl⟩
  · exact ⟨b.links, rfl⟩

@[simp] theorem Block.freeUnits_pages : (b.freeUnits q p).pages = b.pages := by obtain ⟨l, h⟩ := Block.freeUnits_eq (b := b) (q := q) (p := p); rw [h]
@[simp] theorem Block.freeUnits_mem : (b.freeUnits q p).mem = b.mem := by obtain ⟨l, h⟩ := Block.freeUnits_eq (b := b) (q := q) (p := p); rw [h]
@[simp] theorem Block.freeUnits_tiles : (b.freeUnits q p).tiles = b.tiles := by obtain ⟨l, h⟩ := Block.freeUnits_eq (b := b) (q := q) (p := p); rw [h]
@[simp] theorem Block.freeUnits_scores : (b.freeUnits q p).scores = b.scores := by obtain ⟨l, h⟩ := Block.freeUnits_eq (b := b) (q := q) (p := p); rw [h]
@[simp] theorem Block.freeUnits_tb : (b.freeUnits q p).tb = b.tb := by obtain ⟨l, h⟩ := Block.freeUnits_eq (b := b) (q := q) (p := p); rw [h]
@[simp] theorem Block.freeUnits_now : (b.freeUnits q p).now = b.now := by obtain ⟨l, h⟩ := Block.freeUnits_eq (b := b) (q := q) (p := p); rw [h]
@[simp] theorem Block.freeUnits_safe : (b.freeUnits q p).safe = b.safe := by obtain ⟨l, h⟩ := Block.freeUnits_eq (b := b) (q := q) (p := p); rw [h]
@[simp] theorem Block.freeUnits_reqs : (b.freeUnits q p).reqs = b.reqs := by obtain ⟨l, h⟩ := Block.freeUnits_eq (b := b) (q := q) (p := p); rw [h]
@[simp] theorem Block.freeUnits_slotId : (b.freeUnits q p).slotId = b.slotId := by obtain ⟨l, h⟩ := Block.freeUnits_eq (b := b) (q := q) (p := p); rw [h]
@[simp] theorem Block.freeUnits_eff (g : Field) (i r : Nat) : (b.freeUnits q p).eff r g i = b.eff r g i := by
  obtain ⟨l, h⟩ := Block.freeUnits_eq (b := b) (q := q) (p := p); rw [h]; rfl

/-- What leaves a queue and what waits on are its packets, each once (R214). -/
theorem LinkX.drain_length (ps : List Packet) : ∀ (x : LinkX) (held : List Nat),
    (x.drain ps held).2.1.length + (x.drain ps held).2.2.length = ps.length := by
  induction ps with
  | nil => intro x held; rfl
  | cons p ps ih =>
    intro x held
    unfold LinkX.drain
    split
    · have := ih (x.sent p) held
      simp only [List.length_cons]; omega
    · have := ih x (p.vc :: held)
      simp only [List.length_cons]; omega

/-- A virtual channel that is held up sends nothing: no packet passes an earlier one of its channel (R364). -/
theorem LinkX.drain_held (ps : List Packet) : ∀ (x : LinkX) (held : List Nat), ∀ p ∈ (x.drain ps held).2.1, p.vc ∉ held := by
  induction ps with
  | nil => intro x held p hp; simp [LinkX.drain] at hp
  | cons q ps ih =>
    intro x held p hp
    unfold LinkX.drain at hp
    split at hp
    · rename_i h
      simp only [Bool.and_eq_true, Bool.not_eq_true', List.contains_eq_mem, decide_eq_false_iff_not] at h
      rcases List.mem_cons.1 hp with rfl | hp
      · exact h.1
      · exact ih _ _ p hp
    · intro hh
      exact ih x (q.vc :: held) p hp (List.mem_cons_of_mem _ hh)

end Sys2Proof.Machine
end

