-- ==== Sys2Proof/Laws/Store.lean ====
section
/-! SUPPORT. Laws of sparse maps and of the byte memory: what a read returns after a write, and that writes keep the canonical form. -/
namespace Sys2Proof.Machine

variable {α : Type}

@[simp] theorem SMap.get_nil (d : α) (k : Nat) : SMap.get d [] k = d := rfl

theorem SMap.get_set (d : α) (m : SMap α) (k j : Nat) (v : α) :
    SMap.get d (SMap.set m k v) j = if j = k then v else SMap.get d m j := by
  induction m with
  | nil =>
    simp only [SMap.set, SMap.get]
    grind
  | cons e m ih =>
    obtain ⟨a, w⟩ := e
    simp only [SMap.set]
    split
    · simp only [SMap.get]; grind
    · split
      · simp only [SMap.get]; grind
      · simp only [SMap.get, ih]; grind

@[simp] theorem SMap.get_set_same (d : α) (m : SMap α) (k : Nat) (v : α) : SMap.get d (SMap.set m k v) k = v := by
  simp [SMap.get_set]

theorem SMap.get_set_of_ne (d : α) (m : SMap α) {k j : Nat} (v : α) (h : j ≠ k) :
    SMap.get d (SMap.set m k v) j = SMap.get d m j := by
  simp [SMap.get_set, h]

/-- Listing a value twice lists it once. -/
@[simp] theorem SMap.set_set (m : SMap α) (k : Nat) (v w : α) : SMap.set (SMap.set m k v) k w = SMap.set m k w := by
  induction m with
  | nil => simp [SMap.set]
  | cons e m ih =>
    obtain ⟨a, x⟩ := e
    simp only [SMap.set]
    split
    · simp [SMap.set]
    · split
      · rename_i h1 h2
        simp [SMap.set]
      · rename_i h1 h2
        simp [SMap.set, h1, h2, ih]

/-! ### Sortedness -/

theorem SMap.sortedFrom_mono {m : SMap α} {b c : Nat} (hbc : c ≤ b) (h : SMap.sortedFrom (some b) m = true) :
    SMap.sortedFrom (some c) m = true := by
  cases m with
  | nil => rfl
  | cons e m =>
    obtain ⟨a, v⟩ := e
    simp only [SMap.sortedFrom, Bool.and_eq_true, decide_eq_true_eq] at h ⊢
    exact ⟨by omega, h.2⟩

theorem SMap.sortedFrom_none {m : SMap α} {b : Nat} (h : SMap.sortedFrom (some b) m = true) : SMap.sorted m = true := by
  cases m with
  | nil => rfl
  | cons e m =>
    obtain ⟨a, v⟩ := e
    simp only [SMap.sortedFrom, Bool.and_eq_true, decide_eq_true_eq] at h
    exact h.2

theorem SMap.set_sortedFrom {m : SMap α} {b k : Nat} {v : α} (hk : b < k) (h : SMap.sortedFrom (some b) m = true) :
    SMap.sortedFrom (some b) (SMap.set m k v) = true := by
  induction m generalizing b with
  | nil => simp [SMap.set, SMap.sortedFrom, hk]
  | cons e m ih =>
    obtain ⟨a, w⟩ := e
    simp only [SMap.sortedFrom, Bool.and_eq_true, decide_eq_true_eq] at h
    simp only [SMap.set]
    split
    · simp only [SMap.sortedFrom, Bool.and_eq_true, decide_eq_true_eq]; exact ⟨hk, by assumption, h.2⟩
    · split
      · subst_vars; simp only [SMap.sortedFrom, Bool.and_eq_true, decide_eq_true_eq]; exact ⟨hk, h.2⟩
      · simp only [SMap.sortedFrom, Bool.and_eq_true, decide_eq_true_eq]
        exact ⟨h.1, ih (by omega) h.2⟩

theorem SMap.set_sorted {m : SMap α} {k : Nat} {v : α} (h : SMap.sorted m = true) : SMap.sorted (SMap.set m k v) = true := by
  cases m with
  | nil => rfl
  | cons e m =>
    obtain ⟨a, w⟩ := e
    simp only [SMap.sorted, SMap.sortedFrom] at h
    simp only [SMap.set]
    split
    · simp only [SMap.sorted, SMap.sortedFrom, Bool.and_eq_true, decide_eq_true_eq]; exact ⟨by assumption, h⟩
    · split
      · subst_vars; simpa only [SMap.sorted, SMap.sortedFrom] using h
      · simp only [SMap.sorted, SMap.sortedFrom]; exact SMap.set_sortedFrom (by omega) h

theorem SMap.erase_sortedFrom {m : SMap α} {b k : Nat} (h : SMap.sortedFrom (some b) m = true) :
    SMap.sortedFrom (some b) (SMap.erase m k) = true := by
  induction m generalizing b with
  | nil => rfl
  | cons e m ih =>
    obtain ⟨a, w⟩ := e
    have h' := h
    simp only [SMap.sortedFrom, Bool.and_eq_true, decide_eq_true_eq] at h
    simp only [SMap.erase]
    split
    · exact h'
    · split
      · exact SMap.sortedFrom_mono (Nat.le_of_lt h.1) h.2
      · simp only [SMap.sortedFrom, Bool.and_eq_true, decide_eq_true_eq]; exact ⟨h.1, ih h.2⟩

theorem SMap.erase_sorted {m : SMap α} {k : Nat} (h : SMap.sorted m = true) : SMap.sorted (SMap.erase m k) = true := by
  cases m with
  | nil => rfl
  | cons e m =>
    obtain ⟨a, w⟩ := e
    have h' := h
    simp only [SMap.sorted, SMap.sortedFrom] at h
    simp only [SMap.erase]
    split
    · exact h'
    · split
      · exact SMap.sortedFrom_none h
      · exact SMap.erase_sortedFrom h

theorem SMap.mem_set {m : SMap α} {k : Nat} {v : α} {e : Nat × α} (h : e ∈ SMap.set m k v) : e = (k, v) ∨ e ∈ m := by
  induction m with
  | nil => simpa [SMap.set] using h
  | cons x m ih =>
    obtain ⟨a, w⟩ := x
    simp only [SMap.set] at h
    split at h
    · simpa using h
    · split at h
      · simp only [List.mem_cons] at h ⊢; tauto
      · simp only [List.mem_cons] at h ⊢
        rcases h with h | h
        · exact .inr (.inl h)
        · rcases ih h with h | h
          · exact .inl h
          · exact .inr (.inr h)

theorem SMap.mem_erase {m : SMap α} {k : Nat} {e : Nat × α} (h : e ∈ SMap.erase m k) : e ∈ m := by
  induction m with
  | nil => simp [SMap.erase] at h
  | cons x m ih =>
    obtain ⟨a, w⟩ := x
    simp only [SMap.erase] at h
    split at h
    · exact h
    · split at h
      · exact .tail _ h
      · simp only [List.mem_cons] at h ⊢
        exact h.imp id ih

/-- Storing a value keeps the canonical form. -/
theorem SMap.put_canon [DecidableEq α] {d : α} {m : SMap α} {k : Nat} {v : α} (h : SMap.canon d m = true) :
    SMap.canon d (SMap.put d m k v) = true := by
  simp only [SMap.canon, Bool.and_eq_true, List.all_eq_true, decide_eq_true_eq] at h ⊢
  simp only [SMap.put]
  split
  · exact ⟨SMap.erase_sorted h.1, fun e he => h.2 e (SMap.mem_erase he)⟩
  · refine ⟨SMap.set_sorted h.1, fun e he => ?_⟩
    rcases SMap.mem_set he with rfl | he
    · assumption
    · exact h.2 e he

theorem SMap.get_of_below {d : α} {m : SMap α} {b k : Nat} (h : SMap.sortedFrom (some b) m = true) (hk : k ≤ b) :
    SMap.get d m k = d := by
  cases m with
  | nil => rfl
  | cons e m =>
    obtain ⟨a, w⟩ := e
    simp only [SMap.sortedFrom, Bool.and_eq_true, decide_eq_true_eq] at h
    simp only [SMap.get]
    rw [if_pos (by omega)]

theorem SMap.get_erase_from {d : α} {m : SMap α} {b k j : Nat} (h : SMap.sortedFrom (some b) m = true) :
    SMap.get d (SMap.erase m k) j = if j = k then d else SMap.get d m j := by
  induction m generalizing b with
  | nil => simp [SMap.erase]
  | cons e m ih =>
    obtain ⟨a, w⟩ := e
    simp only [SMap.sortedFrom, Bool.and_eq_true, decide_eq_true_eq] at h
    simp only [SMap.erase]
    split
    · simp only [SMap.get]; grind
    · split
      · subst_vars
        simp only [SMap.get]
        split
        · exact SMap.get_of_below h.2 (by omega)
        · split
          · rename_i h1
            have := SMap.get_of_below (d := d) h.2 (k := j) (by omega)
            rw [this]
          · rfl
      · simp only [SMap.get, ih h.2]; grind

/-- What a canonical map reads after a store. -/
theorem SMap.get_put [DecidableEq α] {d : α} {m : SMap α} (k j : Nat) (v : α) (h : SMap.sorted m = true) :
    SMap.get d (SMap.put d m k v) j = if j = k then v else SMap.get d m j := by
  simp only [SMap.put]
  split
  · rename_i hv
    cases m with
    | nil => simp [SMap.erase, hv]
    | cons e m =>
      obtain ⟨a, w⟩ := e
      simp only [SMap.sorted, SMap.sortedFrom] at h
      have h0 : ∀ (j : Nat), SMap.get d (SMap.erase ((a, w) :: m) k) j = if j = k then d else SMap.get d ((a, w) :: m) j := by
        intro j
        simp only [SMap.erase]
        split
        · simp only [SMap.get]; grind
        · split
          · rename_i _ hk
            subst hk
            simp only [SMap.get]
            split
            · exact SMap.get_of_below h (by omega)
            · split
              · have := SMap.get_of_below (d := d) h (k := j) (by omega)
                rw [this]
              · rfl
          · simp only [SMap.get, SMap.get_erase_from h]; grind
      rw [h0, hv]
  · exact SMap.get_set d m k j v

/-- Storing bytes keeps the canonical form. -/
theorem Bytes.write_canon {d : Byte} {m : Bytes} {a : Nat} {bs : List Byte} (h : SMap.canon d m = true) :
    SMap.canon d (Bytes.write d m a bs) = true := by
  induction bs generalizing m a with
  | nil => exact h
  | cons b bs ih => exact ih (SMap.put_canon h)

/-- A byte outside the stored range reads as before. -/
theorem Bytes.get_write_outside {d : Byte} {m : Bytes} {a x : Nat} {bs : List Byte} (h : SMap.canon d m = true)
    (hx : x < a ∨ a + bs.length ≤ x) : SMap.get d (Bytes.write d m a bs) x = SMap.get d m x := by
  induction bs generalizing m a with
  | nil => rfl
  | cons b bs ih =>
    simp only [List.length_cons] at hx
    have hs : SMap.sorted m = true := by
      simp only [SMap.canon, Bool.and_eq_true] at h; exact h.1
    simp only [Bytes.write]
    rw [ih (SMap.put_canon h) (by omega), SMap.get_put _ _ _ hs, if_neg (by omega)]

end Sys2Proof.Machine
end

