-- ==== Sys2Proof/Laws/Memory.lean ====
section
/-! SUPPORT. Laws of the byte memory: every operation keeps its canonical form, a read after a write gives what was written, and a write
leaves every other byte alone. -/
namespace Sys2Proof.Machine

variable {α : Type}

theorem SMap.find_set (m : SMap α) (k j : Nat) (v : α) : SMap.find (SMap.set m k v) j = if j = k then some v else SMap.find m j := by
  induction m with
  | nil => simp only [SMap.set, SMap.find]; grind
  | cons e m ih =>
    obtain ⟨a, w⟩ := e
    simp only [SMap.set]
    split
    · simp only [SMap.find]; grind
    · split
      · simp only [SMap.find]; grind
      · simp only [SMap.find, ih]; grind

theorem SMap.find_of_below {m : SMap α} {b k : Nat} (h : SMap.sortedFrom (some b) m = true) (hk : k ≤ b) : SMap.find m k = none := by
  cases m with
  | nil => rfl
  | cons e m =>
    obtain ⟨a, w⟩ := e
    simp only [SMap.sortedFrom, Bool.and_eq_true, decide_eq_true_eq] at h
    simp only [SMap.find]
    rw [if_pos (by omega)]

theorem SMap.find_erase_from {m : SMap α} {b k j : Nat} (h : SMap.sortedFrom (some b) m = true) :
    SMap.find (SMap.erase m k) j = if j = k then none else SMap.find m j := by
  induction m generalizing b with
  | nil => simp [SMap.erase, SMap.find]
  | cons e m ih =>
    obtain ⟨a, w⟩ := e
    simp only [SMap.sortedFrom, Bool.and_eq_true, decide_eq_true_eq] at h
    simp only [SMap.erase]
    split
    · simp only [SMap.find]; grind
    · split
      · rename_i _ hk
        subst hk
        simp only [SMap.find]
        split
        · exact SMap.find_of_below h.2 (by omega)
        · split
          · exact SMap.find_of_below h.2 (by omega)
          · rfl
      · simp only [SMap.find, ih h.2]; grind

theorem SMap.find_erase {m : SMap α} {k j : Nat} (h : SMap.sorted m = true) :
    SMap.find (SMap.erase m k) j = if j = k then none else SMap.find m j := by
  cases m with
  | nil => simp [SMap.erase, SMap.find]
  | cons e m =>
    obtain ⟨a, w⟩ := e
    simp only [SMap.sorted, SMap.sortedFrom] at h
    simp only [SMap.erase]
    split
    · simp only [SMap.find]; grind
    · split
      · rename_i _ hk
        subst hk
        simp only [SMap.find]
        split
        · exact SMap.find_of_below h (by omega)
        · split
          · exact SMap.find_of_below h (by omega)
          · rfl
      · simp only [SMap.find, SMap.find_erase_from h]; grind

theorem SMap.filter_sortedFrom {m : SMap α} {b : Nat} (p : Nat × α → Bool) (h : SMap.sortedFrom (some b) m = true) :
    SMap.sortedFrom (some b) (m.filter p) = true := by
  induction m generalizing b with
  | nil => rfl
  | cons e m ih =>
    obtain ⟨a, w⟩ := e
    simp only [SMap.sortedFrom, Bool.and_eq_true, decide_eq_true_eq] at h
    simp only [List.filter_cons]
    split
    · simp only [SMap.sortedFrom, Bool.and_eq_true, decide_eq_true_eq]; exact ⟨h.1, ih h.2⟩
    · exact SMap.sortedFrom_mono (Nat.le_of_lt h.1) (ih h.2)

theorem SMap.filter_sorted {m : SMap α} (p : Nat × α → Bool) (h : SMap.sorted m = true) : SMap.sorted (m.filter p) = true := by
  cases m with
  | nil => rfl
  | cons e m =>
    obtain ⟨a, w⟩ := e
    simp only [SMap.sorted, SMap.sortedFrom] at h
    simp only [List.filter_cons]
    split
    · simp only [SMap.sorted, SMap.sortedFrom]; exact SMap.filter_sortedFrom p h
    · exact SMap.sortedFrom_none (SMap.filter_sortedFrom p h)

/-- A map is sorted as soon as its keys rise pairwise. -/
theorem SMap.sortedFrom_iff {m : SMap α} {b : Nat} :
    SMap.sortedFrom (some b) m = true ↔ (∀ e ∈ m, b < e.1) ∧ m.Pairwise (fun x y => x.1 < y.1) := by
  induction m generalizing b with
  | nil => simp [SMap.sortedFrom]
  | cons e m ih =>
    obtain ⟨a, w⟩ := e
    simp only [SMap.sortedFrom, Bool.and_eq_true, decide_eq_true_eq, ih, List.mem_cons, forall_eq_or_imp, List.pairwise_cons]
    constructor
    · rintro ⟨h1, h2, h3⟩
      exact ⟨⟨h1, fun e he => Nat.lt_trans h1 (h2 e he)⟩, h2, h3⟩
    · rintro ⟨⟨h1, _⟩, h2, h3⟩
      exact ⟨h1, h2, h3⟩

theorem SMap.sorted_iff {m : SMap α} : SMap.sorted m = true ↔ m.Pairwise (fun x y => x.1 < y.1) := by
  cases m with
  | nil => simp [SMap.sorted, SMap.sortedFrom]
  | cons e m =>
    obtain ⟨a, w⟩ := e
    simp only [SMap.sorted, SMap.sortedFrom, SMap.sortedFrom_iff, List.pairwise_cons]

/-! ### The canonical form of memory -/

/-- The form as two facts: the addresses rise, and a listed zero lies in an undefined window. -/
theorem Memory.wf_iff {m : Memory} :
    m.wf = true ↔ SMap.sorted m.cells = true ∧ ∀ e ∈ m.cells, e.2 ≠ 0 ∨ (SMap.find m.undef (e.1 / winSize)).isSome = true := by
  simp [Memory.wf, List.all_eq_true]

theorem Memory.store_wf {m : Memory} {a : Nat} {v : Byte} (h : m.wf = true) : (m.store a v).wf = true := by
  rw [Memory.wf_iff] at h ⊢
  unfold Memory.store
  split
  · rename_i id hu
    refine ⟨SMap.set_sorted h.1, fun e he => ?_⟩
    rcases SMap.mem_set he with rfl | he
    · right; simp [hu]
    · exact h.2 e he
  · refine ⟨?_, fun e he => ?_⟩
    · simp only [SMap.put]; split
      · exact SMap.erase_sorted h.1
      · exact SMap.set_sorted h.1
    · simp only [SMap.put] at he; split at he
      · exact h.2 e (SMap.mem_erase he)
      · rcases SMap.mem_set he with rfl | he
        · left; assumption
        · exact h.2 e he

/-- A write of bytes keeps the canonical form. -/
theorem Memory.write_wf {m : Memory} {a : Nat} {bs : List Byte} (h : m.wf = true) : (m.write a bs).wf = true := by
  induction bs generalizing m a with
  | nil => exact h
  | cons b bs ih => exact ih (Memory.store_wf h)

/-- Replacing a range keeps the canonical form. -/
theorem Memory.blit_wf {m : Memory} {lo : Nat} {bs : List Byte} (h : m.wf = true) : (m.blit lo bs).wf = true := by
  rw [Memory.wf_iff] at h ⊢
  obtain ⟨hs, hz⟩ := h
  rw [SMap.sorted_iff] at hs ⊢
  simp only [Memory.blit]
  constructor
  · rw [List.pairwise_append, List.pairwise_append]
    have key : ∀ e ∈ ((List.range bs.length).zip bs).filterMap (fun p =>
        if p.2 = 0 ∧ (SMap.find m.undef ((lo + p.1) / winSize)).isNone then none else some (lo + p.1, p.2)),
        lo ≤ e.1 ∧ e.1 < lo + bs.length := by
      intro e he
      simp only [List.mem_filterMap] at he
      obtain ⟨p, hp, hpe⟩ := he
      have h1 : p.1 < bs.length := by
        have := (List.of_mem_zip hp).1
        simpa using this
      split at hpe
      · cases hpe
      · cases hpe; simp; omega
    refine ⟨⟨hs.filter _, ?_, ?_⟩, hs.filter _, ?_⟩
    · refine List.Pairwise.filterMap (R := fun (x y : Nat × Byte) => x.1 < y.1) _ ?_ ?_
      · intro x y hxy x' hx y' hy
        split at hx <;> split at hy <;> simp_all
        subst hx; subst hy; simpa using hxy
      · rw [← List.pairwise_map (f := Prod.fst) (R := (· < ·))]
        rw [List.map_fst_zip (by simp)]
        exact List.pairwise_lt_range
    · intro x hx y hy
      have := key y hy
      simp only [List.mem_filter, decide_eq_true_eq] at hx
      omega
    · intro x hx y hy
      simp only [List.mem_append, List.mem_filter, decide_eq_true_eq] at hx hy
      rcases hx with hx | hx
      · omega
      · have := key x hx; omega
  · intro e he
    simp only [List.mem_append, List.mem_filter, List.mem_filterMap] at he
    rcases he with (he | ⟨p, hp, hpe⟩) | he
    · exact hz e he.1
    · split at hpe
      · cases hpe
      · rename_i hn
        cases hpe
        simp only [not_and, Option.isNone_iff_eq_none] at hn
        by_cases h0 : p.2 = 0
        · right
          cases hf : SMap.find m.undef ((lo + p.1) / winSize) with
          | none => exact absurd hf (hn h0)
          | some v => rfl
        · left; exact h0
    · exact hz e he.1

/-- Clearing a range keeps the canonical form. -/
theorem Memory.zero_wf {m : Memory} {lo n : Nat} (h : m.wf = true) : (m.zero lo n).wf = true := by
  simp only [Memory.zero]
  split
  · exact Memory.blit_wf h
  · rw [Memory.wf_iff] at h ⊢
    exact ⟨SMap.filter_sorted _ h.1, fun e he => h.2 e (List.mem_filter.1 he).1⟩

/-- Making a window undefined keeps the canonical form. -/
theorem Memory.scramble_wf {m : Memory} {w id : Nat} (h : m.wf = true) : (m.scramble w id).wf = true := by
  rw [Memory.wf_iff] at h ⊢
  refine ⟨SMap.filter_sorted _ h.1, fun e he => ?_⟩
  simp only [Memory.scramble, SMap.dropKeys, List.mem_filter] at he
  rcases h.2 e he.1 with h1 | h1
  · exact .inl h1
  · right
    simp only [Memory.scramble, SMap.find_set]
    split
    · rfl
    · exact h1

/-! ### Reads after writes -/

theorem Memory.byte_store {m : Memory} {a x : Nat} {v : Byte} (h : m.wf = true) :
    (m.store a v).byte x = if x = a then v else m.byte x := by
  have hs := (Memory.wf_iff.1 h).1
  by_cases hx : x = a
  · subst hx
    cases hu : SMap.find m.undef (x / winSize) with
    | some id => simp [Memory.store, Memory.byte, hu, SMap.find_set]
    | none =>
      by_cases hv : v = 0#8
      · simp [Memory.store, Memory.byte, hu, SMap.put, hv, SMap.find_erase hs]
      · simp [Memory.store, Memory.byte, hu, SMap.put, hv, SMap.find_set]
  · cases hu : SMap.find m.undef (a / winSize) with
    | some id => simp [Memory.store, Memory.byte, hu, SMap.find_set, hx]
    | none =>
      by_cases hv : v = 0#8
      · simp [Memory.store, Memory.byte, hu, SMap.put, hv, SMap.find_erase hs, hx]
      · simp [Memory.store, Memory.byte, hu, SMap.put, hv, SMap.find_set, hx]

/-- Every byte outside the stored bytes reads as before. -/
theorem Memory.byte_write_outside {m : Memory} {a x : Nat} {bs : List Byte} (h : m.wf = true) (hx : x < a ∨ a + bs.length ≤ x) :
    (m.write a bs).byte x = m.byte x := by
  induction bs generalizing m a with
  | nil => rfl
  | cons b bs ih =>
    simp only [List.length_cons] at hx
    rw [Memory.write, ih (Memory.store_wf h) (by omega), Memory.byte_store h, if_neg (by omega)]

/-- A read after a write to the same place gives the value written. -/
theorem Memory.read_write {m : Memory} {a : Nat} {bs : List Byte} (h : m.wf = true) : (m.write a bs).read a bs.length = bs := by
  induction bs generalizing m a with
  | nil => rfl
  | cons b bs ih =>
    simp only [List.length_cons, Memory.read, Memory.write]
    rw [ih (Memory.store_wf h), Memory.byte_write_outside (Memory.store_wf h) (by omega), Memory.byte_store h, if_pos rfl]

end Sys2Proof.Machine
end

