-- ==== Sys2Proof/Laws/Regs.lean ====
section
/-! SUPPORT. Laws of the register pages: what a page, its header and its fields read after each of the shared updates, and what those
updates leave alone. -/
namespace Sys2Proof.Machine

variable (b : Block) (p q i j v n : Nat) (f g : Field) (r : PageRegs) (o : Out)

/-! ### Pages and headers -/

theorem Block.page_setPage : (b.setPage p r).page q = if q = p then r else b.page q := SMap.get_set _ _ _ _ _
@[simp] theorem Block.page_setPage_same : (b.setPage p r).page p = r := SMap.get_set_same _ _ _ _
@[simp] theorem Block.setPage_setPage (r' : PageRegs) : (b.setPage p r).setPage p r' = b.setPage p r' := by simp [Block.setPage]

theorem Block.hdr_modHdr (k : Header → Header) : (b.modHdr p k).hdr q = if q = p then k (b.hdr p) else b.hdr q := by
  simp only [Block.hdr, Block.modHdr, Block.page_setPage]; split <;> rfl
@[simp] theorem Block.hdr_modHdr_same (k : Header → Header) : (b.modHdr p k).hdr p = k (b.hdr p) := by simp [Block.hdr_modHdr]
@[simp] theorem Block.eff_modHdr (k : Header → Header) : (b.modHdr p k).eff q f i = b.eff q f i := by
  simp only [Block.eff, Block.modHdr, Block.page_setPage]
  cases f.kind <;> (simp only []; split <;> simp_all)

@[simp] theorem Block.hdr_put : (b.put p f v i).hdr q = b.hdr q := by
  simp only [Block.hdr, Block.put, Block.page_setPage]; split <;> simp_all
@[simp] theorem Block.hdr_putPnd : (b.putPnd p f v i).hdr q = b.hdr q := by
  simp only [Block.hdr, Block.putPnd, Block.page_setPage]; split <;> simp_all
@[simp] theorem Block.hdr_putCmt : (b.putCmt p f v i).hdr q = b.hdr q := by
  simp only [Block.hdr, Block.putCmt, Block.page_setPage]; split <;> simp_all

/-- What a field reads after a field of a page is put. -/
theorem Block.eff_put : (b.put p f v i).eff q g j =
    if q = p ∧ g.kind = .imm ∧ g.key j = f.key i then v % 2 ^ f.width else b.eff q g j := by
  simp only [Block.eff, Block.put, Block.page_setPage]
  cases hk : g.kind <;> simp only [] <;> by_cases hq : q = p <;> simp [hq, SMap.get_set]

theorem Block.eff_put_same (h : f.kind = .imm) : (b.put p f v i).eff p f i = v % 2 ^ f.width := by simp [Block.eff_put, h]
theorem Block.eff_put_of_ne (h : q ≠ p ∨ g.key j ≠ f.key i) : (b.put p f v i).eff q g j = b.eff q g j := by
  rw [Block.eff_put, if_neg]; tauto

@[simp] theorem Block.eff_putPnd : (b.putPnd p f v i).eff q g j = b.eff q g j := by
  simp only [Block.eff, Block.putPnd, Block.page_setPage]
  cases g.kind <;> simp only [] <;> by_cases hq : q = p <;> simp [hq]

/-- Which map of a page a read shows (R28). -/
theorem Block.shown_eq : b.shown q g j = SMap.get g.reset
    (if g.kind = .imm then (b.page q).imm else if (b.hdr q).st = .run then (b.page q).cmt else (b.page q).pnd) (g.key j) := by
  unfold Block.shown
  split <;> simp_all

/-- What a read shows after a field is put in the pending set. -/
theorem Block.shown_putPnd : (b.putPnd p f v i).shown q g j =
    if q = p ∧ g.kind ≠ .imm ∧ (b.hdr p).st ≠ .run ∧ g.key j = f.key i then v % 2 ^ f.width else b.shown q g j := by
  rw [Block.shown_eq, Block.shown_eq, Block.hdr_putPnd]
  by_cases hq : q = p
  · subst hq
    by_cases hk : g.kind = .imm <;> by_cases hs : (b.hdr q).st = .run <;> simp [hk, hs, Block.putPnd, SMap.get_set]
  · simp [hq, Block.putPnd, Block.page_setPage]

/-! ### What the register updates leave alone -/

@[simp] theorem Block.emit_page : (b.emit o).page p = b.page p := rfl
@[simp] theorem Block.msix_pages : (b.msix n).pages = b.pages := by
  unfold Block.msix; simp only []; split <;> rfl
@[simp] theorem Block.msix_page : (b.msix n).page p = b.page p := by
  simp only [Block.page, Block.msix_pages]

/-- The interrupt status of a page after an event of it. -/
theorem Block.hdr_raise : (b.raise p i).hdr q = if q = p then { b.hdr p with isr := setBits (b.hdr p).isr i 1 1 } else b.hdr q := by
  simp only [Block.raise]
  split
  · simp only [Block.hdr, Block.msix_page]; exact Block.hdr_modHdr b p q _
  · exact Block.hdr_modHdr b p q _

@[simp] theorem Block.eff_raise : (b.raise p i).eff q f j = b.eff q f j := by
  simp only [Block.raise]
  split
  · simp only [Block.eff, Block.msix_page]; exact Block.eff_modHdr b p q j f _
  · exact Block.eff_modHdr b p q j f _

@[simp] theorem Block.eff_report (e : Report) : (b.report e).eff q f j = b.eff q f j :=
  Block.eff_modHdr b e.page q j f (fun h => h.summarise e.code (codeSev e.code))
theorem Block.hdr_report (e : Report) : (b.report e).hdr q = if q = e.page then (b.hdr q).summarise e.code (codeSev e.code) else b.hdr q := by
  have h := Block.hdr_modHdr b e.page q (fun h => h.summarise e.code (codeSev e.code))
  simp only [Block.report]
  show (b.modHdr e.page (fun h => h.summarise e.code (codeSev e.code))).hdr q = _
  rw [h]; split <;> simp_all
@[simp] theorem Block.report_reports (e : Report) : (b.report e).reports = b.reports ++ [(b.hearthAt e.island, e)] := rfl
@[simp] theorem Block.summarise_isr (h : Header) (c s : Nat) : (h.summarise c s).isr = h.isr := rfl

section Rest
variable (e : Report) (k : Header → Header)
@[simp] theorem Block.put_tiles : (b.put p f v i).tiles = b.tiles := rfl
@[simp] theorem Block.put_mem : (b.put p f v i).mem = b.mem := rfl
@[simp] theorem Block.put_reports : (b.put p f v i).reports = b.reports := rfl
@[simp] theorem Block.put_tb : (b.put p f v i).tb = b.tb := rfl
@[simp] theorem Block.put_fcol : (b.put p f v i).fcol = b.fcol := rfl
@[simp] theorem Block.raise_tiles : (b.raise p i).tiles = b.tiles := by unfold Block.raise Block.msix; simp only []; split <;> (try split) <;> rfl
@[simp] theorem Block.raise_mem : (b.raise p i).mem = b.mem := by unfold Block.raise Block.msix; simp only []; split <;> (try split) <;> rfl
@[simp] theorem Block.raise_reports : (b.raise p i).reports = b.reports := by unfold Block.raise Block.msix; simp only []; split <;> (try split) <;> rfl
@[simp] theorem Block.raise_tb : (b.raise p i).tb = b.tb := by unfold Block.raise Block.msix; simp only []; split <;> (try split) <;> rfl
@[simp] theorem Block.raise_fcol : (b.raise p i).fcol = b.fcol := by unfold Block.raise Block.msix; simp only []; split <;> (try split) <;> rfl
@[simp] theorem Block.report_tiles : (b.report e).tiles = b.tiles := rfl
@[simp] theorem Block.report_mem : (b.report e).mem = b.mem := rfl
@[simp] theorem Block.report_tb : (b.report e).tb = b.tb := rfl
@[simp] theorem Block.report_fcol : (b.report e).fcol = b.fcol := rfl
end Rest

/-! ### Bits -/

theorem bit_setBits_one (x k m : Nat) : bit (setBits x k 1 1) m = (bit x m || decide (m = k)) := by
  have e1 : setBits x k 1 1 = 2 ^ (k + 1) * (x / 2 ^ (k + 1)) + (2 ^ k * 1 + x % 2 ^ k) := by
    simp only [setBits]; ring_nf
  have hk : (2 : Nat) ^ (k + 1) = 2 ^ k + 2 ^ k := by ring
  have hl : x % 2 ^ k < 2 ^ k := Nat.mod_lt _ (Nat.two_pow_pos k)
  simp only [bit]
  rw [e1, Nat.testBit_two_pow_mul_add _ (by omega)]
  split
  · rename_i h1
    rw [Nat.testBit_two_pow_mul_add _ hl]
    split
    · rename_i h2
      simp [Nat.testBit_mod_two_pow, h2, Nat.ne_of_lt h2]
    · rename_i h2
      have h3 : m = k := by omega
      subst h3; simp
  · rename_i h1
    have h2 : m ≠ k := by omega
    simp [Nat.testBit_div_two_pow, h2, Nat.sub_add_cancel (Nat.le_of_not_lt h1)]

end Sys2Proof.Machine
end

