-- ==== Sys2Proof/Laws/Routing.lean ====
section
/-! SUPPORT. Laws of the routing programs: what the combine of a row rests on (R285). -/
namespace Sys2Proof.Machine

/-- Two routes of a row say the same to the combine: they name the same expert with the same weight, and, unless the route is EMPTY, neither
copy was dropped and both returned rows are the same in every channel. -/
def sameRouteRow (n : Nat) (x y : (Nat × Nat) × Nat × (Nat → Nat)) : Prop :=
  x.1 = y.1 ∧ (x.1.1 ≠ 0xFFFFFFFF → x.2.1 = 0 ∧ y.2.1 = 0 ∧ ∀ c < n, x.2.2 c = y.2.2 c)

theorem combineStep_congr {n : Nat} {acc : List Nat} {x y : (Nat × Nat) × Nat × (Nat → Nat)} (h : sameRouteRow n x y) :
    combineStep n acc x = combineStep n acc y := by
  obtain ⟨h1, h2⟩ := h
  by_cases he : x.1.1 = 0xFFFFFFFF
  · simp [combineStep, he, ← h1]
  · obtain ⟨hx, hy, hc⟩ := h2 he
    simp only [combineStep, hx, hy, ← h1, he, ne_eq, not_true, or_self, if_false]
    exact List.map_congr_left fun c hm => by rw [hc c (List.mem_range.1 hm)]

/-- Where no copy is dropped, the combine of a row is the same for every placement, holder choice, capacity and round: it rests on the
routes and on the rows that return alone (R285). -/
theorem combineRow_congr {n : Nat} {l m : List ((Nat × Nat) × Nat × (Nat → Nat))} (h : List.Forall₂ (sameRouteRow n) l m) :
    combineRow n l = combineRow n m := by
  unfold combineRow
  generalize List.replicate n 0 = acc
  induction h generalizing acc with
  | nil => rfl
  | cons hx _ ih => simp only [List.foldl_cons, combineStep_congr hx, ih]

end Sys2Proof.Machine
end

