-- ==== Sys2Proof/Laws/Tile.lean ====
section
/-! SUPPORT. Laws of tiles: the register files, tile SRAM, and what one instruction of a running tile does, whatever the instruction. -/
namespace Sys2Proof.Machine

@[simp] theorem Tile.s_zero (x : Tile) : x.s 0 = 0 := rfl
@[simp] theorem Tile.setS_zero (x : Tile) (v : W64) : x.setS 0 v = x := rfl

theorem Tile.s_setS (x : Tile) {i : Nat} (j : Nat) (v : W64) (h : i ≠ 0) : (x.setS i v).s j = if j = i then v else x.s j := by
  simp only [Tile.s, Tile.setS, if_neg h]
  split
  · rename_i hj; subst hj; rw [if_neg (Ne.symm h)]
  · exact SMap.get_set _ _ _ _ _

@[simp] theorem Tile.setS_vregs (x : Tile) (i : Nat) (v : W64) : (x.setS i v).vregs = x.vregs := by unfold Tile.setS; split <;> rfl
@[simp] theorem Tile.setS_acc (x : Tile) (i : Nat) (v : W64) : (x.setS i v).acc = x.acc := by unfold Tile.setS; split <;> rfl
@[simp] theorem Tile.setS_sram (x : Tile) (i : Nat) (v : W64) : (x.setS i v).sram = x.sram := by unfold Tile.setS; split <;> rfl
@[simp] theorem Tile.setS_pc (x : Tile) (i : Nat) (v : W64) : (x.setS i v).pc = x.pc := by unfold Tile.setS; split <;> rfl

/-- What was put in a tile's place is read back, and no other tile changes. -/
theorem Block.tile_setTile (b : Block) (t u : Nat) (x : Tile) : (b.setTile t x).tile u = if u = t then x else b.tile u :=
  SMap.get_set _ _ _ _ _

@[simp] theorem Block.tile_setTile_same (b : Block) (t : Nat) (x : Tile) : (b.setTile t x).tile t = x := SMap.get_set_same _ _ _ _
@[simp] theorem Block.setTile_setTile (b : Block) (t : Nat) (x y : Tile) : (b.setTile t x).setTile t y = b.setTile t y := by
  simp [Block.setTile]
@[simp] theorem Block.setTile_pages (b : Block) (t : Nat) (x : Tile) : (b.setTile t x).pages = b.pages := rfl
@[simp] theorem Block.setTile_mem (b : Block) (t : Nat) (x : Tile) : (b.setTile t x).mem = b.mem := rfl
@[simp] theorem Block.setTile_xfers (b : Block) (t : Nat) (x : Tile) : (b.setTile t x).xfers = b.xfers := rfl
@[simp] theorem Block.setTile_wldEv (b : Block) (t : Nat) (x : Tile) : (b.setTile t x).wldEv = b.wldEv := rfl
@[simp] theorem Block.setTile_scores (b : Block) (t : Nat) (x : Tile) : (b.setTile t x).scores = b.scores := rfl

/-- A byte outside the stored ones reads as before. -/
theorem Tile.byte_wr_outside {x : Tile} {a i : Nat} {bs : List Byte} (h : SMap.canon 0 x.sram = true) (hi : i < a ∨ a + bs.length ≤ i) :
    (x.wr a bs).byte i = x.byte i := by
  simp only [Tile.byte, Tile.wr]
  rw [Bytes.get_write_outside h hi]

theorem Bytes.read_write {d : Byte} {m : Bytes} {a : Nat} {bs : List Byte} (h : SMap.canon d m = true) :
    Bytes.read d (Bytes.write d m a bs) a bs.length = bs := by
  induction bs generalizing m a with
  | nil => rfl
  | cons b bs ih =>
    have hs : SMap.sorted m = true := by
      simp only [SMap.canon, Bool.and_eq_true] at h; exact h.1
    simp only [List.length_cons, Bytes.read, Bytes.write]
    rw [ih (SMap.put_canon h), Bytes.get_write_outside (SMap.put_canon h) (by omega), SMap.get_put _ _ _ hs, if_pos rfl]

/-- A tile does what it fetches (R93). -/
theorem Block.issue_next {b : Block} {t : Fin 288} {c : Option Instr} (go : Block → Block) (h : b.fetched t = c) : b.issue t c go = go b := by
  simp [Block.issue, h]

theorem State.issue_next {s : State} {t : Fin 288} {c : Instr} (go : Block → Block) (hs : s.live) (h : s.nextIs t c) :
    s.issue t c go = s.withBlk (go s.blk) := by
  rw [State.issue, State.act_live hs, Block.issue_next go h]

/-- A tile that can issue takes no other instruction than the one it fetches (R93). -/
theorem State.issue_other {s : State} {t : Fin 288} {c : Instr} (go : Block → Block) (hs : s.issues t) (h : ¬ s.nextIs t c) : s.issue t c go = s := by
  obtain ⟨h1, h2, h3, h4⟩ := hs
  have hc : s.blk.canIssue t = true := by simp [Block.canIssue, h2, h3]
  rw [State.issue, State.act_live h1, Block.issue, if_pos (by simpa [hc, h4] using h)]
  rfl

section Issue

variable {s : State} {t : Nat} {g : Gate} {touch : Tile → List (Nat × Nat)} {f : Tile → TRes} {y : Tile} {fl c : Nat}

/-- What every instruction of a running tile does: with no hazard and no gate, its result and its flags, or its fault. -/
theorem Block.insn_eq (h : s.issues t) (jumps : Bool) (hg : s.blk.gated t g = false)
    (ht : ∀ r ∈ touch (s.blk.tile t), s.blk.sramFree t r.1 r.2) :
    s.blk.insn t g touch jumps f = match f (s.blk.tile t) with
      | .fault c => s.blk.tileStop t c
      | .ok y fl => (s.blk.setTile t (if jumps then y else { y with pc := y.pc + 8 })).orNstat t fl := by
  obtain ⟨h1, h2, h3, h4⟩ := h
  have h5 : (touch (s.blk.tile t)).any (fun r => s.blk.sramBusy t r.1 r.2) = false := by
    rw [List.any_eq_false]
    intro r hr
    simpa [Block.sramFree] using ht r hr
  have h6 : s.blk.canIssue t = true := by simp [Block.canIssue, h2, h3]
  unfold Block.insn
  rw [if_neg (by simp [h6])]
  simp only [if_neg (Nat.not_le.2 h4)]
  rw [if_neg (by simp [h5, hg])]

theorem Block.insnReg_ok (h : s.issues t) (hf : f (s.blk.tile t) = .ok y 0) : s.blk.insnReg t f = s.blk.tileNext t y := by
  rw [Block.insnReg, Block.insn_eq h false rfl (by simp), hf]; rfl

theorem Block.insnReg_flags (h : s.issues t) (hf : f (s.blk.tile t) = .ok y fl) : s.blk.insnReg t f = (s.blk.tileNext t y).orNstat t fl := by
  rw [Block.insnReg, Block.insn_eq h false rfl (by simp), hf]; rfl

theorem Block.insnReg_fault (h : s.issues t) (hf : f (s.blk.tile t) = .fault c) : s.blk.insnReg t f = s.blk.tileStop t c := by
  rw [Block.insnReg, Block.insn_eq h false rfl (by simp), hf]

theorem Block.insnJump_ok (h : s.issues t) (hf : f (s.blk.tile t) = .ok y 0) : s.blk.insnJump t f = s.blk.setTile t y := by
  rw [Block.insnJump, Block.insn_eq h true rfl (by simp), hf]; rfl

theorem Block.insnJump_fault (h : s.issues t) (hf : f (s.blk.tile t) = .fault c) : s.blk.insnJump t f = s.blk.tileStop t c := by
  rw [Block.insnJump, Block.insn_eq h true rfl (by simp), hf]

theorem Block.insnMem_ok {a : Tile → Nat} {n : Nat} (h : s.issues t) (ht : s.blk.sramFree t (a (s.blk.tile t)) n)
    (hf : f (s.blk.tile t) = .ok y fl) : s.blk.insnMem t a n f = (s.blk.tileNext t y).orNstat t fl := by
  rw [Block.insnMem, Block.insn_eq h false rfl (by simpa using ht), hf]; rfl

theorem Block.insnMem_fault {a : Tile → Nat} {n : Nat} (h : s.issues t) (ht : s.blk.sramFree t (a (s.blk.tile t)) n)
    (hf : f (s.blk.tile t) = .fault c) : s.blk.insnMem t a n f = s.blk.tileStop t c := by
  rw [Block.insnMem, Block.insn_eq h false rfl (by simpa using ht), hf]

@[simp] theorem Block.orNstat_zero (b : Block) (t : Nat) : b.orNstat t 0 = b := rfl

end Issue

end Sys2Proof.Machine
end

