-- ==== Sys2Proof/WellFormed.lean ====
section
/-! DEFINITION. Which commands are well formed: every number within the width the spec gives its field, and every record whole. -/
namespace Sys2Proof

/-- A Score entry: each word within its width (R157). -/
def ScoreEntry.wf (e : ScoreEntry) : Bool :=
  decide (e.launch < 2 ^ 64) && decide (e.action < 2 ^ 32) && decide (e.target < 2 ^ 32) && decide (e.desc < 2 ^ 64) && decide (e.barw < 2 ^ 64)

/-- A packet: each header field within its width, and at most 4,096 payload bytes (R348). -/
def Packet.wf (p : Packet) : Bool :=
  decide (p.type < 256) && decide (p.vc < 8) && decide (p.rkind < 4) && decide (p.rslot < 8) && decide (p.src < 64) && decide (p.gen < 4)
    && decide (p.dst < 64) && decide (p.via < 64) && decide (p.status < 16) && decide (p.acode < 16) && decide (p.tenant < 4096)
    && decide (p.part < 16) && decide (p.addr < 2 ^ 64) && decide (p.len < 2 ^ 16) && decide (p.tag < 2 ^ 16) && decide (p.fence < 1024)
    && decide (p.lease < 2 ^ 16) && decide (p.injTick < 2 ^ 32) && decide (p.payload.length ≤ 4096)

/-- A timestamp ordered set: each field within its width (R150). -/
def TsSet.wf (t : TsSet) : Bool :=
  decide (t.srcSlot < 64) && decide (t.masterSlot < 64) && decide (t.sync < 8) && decide (t.stratum < 4) && decide (t.partEn < 2 ^ 16)
    && decide (t.partActive < 2 ^ 16) && decide (t.txTime < 2 ^ 64) && decide (t.echoTx < 2 ^ 64) && decide (t.echoRx < 2 ^ 64)

/-- A LINK unit: each field within its width (R345). -/
def LinkAck.wf (u : LinkAck) : Bool := decide (u.ack < 1024) && decide (u.cred.length = 5) && u.cred.all (fun c => decide (c < 2 ^ 16))

/-- An IDENT set: each field within its width (R340). -/
def IdentSet.wf (i : IdentSet) : Bool :=
  decide (i.slot < 64) && decide (i.linkNo < 256) && decide (i.lane < 8) && decide (i.good < 256) && decide (i.serial < 2 ^ 64)

/-- A fault report: a page, a 16-bit code, an island and a 16-bit detail (R441, R446). -/
def Report.wf (r : Report) : Bool :=
  decide (r.page < 4096) && decide (r.code < 2 ^ 16) && decide (r.island < 401) && decide (r.detail < 2 ^ 16) && r.part.all (fun k => decide (k < 16))

/-- What hardware finds wrong names a report in range; its other forms are in range by their types. -/
def HwFind.wf : HwFind → Bool
  | .fault r => r.wf
  | .tdmaUe _ | .linkCe _ | .sliceCe _ | .sliceLost _ _ _ => true

/-- Fuses: four key slots of 32-byte hashes, a thermometer of 64 (R482). -/
def Fuses.wf (f : Fuses) : Bool :=
  decide (f.keyValid < 16) && decide (f.keyRevoke < 16) && decide (f.svn ≤ 64) && decide (f.serial < 2 ^ 64)
    && decide (f.keyHash.length = 4) && f.keyHash.all (fun h => decide (h.length = 32))

/-- An atomic's source names the row's code, or one of the reserved codes 0xA to 0xF, which do nothing (R353). -/
def AtomSrc.wf (code : Nat) : AtomSrc → Bool
  | .datom _ _ _ _ off => decide (off.toNat % 16 = code) || decide (10 ≤ off.toNat % 16)
  | .packet _ p => p.wf && (decide (p.acode = code) || decide (10 ≤ p.acode))

/-- An acknowledgement: the frames lie in the 41-bit space (R186). -/
def ThawAck.wf : ThawAck → Bool
  | .slice _ _ => true
  | .peer _ _ => true
  | .foreign _ first count _ => decide (first + count ≤ 2 ^ 29)

/-- A command is well formed. -/
def Instr.wellFormed : Instr → Bool
  | .registerWrite _ _ _ _ => true
  | .keyWrite _ _ _ => true
  | .enableSet _ _ => true
  | .enableClear _ _ => true
  | .quiesce _ _ => true
  | .resume _ _ => true
  | .expertSet _ _ => true
  | .expertClear _ _ => true
  | .isrClear _ _ _ => true
  | .quiesceDrained _ => true
  | .quiesceTimeout _ => true
  | .idleCommit _ => true
  | .islandHung _ _ => true
  | .stepStartTick _ _ => true
  | .idlePoll _ => true
  | .deliver _ _ => true
  | .add _ _ _ _ => true
  | .sub _ _ _ _ => true
  | .andW _ _ _ _ => true
  | .orW _ _ _ _ => true
  | .xorW _ _ _ _ => true
  | .shl _ _ _ _ => true
  | .shr _ _ _ _ => true
  | .sra _ _ _ _ => true
  | .mul _ _ _ _ => true
  | .slt _ _ _ _ => true
  | .sltu _ _ _ _ => true
  | .min _ _ _ _ => true
  | .max _ _ _ _ => true
  | .addi _ _ _ _ => true
  | .andi _ _ _ _ => true
  | .ori _ _ _ _ => true
  | .xori _ _ _ _ => true
  | .shli _ _ _ _ => true
  | .shri _ _ _ _ => true
  | .srai _ _ _ _ => true
  | .lui _ _ _ _ => true
  | .ld _ _ _ _ => true
  | .st _ _ _ _ => true
  | .lw _ _ _ _ => true
  | .sw _ _ _ _ => true
  | .beq _ _ _ _ => true
  | .bne _ _ _ _ => true
  | .blt _ _ _ _ => true
  | .bge _ _ _ _ => true
  | .jal _ _ _ => true
  | .jr _ _ => true
  | .csrr _ _ _ => true
  | .mlw _ _ _ _ _ => true
  | .mma _ _ _ _ _ _ _ _ => true
  | .mzp _ _ _ _ _ _ => true
  | .mspill _ _ _ _ => true
  | .mfill _ _ _ _ => true
  | .mzero _ _ => true
  | .vadd _ _ _ _ _ _ => true
  | .vsub _ _ _ _ _ _ => true
  | .vmul _ _ _ _ _ _ => true
  | .vfma _ _ _ _ _ _ _ => true
  | .vmax _ _ _ _ _ _ => true
  | .vmin _ _ _ _ _ _ => true
  | .vabs _ _ _ => true
  | .vneg _ _ _ => true
  | .vcmplt _ _ _ _ _ _ => true
  | .vcmpeq _ _ _ _ _ _ => true
  | .vsel _ _ _ _ _ _ _ => true
  | .vmov _ _ _ => true
  | .vrsum _ _ _ => true
  | .vrmax _ _ _ => true
  | .viota _ _ => true
  | .vbcast _ _ _ => true
  | .vfn _ _ _ _ => true
  | .vld _ _ _ _ _ => true
  | .vst _ _ _ _ _ _ _ => true
  | .vlda _ _ _ _ => true
  | .vsta _ _ _ _ => true
  | .vldl _ _ _ _ => true
  | .vstl _ _ _ _ => true
  | .vsrctx _ _ _ => true
  | .vext _ _ _ _ => true
  | .xtopk _ _ _ => true
  | .xsort _ _ _ => true
  | .xsample _ _ _ => true
  | .xphilox _ _ _ => true
  | .drd _ _ _ _ _ _ => true
  | .dwr _ _ _ _ _ _ => true
  | .dgather _ _ _ _ _ _ => true
  | .dscatter _ _ _ _ _ _ => true
  | .dwalk _ _ _ _ _ _ => true
  | .dten _ _ => true
  | .transferDone _ _ => true
  | .ufence _ _ => true
  | .waitt _ _ _ => true
  | .bara _ _ _ => true
  | .barw _ _ _ _ => true
  | .ffence _ _ => true
  | .endP _ => true
  | .scwait _ _ _ => true
  | .scpush _ _ _ _ _ => true
  | .sccnt _ _ => true
  | .scoreEntryAccept _ e => e.all ScoreEntry.wf
  | .scoreOverflow _ => true
  | .scoreFire _ => true
  | .progStart _ => true
  | .idleWin _ => true
  | .xfer _ => true
  | .arrive _ => true
  | .segSend _ _ => true
  | .segExpect _ => true
  | .proof _ => true
  | .kvpf _ => true
  | .riseStep _ => true
  | .tileRetire _ => true
  | .retireReq _ _ => true
  | .perfClear _ _ => true
  | .knockStart _ => true
  | .knockComplete _ _ => true
  | .knockOverdue _ => true
  | .timeWord => true
  | .nowLoRead _ => true
  | .tsSend _ => true
  | .tsSet _ set _ => set.wf
  | .election => true
  | .masterLoss => true
  | .holdoverTimeout => true
  | .ppsEdge => true
  | .ppsMiss => true
  | .refLoss => true
  | .announceNextStart _ => true
  | .stepAnnounce h _ _ _ => decide (h.injTick < 2 ^ 32)
  | .barDone h _ _ _ _ => decide (h.injTick < 2 ^ 32)
  | .barRelease _ _ => true
  | .barTimeout _ _ => true
  | .planPush _ => true
  | .voteSend _ _ => true
  | .vote h _ _ _ _ => decide (h.injTick < 2 ^ 32)
  | .voteClose _ _ => true
  | .shiftCmd _ => true
  | .leaseRetry _ => true
  | .freezeDoorbell _ bytes => decide (bytes.length % 32 = 0)
  | .freezeNop => true
  | .freezeOp => true
  | .thawOp => true
  | .freezeDrained _ => true
  | .thawAck ack => ack.wf
  | .freezeSlow _ => true
  | .sliceFill _ => true
  | .slcUnpin _ _ _ => true
  | .starve _ _ => true
  | .scrub _ _ => true
  | .memRetrainReq _ _ _ => true
  | .retrainStart _ => true
  | .retrainDone _ _ => true
  | .chRetireReq _ _ _ => true
  | .groupRetire _ => true
  | .poolInitDone _ => true
  | .pageThawDone _ _ => true
  | .kvFreezeDone _ _ _ => true
  | .pfxClear _ _ => true
  | .arm _ _ _ => true
  | .plcCheckDone _ => true
  | .moePlan _ _ => true
  | .tenUpd _ _ _ => true
  | .drained _ => true
  | .bbCheck _ _ _ => true
  | .bbCheckDone _ => true
  | .promote _ _ _ => true
  | .promoteDone _ => true
  | .demote _ _ _ => true
  | .demoteDone _ => true
  | .bbFree _ _ _ => true
  | .freeDone _ => true
  | .draftReq h _ _ _ _ _ _ => decide (h.injTick < 2 ^ 32)
  | .laneSignalDetect _ => true
  | .detectTimeout _ => true
  | .trainDone _ _ _ => true
  | .alignLock _ => true
  | .identSet _ rx => rx.set.wf
  | .identDone _ _ => true
  | .laneRetire _ _ => true
  | .narrowSet _ _ => true
  | .linkLoss _ => true
  | .linkRetrainReq _ _ => true
  | .downRetry _ => true
  | .flitRx _ _ _ _ _ => true
  | .linkUnit _ u _ => u.wf
  | .linkUnitSend _ => true
  | .replayExhaust _ => true
  | .rdReq _ p => p.wf
  | .rdCpl _ p _ => p.wf
  | .wr _ p => p.wf
  | .wrAck _ p => p.wf
  | .atomAdd src => src.wf 0
  | .atomAnd src => src.wf 1
  | .atomOr src => src.wf 2
  | .atomXor src => src.wf 3
  | .atomSwap src => src.wf 4
  | .atomCas src => src.wf 5
  | .atomMaxu src => src.wf 6
  | .atomMinu src => src.wf 7
  | .atomMaxs src => src.wf 8
  | .atomMins src => src.wf 9
  | .atomCpl _ p => p.wf
  | .leaseReq _ p => p.wf
  | .leaseRsp _ p => p.wf
  | .leaseRel _ p => p.wf
  | .pflush _ p => p.wf
  | .pflushEcho _ p => p.wf
  | .seg _ p => p.wf
  | .segAck _ p => p.wf
  | .segResend _ => true
  | .linkState h widths _ => decide (h.injTick < 2 ^ 32) && decide (widths.length = 64) && widths.all (fun w => decide (w < 5))
  | .linkStateSend => true
  | .routeRefill _ => true
  | .pathDead _ _ _ => true
  | .unreachable _ => true
  | .fabKeyWrite _ _ => true
  | .tagGo _ => true
  | .tagDone => true
  | .loadStart _ _ => true
  | .loadCheckDone _ => true
  | .loadAbort _ _ => true
  | .nvmeReadCpl _ _ _ _ bytes => decide (bytes.length ≤ 2 ^ 22)
  | .pieceLanded _ _ => true
  | .hashDone _ _ => true
  | .shardFreezeDone _ _ => true
  | .shardTimeout _ _ => true
  | .memberRecord _ _ => true
  | .reportTimeout _ => true
  | .loadFinal _ => true
  | .cnp _ _ => true
  | .mkeyLock _ _ => true
  | .govPeriod _ _ _ _ _ => true
  | .gRiseStep _ => true
  | .capLoop => true
  | .capWrite _ _ => true
  | .edcTimeout => true
  | .powerRecal _ => true
  | .capStepAssert => true
  | .capStepDeassert => true
  | .alertAssert _ => true
  | .alertDeassert _ => true
  | .alertRelease => true
  | .heartbeat _ _ => true
  | .orphanTimeout => true
  | .thermalLoop _ _ => true
  | .thermtrip _ => true
  | .droopAssert _ => true
  | .droopRelease _ => true
  | .boostEntry => true
  | .voltSettle => true
  | .boostExit => true
  | .freqAbort => true
  | .freqAbortClear => true
  | .avsTimeout => true
  | .fixedFreqWrite _ _ => true
  | .restReq _ => true
  | .restEntryDone => true
  | .wake _ => true
  | .wakeDone => true
  | .faultReport hw => hw.all HwFind.wf
  | .parityScrub _ _ => true
  | .safeReq _ => true
  | .release _ => true
  | .quietExpire => true
  | .unfreeze _ => true
  | .histClear _ => true
  | .sumclrPage _ _ => true
  | .sumclrAll _ => true
  | .injectGo _ => true
  | .telPoll => true
  | .stormClear => true
  | .pwrokLow => true
  | .resetNLow => true
  | .packageResetExit _ _ _ => true
  | .perstNLow => true
  | .perstNHigh => true
  | .bootReset _ _ => true
  | .porDone f _ => f.wf
  | .romLoadDone _ => true
  | .romVerify => true
  | .pushGo _ => true
  | .fwStartDone => true
  | .memTrainDone _ => true
  | .fabricTrained => true
  | .memInitDone => true
  | .bootFinal => true
  | .bootLate => true
  | .revokeBurn _ _ => true
  | .svnBurn _ _ => true
  | .updVerify _ => true
  | .updVerifyDone => true
  | .updActivate _ _ => true
  | .componentCommitted => true
  | .activateLimit => true
  | .mgmtFwHandover => true
  | .bootAlive _ _ => true
  | .aliveTimeout => true
  | .flashWrite _ => true
  | .flashWriteDone _ => true
  | .updAbort _ => true
  | .getVersion => true
  | .getCapabilities => true
  | .negotiateAlgorithms _ _ _ => true
  | .getDigests => true
  | .getCertificate _ _ _ => true
  | .challenge _ nonce => decide (nonce.length = 32)
  | .getMeasurements _ _ _ => true
  | .bar2Read _ _ => true
  | .bar2Write _ bytes => decide (1 ≤ bytes.length) && decide (bytes.length ≤ 4096)
  | .bar0BadAccess _ _ => true
  | .fenceGo _ => true
  | .pcieLinkDown => true
  | .msixPendingSend _ _ _ _ _ => true
  | .regRead _ _ _ => true
  | .regWrite _ _ ws => decide (1 ≤ ws.length) && decide (ws.length ≤ 16)
  | .setEndpointId _ _ => true
  | .entdaa _ => true
  | .setdasa _ _ => true
  | .hotJoin => true
  | .getTid => true
  | .setTid _ => true
  | .getPldmVersion _ => true
  | .getPldmTypes => true
  | .getPldmCommands _ => true
  | .getPdr _ => true
  | .getSensorReading _ => true
  | .getStateSensorReadings _ => true
  | .eventMessageSupported => true
  | .pollForPlatformEvent _ => true
  | .requestUpdate => true
  | .requestFirmwareData _ bytes => decide (bytes.length ≤ 12582912)
  | .transferComplete => true
  | .verifyComplete => true
  | .activateFirmware => true
  | .cancelUpdate => true
  | .qpOpen _ _ => true
  | .qpClose _ _ => true
  | .rdmaWrite _ _ _ _ bytes => decide (bytes.length < 2 ^ 32)
  | .rdmaRead _ _ _ _ _ => true
  | .arpRequest _ _ => true
  | .neighborSolicit _ _ => true
  | .ethLinkDown _ => true
  | .railUv _ => true
  | .sbChatter _ => true
  | .chatterClear _ => true
  | .sbStuck _ => true
  | .outStuck _ => true
  | .illegalInsn _ => true
  | .badPacket _ p => p.wf
  | .ethLinkUp _ => true
  | .pcieLinkUp _ _ => true
  | .i3cBusError => true
  | .refOk => true
  | .avsResend _ => true
  | .keepAlive _ => true
  | .rateRecover _ => true
  | .ackCoalesceExpire path => decide (path < 2048)
  | .componentLoaded _ => true
  | .ethDiscard _ => true

end Sys2Proof
end

