-- ==== Sys2Proof/Tests/Slice0.lean ====
section
/-! SUPPORT. Tests: ill-formed commands that the check refuses, one small step or operation at a time with results taken from the spec, and
for every statement with hypotheses a state and operands that meet them. -/
namespace Sys2Proof.Tests
open Sys2Proof Sys2Proof.Machine

/-! ### Ill-formed commands -/

def entry0 : ScoreEntry := { launch := 0, action := 0x101, target := 3, desc := 0, barw := 0 }
def packet0 : Packet :=
  { type := ptWR, vc := 0, rkind := 0, rslot := 0, src := 5, gen := 0, dst := 0, via := 0, priv := true, last := true, status := 0, acode := 0
    tenant := 0, part := 0, addr := 0, len := 128, tag := 7, fence := 0, lease := 0, injTick := 0, payload := [] }
def ctrl0 : CtrlIn := { quad := 0, src := 5, dst := 0, injTick := 0 }
def set0 : TsSet :=
  { srcSlot := 5, masterSlot := 5, tbmEn := true, isMaster := true, sync := 4, stratum := 0, partEn := 0, partActive := 0, txTime := 0, echoTx := 0
    echoRx := 0 }
def ident0 : IdentSet := { slot := 1, linkNo := 0, good := 0xFF, safe := false, refuse := false, serial := 7, lane := 0 }
def report0 : Report := { page := 0x203, code := 0x0110, island := 3, detail := 0, part := none }
def fuses0 : Fuses :=
  { keyValid := 1, keyRevoke := 0, svn := 0, test := false, serial := 7, keyHash := List.replicate 4 (List.replicate 32 0), vnom := 750
    vboost := 820, pIdle := 300, pFull := 2000 }

theorem wf_score_entry : (Instr.scoreEntryAccept 0 (some entry0)).wellFormed = true ∧
    (Instr.scoreEntryAccept 0 (some { entry0 with action := 2 ^ 32 })).wellFormed = false := by decide
theorem wf_packet : (Instr.wr 0 packet0).wellFormed = true ∧ (Instr.wr 0 { packet0 with src := 64 }).wellFormed = false := by decide
theorem wf_packet_payload : (Instr.rdReq 0 { packet0 with payload := List.replicate 4097 0 }).wellFormed = false := by decide +kernel
theorem wf_atomic : (Instr.atomAnd (.packet 0 { packet0 with acode := 1 })).wellFormed = true ∧
    (Instr.atomAnd (.packet 0 { packet0 with acode := 2 })).wellFormed = false ∧ (Instr.atomAdd (.datom 0 1 2 3 4)).wellFormed = false := by decide
theorem wf_ts_set : (Instr.tsSet 0 set0 0).wellFormed = true ∧ (Instr.tsSet 0 { set0 with stratum := 4 } 0).wellFormed = false := by decide
theorem wf_ident : (Instr.identSet 0 ⟨0, ident0⟩).wellFormed = true ∧ (Instr.identSet 0 ⟨7, { ident0 with lane := 8 }⟩).wellFormed = false := by decide
theorem wf_report : (Instr.faultReport (some (.fault report0))).wellFormed = true ∧
    (Instr.faultReport (some (.fault { report0 with island := 401 }))).wellFormed = false := by decide
theorem wf_fuses : (Instr.porDone fuses0 true).wellFormed = true ∧ (Instr.porDone { fuses0 with svn := 65 } true).wellFormed = false := by decide
theorem wf_thaw_ack : (Instr.thawAck (.foreign 1 0 4 0)).wellFormed = true ∧
    (Instr.thawAck (.foreign 1 (2 ^ 29) 1 0)).wellFormed = false := by decide
theorem wf_inj_tick : (Instr.vote { ctrl0 with injTick := 2 ^ 32 } 0 0 0 0).wellFormed = false ∧
    (Instr.barDone { ctrl0 with injTick := 2 ^ 32 } 0 0 0 false).wellFormed = false := by decide
theorem wf_doorbell : (Instr.freezeDoorbell true (List.replicate 32 0)).wellFormed = true ∧
    (Instr.freezeDoorbell true (List.replicate 31 0)).wellFormed = false := by decide
theorem wf_link_state : (Instr.linkState ctrl0 (List.replicate 64 4) false).wellFormed = true ∧
    (Instr.linkState ctrl0 (List.replicate 63 4) false).wellFormed = false ∧
    (Instr.linkState ctrl0 (List.replicate 64 5) false).wellFormed = false := by decide
theorem wf_challenge : (Instr.challenge 0 (List.replicate 31 0)).wellFormed = false := by decide
theorem wf_bar2_write : (Instr.bar2Write 0 []).wellFormed = false := by decide
theorem wf_reg_write : (Instr.regWrite 0 0 []).wellFormed = false ∧ (Instr.regWrite 0 0 (List.replicate 17 0)).wellFormed = false := by decide
theorem wf_ack_path : (Instr.ackCoalesceExpire 2047).wellFormed = true ∧ (Instr.ackCoalesceExpire 2048).wellFormed = false := by decide

/-! ### The states the tests start from -/

/-- The package once it has booted (R481): every island is up. -/
def upB : Block :=
  (List.range 13).foldl (fun b i => b.put pgDev F.DEV_ISL_UP.UP (2 ^ 32 - 1) i)
    ((State.reset.blk.put pgBoot F.BOOT_STAT.STAGE 9).put pgBoot F.BOOT_STAT.READY 1)
def up (b : Block) : State := State.reset.withBlk b
/-- The same with a tile that runs. -/
def running : Tile := { tileReset with seq := .run }
def tileB (x : Tile) : Block := upB.setTile 3 x
def tileS (x : Tile) : State := up (tileB x)
def withRegs (a b : W64) : Tile := (running.setS 1 a).setS 2 b
/-- The block after a command. -/
def after (c : Instr) (s : State) : Block :=
  match exec c s with
  | .next t => t.blk
  | _ => blockReset
/-- A tile with an instruction's word at its pc (R93), and the block after the tile runs it. -/
def coded (c : Instr) (x : Tile) : Tile :=
  match insnCode c with
  | some w => x.wr x.pc (leBytes 8 w.toNat)
  | none => x
def ran (c : Instr) (x : Tile) : Block := after c (tileS (coded c x))
/-- The tile issues this instruction next. -/
abbrev ready (c : Instr) (x : Tile) : Prop := (tileS (coded c x)).issues 3 ∧ (tileS (coded c x)).nextIs 3 c

/-! ### Small steps and operations, with results from the spec -/

theorem test_decode_none : decodeTableWord 64 0 = none ∧ (up upB).withFetchWord 64 0 = up upB := by decide
/-- The worked example of the tile chapter: its MMA, and the eight bytes it stands as in tile SRAM. -/
theorem test_decode_mma : decodeInsn 3 0x20231CA400004200 = some (.mma 3 6 7 5 1 false false 0x4200) ∧
    ((coded (.mma 3 6 7 5 1 false false 0x4200) running).rdBytes 0 8).map BitVec.toNat = [0x00, 0x42, 0x00, 0x00, 0xA4, 0x1C, 0x23, 0x20] := by
  decide +kernel
/-- One word of each other class, its fields put in place by hand from R98 to R119. -/
theorem test_decode_classes : decodeInsn 3 0x01018400FFFFFFFF = some (.addi 3 3 1 (-1)) ∧ decodeInsn 3 0x1000886000000000 = some (.vadd 3 1 2 3 false 0) ∧
    decodeInsn 3 0x3010887600000080 = some (.drd 3 1 2 3 11 0x80) ∧ decodeInsn 3 0x40F0000000000000 = some (.endP 3) ∧
    decodeInsn 3 0x5010040000000008 = some (.scwait 3 1 8) := by decide +kernel
/-- R98: a reserved bit, an unlisted OP and an unlisted CLASS. -/
theorem test_decode_refuses : decodeInsn 3 1 = none ∧ decodeInsn 3 0x0FF0000000000000 = none ∧ decodeInsn 3 0xF000000000000000 = none := by decide
theorem test_step_takes_front : ∃ t, step { up upB with pending := [.keyWrite 8 0x4B4E .host, .timeWord] } = .next t ∧ t.pending = [.timeWord] := by
  exact ⟨_, rfl, rfl⟩
theorem test_add_wraps : ((ran (.add 3 3 1 2) (withRegs (-1) 2)).tile 3).s 3 = 1 := by decide
theorem test_s0_reads_zero : ((ran (.addi 3 0 1 5) (withRegs 7 2)).tile 3).s 0 = 0 := by decide
theorem test_addi_sign : ((ran (.addi 3 3 1 (-1)) (withRegs 7 2)).tile 3).s 3 = 6 := by decide
theorem test_ori_zero_extends : ((ran (.ori 3 3 0 0x80000000) running).tile 3).s 3 = 0x80000000 := by decide
theorem test_slt_signed : ((ran (.slt 3 3 1 2) (withRegs (-1) 1)).tile 3).s 3 = 1 ∧
    ((ran (.sltu 3 3 1 2) (withRegs (-1) 1)).tile 3).s 3 = 0 := by decide
theorem test_sra_sign : ((ran (.srai 3 3 1 4) (withRegs (-32) 0)).tile 3).s 3 = -2 := by decide
theorem test_shift_mod_64 : ((ran (.shl 3 3 1 2) (withRegs 3 65)).tile 3).s 3 = 6 := by decide
theorem test_pc_moves : ((ran (.add 3 3 1 2) running).tile 3).pc = 8 := by decide
theorem test_beq_back : ((ran (.beq 3 1 1 (-1)) ({ running with pc := 16 })).tile 3).pc = 8 := by decide
theorem test_jal_links : ((ran (.jal 3 5 3) ({ running with pc := 16 })).tile 3).s 5 = 24 ∧
    ((ran (.jal 3 5 3) ({ running with pc := 16 })).tile 3).pc = 40 := by decide
theorem test_ld_misaligned : (ran (.ld 3 3 1 0) (withRegs 4 0)).eff (pgTile 3) F.TIL_ERR.ERR_CODE = 0x0112 ∧
    ((ran (.ld 3 3 1 0) (withRegs 4 0)).tile 3).seq = .err := by decide
theorem test_st_little_endian : (((ran (.st 3 1 2 0) (withRegs 8 0x0102030405060708)).tile 3).rdBytes 8 8) = [8, 7, 6, 5, 4, 3, 2, 1] := by
  decide
theorem test_sw_four_bytes : ((ran (.sw 3 1 2 0) (withRegs 8 (-1))).tile 3).rdBytes 8 8 = [255, 255, 255, 255, 0, 0, 0, 0] := by decide
theorem test_csrr_tile_index : ((ran (.csrr 3 3 2) running).tile 3).s 3 = 3 := by decide
theorem test_illegal_stops : bit ((after (.illegalInsn 3) (tileS (running.wr 0 (leBytes 8 0xF000000000000000)))).hdr (pgTile 3)).isr 0 = true := by decide
theorem test_tag_12_is_illegal : (ran (.drd 3 1 1 1 12 0) running).eff (pgTile 3) F.TIL_ERR.ERR_CODE = 0x0110 := by decide
theorem test_bad_range_dma : (((ran (.drd 3 0 0 2 0 0) (withRegs 0 1)).tile 3).tag 0).status = 4 := by decide
/-- R77: 1 + 2 = 3, and the sum of the infinities is the canonical NaN (R78). -/
theorem test_fp_add : (fpAdd 0x3F800000 0x40000000).1 = 0x40400000 ∧ (fpAdd 0x7F800000 0xFF800000).1 = 0x7FC00000 := by decide
/-- R77: subnormals are kept. -/
theorem test_fp_subnormal : (fpMul 0x00000002 0x3F000000).1 = 0x00000001 := by decide
/-- The worked example of BLK_ID (R15): tile 150 is page 0x296 and reads 0x12000096. -/
theorem test_blk_id : pgTile 150 = 0x296 ∧ ((upB.readWord (pgTile 150) 0).2) = 0x12000096 := by decide
theorem test_key_arms : ((after (.keyWrite 8 0x4B4E .host) (up upB)).hdr 8).keyArmed = true ∧
    bit ((after (.keyWrite 8 0x4B4F .host) (up upB)).hdr 8).isr 30 = true := by decide

/-- The worked example of R84: 1 + 2^-9 to BF16 with SR. -/
theorem test_stochastic_rounding : ∀ m, Rnd.ofCode 4 = some m → (convFp bf16 m false (fp32.decode 0x3F804000) 0x2F000000).1 = 0x3F81 ∧
    (convFp bf16 m false (fp32.decode 0x3F804000) 0x40000000).1 = 0x3F80 := by decide
/-- The worked example of R62: a GLO4 block against an MXFP8 block gives −2.5, the outlier in place of its base element. -/
def glo4Row : Nat → Nat := fun i =>
  if i = 0 then 0x72 else if i = 1 then 0x0B else if i = scaleBase .glo4 then 0x7D else
  if i = outlierBase .glo4 false then 0x05 else if i = outlierBase .glo4 false + 1 then 0x2B else
  if i = outlierBase .glo4 false + 2 then 0x40 else if i = outlierBase .glo4 false + 3 then 0x03 else 0
def mxRow : Nat → Nat := fun i =>
  if i = 0 then 0x38 else if i = 1 then 0x3C else if i = 2 then 0x40 else if i = 5 then 0x31 else if i = scaleBase .mxe4m3 then 0x80 else 0
theorem test_glo4_group : groupValue false (readBlock mxRow .mxe4m3 false 0 0 0) (readBlock glo4Row .glo4 false 0 0 0) = (0xC0200000, 0) := by
  decide +kernel
/-- The worked example of the KV chapter: page bytes, pages, and the address of position 2,045 in layer 40. -/
def pool0 : PoolSnap :=
  { wfirst := 4, wcount := 2, pageLog := 6, recLines := 22, layers := 92, fmt := 3, part := 0, reserve := 0, stack := 0, ref := 0, tok := 0 }
theorem test_pool_geometry : pool0.pageBytes = 16580608 ∧ pool0.ppw = 3885 ∧ pool0.pages = 7770 ∧ pool0.tokenOff 6684 40 61 = 0x55CEA39F00 := by decide
/-- The worked example of the Score chapter: the fields of the entry for tile 150, and the tile's rank. -/
def entry150 : ScoreEntry :=
  { launch := 0x12AC6B44F, action := 0x03200101, target := 0x96, desc := 0x1280000A80, barw := 0x0047000002A202A1 }
theorem test_score_entry : entry150.code = 1 ∧ entry150.arg = 800 ∧ entry150.island = 150 ∧ entry150.isRemote = false ∧ entry150.waitBar = 0x2A1 ∧
    entry150.arriveBar = 0x2A2 ∧ riseRank 150 = 156 ∧ riseRank 150 * 2000 / 4608 = 67 := by decide
/-- The worked example of expert mode: QUIESCE and EXPERT with an armed key, then the drain. -/
theorem test_expert_quiesce :
    let b := upB.modHdr (pgTile 150) (fun h => { h with enable := true, st := .run, keyArmed := true })
    ((b.ctrlWrite (pgTile 150) 0x13).hdr (pgTile 150)).expertActive = true ∧ ((b.ctrlWrite (pgTile 150) 0x13).hdr (pgTile 150)).st = .quiescing ∧
    ((b.ctrlWrite (pgTile 150) 0x13).hdr (pgTile 150)).keyArmed = false := by decide
/-- R17: W1C clears the bits it names. -/
theorem test_isr_clear : ((after (.isrClear 8 2 .host) (up (upB.modHdr 8 (fun h => { h with isr := 7 })))).hdr 8).isr = 5 := by decide
/-- R35: along x to the column, then along y. -/
theorem test_mesh_route : route 0 23 = [0, 1, 2, 6, 7, 8, 11, 20, 23] ∧ route 23 0 = [23, 22, 21, 17, 16, 15, 12, 3, 0] := by decide
/-- R39: a tile-to-router crossing adds 3.05 ns. -/
theorem test_crossing_time : crossingPs 3 288 = 3051 := by decide
/-- R500: a B0 part reads 0x10. -/
theorem test_config_id : upB.configId.deviceId = 0x7264 ∧ upB.configId.classCode = 0x120000 ∧ upB.configId.revisionId = 0x10 := by decide
/-- The worked example of the routing chapter: the weights of row 87. -/
theorem test_gate_weights : gateWeights 1 [0x3E400000, 0x3E000000, 0x3D800000, 0x3D800000, 0x3D000000, 0x3D000000] =
    [0x3EC00000, 0x3E800000, 0x3E000000, 0x3E000000, 0x3D800000, 0x3D800000] := by decide +kernel
/-- The worked example of the memory chapter: channel and line index of an offset. -/
theorem test_place : upB.place 0x280001C80 = (107, 10485767) := by decide +kernel
/-- R42: ISLAND_HUNG names the reader, here the router of cluster 0, full since tick 0. -/
theorem test_island_hung : ((after (.islandHung 3 ⟨288, 0⟩) (up { upB with now := 2 ^ 40 })).reports.map (fun r => (r.2.page, r.2.code, r.2.island))) =
    [(pgTile 3, 1, 288)] := by decide
/-- R353: unsigned and signed maximum differ on a negative number. -/
theorem test_atomics : atomicNew 6 (2 ^ 64 - 1) 1 0 = some (2 ^ 64 - 1) ∧ atomicNew 8 (2 ^ 64 - 1) 1 0 = some 1 := by decide
/-- R353: the old value returns. -/
theorem test_atom_add : ((after (.atomAdd (.packet 0 { packet0 with type := ptATOM, len := 16, payload := leBytes 8 5 ++ leBytes 8 0 })) (up upB)).m64 0) = 5 := by
  decide
/-- R198, R352: a write without a lease is answered and stores nothing. -/
theorem test_write_without_lease : ((after (.wr 0 { packet0 with payload := [1, 2, 3, 4] }) (up upB)).m32 0) = 0 := by decide
theorem test_frozen_frame_state : (upB.setFrame 5 frFROZEN).frame 5 = frFROZEN ∧ (upB.setFrame 5 frFROZEN).frame 4 = frWRITABLE := by decide
/-- R347: the expected flit advances the sequence. -/
theorem test_flit : ((after (.flitRx 0 1 0 0 true) (up (upB.enterLink 0 lsUP))).link 0).rxSeq = 1 := by decide
/-- R471: a wrong key does not reset. -/
theorem test_boot_key : (after (.bootReset 0xC0DF .host) (up upB)).stage = 9 ∧ (after (.bootReset 0xC0DE .host) (up upB)).stage = 0 := by decide
/-- A cap outside 600 to 2400 W is refused (the range of PWR_CAP, R27). -/
theorem test_cap : bit ((after (.capWrite 599 .host) (up upB)).hdr pgPwr).isr 31 = true ∧ (after (.capWrite 600 .host) (up upB)).eff pgPwr F.PWR_CAP.CAP = 600 := by
  decide
/-- R515: an access past the page. -/
theorem test_reg_read_range : (after (.regRead 8 0xFFC 2) (up upB)).out.head? = some (.response "register" [2]) := by decide
/-- A known digest: SHA-256 of the empty message. -/
theorem test_sha256 : (sha256 []).take 4 = [0xE3, 0xB0, 0xC4, 0x42] := by decide +kernel
/-- R85: Philox4x32-10 of zeros, whose answer is published with the generator. -/
theorem test_philox : philox [0, 0, 0, 0] 0 0 = [0x6627E8D5, 0xE169C58D, 0xBC57AC4C, 0x9B00DBD8] := by decide +kernel

/-! ### Witnesses: states and operands that meet the hypotheses of the statements -/

def heldS : State := { State.reset with resetIsLow := true }

theorem witness_StepRunsTheFrontCommand : ({ up upB with pending := [.timeWord] } : State).pending = .timeWord :: [] := rfl
theorem witness_EmptyQueueAdvancesTime : (up upB).pending = [] ∧ (up upB).live ∧ heldS.pending = [] ∧ heldS.held = true := by decide
theorem witness_HeldPackageTakesNoCommand : heldS.held = true ∧ (Instr.timeWord ≠ .pwrokLow ∧ Instr.timeWord ≠ .resetNLow) := by
  exact ⟨by decide, nofun, nofun⟩
theorem witness_HeldPackageStaysReset : heldS.heldReset ∧ (up upB).heldReset ∧ step heldS = .next heldS := ⟨by decide, by decide, rfl⟩
theorem witness_ResetInputsReset : (heldS.held = true) ∧ (State.reset.held = false ∧ State.reset.blk.now = 0) ∧
    (let b := State.reset.blk.put pgDev F.DEV_SB_LEVEL.THERMTRIP_OUT 1; b.eff pgDev F.DEV_SB_LEVEL.THERMTRIP_OUT = 1) := by decide

/-! Tiles: scalar and memory instructions. -/

theorem witness_ScalarRegisterInstructions : ∀ c ∈ [Instr.add 3 3 1 2, .sub 3 3 1 2, .andW 3 3 1 2, .orW 3 3 1 2, .xorW 3 3 1 2, .shl 3 3 1 2,
    .shr 3 3 1 2, .sra 3 3 1 2, .mul 3 3 1 2, .slt 3 3 1 2, .sltu 3 3 1 2, .min 3 3 1 2, .max 3 3 1 2, .addi 3 3 1 (-1), .andi 3 3 1 (-1),
    .ori 3 3 1 (-1), .xori 3 3 1 (-1), .shli 3 3 1 63, .shri 3 3 1 63, .srai 3 3 1 63, .lui 3 3 1 (-1)], ready c (withRegs (-1) 2) := by decide +kernel
theorem witness_ScalarRegisterFile : (1 : Nat) ≠ 0 ∧ (2 : Nat) ≠ 1 := by decide
/-- Aligned at the last bytes of tile SRAM, misaligned, and past its end. -/
theorem witness_ScalarMemoryInstructions :
    let s (c : Instr) (a : W64) := tileS (coded c (withRegs a 2))
    let at' (c : Instr) (a : W64) := (((s c a).blk.tile 3).s 1 + (0 : BitVec 32).signExtend 64).toNat
    (∀ c ∈ [Instr.ld 3 3 1 0, .st 3 1 2 0], ready c (withRegs 0x3FFFF8 2) ∧ (s c 0x3FFFF8).blk.sramFree 3 0x3FFFF8 8 ∧
      at' c 0x3FFFF8 % 8 = 0 ∧ at' c 0x3FFFF8 + 8 ≤ sramSize) ∧
    (∀ c ∈ [Instr.lw 3 3 1 0, .sw 3 1 2 0], ready c (withRegs 0x3FFFFC 2) ∧ (s c 0x3FFFFC).blk.sramFree 3 0x3FFFFC 4 ∧
      at' c 0x3FFFFC % 4 = 0 ∧ at' c 0x3FFFFC + 4 ≤ sramSize ∧ at' c 0x3FFFFC % 8 ≠ 0 ∧ ready c (withRegs 0x3FFFFE 2) ∧ at' c 0x3FFFFE % 4 ≠ 0) ∧
    (∀ c ∈ [Instr.ld 3 3 1 0, .st 3 1 2 0], ready c (withRegs 0x3FFFFC 2) ∧ ready c (withRegs 0x400000 2) ∧
      (s c 0x400000).blk.sramFree 3 0x400000 8 ∧ at' c 0x400000 % 8 = 0 ∧ sramSize < at' c 0x400000 + 8) := by decide +kernel
theorem witness_TileStoresAreLocal : SMap.canon 0 (running.wr 8 [1, 0, 2]).sram = true := by decide
theorem witness_ScalarControlInstructions :
    (∀ c ∈ [Instr.beq 3 1 2 (-1), .bne 3 1 2 (-1), .blt 3 1 2 1, .bge 3 1 2 1, .jal 3 1 3, .jr 3 1], ready c (withRegs 8 8)) ∧
    (withRegs 8 8).s 1 % 8 = 0 ∧ ready (.jr 3 1) (withRegs 4 8) ∧ (withRegs 4 8).s 1 % 8 ≠ 0 ∧
    (∀ w ∈ [0, 1, 2, 3, 4, 5, 6, 7, 255], ready (.csrr 3 1 w) (withRegs 8 8)) ∧ 7 ≤ (7 : BitVec 8).toNat := by decide +kernel

/-! Tiles: matrix and vector instructions, macro-operations. -/

/-- Spills and fills at the last place that holds them, weights of BF16 at address 0, zero points at the end, misaligned addresses, and an MMA of
one row of BF16 by BF16 against the buffer that MLW filled. -/
theorem witness_MatrixInstructions :
    let s (a : W64) := tileS (withRegs a 1)
    let w : WBuf := { fmt := 1, bytes := [] }
    let m := tileS { withRegs 0 1 with wbuf0 := some w }
    (∀ c ∈ [Instr.mzero 3 7, .mfill 3 1 7 0, .mspill 3 1 7 0], ready c (withRegs 0x3F0000 1)) ∧
    (0x3F0000 % 128 = 0 ∧ 0x3F0000 + 65536 ≤ sramSize ∧ (s 0x3F0000).blk.sramFree 3 0x3F0000 65536) ∧
    (ready (.mfill 3 1 7 0) (withRegs 1 1) ∧ ready (.mspill 3 1 7 0) (withRegs 1 1) ∧ 1 % 128 ≠ 0 ∧ (s 1).blk.sramFree 3 1 65536) ∧
    (ready (.mlw 3 1 1 true 0) (withRegs 0 1) ∧ fmtWeightOk 1 = true ∧ 0 + weightBytes 1 ≤ sramSize ∧ (s 0).blk.sramFree 3 0 (weightBytes 1)) ∧
    (ready (.mzp 3 1 2 true false 0) (withRegs 0x3FFF80 1) ∧ ready (.mzp 3 1 2 false true 0) (withRegs 0x3FFF80 1) ∧ 0x3FFF80 % 128 = 0 ∧
      0x3FFF80 + 128 ≤ sramSize ∧ (s 0x3FFF80).blk.sramFree 3 0x3FFF80 128 ∧ (s 0x3FFF80).blk.sramFree 3 0x3FFF80 0) ∧
    (ready (.mma 3 1 2 1 7 true false 0) { withRegs 0 1 with wbuf0 := some w } ∧ (m.blk.tile 3).wbuf0 = some w ∧ fmtActOk 1 = true ∧
      (ratePair (Fmt.ofCode 1) (Fmt.ofCode (w.fmt % 16))).isSome = true ∧ 1 ≤ ((m.blk.tile 3).s 2).toNat ∧ ((m.blk.tile 3).s 2).toNat ≤ 128 ∧
      0 + (List.range 1).length * tileBytes (Fmt.ofCode 1) false ≤ sramSize ∧ m.blk.gated 3 .matrix = false ∧
      m.blk.sramFree 3 0 (2 * tileBytes (Fmt.ofCode 1) false)) := by decide +kernel
theorem witness_SpillThenFillRestores :
    let x := coded (.mspill 3 1 7 0) (withRegs 0x3F0000 1)
    let y := { x with pc := 8 }
    let b := (tileB (withRegs 0 1)).putCmt (pgTile 3) F.TIL_SPILL.SPILL_TILES 1
    (ready (.mspill 3 1 7 0) (withRegs 0x3F0000 1) ∧ 0x3F0000 % 128 = 0 ∧ 0x3F0000 + 65536 ≤ sramSize ∧ (tileS x).blk.sramFree 3 0x3F0000 65536 ∧
      ((tileS x).blk.tile 3).pc + 8 < sramSize ∧ SMap.canon 0 x.sram = true ∧ ready (.mfill 3 1 6 0) y) ∧
    ((up b).issues 3 ∧ b.eff (pgTile 3) F.TIL_SPILL.SPILL_BASE * 65536 ≤ 0 ∧ 0 < b.eff (pgTile 3) F.TIL_SPILL.SPILL_TILES) := by decide +kernel
theorem witness_accumulator_length : ((tileB running).tile 3).a 0 = List.replicate 16384 0 ∧ (List.replicate 16384 (0 : W32)).length = 16384 :=
  ⟨rfl, List.length_replicate⟩
theorem witness_VectorLaneInstructions : (∀ c ∈ [Instr.vadd 3 1 2 3 true 1, .vsub 3 1 2 3 false 1, .vmul 3 1 2 3 true 1, .vfma 3 1 2 3 4 true 1,
    .vfn 3 1 2 13, .vfn 3 1 2 14, .vmax 3 1 2 3 true 1, .vmin 3 1 2 3 true 1, .vcmplt 3 1 2 3 true 1, .vcmpeq 3 1 2 3 true 1,
    .vsel 3 1 2 3 4 true 1, .vabs 3 1 2, .vneg 3 1 2, .vmov 3 1 2], ready c running) ∧
    (tileS running).blk.gated 3 .vector = false ∧ (13 : BitVec 5).toNat < 14 := by decide +kernel
/-- Vector loads and stores at the last place that holds them and past it, conversions of BF16 and FP32, and a row context. -/
theorem witness_VectorMoveInstructions :
    let s (a : W64) := tileS (withRegs a 1)
    let x (c : Instr) (a : W64) := coded c (withRegs a 1)
    (∀ c ∈ [Instr.vrsum 3 1 2, .vrmax 3 1 2, .viota 3 1, .vbcast 3 1 2, .vext 3 1 2 255, .vlda 3 1 7 63, .vsta 3 1 7 63], ready c running) ∧
    (∀ c ∈ [Instr.vldl 3 1 1 0, .vstl 3 1 1 0], ready c (withRegs 0x3FFC00 1) ∧ ready c (withRegs 0x3FFC01 1) ∧
      (tileS (x c 0x3FFC00)).blk.sramFree 3 0x3FFC00 1024 ∧ 0x3FFC00 + 1024 ≤ sramSize ∧ (tileS (x c 0x3FFC01)).blk.sramFree 3 0x3FFC01 1024 ∧
      sramSize < 0x3FFC01 + 1024) ∧
    (ready (.vld 3 1 1 1 63) (withRegs 0 1) ∧ ready (.vst 3 1 1 1 0 false 63) (withRegs 0 1) ∧
      (s 0).blk.sramFree 3 0 (tileBytes (Fmt.ofCode 1) false) ∧ 0 + tileBytes (Fmt.ofCode 1) false ≤ sramSize ∧ fmtLoadOk 1 = true ∧
      fmtStoreOk 1 = true ∧ Rnd.ofCode 0 = some .rne ∧ (∀ g ∈ vstTouch 1 1 0 ((s 0).blk.tile 3), (s 0).blk.sramFree 3 g.1 g.2)) ∧
    (ready (.vsrctx 3 1 2) (withRegs 0x3FF800 1) ∧ 0x3FF800 % 128 = 0 ∧ 0x3FF800 + 2048 ≤ sramSize) := by decide +kernel
/-- A parameter block of zeros has a result of status 1 for XTOPK; and XPHILOX with a count of 1 writes one word. -/
theorem witness_MacroOperations :
    let x := withRegs 64 0
    let y := x.wr 64 (leBytes 4 1)
    (∀ c ∈ [Instr.xtopk 3 3 1, .xsort 3 3 1, .xsample 3 3 1, .xphilox 3 3 1], ready c x ∧ ready c y) ∧
    (xtopk x.byte 64 = none ∧ (tileS x).blk.sramFree 3 64 32) ∧
    ((∀ g ∈ topkRanges x.byte 64, (tileS x).blk.sramFree 3 g.1 g.2) ∧ (∀ g ∈ sortRanges x.byte 64, (tileS x).blk.sramFree 3 g.1 g.2)) ∧
    ((∀ g ∈ philoxRanges y.byte 64, (tileS y).blk.sramFree 3 g.1 g.2) ∧ (∀ g ∈ sampleRanges none x.byte 64, (tileS x).blk.sramFree 3 g.1 g.2)) := by
  decide +kernel

/-! Tiles: synchronisation, transfers and stops. -/

theorem witness_QuietPackageRests : upB.quiet := by decide
def busyTag (g : Nat) : Tile := running.setTag g { inflight := 1, status := 0 }
def launch0 : Launch :=
  { raw := [], recs := [], opId := 0, slot := 0, comp := 0, n0 := 0, n1 := 0, passes := [], total := 1, past := 0xFF, fill := [], entry := entry0 }
/-- Nothing in flight and a transfer in flight, a tag with a status, and a launch that ends. -/
theorem witness_TileWaits :
    let y := (running.setTag 2 { inflight := 0, status := 5 }).setTag 3 { inflight := 0, status := 6 }
    let l := { running with launch := some launch0 }
    (∀ c ∈ [Instr.dten 3 1, .sccnt 3 1, .scwait 3 1 0, .ufence 3 15, .bara 3 1 1, .barw 3 1 1 1, .barw 3 1 1 0, .waitt 3 1 0xFFFF, .endP 3, .ffence 3 1],
      ready c running) ∧
    (running.tagsIdle progTags = true ∧ running.launch = none) ∧
    (ready (.waitt 3 1 1) (busyTag 0) ∧ ready (.endP 3) (busyTag 0) ∧ (busyTag 0).tagsIdle 1 = false ∧ (busyTag 0).tagsIdle progTags = false) ∧
    (ready (.waitt 3 1 12) y ∧ y.tagsIdle 12 = true ∧ bit 12 2 = true ∧ (y.tag 2).status ≠ 0 ∧ (∀ h < 2, bit 12 h = true → (y.tag h).status = 0)) ∧
    (ready (.endP 3) l ∧ l.launch = some launch0 ∧ launch0.passes.length ≤ 1) := by decide +kernel
/-- A word with an unlisted CLASS, one with a reserved bit set, and a pc past the end of tile SRAM. -/
theorem witness_TileStops :
    (∀ w ∈ [0xF000000000000000, 0x0000000000000001, 0x0FF0000000000000], let x := running.wr 0 (leBytes 8 w)
      (tileS x).issues 3 ∧ (tileS x).blk.fetched 3 = none) ∧
    (tileS running).live ∧ running.seq = .run ∧ running.wait = none ∧ sramSize ≤ ({ running with pc := sramSize } : Tile).pc ∧
    running.launch = none := by decide +kernel
def xferDone : Xfer := { xfer0 (.tag 3 0) .read with id := 4, phase := .done }
/-- Addresses that a piece may not have, a length of 0, a transfer, a misaligned and an aligned walk descriptor, a gather of no record, and a
transfer that ended. -/
theorem witness_TileTransfers :
    let z (a n : W64) := (running.setS 1 a).setS 2 n
    let s (a n : W64) := tileS (z a n)
    let b := { upB with xfers := [xferDone] }
    (∀ c ∈ [Instr.drd 3 1 0 2 12 0, .dwr 3 1 0 2 12 0, .dgather 3 1 0 2 12 0, .dscatter 3 1 0 2 12 0, .dwalk 3 1 0 2 12 0], ready c (z 1 128)) ∧
    (12 ≤ (12 : BitVec 4).toNat ∧ (11 : BitVec 4).toNat < 12) ∧
    (∀ c ∈ [Instr.drd 3 1 0 2 11 0, .dwr 3 1 0 2 11 0], ready c (z 1 128) ∧ ready c (z 0 0) ∧ ready c (z 128 128)) ∧
    ((s 1 128).blk.sramFree 3 0 128 ∧ pieceStatus { addr := 1, len := 128, sram := 0 } = 4) ∧
    ((s 0 0).blk.sramFree 3 0 0) ∧
    ((s 128 128).blk.sramFree 3 0 128 ∧ pieceStatus { addr := 128, len := 128, sram := 0 } = 0) ∧
    (ready (.dwalk 3 1 0 2 0 0) (z 16 0) ∧ 16 % 32 ≠ 0 ∧ ready (.dwalk 3 1 0 2 0 0) (z 32 0) ∧ (s 32 0).blk.resolve 32 32 = some (.here 32)) ∧
    (ready (.dgather 3 1 0 2 0 0) (z 0 0) ∧ ready (.dscatter 3 1 0 2 0 0) (z 0 0) ∧ (s 0 0).blk.sramFree 3 0 16 ∧ (running.records 0 0) = []) ∧
    ready (.ffence 3 1) running ∧
    (b.xfers.find? (fun y => decide (y.owner = .tag 3 0) && decide (y.phase = .done)) = some xferDone) := by decide +kernel
theorem witness_TagRecordsFirstStatus : (4 : Nat) < 16 ∧ (15 : Nat) < 16 ∧ (4 : Nat) ≠ 0 := by decide

/-! The Score and the service of tiles. -/

def score0 : Score := { entries := [], arriving := [], held := [], lastRead := 0, fired := [], head := none }
def arrives : Arriving := { e := entry0, sender := .serving, since := 0 }
def due0 (e : ScoreEntry) : SEntry := { e := e, order := 0 }
def tileOn : Block := (tileB tileReset).modHdr (pgTile 3) (fun h => { h with st := .run, enable := true })
/-- An entry that a tile accepts, one that waits before a full Score, and pushes past the end, to no Score, to a Score here and to another slot. -/
theorem witness_ScoreTakesEntries :
    let b := tileOn.setScore 3 { score0 with arriving := [arrives] }
    let bake := ({ tileOn with now := 1000 } : Block).setBake 0 { bakeNone with active := true }
    let full := bake.setScore 3 { score0 with arriving := [arrives], entries := List.replicate (scoreCap 3) (due0 entry0) }
    let push : Instr := .scpush 3 3 1 0 0
    let x (e : ScoreEntry) := (withRegs 64 0).wr 64 (leBytes 8 e.launch ++ leBytes 4 e.action ++ leBytes 4 e.target ++ leBytes 8 e.desc)
    (isScoreIsland 3 = true ∧ (b.score 3).arriving = [arrives] ∧ (b.acceptStatus 3 entry0).isSome = true) ∧
    ((full.score 3).arriving = [arrives] ∧ full.acceptStatus 3 entry0 = none ∧ arrives.since + 1000 ≤ full.now) ∧
    ((tileOn.score 3).arriving = [] ∧ (tileOn.score 3).held = [] ∧ (tileOn.acceptStatus 3 entry0).isSome = true) ∧
    (ready push (withRegs 0x3FFFE1 0) ∧ sramSize < 0x3FFFE1 + 32) ∧
    (ready push (x { entry0 with target := 400 }) ∧ isScoreIsland ((x { entry0 with target := 400 }).entryAt 64).island = false ∧
      64 + 32 ≤ sramSize ∧ (tileB (x { entry0 with target := 400 })).sramFree 3 64 32) ∧
    (ready push (x entry0) ∧ isScoreIsland ((x entry0).entryAt 64).island = true ∧ ((x entry0).entryAt 64).isRemote = false) ∧
    (ready push (x { entry0 with target := 0x8203 }) ∧ isScoreIsland ((x { entry0 with target := 0x8203 }).entryAt 64).island = true ∧
      ((x { entry0 with target := 0x8203 }).entryAt 64).isRemote = true ∧ ((x { entry0 with target := 0x8203 }).entryAt 64).slot ≠ tileOn.slotId) := by
  decide +kernel
/-- A due entry that is bad, one whose barrier failed, a program start before a running sequencer, and one that fires. -/
theorem witness_ScoreFiresDueEntry :
    let b (e : ScoreEntry) (q : SeqState) := (upB.setTile 3 { tileReset with seq := q }).setScore 3 { score0 with entries := [due0 e] }
    let bad := { entry0 with action := 0xFF }
    let waits := { entry0 with action := 0x4, barw := 0x2A1 }
    let f := (b waits .idle).setBar 0 0x2A1 { expect := 1, rack := false, arrivals := 0, doneFrom := 0, localDone := false, st := .failed 1 }
    ((b bad .idle).nextDue 3 = some (due0 bad) ∧ badEntry 3 bad = true) ∧
    (badEntry 3 waits = false ∧ waits.waitBar ≠ 0 ∧ f.barFailed 0 0x2A1 ≠ 0 ∧ waits.code ≠ 1) ∧
    ((b entry0 .run).nextDue 3 = some (due0 entry0) ∧ badEntry 3 entry0 = false ∧ entry0.code = 1) ∧
    ((b entry0 .idle).nextDue 3 = some (due0 entry0) ∧ entry0.waitBar = 0 ∧ ((b entry0 .idle).tile 3).seq = .idle) := by decide
theorem witness_FiredActionsRun :
    let e (c d : Nat) : ScoreEntry := { entry0 with action := c, desc := d }
    let b (i c d : Nat) := upB.setScore i { score0 with fired := [e c d] }
    (((b 3 2 0).takeFired 3 2).isSome = true ∧ ((b 3 4 0).takeFired 3 4).isSome = true ∧ ((b 3 3 1).takeFired 3 3).isSome = true ∧ 1 % 32 ≠ 0 ∧
      ((b 3 3 32).takeFired 3 3).isSome = true) ∧
    (((b 344 0x20 0).takeFired (344 + 0) 0x20).isSome = true ∧ ((b 344 0x21 0).takeFired (344 + 0) 0x21).isSome = true) ∧
    (((b 360 0x10 1).takeFired (360 + 0) 0x10).isSome = true ∧ ((b 360 0x11 1).takeFired (360 + 0) 0x11).isSome = true ∧
      ((b 395 0x10 32).takeFired (360 + 35) 0x10).isSome = true) ∧
    (((b 3 1 0).takeFired 3 1).isSome = true ∧ ((b 3 1 0).tile 3).seq ≠ .run ∧ ((b 3 1 0).tile 3).seq ≠ .retired ∧
      ((b 3 1 0).tile 3).retireReady = false) ∧
    ({ upB with shifts := [(3, 0, 0, 0, 5)] } : Block).shifts.find? (fun c => decide (c.1 = 3)) = some (3, 0, 0, 0, 5) := by decide
/-- A rise that goes on and one that ends, a tile that retires, a request from the host, and Knock runs that start, end and are overdue. -/
theorem witness_TileServiceCommands :
    let p := pgTile 3
    let rise (k : Nat) := ((up ((upB.setTile 3 { tileReset with rampAt := some 0 }).put p F.TIL_ISSUE.RAMP_LEVEL k)).withBlk
      { ((upB.setTile 3 { tileReset with rampAt := some 0 }).put p F.TIL_ISSUE.RAMP_LEVEL k) with now := 1000000 }).blk
    let gone : Tile := { tileReset with retireDue := retireNowBit ||| 16 }
    let late := { (tileB tileReset).put pgFlt F.FLT_KNOCK.KNOCK_EN 1 with now := 2 ^ 60 }
    let knock : Tile := { tileReset with seq := .knock }
    (((rise 14).tile 3).rampAt = some 0 ∧ 16 * 0 + 14 * (rise 14).rampTime ≤ 16 * (rise 14).now ∧ (rise 14).eff p F.TIL_ISSUE.RAMP_LEVEL < 15) ∧
    (16 * 0 + 15 * (rise 15).rampTime ≤ 16 * (rise 15).now ∧ 15 ≤ (rise 15).eff p F.TIL_ISSUE.RAMP_LEVEL) ∧
    (gone.seq ≠ .retired ∧ gone.retireNow = true ∧ gone.retireReady = true ∧ bit gone.retireDue 4 = true) ∧
    ((up (tileB tileReset)).reaches p .host ∧ ((tileB tileReset).tile 3).seq ≠ .retired) ∧
    (late.flt F.FLT_KNOCK.KNOCK_EN ≠ 0 ∧ late.safe = false ∧ late.asleep = false ∧ late.upd.alive = none ∧ (late.tile 3).seq = .idle ∧
      late.knockDue 3 = true ∧ late.enabled p = false) ∧
    (knock.seq = .knock ∧ knock.knockSince + 18000 ≤ late.now) ∧
    (SMap.find late.fcol.overdue 3 = none ∧ late.knockAge 3 (late.flt F.FLT_KNOCK_GAP.KNOCK_MAX) = true) := by decide
theorem witness_knock_room :
    let late := { (tileB tileReset).put pgFlt F.FLT_KNOCK.KNOCK_EN 1 with now := 2 ^ 60 }
    ((List.range 288).filter (fun i => decide ((late.tile i).seq = .knock))).length < late.flt F.FLT_KNOCK.KNOCK_CONC := by decide +kernel

/-! Registers and block states. -/

/-- A staged field in OFF and in RUN, an expert field without expert mode, an immediate field; values at the ends of the ranges. -/
theorem witness_RegisterWritesFields :
    let ok (p w : Nat) (f : Field) (v : Nat) := upB.valueOk p f 0 (4 * w) (upB.afterWord p (4 * w) v f 0) (upB.afterWord p (4 * w) v) .host
    let only (p w : Nat) (f : Field) := (fieldsAt p (4 * w)).filter (fun x => decide (x.1.acc ≠ .ro)) = [(f, 0)] ∧ f.acc = .rw
    ((up upB).reaches 0x10 .host ∧ only 0x10 18 F.SRV_POLL.IDLE_POLL ∧ upB.takes 0x10 F.SRV_POLL.IDLE_POLL = true ∧
      ok 0x10 18 F.SRV_POLL.IDLE_POLL 1 = true ∧ ok 0x10 18 F.SRV_POLL.IDLE_POLL 1000 = true ∧ ok 0x10 18 F.SRV_POLL.IDLE_POLL 1001 = false) ∧
    ((up upB).reaches pgTbs .host ∧ only pgTbs 24 F.TBS_STEP.ANNOUNCE_LEAD ∧ upB.takes pgTbs F.TBS_STEP.ANNOUNCE_LEAD = false) ∧
    (only 0x10 257 F.SRV_X_DRAFT.DRAFT_IDLE ∧ upB.takes 0x10 F.SRV_X_DRAFT.DRAFT_IDLE = false) ∧
    ((up upB).reaches pgGfab .i3c ∧ only pgGfab 20 F.FAB_KEY_IDX.TENANT ∧ ok pgGfab 20 F.FAB_KEY_IDX.TENANT 4095 = true ∧
      (upB.trigger pgGfab F.FAB_KEY_IDX.TENANT 0 4095 .i3c).isNone = true) := by decide +kernel
theorem witness_StagedFieldsReadByState : F.SRV_POLL.IDLE_POLL.kind ≠ .imm ∧ F.SRV_X_DRAFT.DRAFT_IDLE.kind ≠ .imm ∧ 1000 < 2 ^ F.SRV_POLL.IDLE_POLL.width ∧
    (upB.hdr 0x20).st = .run ∧ (upB.hdr 0x21).st = .off ∧ pageKind 0x21 ≠ .srv ∧ F.SRV_X_DRAFT.DRAFT_IDLE.key 0 ≠ F.SRV_POLL.IDLE_POLL.key 0 := by decide
def withHdr (p : Nat) (f : Header → Header) : Block := upB.modHdr p f
theorem witness_KeyArmsAndIsConsumed : (up upB).reaches 8 .host ∧ pageKind 8 ≠ .reserved ∧ (0x00014B4E : BitVec 32).toNat % 2 ^ 16 = 0x4B4E ∧
    (0x4B4F : BitVec 32).toNat % 2 ^ 16 ≠ 0x4B4E ∧ bit 0x11 0 = (upB.hdr 8).enable ∧ bit 0x11 2 = false := by decide
theorem witness_ExpertModeChanges :
    let armed := withHdr 8 (fun h => { h with keyArmed := true })
    let on (st : HState) := withHdr 8 (fun h => { h with expertActive := true, expertBit := true, st := st })
    ((up armed).reaches 8 .host ∧ (armed.hdr 8).expertActive = false ∧ (armed.hdr 8).keyArmed = true) ∧
    ((upB.hdr 8).expertActive = false ∧ (upB.hdr 8).keyArmed = false) ∧
    (((on .off).hdr 8).expertActive = true ∧ ((on .off).hdr 8).st = .off) ∧
    (((on .quiesced).hdr 8).st = .quiesced ∧ ((on .quiesced).hdr 8).commitPending = false) ∧
    (((on .run).hdr 8).st = .run ∧ ((on .quiescing).hdr 8).st = .quiescing) := by decide
/-- The states of the KVM block, of a slice and of a page whose block has no staged fields. -/
theorem witness_BlockStateChanges :
    let at' (p : Nat) (st : HState) := withHdr p (fun h => { h with st := st, enable := decide (st ≠ .off) })
    let waits := { withHdr 0x80 (fun h => { h with st := .quiesced, enable := true, commitPending := true }) with now := 10000 }
    ((up (at' 0x21 .off)).reaches 0x21 .host ∧ pageKind 0x21 ≠ .reserved ∧ pageKind 0x21 ≠ .srv ∧ ((at' 0x21 .off).hdr 0x21).expertActive = false ∧
      ((at' 0x21 .off).hdr 0x21).expertBit = false ∧ ((at' 0x21 .off).hdr 0x21).enable = false ∧ (at' 0x21 .off).upd.held.contains 0x21 = false) ∧
    (((at' 0x80 .quiesced).hdr 0x80).st = .quiesced ∧ enableFixed (pageKind 0x80) = false ∧ pageKind 0x80 ≠ .til ∧ isStaged (pageKind 0x80) = true) ∧
    (((at' 0x80 .run).hdr 0x80).st = .run ∧ ((at' 0x80 .quiescing).hdr 0x80).st = .quiescing) ∧
    (isStaged (pageKind pgBoot) = false ∧ ((at' pgBoot .quiesced).hdr pgBoot).st = .quiesced) ∧
    (((at' 0x80 .quiescing).hdr 0x80).quiesceAt + 10000 ≤ waits.now ∧ (waits.hdr 0x80).commitPending = true) ∧
    waits.scores = [] := by decide
theorem witness_no_bake_runs : ∀ k, upB.bakeRuns k = false := fun _ => rfl
theorem witness_InterruptLatchAndClear :
    let b := withHdr 8 (fun h => { h with isr := 6, ier := 7 })
    let c := withHdr 8 (fun h => { h with isr := 0, ier := 1 })
    (31 : Nat) < 32 ∧ 2 ^ 32 - 1 < (2 : Nat) ^ 32 ∧ (b.hdr 8).isr < 2 ^ 32 ∧ ((b.isrClear 8 6).hdr 8).isr &&& (b.hdr 8).ier = 0 ∧
    ((b.isrClear 8 2).hdr 8).isr &&& (b.hdr 8).ier ≠ 0 ∧ (c.hdr 8).isr &&& (c.hdr 8).ier = 0 ∧ bit (c.hdr 8).ier 0 = true ∧
    (b.hdr 8).isr &&& (b.hdr 8).ier ≠ 0 ∧ bit (c.hdr 8).ier 1 = false := by decide
/-- A crossing that filled just now, and one that was full since tick 0. -/
theorem witness_HungCrossingReports :
    let late : Block := { upB with now := 2 ^ 40 }
    (up late).live ∧ late.stalled 3 288 (2 ^ 40) = false ∧ crossings 3 288 ≠ [] ∧
    (0 : BitVec 64).toNat + late.eff pgDev F.DEV_HS_STALL.HS_STALL_LIMIT * 1000 ≤ late.now ∧ (late.score 288).lastRead ≤ (0 : BitVec 64).toNat ∧
    bit (late.eff pgDev F.DEV_ISL_HUNG.HUNG (288 / 32)) (288 % 32) = false := by decide

/-! The timebase, barriers and votes. -/

def linkB : Block := upB.enterLink 0 lsUP
def syncB (st : Nat) : Block := { linkB.put pgTbs F.TBS_STATUS.SYNC st with now := 2 ^ 40 }
/-- A link that is UP, each state of the timebase, a master that is followed, an election with and without candidates, and timeouts. -/
theorem witness_TimebaseFollows :
    let acq := (syncB 1).takeMaster 5
    let el (own : Bool) (hs : SMap Heard) : Block := { syncB 0 with tbmEn := own, tb := { (syncB 0).tb with trainedAt := some 0, heard := hs } }
    let h5 : Heard := { at_ := 0, tbmEn := true, isMaster := false, sync := 0, partEn := 0, partActive := 0, off := 0 }
    let m5 : Heard := { h5 with at_ := 2 ^ 40, isMaster := true }
    let masters (b : Block) := (b.tb.heard.filter (fun h => h.2.isMaster && b.stillHeard h.2)).map Prod.fst
    let cands (b : Block) := if masters b ≠ [] then masters b else
      (if b.tbmEn then [b.slotId] else []) ++ (b.tb.heard.filter (fun h => h.2.tbmEn)).map Prod.fst
    (linkB.linkUp 0 = true ∧ (syncB 0).sync = 0 ∧ (syncB 1).sync = 1 ∧ (syncB 2).sync = 2) ∧
    ((syncB 1).follows 0 set0 = none ∧ acq.follows 0 set0 = some 1 ∧ acq.sync = 1 ∧ acq.follows 1 { set0 with isMaster := false } = none ∧
      acq.eff pgTbs F.TBS_STATUS.MASTER_SLOT = 5 ∧ (4 : Nat) < 5) ∧
    ((el false []).tb.trainedAt = some 0 ∧ (el false []).tb.elected = false ∧ 0 + 100000000 ≤ (el false []).now ∧ cands (el false []) = []) ∧
    (0 ∈ cands (el true [(5, h5)]) ∧ (∀ c ∈ cands (el true [(5, h5)]), 0 ≤ c) ∧ (el true []).slotId = 0) ∧
    (5 ∈ cands (el false [(5, h5)]) ∧ (∀ c ∈ cands (el false [(5, h5)]), 5 ≤ c) ∧ (5 : Nat) ≠ 0) ∧
    (cands (el true [(5, m5)]) = [5]) ∧
    ((syncB 2).tb.lastSet + (syncB 2).eff pgTbs F.TBS_CFG.MASTER_LOSS * 1000 ≤ (syncB 2).now ∧ ((syncB 2).enterSync 3).claims = false ∧
      (({ syncB 2 with tbmEn := true } : Block).enterSync 3).claims = true) ∧
    ((syncB 3).sync = 3 ∧ (syncB 3).tb.since + (syncB 3).eff pgTbs F.TBS_CFG.HOLDOVER_MAX * 1000000 ≤ (syncB 3).now) := by decide
theorem witness_TimebaseReference :
    let own (st al rd : Nat) : Block := { (((syncB st).putCmt pgTbs F.TBS_CFG.PPS_EN 1).putCmt pgTbs F.TBS_CFG.PPS_ALIGN al).put pgBoot F.BOOT_STAT.READY rd with
      tbmEn := true }
    let miss : Block := { own 4 0 1 with tb := { (own 4 0 1).tb with lastPps := some 0 } }
    let ext := ((own 4 0 1).putCmt pgTbs F.TBS_CFG.EXT_REF_EN 1).put pgTbs F.TBS_STATUS.REF_OK 1
    let act : Heard := { at_ := 2 ^ 40, tbmEn := false, isMaster := false, sync := 2, partEn := 1, partActive := 1, off := 0 }
    let ann : Block := { own 4 0 1 with tb := { (own 4 0 1).tb with heard := [(5, act)] } }
    let aligned : Block := { own 0 1 1 with tb := { (own 0 1 1).tb with ppsAligned := true } }
    ((own 0 0 1).usesRef = true ∧ (own 0 0 1).eff pgTbs F.TBS_CFG.PPS_EN = 1 ∧ (own 0 0 1).eff pgTbs F.TBS_CFG.PPS_ALIGN = 0) ∧
    ((own 0 1 1).usesRef = true ∧ (own 0 1 1).eff pgTbs F.TBS_CFG.PPS_ALIGN = 1 ∧ (own 0 1 1).sync = 0 ∧ (own 0 1 1).tb.ppsAligned = false ∧
      aligned.tb.ppsAligned = true) ∧
    ((own 4 1 0).sync = 4 ∧ (own 4 1 0).isReady = false ∧ (own 4 1 1).isReady = true ∧ (own 4 1 1).usesRef = true) ∧
    (miss.tb.lastPps.getD 0 = 0 ∧ (own 4 0 1).tb.lastPps.getD 0 = 0 ∧ miss.usesRef = true ∧ miss.tb.ppsMissed = false ∧ 0 + 1100000000 < miss.now) ∧
    (ext.usesRef = true ∧ ext.eff pgTbs F.TBS_CFG.EXT_REF_EN = 1 ∧ ext.eff pgTbs F.TBS_STATUS.REF_OK = 1) ∧
    (ann.sync = 4 ∧ ann.safe = false ∧ ann.stepDue 0 = false ∧ bit act.partEn 0 = true ∧ bit act.partActive 0 = true ∧
      ann.stillHeard act = true) ∧
    ((up upB).hears ctrl0 ckSTEP_ANNOUNCE (stepBody 0 1 5) ∧ SMap.get 0 upB.tb.lastBakeNo 0 < 1 ∧ 0 ≤ SMap.get 0 upB.tb.lastBakeNo 0) := by decide
def lay0 : LayerRec := { voteOff := 0, closeOff := 0, insertOff := 10, roundTicks := 5 }
def bakeB (x : Bake) : Block := upB.setBake 0 { x with active := true }
def bar0 : Bar := { expect := 1, rack := true, arrivals := 0, doneFrom := 0, localDone := true, st := .opened }
/-- Messages of a stale bake and of the current one, complete and not, releases, timeouts, pushes, votes and their close. -/
theorem witness_BarriersAndVotes :
    let b (x : Bar) := (bakeB bakeNone).setBar 0 1 x
    let r := (upB.setBar 0 1 { bar0 with st := .completed 0 })
    let t := ({ b bar0 with now := 2 ^ 60 } : Block).setTile 3 { running with wait := some (.barw 1 0 0) }
    let item : PlanItem := { island := 3, record := 0, round := none, base := 0 }
    let plan : MoePlan := { rec128 := [], rlim := 0, members := 1, bakeNo := 0, hist := [], failed := false, countAt := 0 }
    let v := { bakeB { bakeNone with layers := [lay0] } with plans := [(planKey 0 0, plan)] }
    let wv := upB.setBake 0 { bakeNone with watched := true, layers := [lay0] }
    let body (tag : Nat) := barDoneBody 0 tag 1 false
    ((up (b bar0)).hears ctrl0 ckBAR_DONE (body 1) ∧ (b bar0).tagCurrent 0 1 = false ∧ (b bar0).tagCurrent 0 0 = true ∧ ((b bar0).bar 0 1).st = .opened) ∧
    ((b bar0).allDone 0 { bar0 with doneFrom := 32 } = true ∧ ((bakeB { bakeNone with members := 2 }).setBar 0 1 bar0).allDone 0 bar0 = false) ∧
    ((r.bar 0 1).st = .completed 0 ∧ 0 ≤ r.tb.replica) ∧ ((t.bar 0 1).st = .opened ∧ t.barTimedOut 0 1 = true) ∧
    (((bakeB { bakeNone with pushQ := [item] }).bake 0).pushQ.filter (fun c => !(bakeB { bakeNone with pushQ := [item] }).scoreFull c.island) = [] ++ item :: []) ∧
    ((v.bake 0).active = true ∧ 0 < (v.bake 0).layers.length ∧ SMap.get false (v.bake 0).voteSent 0 = false ∧ SMap.find (v.bake 0).rounds 0 = none ∧
      v.plan? 0 (v.plcLayerOf 0 0) = some plan ∧ (v.bake 0).start + lay0.voteOff + (v.bake 0).shift lay0.voteOff ≤ v.now ∧
      (v.bake 0).start + lay0.closeOff + (v.bake 0).shift lay0.closeOff ≤ v.now) ∧
    ((wv.bake 0).active = false ∧ (wv.bake 0).watched = true ∧ 0 < (wv.bake 0).layers.length ∧ SMap.find (wv.bake 0).rounds 0 = none ∧
      (wv.bake 0).start + lay0.closeOff + (wv.bake 0).shift lay0.closeOff ≤ wv.now) ∧
    ((up wv).hears ctrl0 ckVOTE (leBytes 1 0 ++ leBytes 8 0 ++ leBytes 2 0 ++ leBytes 1 1)) ∧
    ((up v).hears ctrl0 ckVOTE (leBytes 1 0 ++ leBytes 8 0 ++ leBytes 2 0 ++ leBytes 1 1)) := by decide

/-! Steps and serving, frames, slices and channel groups. -/

def partB (f : Block → Block) : Block := (f upB).modHdr 0x10 (fun h => { h with enable := true, st := .run })
def stepB (safe : Bool) (sync : Nat) (en : Bool) : Block :=
  let b := (if en then partB id else upB).put pgTbs F.TBS_STATUS.SYNC sync
  { b with safe := safe, tb := { b.tb with steps := [(0, { bakeNo := 1, start := 0, announcedAt := 0, due := true })] } }
/-- A start in the safe state, on a disabled or unsynchronised partition, and one that runs; an idle partition, a delivery, a drain, updates. -/
theorem witness_StepsRunInOrder :
    let st : StepAnn := { bakeNo := 1, start := 0, announcedAt := 0, due := true }
    let d := (partB id).setBake 0 { bakeNone with active := true }
    let e := d.setSrv 0 { servNone with delivered := false }
    let stop := (partB id).put 0x10 F.SRV_CFG.ADMIT_STOP 1
    let polled := (partB id).setSrv 0 { servNone with polled := some 0 }
    let body := draftBody 7 5 1 0 2 100
    (SMap.find (stepB true 2 true).rampAuto.tb.steps 0 = some st ∧ st.due = true ∧ st.start ≤ (stepB true 2 true).rampAuto.now ∧
      (stepB true 2 true).rampAuto.safe = true) ∧
    ((stepB false 2 false).rampAuto.enabled (pgPart 0) = false ∧ (stepB false 0 true).rampAuto.synced = false) ∧
    ((stepB false 2 true).rampAuto.enabled (pgPart 0) = true ∧ (stepB false 2 true).rampAuto.synced = true ∧
      ((stepB false 2 true).rampAuto.srv 0).delivered = true ∧ SMap.find (stepB false 2 true).rampAuto.tb.steps 0 = some st) ∧
    (((partB id).srv 0).polled = none ∧ (polled.srv 0).polled = some 0 ∧ polled.now < 0 + polled.sv 0 F.SRV_POLL.IDLE_POLL * 1000) ∧
    ((partB id).enabled (pgPart 0) = true ∧ (partB id).sv 0 F.SRV_STAT.ACTIVE = 0 ∧ (partB id).safe = false) ∧
    ((e.bake 0).active = true ∧ (e.srv 0).delivered = false ∧ e.safe = false ∧ e.enabled (pgPart 0) = true ∧ e.bakeBusy 0 = false) ∧
    (stop.sv 0 F.SRV_CFG.ADMIT_STOP = 1 ∧ (stop.srv 0).drained = false ∧ stop.enabled (pgPart 0) = true ∧ stop.sv 0 F.SRV_STAT.ACTIVE = 0) ∧
    ((up upB).reaches (pgPart 15) .host ∧ (upB.srv 15).tenQ.length < 256) ∧ (up upB).hears ctrl0 ckDRAFT_REQ body := by decide
theorem witness_tenant_queue_full : 256 ≤ ((upB.setSrv 0 { servNone with tenQ := List.replicate 256 1 }).srv 0).tenQ.length := by decide +kernel
def frz (op n : Nat) : FrzRec :=
  { base := 0, frames := n, op := op, flags := 0, tenant := 0, compAddr := 0, tag := 0, badResv := false, priv := true, owner := .doorbell
    writer := 0 }
def frzLocal (op n : Nat) : FrzRec := { frz op n with base := 2 ^ 47 }
def run0 (op : Nat) : FrzRun := { req := frzLocal op 1, first := 0, todo := [0], frames := [0], acks := [3, 37], since := 0, slowSeen := false }
/-- A transfer whose retry is due; a doorbell; each outcome of a request; runs that drain, wait, are slow and are acknowledged. -/
theorem witness_FramesFreezeAndThaw :
    let x : Xfer := { xfer0 (.tag 3 0) .write with id := 4, phase := .retry 0 }
    let q (r : FrzRec) : Block := { upB with frzQueue := [r] }
    let cold : Block := { upB with frames := [(0, frFROZEN)] }
    let runs (op : Nat) (b : Block) : Block := { b with frzRuns := [run0 op] }
    let leased := runs 1 { upB with leases := [(0, 1)], now := 2 ^ 40 }
    (({ upB with xfers := [x] } : Block).xfer? 4 = some x ∧ x.phase = .retry 0) ∧
    ((q (frz 0 0)).frzQueue = frz 0 0 :: [] ∧ (frz 0 0).op = 0 ∧ upB.frzStatus (frz 1 0) ≠ 0 ∧ upB.frzStatus (frz 2 0) ≠ 0 ∧ upB.frzStatus (frz 3 1) ≠ 0) ∧
    (upB.frzStatus (frzLocal 1 1) = 0 ∧ (q (frzLocal 1 1)).frzRuns.length < 16 ∧ (q (frzLocal 1 1)).frzShares (frzLocal 1 1) = false ∧
      ((List.range 1).map (· + (frzLocal 1 1).first)).filter (fun f => decide (upB.frame f = frWRITABLE)) ≠ [] ∧
      ((List.range 1).map (· + (frzLocal 1 1).first)).filter (fun f => decide (cold.frame f = frWRITABLE)) = [] ∧ cold.frzStatus (frzLocal 1 1) = 0) ∧
    (upB.frzStatus (frzLocal 2 1) = 0 ∧ upB.toThaw (frzLocal 2 1) = [] ∧ cold.toThaw (frzLocal 2 1) ≠ [] ∧ cold.frzStatus (frzLocal 2 1) = 0) ∧
    ((runs 1 upB).frzRuns[0]? = some (run0 1) ∧ (run0 1).req.op = 1 ∧ (run0 1).todo.filter (fun f => decide ((runs 1 upB).leaseCount f ≠ 0)) = []) ∧
    (leased.frzRuns[0]? = some (run0 1) ∧ (run0 1).todo.filter (fun f => decide (leased.leaseCount f ≠ 0)) ≠ [] ∧ (run0 1).slowSeen = false ∧
      (run0 1).since + leased.eff pgDev F.DEV_FRZ_CFG.DRAIN_WARN * 1000 < leased.now) ∧
    ((runs 2 upB).frzRuns[0]? = some (run0 2) ∧ (run0 2).req.op = 2 ∧ 3 ∈ (run0 2).acks ∧ 32 + 5 ∈ (run0 2).acks ∧
      (run0 2).acks.filter (fun n => decide (n ≠ 3)) ≠ []) ∧
    ({ run0 2 with acks := [3] } : FrzRun).acks.filter (fun n => decide (n ≠ 3)) = [] := by decide
def fill0 : Fill := { slice := 0, line := 0, part := 0, pin := false, readTick := 0, data := [] }
theorem witness_MemoryIsRepaired :
    let f : Block := { upB with fills := [fill0] }
    let stale : Block := { f with safe := true }
    let st (x : Group) : Block := { upB.setGroup 31 x with stepTick := some 0 }
    let warm (x : Group) : Block := ((st x).put (pgMem 15) F.MEM_TEMP.TEMP 85).put (pgMem 15) F.MEM_TEMP.MR4_RATE 3
    let tr := upB.put (pgMem 15) F.MEM_GRP_STATUS.RETRAINING 2
    (f.fills.find? (fun f => decide (f.slice = 0)) = some fill0 ∧ f.islandOpen (312 + 0) = true ∧ f.fillOk 0 fill0.line fill0.readTick = true ∧
      stale.fillOk 0 fill0.line fill0.readTick = false) ∧
    ((up upB).reaches (pgSlice 31) .host ∧ (up upB).reaches (pgMem 15) .host) ∧
    (pageKind 0xCF = .mem ∧ upB.retraining (2 * (0xCF - 0xC0) + 15 / 8) = false ∧ pageKind 0x9F = .slc ∧ pageKind 0x123 = .fab ∧ pageKind 0x57 = .clu) ∧
    (SMap.get false upB.poison 0 = false ∧ SMap.get false ({ upB with poison := [(0, true)] } : Block).poison (127 / 128) = true ∧
      (2 : Fin 137).val ≤ 2 ∧ 3 ≤ (3 : Fin 137).val ∧ (4 : Fin 137).val ≤ 4 ∧ 4 < (136 : Fin 137).val) ∧
    (upB.standing (pgMem 15) [(F.MEM_RETRAIN.RETRAIN_PERIOD, 0), (F.MEM_RETRAIN.RETRAIN_DTEMP, 0)]) ∧
    ((st { groupNew with retrainDue := true }).atStep = true ∧ upB.atStep = false ∧ (warm { groupNew with retrainDue := true }).retrainIsDue 31 = true ∧
      (st groupNew).groupRetired 31 = false) ∧
    (tr.retraining 31 = true ∧ ((st { groupNew with retireDue := true }).group 31).retireDue = true) := by decide
theorem witness_no_group_retrains : ∀ j : Fin 32, upB.retraining j = false := by decide

/-! KV pools, expert placement and models. -/

/-- A table of one layer and one expert, held at slot 0. -/
def plcBytes : List Byte := [1, 0, 0, 0] ++ leBytes 4 5 ++ leBytes 2 1 ++ leBytes 2 1 ++ List.replicate 52 0 ++ List.replicate 16 0 ++ [1] ++ List.replicate 15 0
def seqB (held frozen page : Nat) : Block :=
  let b := { upB with pools := [(0, { pool0 with part := 0 })] }
  let b1 := b.store (b.seqOff 3) (leBytes 4 0 ++ leBytes 4 held ++ [0, 1] ++ leBytes 2 0 ++ leBytes 4 frozen)
  { b1.store (b1.plOff 3 1) (leBytes 4 page) with frzDone := [(.kvPage 3 1 9, 0)] }
def countWin : Window :=
  { src := 0, key := 0, cls := 1, addr := 0, len := 0, parts := [], total := none, whole := true, expect := 0
    moe := { skind := 1, lrec := 0, layer := 0, round := 0 } }
theorem witness_PoolsAndPlacement :
    let kvm (b : Block) : Block := b.modHdr pgKvm (fun h => { h with enable := true, st := .run })
    let ini : Block := kvm { upB.setPoolState 0 poINIT with frzDone := [(.poolInit 0, 0)] }
    let thaw (st : Nat) : Block := kvm { upB with frzDone := [(.kvThaw 0 7, st)] }
    let arm := upB.put pgMoe F.MOE_PCTL.ARM 1 15
    let cw : Block := { upB with windows := [countWin] }
    (upB.kvmWorks = false ∧ ini.kvmWorks = true ∧ (thaw 0).kvmWorks = true ∧ (kvm (seqB 2 1 9)).kvmWorks = true) ∧
    (ini.poolState 0 = poINIT ∧ ini.takeDone (.poolInit 0) = some 0) ∧
    ((thaw 0).takeDone (.kvThaw 0 7) = some 0 ∧ (thaw 1).takeDone (.kvThaw 0 7) = some 1) ∧
    ((kvm (seqB 2 1 9)).takeDone (.kvPage 3 1 9) = some 0 ∧ (kvm (seqB 2 1 9)).seqRec 3 = (seqB 2 1 9).seqRec 3 ∧ ((seqB 2 1 9).seqRec 3).valid = true ∧ 1 < ((seqB 2 1 9).seqRec 3).held ∧
      (seqB 2 1 9).plEntry 3 1 = 9 ∧ ((seqB 2 1 9).seqRec 3).frozen = 1 ∧ ((seqB 1 1 9).seqRec 3).held ≤ 1) ∧
    ((up upB).reaches pgKvm .host ∧ upB.takes pgKvm F.KVM_PFX_CFG.CLEAR = true ∧
      upB.standing pgKvm [(F.KVM_PFX_CFG.PREFIX_EN, 15), (F.KVM_PFX_CFG.VERIFY, 15), (F.KVM_PFX_CFG.BLOCK_LOG2, 15)] ∧
      (upB.modHdr pgKvm (fun h => { h with st := .run })).takes pgKvm F.KVM_PFX_CFG.CLEAR = false) ∧
    ((up upB).reaches pgMoe .host ∧ upB.standing pgMoe [(F.MOE_PCTL.OVERFLOW_ROUNDS_MAX, 15)] ∧ upB.eff pgBoot F.BOOT_STAT.READY ≠ 0 ∧
      (upB.put pgBoot F.BOOT_STAT.READY 0).eff pgBoot F.BOOT_STAT.READY = 0 ∧ arm.eff pgMoe F.MOE_PCTL.ARM 15 = 1 ∧ upB.eff pgMoe F.MOE_PCTL.ARM 15 ≠ 1) ∧
    (arm.eff pgMoe F.MOE_PCTL.CHECKED 15 ≠ 1 ∧ arm.safe = false ∧ arm.runs pgMoe = true ∧ arm.plcOk 15 (arm.eff pgMoe F.MOE_PLC_NEXT.PLC_NEXT 15 % 2 ^ 41) = false) ∧
    (cw.plan? 0 0 = none ∧ cw.countWindows 0 0 = countWin :: [] ∧ cw.safe = false ∧ cw.runs pgMoe = true ∧ cw.countComplete 0 0 = true ∧
      cw.routes? 0 (List.replicate 128 0) = false) := by decide +kernel
theorem witness_placement_table :
    let b := (upB.put pgMoe F.MOE_PCTL.ARM 1 0).store 0 plcBytes
    let c := b.put pgMoe F.MOE_EPOCH.EPOCH 4 0
    b.plcOk 0 (b.eff pgMoe F.MOE_PLC_NEXT.PLC_NEXT 0 % 2 ^ 41) = true ∧ b.epoch 0 = 0 ∧ c.plcOk 0 0 = true ∧ c.epoch 0 ≠ 0 ∧
    c.routes? 0 (List.replicate 128 0) = true := by decide +kernel
theorem witness_ModelsAreManaged :
    let b (st : Nat) := upB.setBrd 255 { breadNone with st := st, part := 15, job := 4 }
    (upB.localOff (upB.sv 15 F.SRV_BB_DESC.DESC) = some 0 ∧ upB.usable 0 128 = true ∧ upB.poisoned 0 128 = false) ∧
    ((up upB).reaches (pgPart 15) .host ∧ (upB.brd 255).st = bbEMPTY ∧ ((b bbWARM).brd 255).st = bbWARM ∧ ((b bbWARM).brd 255).part = 15 ∧
      (b bbWARM).bbUsers 255 = 0 ∧ ((b bbHOT).brd 255).st = bbHOT ∧ (b bbHOT).bbUsers 255 = 0 ∧ ((b bbHOT).brd 255).st ≠ bbWARM) ∧
    (((b bbCHECKING).brd 255).st = bbCHECKING ∧ (b bbCHECKING).residency 15 [] ≠ 0) ∧
    (((b bbPROMOTING).brd 255).st = bbPROMOTING ∧ ((b bbDEMOTING).brd 255).st = bbDEMOTING ∧ ((b bbFREEING).brd 255).st = bbFREEING ∧
      (∀ e ∈ (b bbPROMOTING).acts, e.id ≠ ((b bbPROMOTING).brd 255).job)) := by decide

/-! Links and the fabric. -/

/-- Every lane of a rack link has read its peer's LANE, in order. -/
def lanesRead : SMap Nat := (List.range 8).map (fun i => (i, i))
def lnk (n st : Nat) (x : LinkX) : Block := (upB.setLk n F.FAB_LSTAT.LSTATE st).setLink n x
/-- Each state of a link, and each IDENT set: a refusal, a loop, a slot seen twice, an unexpected peer and the expected one. -/
theorem witness_LinksComeUp :
    let up2 := ((lnk 0 lsIDENT linkReset).setLk 62 F.FAB_LSTAT.LSTATE lsUP).setLk 62 F.FAB_LSTAT.PEER_VALID 1
    let dup := (up2.setLk 62 F.FAB_LSTAT.PEER_SLOT 1).setLk 62 F.FAB_LPSER.PEER_SERIAL 9
    let read : LinkX := { linkReset with trained := 0xFF, peerGood := 0x0F, order := lanesRead }
    let known := (lnk 0 lsIDENT read).setLk 0 F.FAB_LSTAT.PEER_VALID 1
    ((lnk 0 lsDETECT linkReset).lstate 0 = lsDETECT ∧ (lnk 0 lsDETECT linkReset).lstate 0 ≠ lsTRAIN ∧ linkReset.since + 100000000 ≤ (2 : Nat) ^ 40) ∧
    ((lnk 0 lsTRAIN linkReset).lstate 0 = lsTRAIN ∧ (0 &&& allLanes 0 : Nat) = 0 ∧ (0x80 &&& allLanes 0 : Nat) ≠ 0 ∧ (4 &&& allLanes 62 : Nat) = 0) ∧
    ((lnk 0 lsALIGN linkReset).lstate 0 = lsALIGN ∧ (lnk 0 lsIDENT linkReset).lstate 0 = lsIDENT) ∧
    ({ ident0 with refuse := true } : IdentSet).refuse = true ∧ ({ ident0 with slot := 0 } : IdentSet).slot % 64 = upB.slotId ∧ (1 : Nat) ≠ upB.slotId ∧
    (62 ≠ 0 ∧ dup.knowsPeer 62 = true ∧ dup.peerOf 62 = 1 ∧ dup.lk 62 F.FAB_LPSER.PEER_SERIAL ≠ ident0.serial % 2 ^ 64 ∧ dup.lstate 0 = lsIDENT) ∧
    (expectedPeer upB.slotId 0 = 1 ∧ (2 : Nat) ≠ expectedPeer upB.slotId 0 ∧ expectedPeer upB.slotId 62 = 63) ∧
    (known.lstate 0 = lsIDENT ∧ read.trained.testBit 0 = true ∧ known.knowsPeer 0 = true ∧ chooseGroup 0 (read.usable 0) = some (4, 0x0F)) := by decide
theorem witness_one_link_per_slot : ∀ m : Fin 63, m.val ≠ 0 → (lnk 0 lsIDENT linkReset).knowsPeer m = false := by decide
theorem witness_LinksCarryFlits :
    let x : LinkX := { linkReset with trained := 0xFF, peerGood := 0xFF, order := lanesRead }
    let left (m : Nat) : LinkX := { x with trained := setBits m 7 1 0 }
    let went := (lnk 0 lsUP x).narrowStart 0 (x.usable 0)
    let sent : LinkX := { x with txSeq := 5 }
    let nar : Block := lnk 0 lsNARROW { x with narrowMask := 0x0F, narrowSets := 15 }
    ((lnk 0 lsUP x).linkUp 0 = true ∧ 7 < linkLanes 0 ∧ x.trained.testBit 7 = true ∧
      chooseGroup 0 ((left 0xFF).usable 0) = some (4, 0x0F) ∧ (lnk 0 lsUP x).lstate 0 = lsUP ∧ nar.lstate 0 = lsNARROW) ∧
    (chooseGroup 0 ((left 0x80).usable 0) = none ∧ (lnk 0 lsUP { x with trained := 0x80 }).lstate 0 = lsUP) ∧
    (chooseGroup 0 ((went.link 0).narrowMask &&& 0xF0) ≠ none ∧ chooseGroup 0 ((went.link 0).narrowMask &&& 0) = none) ∧
    ((2 + 1024 - sent.ackSeq) % 1024 ≤ sent.unacked ∧ 0 < (2 + 1024 - sent.ackSeq) % 1024 ∧ sent.unacked < (7 + 1024 - sent.ackSeq) % 1024) ∧
    (nar.linkUp 0 = true ∧ chooseGroup 0 (0x0F &&& 0xF0) = none ∧ chooseGroup 0 (0x0F &&& 0xFF) = some (4, 0x0F) ∧
      (nar.link 0).narrowMask = 0x0F &&& 0x0F ∧ 16 ≤ (nar.link 0).narrowSets + 1 ∧ ¬ (16 ≤ linkReset.narrowSets + 1)) ∧
    ((up upB).reaches (linkPage 62) .host ∧ upB.standing (linkPage 62) [(F.FAB_LCFG.LINK_EN, linkPos 62), (F.FAB_LCFG.STRICT_SLOT, linkPos 62)] ∧
      (lnk 62 lsDOWN x).lstate 62 = lsDOWN ∧ (lnk 62 lsREFUSED { x with dupRefused := true }).lstate 62 = lsREFUSED ∧ x.dupRefused = false) ∧
    (((lnk 0 lsDOWN x).link 0).since + 1000000000 ≤ (2 : Nat) ^ 40 ∧
      ((lnk 0 lsREFUSED x).setLk 0 F.FAB_LSTAT.REFUSED_BY_PEER 1).lk 0 F.FAB_LSTAT.REFUSED_BY_PEER = 1) ∧
    ((1 : BitVec 4) = 1 ∧ (1 : BitVec 8).toNat ≤ 1 ∧ (0 : BitVec 16).toNat = x.rxSeq ∧ (1 : BitVec 16).toNat ≠ x.rxSeq ∧ x.nakSent = false ∧
      2 ≤ (2 : BitVec 8).toNat ∧ ({ x with nakSent := true } : LinkX).nakSent = true) ∧
    ((1023 : BitVec 16).toNat = x.ackSeq ∧ (lnk 0 lsUP { x with replays := 0xFF }).eff (linkPage 0) F.FAB_X_LINK.REPLAY_MAX ≤ 0xFF + 1) := by decide
def atom (addr : Nat) : Packet := { packet0 with type := ptATOM, addr := addr, len := 16, payload := leBytes 8 5 ++ leBytes 8 0 }
/-- The last aligned word that a window serves, a misaligned one, and a tile with its operands at the end of tile SRAM and past it. -/
theorem witness_AtomicOperations :
    let b := upB.freeUnits 0 (atom 8)
    ((up upB).meant 0 (atom 8) ∧ b.safe = false ∧ b.asleep = false ∧ (atom 8).acode < 10 ∧ (atom 8).addr % 8 = 0 ∧ b.usable 8 8 = true ∧
      b.keysOk 0 8 8 true = true ∧ b.frame (8 / 4096) = frWRITABLE ∧ b.leaseFull (8 / 4096) = false ∧ b.memOpen (pgQuad 0) 8 8 = true ∧
      b.poisoned 8 8 = false) ∧
    ((up upB).meant 0 (atom 12) ∧ (atom 12).addr % 8 ≠ 0) ∧
    (∀ c ∈ [Instr.atomAdd (.datom 3 1 2 11 0), .atomAnd (.datom 3 1 2 11 1), .atomOr (.datom 3 1 2 11 2), .atomXor (.datom 3 1 2 11 3),
      .atomSwap (.datom 3 1 2 11 4), .atomCas (.datom 3 1 2 11 5), .atomMaxu (.datom 3 1 2 11 6), .atomMinu (.datom 3 1 2 11 7),
      .atomMaxs (.datom 3 1 2 11 8), .atomMins (.datom 3 1 2 11 9), .atomMins (.datom 3 1 2 11 0x19)], ready c (withRegs 8 0x3FFFF0)) ∧
    ((11 : BitVec 4).toNat < 12 ∧ 16 ≤ (0x19 : BitVec 32).toNat ∧
      (tileS (withRegs 8 0x3FFFF0)).blk.sramFree 3 0x3FFFF0 16 ∧ 0x3FFFF0 + 16 ≤ sramSize ∧ sramSize < 0x3FFFF1 + 16) := by decide +kernel
def req0 (type xfer : Nat) : Req := { pkt := { packet0 with type := type, src := 0, dst := 5 }, xfer := xfer, piece := 0, dead := [] }
def asks (type : Nat) (o : XOwner) (k : XKind) : Block :=
  let x : Xfer := { xfer0 o k with id := 4, phase := .running, outstanding := 1, data := [[]], pieces := [{ addr := 0, len := 8, sram := 0 }] }
  { upB with reqs := [req0 type 4], xfers := [x] }
def safeB : Block := { upB with safe := true }
def restB : Block := upB.put pgPwr F.PWR_REST.REST_STATE restREST
/-- Types that no rule lists, an acknowledgement that is due, requests in each state of the package, leased and not, and the answers. -/
theorem witness_PacketsAreServed :
    let own : AckQ := { count := 3, since := 0, pkt := packet0 }
    let acks : Block := { upB with ackq := [(pathKey 5 0 0, own)], now := 2 ^ 40 }
    let leased (b : Block) : Block := { b with rleases := [(0, { src := 5, tag := 7, frames := [0] })] }
    let p : Packet := { packet0 with payload := [1] }
    let door (n : Nat) : Block := { upB with frzQueue := List.replicate n (frz 0 0) }
    let old31 : Block := upB.put (pgMem 15) F.MEM_GRP_STATUS.GRP_RETIRED 2
    let rd := asks ptRD_REQ (.tag 3 0) .read
    let at' := asks ptATOM (.tag 3 0) (.atomic 0 0 0)
    (packetTypes.contains 0xFF = false ∧ SMap.find acks.ackq (pathKey 5 0 0) = some own ∧ own.since + acks.eff pgGfab F.FAB_X_ACK.ACK_COALESCE ≤ acks.now) ∧
    (∀ b ∈ [upB, safeB, restB, door 225, old31, rd, at'], (up b).meant 0 p) ∧
    (upB.safe = false ∧ upB.asleep = false ∧ safeB.safe = true ∧ restB.safe = false ∧ restB.asleep = true) ∧
    (isDoorbell p.addr 1 = false ∧ isDoorbell doorbell 32 = true ∧ old31.groupRetired 31 = true ∧ upB.groupRetired 31 = false ∧
      256 < (door 256).frzQueue.length + (door 256).frzHeld.length + 32 / 32 ∧ (door 255).frzQueue.length + (door 255).frzHeld.length + 32 / 32 ≤ 256) ∧
    (((framesOf 0 1).find? (fun f => !(upB.leaseOf 5 0).contains f)).isSome = true ∧ (∀ f ∈ framesOf 0 1, f ∈ (leased upB).leaseOf 5 0) ∧
      (∀ f ∈ framesOf 0 1, f ∈ (leased safeB).leaseOf 5 0) ∧ ¬ (∀ f ∈ framesOf 0 1, f ∈ upB.leaseOf 5 0)) ∧
    ((rd.reqOf p) = some (req0 ptRD_REQ 4) ∧ (((rd.dropReq (req0 ptRD_REQ 4)).pieceOver 4 0).xfer? 4).isSome = true ∧
      (((rd.dropReq (req0 ptRD_REQ 4)).pieceOver 4 1).xfer? 4).isSome = true) ∧
    ((at'.reqOf p) = some (req0 ptATOM 4) ∧ (0 : Nat) ≠ stRETRY ∧ (((at'.dropReq (req0 ptATOM 4)).pieceOver 4 0).xfer? 4).isSome = true) := by decide +kernel
def segAct0 : SegAct := { id := 4, island := 360, e := entry0, send := true, moe := noMoe, pieces := [(packet0, none)], waitRead := 0, failed := false }
theorem witness_LeasesAndSegments :
    let p : Packet := { packet0 with len := 1 }
    let held : Block := { upB with rleases := [(0, { src := 5, tag := 7, frames := [0] })] }
    let other : Block := { upB with keys := [], frames := [(0, frFROZEN)] }
    let lr (n : Nat) : Block := { upB with reqs := [req0 ptLEASE_REQ 4], xfers := [{ xfer0 (.tag 3 0) .write with id := 4, outstanding := n }] }
    let sg : Block := { upB with reqs := [req0 ptSEG 4], segs := [segAct0] }
    let fl : Block := { upB with paths := [(pathKey 5 0 0, { pathNew with st := .flushing })] }
    let win : Window := { countWin with src := 5, key := 0 }
    ((∀ b ∈ [upB, safeB, restB, held, other, lr 1, sg, fl], (up b).meant 0 p) ∧ held.leaseFor 5 7 = some 0 ∧ upB.leaseFor 5 7 = none) ∧
    ((upB.writeCheck 0 4096 0 true (pgQuad 0)).2 = stOK ∧ (upB.takeLeases [0]).2 = stOK ∧ (other.takeLeases [0]).2 ≠ stOK ∧
      (upB.writeCheck spaceSize 4096 0 true (pgQuad 0)).2 ≠ stOK) ∧
    (SMap.find held.rleases 0 = some { src := 5, tag := 7, frames := [0] }) ∧
    (((lr 1).reqOf p) = some (req0 ptLEASE_REQ 4) ∧ (((lr 1).dropReq (req0 ptLEASE_REQ 4)).xfer? 4).isSome = true ∧ (1 : Nat) - 1 = 0 ∧ (2 : Nat) - 1 ≠ 0) ∧
    ((fl.path (pathKey 5 0 0)).st = .flushing) ∧
    (upB.windows.find? (fun w => decide (w.src = 5) && decide (w.key = 0)) = none ∧
      ({ upB with windows := [win] } : Block).windows.find? (fun w => decide (w.src = 5) && decide (w.key = 0)) = some win) ∧
    (sg.reqOf p = some (req0 ptSEG 4) ∧ ((sg.dropReq (req0 ptSEG 4)).ackPath (pathKey 5 0 0) 1).seg? 4 = some segAct0 ∧ sg.seg? 4 = some segAct0 ∧
      (0 : Nat) ≠ stNOWIN ∧ stNOWIN ≠ 0) := by decide
theorem witness_RoutesKeysAndTags :
    let old : Block := { upB with now := 2 ^ 50, lastHeard := [(5, 0)] }
    let r := old.putBit pgGfab F.FAB_REACH.REACH 5 true
    let fl : Block := { old with paths := [(pathKey 63 7 3, { pathNew with st := .flushing })] }
    ((up upB).hears ctrl0 ckLINK_STATE (linkStateBytes (List.replicate 64 4) true)) ∧
    ((0 : Fin 64).val = upB.slotId ∧ (63 : Fin 64).val ≠ upB.slotId) ∧
    ((fl.path (pathKey 63 7 3)).st = .flushing ∧ (fl.path (pathKey 63 7 3)).since + fl.eff pgGfab F.FAB_AGE.FENCE_PATH_TIMEOUT * 1000 ≤ fl.now) ∧
    (r.reachable 5 = true ∧ SMap.find r.lastHeard 5 = some 0 ∧ 0 + r.eff pgGfab F.FAB_UNREACH.UNREACH_TIMEOUT * 1000 ≤ r.now) ∧
    ((up upB).reaches pgGfab .host ∧ upB.eff pgGfab F.FAB_TAG_CMD.BUSY ≠ 1 ∧
      ¬ (spaceSize < upB.eff pgGfab F.FAB_TAG_BASE.BASE + upB.eff pgGfab F.FAB_TAG_CNT.COUNT * 2 ^ 20) ∧
      (∀ w ∈ windowsOf 0 (upB.eff pgGfab F.FAB_TAG_CNT.COUNT * 2 ^ 20), upB.groupRetired w = false)) ∧
    ((upB.put pgGfab F.FAB_TAG_CMD.BUSY 1).eff pgGfab F.FAB_TAG_CMD.BUSY = 1 ∧ ({ upB with tagJob := some (0, 1, 7) } : Block).tagJob = some (0, 1, 7)) := by
  decide

/-! Model weights, storage queue pairs and Ethernet. -/

def ldB (st : Nat) (l : Load) : Block := (upB.setLoad 0 l).setLdState 0 st
def shB (x : Shard) : Block := ldB ldFETCH { loadNone with shards := [(0, x)] }
/-- Commands in each state of a load; a shard that lands, is whole, freezes, is hashed again and times out; members that report and fail to. -/
theorem witness_LoadsRunTheirCourse :
    let sh (ph : ShPhase) (src : Nat) : Shard := { shardNone with phase := ph, src := src, frames := [0] }
    let some' (x : Shard) : Block := (shB x).store 516 (leBytes 4 8)
    (upB.runs pgWld = true ∧ (withHdr pgWld (fun h => { h with st := .off })).runs pgWld = false) ∧
    ((up upB).reaches pgWld .host ∧ (upB.put pgBoot F.BOOT_STAT.READY 0).eff pgBoot F.BOOT_STAT.READY = 0 ∧ upB.eff pgBoot F.BOOT_STAT.READY ≠ 0 ∧
      ldIdle (upB.ldState 3) = true ∧ upB.safe = false ∧ ldIdle ((ldB ldCHECK loadNone).ldState 0) = false) ∧
    ((ldB ldCHECK loadNone).ldState 0 = ldCHECK ∧ (ldB ldCHECK loadNone).loadStatus 0 ((ldB ldCHECK loadNone).load 0) ≠ 0 ∧
      (ldB ldCHECK loadNone).shard? 0 0 = none) ∧
    ((shB (sh .landing 0)).shard? 0 0 = some (sh .landing 0) ∧ (sh .landing 0).landed ≤ 0 ∧
      0 + 8 ≤ (sh .landing 0).landed + (some' (sh .landing 0)).nextPiece loadNone 0 (sh .landing 0).landed ∧
      (some' (sh .landing 0)).shard? 0 0 = some (sh .landing 0)) ∧
    (let x : Shard := { sh .landing 0 with got := [(0, 8)] }
     0 < (some' x).nextPiece loadNone 0 x.landed ∧ (some' x).nextPiece loadNone 0 x.landed ≤ x.got.foldl (fun m g => m + g.2) 0) ∧
    (let b := (some' (sh .landing 1)).store (2 ^ 20) (leBytes 8 8)
     (sh .landing 1).landed < min (b.progress loadNone 0 % 2 ^ 40) (b.shardLen loadNone 0) ∧ b.shard? 0 0 = some (sh .landing 1)) ∧
    ((sh .landing 0).landed = (shB (sh .landing 0)).shardLen loadNone 0 ∧ (sh .landing 0).src ≠ 3 ∧ (sh .landing 3).src = 3) ∧
    (let b : Block := { shB (sh .freezing 0) with frzDone := [(.shard 0 0 0, 0)] }
     b.takeDone (.shard 0 0 (sh .freezing 0).begun) = some 0 ∧ (sh .freezing 0).phase = .freezing ∧ (sh .recheck 0).phase = .recheck) ∧
    (let b : Block := { some' (sh .landing 0) with now := 2 ^ 40 }
     (sh .landing 0).landed < b.shardLen loadNone 0 ∧ (sh .landing 0).lastLand + loadNone.shardTimeout * 100000000 ≤ b.now) := by decide
theorem witness_shard_digests :
    let x : Shard := { shardNone with phase := .landing, frames := [0] }
    let b := (shB x).store 528 (sha256 [])
    sha256 (b.mem.read (b.shardDest loadNone 0) (b.shardLen loadNone 0)) = b.shardDigest loadNone 0 ∧
    sha256 ((shB x).mem.read ((shB x).shardDest loadNone 0) ((shB x).shardLen loadNone 0)) ≠ (shB x).shardDigest loadNone 0 := by decide +kernel
theorem witness_load_reports :
    let l : Load := { loadNone with desc := leBytes 8 0 ++ leBytes 8 0x10000 ++ leBytes 8 0x20000 ++ leBytes 8 0 ++ leBytes 4 7 }
    let b (st : Nat) : Block := (ldB st l).store 0x10040 (List.replicate 64 0)
    let c := ((b ldREPORT).store 0x20000 (leBytes 4 7 ++ [1])).store 4 (leBytes 4 1)
    (l.id = 7 ∧ (b ldREPORT).ldState 0 = ldREPORT ∧ c.recordHere l 0 = true ∧ (b ldREPORT).recordHere l 1 = false) ∧
    (c.loadMembers l).all (c.recordHere l) = true ∧
    (((c.store 0x20000 [0, 0]).loadMembers l).all ((c.store 0x20000 [0, 0]).recordHere l) = false ∧ l.since + l.reportTimeout * 100000000 ≤ upB.now) := by
  decide +kernel
theorem witness_load_final :
    let b := ldB ldFINAL loadNone
    let miss := (b.store 4 (leBytes 4 1)).store 0x40 [1]
    let busy : Load := { loadNone with desc := List.replicate 24 0 ++ leBytes 8 (2 ^ 41) }
    let taken := ((ldB ldFINAL busy).put pgMoe F.MOE_EPOCH.EPOCH 4 0)
    (b.ldState 0 = ldFINAL ∧ b.unionMissing loadNone = [] ∧ b.plcFree loadNone = true) ∧ (taken.plcFree busy = false ∧ taken.unionMissing busy = []) ∧
    miss.shardCount loadNone = 1 := by decide +kernel
theorem witness_EthernetAndQueuePairs :
    let x : Qp := { flags := 0x19, tenant := 0, rkey := 7, base := 0, len := 128, psn := 0xFFFFFF, err := false, waiting := [], busy := false }
    let b : Block := { upB with qps := [(0, x)], conns := [(0, 0)] }
    (SMap.find b.conns 0 = some 0 ∧ (up upB).reaches pgWld .host ∧ (up upB).reaches 8 .host) ∧
    (upB.eff 8 F.ETH_QP_RESV.RESP_MAX ≤ 256 ∧ 255 < upB.eff 8 F.ETH_QP_RESV.RESP_MAX) ∧
    (SMap.find b.qps 0 = some x ∧ x.err = false ∧ (0xFFFFFF : BitVec 24).toNat = x.psn ∧ (0 : BitVec 24).toNat ≠ x.psn ∧ (7 : BitVec 32).toNat = x.rkey ∧
      (0 : BitVec 64).toNat + 128 ≤ x.len ∧ x.len < (1 : BitVec 64).toNat + 128 ∧ bit x.flags 3 = true ∧ bit x.flags 4 = true) := by decide

/-! Power, pins and Rest. -/

def pw (f : Power → Power) : Block := upB.setPwr (f upB.power)
def loud (w : Nat) : Block := pw (fun x => { x with samples := List.replicate 10 w })
/-- The cap loop above the cap, within it and well below; heartbeats and caps at the ends of the range; timers that end; clamps that come and go. -/
theorem witness_GovernorLoops :
    let span := upB.pw? F.PWR_X_MODEL.P_FULL - upB.pw? F.PWR_X_MODEL.P_IDLE
    let m (w : Nat) := (loud w).power.p10
    let low : Block := pw (fun x => { x with gAlert := 0, g := [(23, 3)], target := [(23, 9)], samples := List.replicate 10 2401, capEff := 4000 })
    let orphan : Block := { upB.put pgPwr F.PWR_ORPHAN.HB_SEEN 1 with now := 2 ^ 50 }
    let on := (loud 0).put pgPwr F.PWR_LEVEL.CLAMP_ON 1
    (upB.asleep = false ∧ restB.asleep = true) ∧
    (low.gOf 23 < low.targetOf 23 ∧ SMap.get 0 low.power.riseRef 23 + low.rampTime ≤ 16 * (2 ^ 60 : Nat) ∧ ¬ (upB.gOf 23 < upB.targetOf 23)) ∧
    (upB.power.capEff * (m 2401).n < (m 2401).sum ∧ (m 0).sum ≤ upB.power.capEff * (m 0).n ∧
      16 * (m 0).sum + span * (m 0).n < 16 * upB.power.capEff * (m 0).n ∧ 16 * upB.power.capEff * (m 2400).n ≤ 16 * (m 2400).sum + span * (m 2400).n ∧
      (m 2400).sum ≤ upB.power.capEff * (m 2400).n) ∧
    ((up upB).reaches pgPwr .host ∧ 600 ≤ (600 : BitVec 12).toNat ∧ (2400 : BitVec 12).toNat ≤ 2400 ∧ (599 : BitVec 12).toNat < 600 ∧
      2400 < (2401 : BitVec 12).toNat) ∧
    ((pw (fun x => { x with overSince := some 0, alertEnd := some 0 })).power.overSince = some 0 ∧ upB.power.edcTimed = false ∧
      0 + upB.pw? F.PWR_ALERT.ALERT_RELEASE * 100000 ≤ orphan.now ∧ 0 + 1000000 ≤ orphan.now) ∧
    (orphan.pw? F.PWR_ORPHAN.HB_SEEN = 1 ∧ orphan.pw? F.PWR_ORPHAN.ORPHANED = 0 ∧ orphan.asleep = false ∧
      orphan.power.lastBeat + orphan.pw? F.PWR_ORPHAN.ORPHAN_TIMEOUT * 1000000 ≤ orphan.now) ∧
    (low.capNow < low.power.capEff ∧ low.capNow * low.power.p10.n < low.power.p10.sum) ∧
    (on.power.capEff ≤ on.capNow ∧ on.pw? F.PWR_LEVEL.CLAMP_ON = 1 ∧ ¬ (on.capNow * on.power.p10.n < on.power.p10.sum)) ∧
    ((loud 4095).pw? F.PWR_X_EDC.EDC_W < (loud 4095).power.p1) := by decide
theorem witness_SidebandPins :
    let x (l t : Bool) (es : List Nat) : Pin := { pinReset with level := l, treated := t, edges := es }
    let late (b : Block) : Block := { b with now := 2 ^ 40 }
    let ch := late ((upB.putBit pgDev F.DEV_SB_CHATTER.CHATTER 3 true).setPin 3 (x false true []))
    let out := upB.put pgDev F.DEV_SB_LEVEL.THERMTRIP_OUT 1
    ((upB.pin 0).level = false ∧ (upB.now :: (upB.pin 0).edges.filter (fun t => decide (upB.now < t + 1000000))).length ≤ 20) ∧
    (20 < (0 :: (x false false (List.replicate 20 0)).edges.filter (fun t => decide (0 < t + 1000000))).length) ∧
    (ch.chatters 3 = true ∧ (ch.pin 3).level = false ∧ (ch.pin 3).edges.headD 0 + 1000000 ≤ ch.now ∧ (ch.pin 3).treated = true ∧
      (ch.pin 3).stuckSeen = false ∧ (ch.pin 3).since + 100000000 < ch.now) ∧
    (out.eff pgDev F.DEV_SB_LEVEL.THERMTRIP_OUT = 1 ∧ upB.eff pgDev F.DEV_SB_LEVEL.THERMTRIP_OUT ≠ 1 ∧ upB.eff pgDev F.DEV_SB_LEVEL.FAULT_OUT ≠ 1 ∧
      upB.power.gTrip ≠ 0) := by decide
def calm : Block := { pw (fun x => { x with goodSince := some 0 }) with now := 2 ^ 40 }
def free (f : FreqSt) : Block :=
  let b := (calm.put pgPwr F.PWR_MODE.FIXED_FREQ 0).putCmt pgPwr F.PWR_X_BOOST.BOOST_MARGIN 0
  b.setPwr { b.power with freq := f }
theorem witness_ClocksFollowVoltageAndHeat :
    (bit (pw (fun x => { x with failed := 2 ^ 23 })).power.failed 23 = true ∧ bit upB.power.failed 23 = false) ∧
    ((151 : Int) > 150 ∧ (-1 : Int) < 0 ∧ ¬ ((105 : Int) < 0 ∨ (150 : Int) < 105 ∨ (bit upB.power.sampled 23 = true)) ∧ (105 : Int) ≤ 105) ∧
    ((upB.pw? F.PWR_THERM.THERM_TARGET : Int) < 105 ∧ (upB.pw? F.PWR_THERM.THERM_HYST : Int) < upB.pw? F.PWR_THERM.THERM_TARGET ∧
      0 < (upB.pw? F.PWR_THERM.THERM_HYST : Int)) ∧
    ((free .boost).power.freq = .boost ∧ (upB.put pgPwr F.PWR_MODE.FIXED_FREQ 1).boostOk = false ∧ (free .leaving).power.freq = .leaving ∧
      ((free .entering).setPwr { (free .entering).power with avsFailed := true }).boostOk = false) ∧
    ((pw (fun x => { x with quiet := some 0 })).power.quiet = some 0 ∧ max 0 (upB.power.lastDroop.getD 0) + 10000 ≤ calm.now) ∧
    ((free .entering).power.freqAt + 1000000 ≤ (free .entering).now ∧ upB.standing pgPwr [(F.PWR_MODE.VEC_GATE, 0)] ∧ (up upB).reaches pgPwr .host) := by
  decide
theorem witness_boost :
    (free .nominal).boostOk = true ∧ (free .nominal).power.freq = .nominal ∧ (free .nominal).power.goodSince = some 0 ∧
    0 + (free .nominal).pw? F.PWR_X_BOOST.BOOST_DWELL * 10000 ≤ (free .nominal).now ∧ (free .entering).boostOk = true ∧
    (free .entering).power.freqAt + (free .entering).pw? F.PWR_X_BOOST.VOLT_SETTLE * 1000 ≤ (free .entering).now := by decide +kernel
def restS (n : Nat) : Block := { upB.put pgPwr F.PWR_REST.REST_STATE n with now := 2 ^ 50 }
def sfB (n h : Nat) : Block := { (upB.put pgFlt F.FLT_SAFE.SAFE_STATE n).put pgFlt F.FLT_SAFE.HOLD h with now := 2 ^ 50, safe := decide (n ≠ 0) }
theorem witness_RestAndSafeState :
    let many : Block := { sfB sfSAFE 0 with fcol := { (sfB sfSAFE 0).fcol with exits := List.replicate 255 (2 ^ 50) } }
    ((up restB).reaches pgPwr .host ∧ restB.asleep = true ∧ (up (sfB sfSAFE 0)).reaches pgPwr .host ∧ (sfB sfSAFE 0).restOk = false ∧
      (sfB sfSAFE 0).asleep = false) ∧
    ((restS restENTERING).pw? F.PWR_REST.REST_STATE = restENTERING ∧ (restS restREST).pw? F.PWR_REST.REST_STATE = restREST ∧
      upB.pw? F.PWR_REST.REST_STATE = restRUN ∧ (restS restWAKING).pw? F.PWR_REST.REST_STATE = restWAKING ∧
      (restS restWAKING).power.wakeAt + 1000000 ≤ (restS restWAKING).now) ∧
    ((up upB).reaches pgFlt .host ∧ upB.flt F.FLT_SAFE.SAFE_STATE = sfRUN ∧ (sfB sfSAFE 0).flt F.FLT_SAFE.SAFE_STATE = sfSAFE ∧
      (sfB sfLATCHED 0).flt F.FLT_SAFE.SAFE_STATE = sfLATCHED) ∧
    ((sfB sfSAFE 0).flt F.FLT_SAFE.HOLD = 0 ∧ (sfB sfSAFE 0).fcol.quietFrom + (sfB sfSAFE 0).flt F.FLT_QUIET.QUIET_PERIOD * 1000000 ≤ (sfB sfSAFE 0).now ∧
      ((sfB sfSAFE 0).fcol.exits.filter (fun t => decide ((sfB sfSAFE 0).now ≤ t + 3600000000000))).length < (sfB sfSAFE 0).flt F.FLT_RECOV.RECOVERY_LIMIT) ∧
    many.flt F.FLT_RECOV.RECOVERY_LIMIT ≤
      (many.fcol.exits.filter (fun t => decide (many.now ≤ t + 3600000000000))).length := by decide +kernel
theorem witness_rest_allowed : upB.restOk = true ∧ upB.asleep = false := by decide +kernel

/-! Faults, boot and update. -/

theorem witness_FaultsAreCollected :
    let b : Block := { upB with reports := [(0, report0)] }
    let test : Block := { upB.put pgBoot F.BOOT_FUSE.TEST_FUSE 1 with testMode := true }
    let parity := test.put pgFlt F.FLT_INJ0.CODE 0x0201
    let storm : Block := { upB.put pgFlt F.FLT_STORM.STORM 1 with now := 2 ^ 50 }
    (upB.reports = [] ∧ b.reports = (0, report0) :: [] ∧ (up upB).reaches pgFlt .host ∧ upB.standing pgFlt [(F.FLT_HCTL.HIST_CORR, 0)]) ∧
    (pageKind 0xFFF = .reserved ∧ pageKind 0x31F ≠ .reserved ∧ upB.injEn = false ∧ test.injEn = true ∧ parity.injEn = true ∧
      parity.flt F.FLT_INJ0.CODE = 0x0201 ∧ test.flt F.FLT_INJ0.CODE ≠ 0x0201) ∧
    (storm.flt F.FLT_STORM.STORM = 1 ∧ storm.fcol.lastStorm + storm.flt F.FLT_STORM.STORM_WINDOW * 1000000 ≤ storm.now) := by decide
def bootB (n : Nat) (f : Boot → Boot) : Block :=
  let b := State.reset.blk.put pgBoot F.BOOT_STAT.STAGE n
  { b with boot := f b.boot, now := 2 ^ 40 }
theorem witness_PackageBoots :
    let fin := (bootB 7 (fun x => { x with memInit := true, fabTrained := true })).put pgTbs F.TBS_STATUS.SYNC tbLOCKED
    let halted := fin.put pgFlt F.FLT_SAFE.SAFE_STATE sfSAFE
    ((up (bootB 0 id)).reaches pgBoot .host ∧ (bootB 0 id).stage = 0 ∧ (bootB 1 id).stage = 1 ∧ (bootB 2 id).stage = 2 ∧ (bootB 3 id).stage = 3 ∧
      (bootB 4 id).stage = 4) ∧
    (5 ≤ (bootB 5 id).stage ∧ (bootB 8 id).stage < 9 ∧ (bootB 5 id).boot.memTrained = false ∧ (bootB 5 id).boot.fabTrained = false) ∧
    (fin.boot.memInit = true ∧ fin.boot.fabTrained = true ∧ fin.sync = tbLOCKED ∧ fin.groupRetired 31 = false ∧ fin.flt F.FLT_SAFE.SAFE_STATE = sfRUN ∧
      halted.flt F.FLT_SAFE.SAFE_STATE ≠ sfRUN ∧ 5 ≤ fin.stage ∧ fin.stage < 9) ∧
    ((bootB 5 (fun x => { x with memTrained := true })).boot.memTrained = true ∧ (bootB 5 id).boot.memInit = false) ∧
    ((bootB 5 id).eff pgBoot F.BOOT_STAT.READY ≠ 1 ∧ (bootB 5 id).boot.late = false ∧ (bootB 5 id).boot.start + 4000000000 ≤ (bootB 5 id).now) ∧
    ((1 : BitVec 4) ≠ 0 ∧ upB.eff pgBoot F.BOOT_IMG.IMG_SVN < (127 : BitVec 7).toNat ∧
      (upB.put pgBoot F.BOOT_IMG.IMG_SVN 1).eff pgBoot F.BOOT_IMG.IMG_SVN = 1 ∧ upB.eff pgBoot F.BOOT_FUSE.SVN_FUSE < (1 : BitVec 7).toNat) := by decide
theorem witness_links_settle :
    let b := (List.range 63).foldl (fun b n => b.setLk n F.FAB_LSTAT.LSTATE lsUP) (bootB 6 id)
    ∀ n < 63, b.linkSettled n = true := by decide +kernel
def updB (st : Nat) (f : Upd → Upd) : Block :=
  let b := upB.setUpd st
  { b with upd := f b.upd, now := 2 ^ 40 }
/-- A component table with the one component 2. -/
def image0 : List Byte :=
  List.replicate 6 0 ++ [1, 0] ++ List.replicate 504 0 ++ [2] ++ List.replicate 63 0
theorem witness_UpdatesActivateInOrder :
    let locked := upB.put pgMgt F.MGT_PLDM.UPD_LOCK 1
    let stg (n : Nat) : Block := { updB upVERIFYING id with frzDone := [(.staging, n)] }
    let hold : Block := (updB upACTIVATING (fun u => { u with cur := some 2, held := [pgTile 3] })).modHdr (pgTile 3) (fun h => { h with st := .quiesced })
    let act (c : Option Nat) : Block := updB upACTIVATING (fun u => { u with cur := c, image := image0 })
    ((up upB).reaches pgBoot .host ∧ upB.updLocked = false ∧ (up locked).reaches pgBoot .host ∧ locked.updLocked = true ∧ Agent.host ≠ .pldm) ∧
    (upB.updState = upIDLE ∧ (updB upSTAGED id).updState = upSTAGED ∧ 0 &&& presentMask (updB upSTAGED id).upd.image = 0 ∧
      (updB upFAILED id).updState = upFAILED ∧ upB.eff pgBoot F.BOOT_UPD_STAT.FLASH_BUSY = 0 ∧ (updB upVERIFYING id).updState = upVERIFYING) ∧
    (upB.upd.alive = none ∧ (updB upACTIVATING (fun u => { u with alive := some 0 })).upd.alive = some 0 ∧ 0 + 100000000 ≤ (2 : Nat) ^ 40) ∧
    ((stg 0).takeDone .staging = some 0 ∧ (stg 1).takeDone .staging = some 1 ∧ ((stg 0).dropDone .staging).imageCheck [] false ≠ 0) ∧
    (pgTile 3 ∈ hold.upd.held ∧ pgTile 3 ∉ hold.upd.loaded ∧ (hold.hdr (pgTile 3)).st = .quiesced) ∧
    ((act none).updState = upACTIVATING ∧ (act none).upd.cur = none ∧ (act (some 2)).upd.cur = some 2 ∧ (act (some 2)).updTake.upd.todo = [] ∧
      (act (some 2)).updTake.upd.held = [] ∧ (component? image0 2).isSome = true ∧ hold.updTake.upd.held ≠ [] ∧
      (act (some 2)).upd.since + 10000000000 ≤ (act (some 2)).now) ∧
    (let b := updB upACTIVATING (fun u => { u with cur := some 1, loaded := [pgMgt] })
     b.upd.cur = some 1 ∧ pgMgt ∈ b.upd.loaded ∧ b.upd.alive = none ∧ b.announcedAll = true) ∧
    ((upB.put pgBoot F.BOOT_UPD_STAT.FLASH_BUSY 1).eff pgBoot F.BOOT_UPD_STAT.FLASH_BUSY = 1) := by decide +kernel

/-! Attestation, host and management; memory. -/

theorem witness_ResponderAttests : upB.spdmUp = true ∧ (bootB 3 id).spdmUp = false ∧ (1 : BitVec 4) ≠ 0 ∧ 10 < (11 : BitVec 8).toNat ∧
    (11 : BitVec 8) ≠ 0xFF ∧ 1 ≤ (10 : BitVec 8).toNat := by decide
theorem witness_HostReachesThePackage :
    let r : Block := { upB with pcie := { upB.pcie with inReset := true } }
    let l (v : Bool) : Block := { upB with pcie := { upB.pcie with linkUp := v } }
    let fz := upB.put pgPci F.PCI_FENCE.BUSY 1
    let q : Block := { upB with pciq := [(0, [1])] }
    (r.pcie.inReset = true ∧ upB.pcie.inReset = false ∧ (bootB 3 id).stage = 3 ∧ (bootB 3 id).pcie.inReset = false) ∧
    (0xFFFFFF + 1 ≤ (2 : Nat) ^ 24 ∧ (2 : Nat) ^ 24 < 0xFFFFFF + 2 ∧ upB.stage ≠ 3 ∧ upB.asleep = false ∧ restB.stage ≠ 3 ∧ restB.asleep = true ∧
      safeB.stage ≠ 3 ∧ safeB.safe = true) ∧
    ((q.localOff (upB.eff pgPci F.PCI_WIN_BASE.WIN_BASE)).isSome = true ∧ q.barWriteOpen = true ∧ upB.barWriteOpen = false) ∧
    ((l true).pcie.linkUp = true ∧ (l false).pcie.linkUp = false ∧ (up upB).reaches pgPci .host ∧ fz.eff pgPci F.PCI_FENCE.BUSY = 1 ∧
      upB.eff pgPci F.PCI_FENCE.BUSY ≠ 1) := by decide
theorem witness_ManagementIsServed :
    let v := upB.put pgMgt F.MGT_I3C.ADDR_VALID 1
    let al : Alarm := { code := 1, page := 3, count := 1, last := 0, words := [0, 0, 0, 0] }
    let ev : Block := { upB with fcol := { upB.fcol with pldm := [al] } }
    let base := upB.put pgBoot F.BOOT_STG_BASE.STG_BASE (2 ^ 47)
    let locked := base.put pgMgt F.MGT_PLDM.UPD_LOCK 1
    (1 ≤ 16 ∧ 0xFC0 % 4 = 0 ∧ 0xFC0 + 4 * 16 ≤ 4096 ∧ ¬ (0xFC4 + 4 * 16 ≤ 4096)) ∧
    (v.eff pgMgt F.MGT_I3C.ADDR_VALID = 1 ∧ upB.eff pgMgt F.MGT_I3C.ADDR_VALID = 0) ∧
    ((upB.numericSensor 29).isSome = true ∧ upB.numericSensor 30 = none ∧ (upB.stateSensor 32).isSome = true ∧ (upB.stateSensor 44).isSome = true ∧
      upB.stateSensor 31 = none ∧ upB.stateSensor 45 = none) ∧
    (upB.fcol.pldm = [] ∧ ev.fcol.pldm = al :: []) ∧
    (base.updLocked = false ∧ base.eff pgBoot F.BOOT_STG_BASE.STG_BASE ≠ 0 ∧ base.updState = upIDLE ∧ locked.updLocked = true ∧
      upB.eff pgBoot F.BOOT_STG_BASE.STG_BASE = 0 ∧ (locked.setUpd upSTAGED).updState = upSTAGED ∧ 12582911 + 1 ≤ 12582912) := by decide
theorem witness_MemoryReadsBack : (upB.mem.write 5 [1, 0, 2]).wf = true ∧ (upB.mem.write 5 [1, 0, 2]).cells = [(5, 1), (7, 2)] := by decide
theorem witness_OperationsAreLocal : (4 : Nat) ≠ 3 ∧ F.TBS_STATUS.SYNC.kind = .imm ∧ F.TBS_STATUS.SYNC.key 0 ≠ F.TBS_STATUS.STRATUM.key 0 := by decide

end Sys2Proof.Tests
end

section
/-! SUPPORT. Proofs of the statements about register writes, block states and interrupts (R11 to R33), and of what the shared
operations leave alone. -/
namespace Sys2Proof.Machine

/-! ### Bits -/

theorem land_add_ldiff (x m : Nat) : (x &&& m) + Nat.ldiff x m = x := by
  induction x using Nat.binaryRec generalizing m with
  | zero => simp [Nat.ldiff]
  | bit a x ih =>
    induction m using Nat.bitCasesOn with
    | bit c m =>
      rw [Nat.land_bit, Nat.ldiff_bit]
      have h := ih m
      cases a <;> cases c <;> simp [Nat.bit_val] <;> omega

/-- A W1C write leaves the bits that it does not name. -/
theorem bit_w1c (x m j : Nat) : bit (x - (x &&& m)) j = (bit x j && !bit m j) := by
  have h := land_add_ldiff x m
  rw [show x - (x &&& m) = Nat.ldiff x m by omega]
  exact Nat.testBit_ldiff x m j

theorem bit_setBits_zero (x k m : Nat) : bit (setBits x k 1 0) m = (bit x m && !decide (m = k)) := by
  have e : setBits x k 1 0 = 2 ^ (k + 1) * (x / 2 ^ (k + 1)) + x % 2 ^ k := by
    simp only [setBits]; ring_nf
  have hl : x % 2 ^ k < 2 ^ k := Nat.mod_lt _ (Nat.two_pow_pos k)
  have hk : (2 : Nat) ^ (k + 1) = 2 ^ k + 2 ^ k := by ring
  simp only [bit]
  rw [e, Nat.testBit_two_pow_mul_add _ (by omega), Nat.testBit_mod_two_pow]
  split
  · by_cases h : m < k
    · simp [h, Nat.ne_of_lt h]
    · simp [show m = k by omega]
  · rename_i h
    simp [Nat.testBit_div_two_pow, Nat.sub_add_cancel (Nat.le_of_not_lt h), show m ≠ k by omega]

theorem bit_setBits_b2n (x k m : Nat) (v : Bool) : bit (setBits x k 1 (b2n v)) m = if m = k then v else bit x m := by
  cases v
  · simp only [b2n, Bool.false_eq_true, if_false, bit_setBits_zero]; split <;> simp_all
  · simp only [b2n, if_true, bit_setBits_one]; split <;> simp_all

theorem setBits_one_and_ne_zero {x y i : Nat} (h : bit y i = true) : setBits x i 1 1 &&& y ≠ 0 := by
  intro e
  have hb := bit_setBits_one x i i
  have ht := congrArg (Nat.testBit · i) e
  simp only [bit] at h hb
  simp [Nat.testBit_and, h, hb] at ht

theorem setBits_one_and_of_not {x y i : Nat} (h : bit y i = false) : setBits x i 1 1 &&& y = x &&& y := by
  refine Nat.eq_of_testBit_eq fun j => ?_
  have hb := bit_setBits_one x i j
  simp only [bit] at h hb
  rw [Nat.testBit_and, Nat.testBit_and, hb]
  by_cases hj : j = i
  · simp [hj, h]
  · simp [hj]

/-! ### Pages, headers and messages -/

section Page
variable (b : Block) (p q i v : Nat) (f : Field) (r : PageRegs) (k l : Header → Header)

@[simp] theorem Block.page_modHdr_same : (b.modHdr p k).page p = { b.page p with hdr := k (b.hdr p) } := by simp [Block.modHdr]
@[simp] theorem Block.modHdr_modHdr : (b.modHdr p k).modHdr p l = b.modHdr p (fun h => l (k h)) := by simp [Block.modHdr, Block.hdr]
@[simp] theorem Block.setPage_modHdr : (b.modHdr p k).setPage p r = b.setPage p r := by simp [Block.modHdr]
@[simp] theorem Block.hdr_setPage_same : (b.setPage p r).hdr p = r.hdr := by simp [Block.hdr]
@[simp] theorem Block.msix_hdr : (b.msix v).hdr p = b.hdr p := by simp [Block.hdr]

theorem Block.msix_setPage : (b.setPage p r).msix v = (b.msix v).setPage p r := by
  simp only [Block.msix]
  rw [apply_ite (fun c : Block => c.setPage p r)]
  rfl
theorem Block.msix_modHdr_out : ((b.modHdr p k).msix v).out = (b.msix v).out := by rw [Block.modHdr, Block.msix_setPage]; rfl
theorem Block.msix_modHdr_pcie : ((b.modHdr p k).msix v).pcie = (b.msix v).pcie := by rw [Block.modHdr, Block.msix_setPage]; rfl

variable {b p f}

/-- A staged or expert field has in effect what the committed set holds. -/
theorem Block.eff_of_staged (h : f.kind ≠ .imm) : b.eff p f i = SMap.get f.reset (b.page p).cmt (f.key i) := by
  unfold Block.eff; split
  · contradiction
  · rfl

/-- A staged or expert field reads from the committed set in RUN and from the pending set elsewhere (R28). -/
theorem Block.shown_of_staged (h : f.kind ≠ .imm) : b.shown p f i =
    if (b.hdr p).st = .run then SMap.get f.reset (b.page p).cmt (f.key i) else SMap.get f.reset (b.page p).pnd (f.key i) := by
  rw [Block.shown_eq, if_neg h]; split <;> rfl

end Page

/-! ### Interrupts (R17) -/

section Interrupt
variable {b : Block} {p i m : Nat}

/-- The first enabled bit of a page sends a message. -/
theorem Block.raise_sends (h0 : (b.hdr p).isr &&& (b.hdr p).ier = 0) (hi : bit (b.hdr p).ier i = true) :
    b.raise p i = (b.modHdr p (fun h => { h with isr := setBits (b.hdr p).isr i 1 1 })).msix (b.hdr p).ivec := by
  simp only [Block.raise]
  rw [if_pos ⟨h0, setBits_one_and_ne_zero hi⟩]

/-- An event that is not enabled, or comes after an enabled one, sends none. -/
theorem Block.raise_silent (h : (b.hdr p).isr &&& (b.hdr p).ier ≠ 0 ∨ bit (b.hdr p).ier i = false) :
    b.raise p i = b.modHdr p (fun h => { h with isr := setBits (b.hdr p).isr i 1 1 }) := by
  simp only [Block.raise]
  refine if_neg ?_
  rintro ⟨h0, h1⟩
  rcases h with h | h
  · exact h h0
  · exact h1 (by rw [setBits_one_and_of_not h]; exact h0)

theorem Block.hdr_isrClear : (b.isrClear p m).hdr p = { b.hdr p with isr := (b.hdr p).isr - ((b.hdr p).isr &&& m) } := by
  simp only [Block.isrClear]; split <;> simp

/-- A W1C write to BLK_ISR sends a message while enabled bits stay set. -/
theorem Block.isrClear_sends (h : ((b.isrClear p m).hdr p).isr &&& (b.hdr p).ier ≠ 0) :
    b.isrClear p m = (b.modHdr p (fun h => { h with isr := h.isr - (h.isr &&& m) })).msix (b.hdr p).ivec := by
  rw [Block.hdr_isrClear] at h
  simp only [Block.isrClear, Block.hdr_modHdr_same]
  rw [if_neg h]

theorem Block.isrClear_silent (h : ((b.isrClear p m).hdr p).isr &&& (b.hdr p).ier = 0) :
    b.isrClear p m = b.modHdr p (fun h => { h with isr := h.isr - (h.isr &&& m) }) := by
  rw [Block.hdr_isrClear] at h
  simp only [Block.isrClear, Block.hdr_modHdr_same]
  rw [if_pos h]

end Interrupt

/-- Settles O31: a message leaves where the guard of the event, or of the clear, holds, and the bits are those of the new BLK_ISR. -/
theorem interruptLatchAndClear : Obligations.InterruptLatchAndClear := by
  unfold Obligations.InterruptLatchAndClear
  intro b p i m _ _ _
  simp only []
  have hu : (b.raise p i).hdr p = { b.hdr p with isr := setBits (b.hdr p).isr i 1 1 } := by simp [Block.hdr_raise]
  refine ⟨fun j => ?_, ?_, ?_, fun j => ?_, ?_, ?_, fun h => ?_, fun h => ?_, fun h0 hi => ?_, fun h => ?_⟩
  · rw [Block.hdr_isrClear]; exact bit_w1c _ _ _
  · rw [Block.hdr_isrClear]
  · rw [Block.hdr_isrClear]
  · rw [hu]; exact bit_setBits_one _ _ _
  · rw [hu]
  · rw [hu]
  · rw [Block.isrClear_silent h]; exact ⟨rfl, rfl⟩
  · rw [Block.isrClear_sends h]; exact ⟨Block.msix_modHdr_out .., Block.msix_modHdr_pcie ..⟩
  · rw [Block.raise_sends h0 hi]; exact ⟨Block.msix_modHdr_out .., Block.msix_modHdr_pcie ..⟩
  · rw [Block.raise_silent h]; exact ⟨rfl, rfl⟩

/-! ### What the shared operations leave alone -/

/-- Settles O60: each operation changes the one component that it names. -/
theorem operationsAreLocal : Obligations.OperationsAreLocal := by
  unfold Obligations.OperationsAreLocal
  intro b t u p q i j n x f g v r
  refine ⟨fun h => ?_, ?_, rfl, rfl, rfl, rfl, rfl, rfl, Block.eff_put_of_ne b p q i j v f g, Block.eff_put_same b p i v f, ?_, rfl, rfl,
    ?_, ?_, ?_, Block.hdr_raise b p q n, ?_, rfl, rfl, rfl, Block.hdr_report b q r⟩
  · rw [Block.tileNext, Block.tile_setTile, if_neg h]
  · exact Block.tile_setTile_same ..
  · exact Block.hdr_put ..
  · exact Block.eff_raise ..
  · rw [Block.tile, Block.raise_tiles, Block.tile]
  · exact Block.raise_mem ..
  · exact Block.eff_report ..

/-! ### Staged fields (R26, R28) -/

section Commit
variable {b : Block} {p i : Nat} {f : Field}

theorem Block.eff_setPage_of_staged {r : PageRegs} (h : f.kind ≠ .imm) :
    (b.setPage p r).eff p f i = SMap.get f.reset r.cmt (f.key i) := by
  rw [Block.eff_of_staged _ h, Block.page_setPage_same]

/-- A commit puts the pending set in effect. -/
theorem Block.eff_commitPage_of_staged (h : f.kind ≠ .imm) : (b.commitPage p).eff p f i = SMap.get f.reset (b.page p).pnd (f.key i) := by
  rw [Block.commitPage, Block.eff_raise, Block.eff_setPage_of_staged h]

theorem Block.hdr_commitPage : (b.commitPage p).hdr p =
    { b.hdr p with st := .run, commitPending := false, isr := setBits (b.hdr p).isr evCommit 1 1 } := by
  rw [Block.commitPage, Block.hdr_raise, if_pos rfl, Block.hdr_setPage_same]; rfl

/-- The page once its register values are committed and it runs (R32). -/
def Block.opened (b : Block) (p : Nat) : Block :=
  b.setPage p { b.page p with cmt := (b.page p).pnd, hdr := { b.hdr p with enable := true, st := .run, commitPending := false } }

/-- ENABLE of a page other than a partition's is never refused. -/
theorem Block.enableOn_of_not_srv (h : pageKind p ≠ .srv) : b.enableOn p = ((b.opened p).commitHook p (b.page p), true) := by
  unfold Block.enableOn
  simp only
  rfl

/-- ENABLE of a partition's page that is not refused opens the partition (R294). -/
theorem Block.enableOn_of_srv (h : pageKind p = .srv) (hok : (b.enableOn p).2 = true) :
    ∃ c, (b.opened p).partOpen (p - 0x10) = some c ∧ b.enableOn p = (c.commitHook p (b.page p), true) := by
  unfold Block.enableOn at hok ⊢
  simp only [h] at hok ⊢
  split at hok
  · simp at hok
  · rename_i hready
    rw [if_neg hready]
    cases ho : (b.opened p).partOpen (p - 0x10) with
    | none => simp only [Block.opened, Block.hdr] at ho; simp [ho] at hok
    | some c => simp only [Block.opened, Block.hdr] at ho; exact ⟨c, rfl, by simp [ho]⟩

end Commit

/-- Settles O27, by the two maps that a staged field reads from and the one that a store or a commit writes. -/
theorem stagedFieldsReadByState : Obligations.StagedFieldsReadByState := by
  unfold Obligations.StagedFieldsReadByState
  intro b p f g i j v hf hg hv
  simp only []
  refine ⟨Block.shown_of_staged i hf, Block.eff_of_staged i hf, fun hoff => ⟨?_, ?_, Block.enableOn_of_not_srv, Block.enableOn_of_srv⟩,
    fun h => ?_, fun h => ?_, Block.eff_putPnd .., fun q h => ?_, Block.eff_commitPage_of_staged hf, ?_, ?_⟩
  · rw [Block.eff_setPage_of_staged hf, Block.shown_of_staged i hf, hoff]; rfl
  · rw [Block.hdr_setPage_same]
  · rw [Block.shown_putPnd, if_pos ⟨rfl, hf, h, rfl⟩, Nat.mod_eq_of_lt hv]
  · rw [Block.shown_putPnd, if_neg (fun c => c.2.2.1 h)]
  · rw [Block.shown_putPnd, if_neg (by tauto)]
  · rw [Block.hdr_commitPage]
  · rw [Block.hdr_commitPage, bit_setBits_one]; simp [evCommit]

end Sys2Proof.Machine
end

section
/-! SUPPORT. Writes to the header of a page: the key, expert mode and the states of a block (R21 to R32). -/
namespace Sys2Proof.Machine

/-! ### Writes that reach a page -/

section Reach
variable {s : State} {p : Fin 4096} {a : Agent}

/-- Nothing turns away a write that reaches an implemented page (R15, R473, R475). -/
theorem Block.reaches_open {p : Nat} (h : s.reaches p a) (hk : pageKind p ≠ .reserved) :
    ¬ (pageKind p = .reserved ∨ (!s.blk.answers p) = true ∨ (a = .host ∧ s.blk.pcie.inReset = true)) := by
  obtain ⟨_, hans, hhost⟩ := h
  simp only [hk, hans, false_or, Bool.not_true, Bool.false_eq_true]
  rintro ⟨ha, hr⟩
  simp [hhost ha] at hr

/-- A write that lies in the header of a page acts on the header. -/
theorem Block.writeWord_header (h : s.reaches p a) (hk : pageKind p ≠ .reserved) {off w : Nat} (ho : off < 0x40) :
    s.blk.writeWord p off w a = (s.blk.headerWrite p off w).rest := by
  rw [Block.writeWord, if_neg (Block.reaches_open h hk), if_pos ho]

theorem State.act_headerWrite (h : s.reaches p a) (hk : pageKind p ≠ .reserved) {off w : Nat} (ho : off < 0x40) :
    s.act (fun b => b.writeWord p off w a) = s.withBlk (s.blk.headerWrite p off w).rest := by
  rw [State.act_live h.1, Block.writeWord_header h hk ho]

/-- A write of one bit of BLK_CTRL is a write to BLK_CTRL with the others as they read. -/
theorem State.act_ctrlBitWrite (h : s.reaches p a) (hk : pageKind p ≠ .reserved) (i : Nat) (v : Bool) :
    s.act (fun b => b.ctrlBitWrite p i v a) = s.withBlk (s.blk.ctrlWrite p (s.blk.ctrlBit p i v)).rest := by
  rw [State.act_live h.1, Block.ctrlBitWrite, Block.writeWord_header h hk (by decide)]; rfl

variable (h : s.reaches p a) (hk : pageKind p ≠ .reserved)
include h hk

theorem exec_keyWrite (v : BitVec 32) : exec (.keyWrite p v a) s = .next (s.withBlk (s.blk.keyWord p v.toNat).rest) :=
  congrArg _ (State.act_headerWrite h hk (by decide))
theorem exec_isrClear (v : BitVec 32) : exec (.isrClear p v a) s = .next (s.withBlk (s.blk.isrClear p v.toNat).rest) :=
  congrArg _ (State.act_headerWrite h hk (by decide))
theorem exec_enableSet : exec (.enableSet p a) s = .next (s.withBlk (s.blk.ctrlWrite p (s.blk.ctrlBit p 0 true)).rest) :=
  congrArg _ (State.act_ctrlBitWrite h hk 0 true)
theorem exec_enableClear : exec (.enableClear p a) s = .next (s.withBlk (s.blk.ctrlWrite p (s.blk.ctrlBit p 0 false)).rest) :=
  congrArg _ (State.act_ctrlBitWrite h hk 0 false)
theorem exec_quiesce : exec (.quiesce p a) s = .next (s.withBlk (s.blk.ctrlWrite p (s.blk.ctrlBit p 1 true)).rest) :=
  congrArg _ (State.act_ctrlBitWrite h hk 1 true)
theorem exec_resume : exec (.resume p a) s = .next (s.withBlk (s.blk.ctrlWrite p (s.blk.ctrlBit p 2 true)).rest) :=
  congrArg _ (State.act_ctrlBitWrite h hk 2 true)
theorem exec_expertSet : exec (.expertSet p a) s = .next (s.withBlk (s.blk.ctrlWrite p (s.blk.ctrlBit p 4 true)).rest) :=
  congrArg _ (State.act_ctrlBitWrite h hk 4 true)
theorem exec_expertClear : exec (.expertClear p a) s = .next (s.withBlk (s.blk.ctrlWrite p (s.blk.ctrlBit p 4 false)).rest) :=
  congrArg _ (State.act_ctrlBitWrite h hk 4 false)

end Reach

/-! ### BLK_CTRL (R21, R32) -/

section Ctrl
variable {b : Block} {p v i : Nat} {x : Bool}

/-- BLK_CTRL as it reads holds ENABLE in bit 0 and EXPERT in bit 4. -/
theorem bit_ctrlWord (e x : Bool) : bit (b2n e + 16 * b2n x) 0 = e ∧ bit (b2n e + 16 * b2n x) 1 = false ∧
    bit (b2n e + 16 * b2n x) 2 = false ∧ bit (b2n e + 16 * b2n x) 4 = x := by
  cases e <;> cases x <;> decide

theorem Block.bit_ctrlBit (j : Nat) : bit (b.ctrlBit p i x) j =
    if j = i then x else bit (b2n (b.hdr p).enable + 16 * b2n (b.hdr p).expertBit) j := bit_setBits_b2n _ _ _ _

/-- A write of ENABLE with the other bits as they read. -/
theorem Block.ctrlBit_enable (x : Bool) : bit (b.ctrlBit p 0 x) 0 = x ∧ bit (b.ctrlBit p 0 x) 1 = false ∧
    bit (b.ctrlBit p 0 x) 2 = false ∧ bit (b.ctrlBit p 0 x) 4 = (b.hdr p).expertBit := by
  obtain ⟨-, h1, h2, h4⟩ := bit_ctrlWord (b.hdr p).enable (b.hdr p).expertBit
  simp [Block.bit_ctrlBit, h1, h2, h4]

/-- The page once a write to BLK_CTRL has consumed its key (R21). -/
def Block.keyUsed (b : Block) (p : Nat) : Block := b.modHdr p (fun h => { h with keyArmed := false })

@[simp] theorem Block.hdr_keyUsed : (b.keyUsed p).hdr p = { b.hdr p with keyArmed := false } := Block.hdr_modHdr_same ..
@[simp] theorem Block.page_keyUsed : (b.keyUsed p).page p = { b.page p with hdr := { b.hdr p with keyArmed := false } } :=
  Block.page_modHdr_same ..
@[simp] theorem Block.keyUsed_upd : (b.keyUsed p).upd = b.upd := rfl
@[simp] theorem Block.keyUsed_now : (b.keyUsed p).now = b.now := rfl
@[simp] theorem Block.setPage_keyUsed (r : PageRegs) : (b.keyUsed p).setPage p r = b.setPage p r := Block.setPage_modHdr ..
@[simp] theorem Block.modHdr_keyUsed (k : Header → Header) :
    (b.keyUsed p).modHdr p k = b.modHdr p (fun h => k { h with keyArmed := false }) := Block.modHdr_modHdr ..

/-- What the bits QUIESCE and RESUME of a write to BLK_CTRL ask for, last of all. -/
def Block.ctrlAsk (b : Block) (p : Nat) (quiesce resume : Bool) : Block :=
  if quiesce then (if resume then b.cfgReject p else b).quiesce p else if resume then b.resume p else b

@[simp] theorem Block.ctrlAsk_nothing : b.ctrlAsk p false false = b := rfl
@[simp] theorem Block.ctrlAsk_quiesce : b.ctrlAsk p true false = b.quiesce p := rfl
@[simp] theorem Block.ctrlAsk_resume : b.ctrlAsk p false true = b.resume p := rfl

/-- A write that leaves ENABLE as it is: EXPERT takes effect, then QUIESCE or RESUME. -/
theorem Block.ctrlWrite_keep (h : bit v 0 = (b.hdr p).enable) : b.ctrlWrite p v =
    ((b.keyUsed p).expertPart p (bit v 4) (b.hdr p).keyArmed).ctrlAsk p (bit v 1) (bit v 2) := by
  have hhdr : ((b.modHdr p (fun h => { h with keyArmed := false })).hdr p).enable = bit v 0 := by rw [Block.hdr_modHdr_same, h]
  unfold Block.ctrlWrite
  simp only [hhdr]
  cases bit v 0 <;> simp [Block.keyUsed, Block.ctrlAsk]

/-- ENABLE written 0 to 1 and not refused. -/
theorem Block.ctrlWrite_enable {c : Block} (he : (b.hdr p).enable = false) (hv : bit v 0 = true)
    (hon : ((b.keyUsed p).expertPart p (bit v 4) (b.hdr p).keyArmed).enableOn p = (c, true)) :
    b.ctrlWrite p v = c.ctrlAsk p (bit v 1) (bit v 2) := by
  simp only [Block.keyUsed] at hon
  unfold Block.ctrlWrite
  simp [he, hv, hon, Block.ctrlAsk]

/-- ENABLE written 1 to 0 from QUIESCED with no commit due, where the page may be disabled. -/
theorem Block.ctrlWrite_disable (he : (b.hdr p).enable = true) (hv : bit v 0 = false) (hf : enableFixed (pageKind p) = false)
    (hs : (b.hdr p).st = .quiesced) (hc : (b.hdr p).commitPending = false) : b.ctrlWrite p v =
    (((b.keyUsed p).expertPart p (bit v 4) (b.hdr p).keyArmed).enableOff p).ctrlAsk p (bit v 1) (bit v 2) := by
  unfold Block.ctrlWrite
  simp [he, hv, hf, hs, hc, Block.keyUsed, Block.ctrlAsk]

/-- ENABLE written 1 to 0 on a fixed page or in RUN is refused. -/
theorem Block.ctrlWrite_disable_refused (he : (b.hdr p).enable = true) (hv : bit v 0 = false)
    (h : enableFixed (pageKind p) = true ∨ (b.hdr p).st = .run) : b.ctrlWrite p v = (b.keyUsed p).cfgReject p := by
  unfold Block.ctrlWrite
  simp [he, hv, h, Block.keyUsed]

/-- A write of another bit than ENABLE, with the others as they read. -/
theorem Block.ctrlWrite_ctrlBit (hi : i ≠ 0) : b.ctrlWrite p (b.ctrlBit p i x) =
    ((b.keyUsed p).expertPart p (if i = 4 then x else (b.hdr p).expertBit) (b.hdr p).keyArmed).ctrlAsk p
      (decide (i = 1) && x) (decide (i = 2) && x) := by
  obtain ⟨h0, h1, h2, h4⟩ := bit_ctrlWord (b.hdr p).enable (b.hdr p).expertBit
  have hkeep : bit (b.ctrlBit p i x) 0 = (b.hdr p).enable := by rw [Block.bit_ctrlBit, if_neg hi.symm, h0]
  rw [Block.ctrlWrite_keep hkeep]
  simp only [Block.bit_ctrlBit, h1, h2, h4, eq_comm (b := i)]
  by_cases h : i = 1 <;> by_cases h' : i = 2 <;> simp [h, h']

/-! ### Expert mode (R22, R25) -/

/-- EXPERT read and written as 0 while expert mode is off changes nothing. -/
theorem Block.expertPart_off {armed : Bool} (ha : (b.hdr p).expertActive = false) (hx : (b.hdr p).expertBit = false) :
    b.expertPart p false armed = b := by
  simp [Block.expertPart, ha, hx]

theorem Block.expertPart_armed (ha : (b.hdr p).expertActive = false) :
    b.expertPart p true true = b.modHdr p (fun h => { h with expertActive := true, expertBit := true }) := by
  simp [Block.expertPart, ha]

theorem Block.expertPart_unarmed (ha : (b.hdr p).expertActive = false) :
    b.expertPart p true false = (b.modHdr p (fun h => { h with expertBit := true })).raise p evKeyReject := by
  simp [Block.expertPart, ha]

theorem Block.expertPart_clear {armed : Bool} (ha : (b.hdr p).expertActive = true ∨ (b.hdr p).expertBit = true) :
    b.expertPart p false armed = b.expertOff p := by
  simp [Block.expertPart, ha]

/-- The derived values rest on the fuses, not on the header. -/
@[simp] theorem Block.deriveExpert_keyUsed (m : SMap Nat) : (b.keyUsed p).deriveExpert p m = b.deriveExpert p m := rfl

theorem Block.hdr_raise_keyArmed : ((b.raise p i).hdr p).keyArmed = (b.hdr p).keyArmed := by simp [Block.hdr_raise]

theorem Block.hdr_expertOff_keyArmed : ((b.expertOff p).hdr p).keyArmed = (b.hdr p).keyArmed := by
  unfold Block.expertOff
  simp only []
  split
  · rw [Block.hdr_setPage_same]; rfl
  · exact Block.hdr_raise_keyArmed

theorem Block.hdr_expertPart_keyArmed {ex armed : Bool} : ((b.expertPart p ex armed).hdr p).keyArmed = (b.hdr p).keyArmed := by
  unfold Block.expertPart
  simp only []
  split
  · split
    · rfl
    · split
      · rw [Block.hdr_modHdr_same]
      · rw [Block.hdr_raise_keyArmed, Block.hdr_modHdr_same]
  · split
    · exact Block.hdr_expertOff_keyArmed
    · rfl

/-! ### QUIESCE and RESUME by the state of the block (R30 to R32) -/

theorem Block.quiesce_of_off (h : (b.hdr p).st = .off) : b.quiesce p = b.cfgReject p := by
  simp only [Block.hdr] at h
  simp [Block.quiesce, h]

theorem Block.quiesce_of_run (h : (b.hdr p).st = .run) (hu : b.upd.held.contains p = false) : b.quiesce p =
    b.setPage p { b.page p with pnd := (b.page p).cmt, hdr := { b.hdr p with st := .quiescing, quiesceAt := b.now } } := by
  simp only [Block.hdr] at h ⊢
  simp only [Block.quiesce, h, hu, Bool.false_eq_true, if_false]

theorem Block.hdr_quiesce_keyArmed : ((b.quiesce p).hdr p).keyArmed = (b.hdr p).keyArmed := by
  unfold Block.quiesce
  simp only []
  split
  · exact Block.hdr_raise_keyArmed
  · split
    · exact Block.hdr_raise_keyArmed
    · rw [Block.hdr_setPage_same]; rfl
  · split
    · exact Block.hdr_raise_keyArmed
    · rfl

theorem Block.resume_of_off (h : (b.hdr p).st = .off) : b.resume p = b.cfgReject p := by
  simp only [Block.hdr] at h
  simp [Block.resume, h]

theorem Block.resume_of_quiescing (h : (b.hdr p).st = .quiescing) (hu : b.upd.held.contains p = false) : b.resume p =
    b.setPage p { b.page p with pnd := (b.page p).cmt, hdr := { b.hdr p with st := .run } } := by
  simp only [Block.hdr] at h ⊢
  simp only [Block.resume, h, hu, reduceCtorEq, Bool.false_eq_true, if_false]

theorem Block.resume_of_quiesced (h : (b.hdr p).st = .quiesced) (hu : b.upd.held.contains p = false) : b.resume p =
    if isStaged (pageKind p) = false then b.commitWhole p
    else if (b.hdr p).commitPending then b
    else b.modHdr p (fun h => { h with commitPending := true, pendingAt := b.now }) := by
  simp only [Block.hdr] at h ⊢
  simp only [Block.resume, h, hu, reduceCtorEq, Bool.false_eq_true, if_false]
  cases isStaged (pageKind p) <;> rfl

/-! ### One bit of BLK_CTRL, with EXPERT off (R32) -/

section OneBit
variable (ha : (b.hdr p).expertActive = false) (hx : (b.hdr p).expertBit = false)
include ha hx

theorem Block.ctrlWrite_quiesce : b.ctrlWrite p (b.ctrlBit p 1 true) = (b.keyUsed p).quiesce p := by
  rw [Block.ctrlWrite_ctrlBit (by decide), if_neg (by decide), hx, Block.expertPart_off (by simpa using ha) (by simpa using hx)]; rfl

theorem Block.ctrlWrite_resume : b.ctrlWrite p (b.ctrlBit p 2 true) = (b.keyUsed p).resume p := by
  rw [Block.ctrlWrite_ctrlBit (by decide), if_neg (by decide), hx, Block.expertPart_off (by simpa using ha) (by simpa using hx)]; rfl

theorem Block.ctrlWrite_enableSet (he : (b.hdr p).enable = false) (hs : pageKind p ≠ .srv) : b.ctrlWrite p (b.ctrlBit p 0 true) =
    ((b.keyUsed p).opened p).commitHook p ((b.keyUsed p).page p) := by
  obtain ⟨h0, h1, h2, h4⟩ := Block.ctrlBit_enable (b := b) (p := p) true
  rw [Block.ctrlWrite_enable he h0 (by
    rw [h4, hx, Block.expertPart_off (by simpa using ha) (by simpa using hx), Block.enableOn_of_not_srv hs]), h1, h2]
  rfl

theorem Block.ctrlWrite_enableClear (he : (b.hdr p).enable = true) (hf : enableFixed (pageKind p) = false)
    (hs : (b.hdr p).st = .quiesced) (hc : (b.hdr p).commitPending = false) :
    b.ctrlWrite p (b.ctrlBit p 0 false) = (b.keyUsed p).enableOff p := by
  obtain ⟨h0, h1, h2, h4⟩ := Block.ctrlBit_enable (b := b) (p := p) false
  rw [Block.ctrlWrite_disable he h0 hf hs hc, h1, h2, h4, hx, Block.expertPart_off (by simpa using ha) (by simpa using hx)]
  rfl

end OneBit

/-! ### Drain, timeout and commit (R30, R31) -/

theorem Block.quiesceDrained_of_quiescing (h : (b.hdr p).st = .quiescing) :
    b.quiesceDrained p = (b.modHdr p (fun h => { h with st := .quiesced })).raise p evQuiesced := if_pos h

theorem Block.quiesceTimeout_of_late (h : (b.hdr p).st = .quiescing) (hl : (b.hdr p).quiesceAt + 10000 ≤ b.now) :
    b.quiesceTimeout p = b.reportPage p (if pageKind p = .til then 0x0150 else 0x0002) := if_pos ⟨h, hl⟩

/-- With no bake in progress, a commit that is due happens. -/
theorem Block.idleCommit_of_idle (hc : (b.hdr p).commitPending = true) (hi : ∀ k, b.bakeRuns k = false) :
    b.idleCommit p = b.commitWhole p := by
  unfold Block.idleCommit
  cases pageKind p <;> simp [hc, hi]

end Ctrl

/-! ### The statements -/

/-- Settles O28: an equal ENABLE leads to the write's other parts, none of which arms the key. -/
theorem keyArmsAndIsConsumed : Obligations.KeyArmsAndIsConsumed := by
  unfold Obligations.KeyArmsAndIsConsumed
  intro s p v a hreach hk
  simp only []
  refine ⟨fun hv => ?_, fun hv => ?_, fun w he hr => ?_⟩
  · rw [exec_keyWrite hreach hk, Block.keyWord, if_pos hv]
  · rw [exec_keyWrite hreach hk, Block.keyWord, if_neg hv]; rfl
  · have hused : ((((s.blk.keyUsed p).expertPart p (bit w 4) (s.blk.hdr p).keyArmed)).hdr p).keyArmed = false := by
      rw [Block.hdr_expertPart_keyArmed, Block.hdr_keyUsed]
    rw [Block.ctrlWrite_keep he, hr]
    cases bit w 1
    · exact hused
    · rw [Block.ctrlAsk_quiesce, Block.hdr_quiesce_keyArmed]; exact hused

/-- Settles O29: the write leaves ENABLE as it is and asks for nothing but EXPERT. -/
theorem expertModeChanges : Obligations.ExpertModeChanges := by
  unfold Obligations.ExpertModeChanges
  intro s p a hreach hk
  simp only []
  have hset : s.blk.ctrlWrite p (s.blk.ctrlBit p 4 true) = (s.blk.keyUsed p).expertPart p true (s.blk.hdr p).keyArmed :=
    Block.ctrlWrite_ctrlBit (by decide)
  have hclear : s.blk.ctrlWrite p (s.blk.ctrlBit p 4 false) = (s.blk.keyUsed p).expertPart p false (s.blk.hdr p).keyArmed :=
    Block.ctrlWrite_ctrlBit (by decide)
  rw [exec_expertSet hreach hk, exec_expertClear hreach hk, hset, hclear]
  refine ⟨fun ha harm => ?_, fun ha harm => ?_, fun ha hs => ?_, fun ha hs hoff => ?_⟩
  · rw [harm, Block.expertPart_armed (by simpa using ha), Block.modHdr_keyUsed]
  · rw [harm, Block.expertPart_unarmed (by simpa using ha), Block.modHdr_keyUsed]; rfl
  · rw [Block.expertPart_clear (by simpa using ha), Block.expertOff, Block.page_keyUsed, if_pos (by simpa using hs),
      Block.setPage_keyUsed, Block.deriveExpert_keyUsed]
  · rw [Block.expertPart_clear (by simpa using ha), Block.expertOff, Block.page_keyUsed, if_neg]
    · rfl
    · rintro (h | ⟨hq, hc⟩)
      · exact hoff h
      · simp_all

/-- Settles O30, by the state of the block: the write consumes the key, EXPERT is off and stays off, and ENABLE, QUIESCE or RESUME acts. -/
theorem blockStateChanges : Obligations.BlockStateChanges := by
  unfold Obligations.BlockStateChanges
  intro s p v a hreach hk
  simp only []
  intro hbit hen hheld
  have hlive : s.live := hreach.1
  have hx (ha : (s.blk.hdr p).expertActive = false) : (s.blk.hdr p).expertBit = false := hbit.trans ha
  have hused : (s.blk.keyUsed p).upd.held.contains p.val = false := hheld
  rw [exec_enableSet hreach hk, exec_enableClear hreach hk, exec_quiesce hreach hk, exec_resume hreach hk, exec_isrClear hreach hk]
  refine ⟨fun hs ha hsrv => ?enable, fun hs hc hf ha => ?disable, fun hs => ?disableInRun, fun hs ha => ?quiesce, fun hs ha => ?abandonStop,
    fun hs hc hst ha => ?commitLater, fun hs hst ha => ?commitNow, fun hs ha => ⟨?quiesceInOff, ?resumeInOff⟩,
    fun hs => ?drained, fun hs hl => ?timeout, fun hc hidle => ?idle, rfl⟩
  case enable =>
    rw [Block.ctrlWrite_enableSet ha (hx ha) (by simp [hen, hs]) hsrv, Block.opened, Block.page_keyUsed, Block.hdr_keyUsed]; rfl
  case disable =>
    rw [Block.ctrlWrite_enableClear ha (hx ha) (by simp [hen, hs]) hf hs hc]; rfl
  case disableInRun =>
    rw [Block.ctrlWrite_disable_refused (by simp [hen, hs]) (Block.ctrlBit_enable false).1 (.inr hs)]; rfl
  case quiesce =>
    rw [Block.ctrlWrite_quiesce ha (hx ha), Block.quiesce_of_run (by simpa using hs) hused, Block.setPage_keyUsed]
    simp
  case abandonStop =>
    rw [Block.ctrlWrite_resume ha (hx ha), Block.resume_of_quiescing (by simpa using hs) hused, Block.setPage_keyUsed]
    simp
  case commitLater =>
    rw [Block.ctrlWrite_resume ha (hx ha), Block.resume_of_quiesced (by simpa using hs) hused, if_neg (by simp [hst]),
      if_neg (by simp [hc]), Block.modHdr_keyUsed]; rfl
  case commitNow =>
    rw [Block.ctrlWrite_resume ha (hx ha), Block.resume_of_quiesced (by simpa using hs) hused, if_pos hst]; rfl
  case quiesceInOff =>
    rw [Block.ctrlWrite_quiesce ha (hx ha), Block.quiesce_of_off (by simpa using hs)]; rfl
  case resumeInOff =>
    rw [Block.ctrlWrite_resume ha (hx ha), Block.resume_of_off (by simpa using hs)]; rfl
  case drained =>
    show Host.Outcome.next (s.act (fun b => b.quiesceDrained p)) = _
    rw [State.act_live hlive, Block.quiesceDrained_of_quiescing hs]; rfl
  case timeout =>
    show Host.Outcome.next (s.act (fun b => b.quiesceTimeout p)) = _
    rw [State.act_live hlive, Block.quiesceTimeout_of_late hs hl]
  case idle =>
    show Host.Outcome.next (s.act (fun b => (b.idleCommit p).rest)) = _
    rw [State.act_live hlive, Block.idleCommit_of_idle hc hidle]

end Sys2Proof.Machine
end

section
/-! SUPPORT. Writes to the fields of a word with one writable field (R11, R23, R27). -/
namespace Sys2Proof.Machine

section Field
variable {s : State} {b : Block} {p q : Nat} {a : Agent} {f : Field} {i off w raw : Nat}

/-- Beyond the header and the command words, a write that reaches an implemented page acts on the fields of its word. -/
theorem Block.writeWord_fields (h : s.reaches p a) (hk : pageKind p ≠ .reserved) (ho : 0x40 ≤ off)
    (hsrv : ¬ (pageKind p = .srv ∧ off = 0x90)) (heth : ¬ (p = 8 ∧ off = 0x88)) (hflt : ¬ (pageKind p = .flt ∧ off = 0x64)) :
    s.blk.writeWord p off w a = (s.blk.fieldsWrite p off w a).rest := by
  rw [Block.writeWord, if_neg (Block.reaches_open h hk), if_neg (by omega)]
  split
  next hp => rw [if_neg (fun e => hsrv ⟨hp, e⟩)]
  next => rw [if_neg heth]
  next hp => rw [if_neg (fun e => hflt ⟨hp, e⟩)]
  next => rfl

/-- What a word written at an offset spells for a field lies in the field's range. -/
abbrev Block.wordOk (b : Block) (p off w : Nat) (f : Field) (i : Nat) (a : Agent) : Bool :=
  b.valueOk p f i off (b.afterWord p off w f i) (b.afterWord p off w) a

/-- No field of a tile or of a quad that acts is a read-write one. -/
theorem Block.trigger_of_rw (hw : wholeWrite (pageKind p) = false) (hrw : f.acc = .rw) : b.trigger p f i raw a = none := by
  have hne {g : Field} (hg : g.acc ≠ .rw) : f ≠ g := fun e => hg (e ▸ hrw)
  unfold Block.trigger
  cases hk : pageKind p <;> simp only [hk, wholeWrite, Bool.true_eq_false] at hw
  case fab => exact if_neg (hne (by decide))
  case til => exact (if_neg (hne (by decide))).trans (if_neg (hne (by decide)))

/-- A read-write immediate field that has no behaviour of its own. -/
theorem Block.immWrite_rw (hrw : f.acc = .rw) (hinj : ¬ (pageKind p = .flt ∧ (f.off = 0x140 ∨ f.off = 0x144)))
    (ht : b.trigger p f i (f.raw i off w) a = none) (hmoe : pageKind p ≠ .moe) : b.immWrite p f i off w a =
      if b.wordOk p off w f i a = false then b.cfgReject p
      else b.putActing p f i (b.afterWord p off w f i) := by
  unfold Block.immWrite
  simp only [hrw, ht]
  rw [if_neg (by simp), if_neg (fun h => hinj ⟨h.1, h.2.1⟩)]
  simp [hmoe]

/-- Outside the placement, power and update pages, taking a value is storing it. -/
theorem Block.putActing_eq_put (hmoe : pageKind p ≠ .moe) (hpwr : pageKind p ≠ .pwr)
    (hact : ¬ (pageKind p = .boot ∧ f = F.BOOT_UPD_CMD.ACT_MASK)) : b.putActing p f i w = b.put p f w i := by
  unfold Block.putActing
  split
  next hp => exact absurd hp hpwr
  next hp => exact absurd hp hmoe
  next hp => rw [if_neg (fun e => hact ⟨hp, e⟩)]
  next => rfl

/-- A read-write staged field is stored where the pending set takes it and the value is in its range (R23, R27). -/
theorem Block.stagedWrite_rw (hrw : f.acc = .rw) : b.stagedWrite p f i off w false a =
    if b.takes p f = true ∧ b.wordOk p off w f i a = true then b.putPnd p f (b.afterWord p off w f i) i
    else b.cfgReject p := by
  unfold Block.stagedWrite
  cases ht : b.takes p f
  · simp [hrw]
  · cases hv : b.wordOk p off w f i a <;> simp [hrw, hv]

/-! ### A word whose only writable field is a read-write one -/

section Single
variable (hf : (fieldsAt p off).filter (fun x => decide (x.1.acc ≠ .ro)) = [(f, i)]) (hrw : f.acc = .rw)
include hf hrw

/-- The write is discarded whole, or taken as the field's kind says (R11, R27). -/
theorem Block.fieldsWrite_single : b.fieldsWrite p off w a =
      if wholeWrite (pageKind p) = true ∧ b.wordOk p off w f i a = false then b.cfgReject p
      else if f.kind = .imm then b.immWrite p f i off w a
      else b.stagedWrite p f i off w false a := by
  unfold Block.fieldsWrite
  simp only [hf]
  by_cases hi : f.kind = .imm <;> simp [hrw, hi, Block.writeOutside]

/-- A value outside the range of a read-write field is discarded, as the whole write or as the one field's (R128, R373). -/
theorem Block.fieldsWrite_outside (hv : b.wordOk p off w f i a = false) : b.fieldsWrite p off w a = b.cfgReject p := by
  rw [Block.fieldsWrite_single hf hrw]
  cases hw : wholeWrite (pageKind p)
  · have hmoe : pageKind p ≠ .moe := fun e => by simp [e, wholeWrite] at hw
    have hflt : pageKind p ≠ .flt := fun e => by simp [e, wholeWrite] at hw
    rw [if_neg (by simp), Block.stagedWrite_rw hrw, Block.immWrite_rw hrw (fun h => hflt h.1) (Block.trigger_of_rw hw hrw) hmoe]
    simp [hv]
  · rw [if_pos ⟨rfl, hv⟩]

theorem Block.fieldsWrite_staged (hk : f.kind ≠ .imm) : b.fieldsWrite p off w a =
      if b.takes p f = true ∧ b.wordOk p off w f i a = true then b.putPnd p f (b.afterWord p off w f i) i
    else b.cfgReject p := by
  rw [Block.fieldsWrite_single hf hrw, if_neg hk, Block.stagedWrite_rw hrw]
  cases b.wordOk p off w f i a <;> simp

end Single

end Field

/-- Settles O26, by the kind of the one field that the word writes. -/
theorem registerWritesFields : Obligations.RegisterWritesFields := by
  unfold Obligations.RegisterWritesFields
  intro s p w v a f i hreach
  simp only []
  intro hk ho hsrv heth hflt hf hrw
  have hexec : exec (.registerWrite p w v a) s = .next (s.withBlk (s.blk.fieldsWrite p (4 * w.val) v.toNat a).rest) := by
    show Host.Outcome.next (s.act (fun b => b.writeWord p (4 * w.val) v.toNat a)) = _
    rw [State.act_live hreach.1, Block.writeWord_fields hreach hk ho hsrv heth hflt]
  rw [hexec]
  refine ⟨fun hv => ?outside, fun hkind ht => ?refused, fun hkind ht hv => ?staged, fun hkind hv ht hmoe hpwr hact hinj => ?immediate⟩
  case outside => rw [Block.fieldsWrite_outside hf hrw hv]
  case refused => rw [Block.fieldsWrite_staged hf hrw hkind, if_neg (by simp [ht])]
  case staged => rw [Block.fieldsWrite_staged hf hrw hkind, if_pos ⟨ht, hv⟩]
  case immediate =>
    rw [Block.fieldsWrite_single hf hrw, if_neg (by simp [hv]), if_pos hkind, Block.immWrite_rw hrw hinj ht hmoe, if_neg (by simp [hv]),
      Block.putActing_eq_put hmoe hpwr hact]

end Sys2Proof.Machine
end

section
/-! SUPPORT. A crossing that hangs (R42). -/
namespace Sys2Proof.Machine

section Hung
variable {b : Block} {t cause w r since : Nat}

/-- A cause of retirement changes the tiles alone. -/
theorem Block.wantRetire_eq : ∃ ts, b.wantRetire t cause = { b with tiles := ts } := ⟨_, rfl⟩

theorem Block.stalled_iff : b.stalled w r since = true ↔ crossings w r ≠ [] ∧
    since + b.eff pgDev F.DEV_HS_STALL.HS_STALL_LIMIT * 1000 ≤ b.now ∧ (b.score r).lastRead ≤ since := by
  simp [Block.stalled, and_assoc]

/-- The report of a hung crossing: on the writer's page, for the reader's island. -/
def hungReport (w r : Nat) : Report := { page := islandPage w, code := 0x0001, island := r, detail := 0, part := none }

/-- The block with the reader's bit of DEV_ISL_HUNG set and the crossing reported. -/
def Block.hungMarked (b : Block) (w r : Nat) : Block :=
  (b.report (hungReport w r)).putBit pgDev F.DEV_ISL_HUNG.HUNG (r % 32) true (r / 32)

/-- The block once the event of a bit that was clear is raised as well. -/
def Block.hungRaised (b : Block) (w r : Nat) : Block :=
  if bit (b.eff pgDev F.DEV_ISL_HUNG.HUNG (r / 32)) (r % 32) then b.hungMarked w r else (b.hungMarked w r).raise pgDev 0

theorem Block.islandHung_of_not_stalled (h : b.stalled w r since = false) : b.islandHung w r since = b := by
  simp [Block.islandHung, h]

/-- Beyond the report, the bit and the event, a hung crossing changes the tiles alone. -/
theorem Block.islandHung_of_stalled (h : b.stalled w r since = true) :
    ∃ ts, b.islandHung w r since = { b.hungRaised w r with tiles := ts } := by
  have hd : b.islandHung w r since =
      if r < 288 ∧ (b.tile r).seq ≠ .retired then (b.hungRaised w r).wantRetire r 4 else b.hungRaised w r := by
    rw [Block.islandHung, h]; rfl
  rw [hd]
  split
  · exact Block.wantRetire_eq
  · exact ⟨_, rfl⟩

/-- The bit that was written reads 1. -/
theorem Block.bit_eff_hungMarked : bit ((b.hungMarked w r).eff pgDev F.DEV_ISL_HUNG.HUNG (r / 32)) (r % 32) = true := by
  have hw : r % 32 < F.DEV_ISL_HUNG.HUNG.width := Nat.mod_lt _ (by decide)
  have hset (x : Nat) : (setBits x (r % 32) 1 1).testBit (r % 32) = true := (bit_setBits_one x _ _).trans (by simp)
  rw [Block.hungMarked, Block.putBit, Block.eff_put_same _ _ _ _ _ rfl, b2n, if_pos rfl, bit, Nat.testBit_mod_two_pow, hset]
  simpa using hw

theorem Block.bit_eff_hungRaised : bit ((b.hungRaised w r).eff pgDev F.DEV_ISL_HUNG.HUNG (r / 32)) (r % 32) = true := by
  rw [Block.hungRaised]
  split
  · exact Block.bit_eff_hungMarked
  · rw [Block.eff_raise]; exact Block.bit_eff_hungMarked

/-- A bit that was clear raises ISLAND_HUNG_EV. -/
theorem Block.isr_hungRaised (h : bit (b.eff pgDev F.DEV_ISL_HUNG.HUNG (r / 32)) (r % 32) = false) :
    bit ((b.hungRaised w r).hdr pgDev).isr 0 = true := by
  rw [Block.hungRaised, h, if_neg (by decide), Block.hdr_raise, if_pos rfl]
  simp [bit_setBits_one]

theorem Block.reports_hungRaised : (b.hungRaised w r).reports = b.reports ++ [(b.hearthAt r, hungReport w r)] := by
  rw [Block.hungRaised]
  split
  · rfl
  · rw [Block.raise_reports]; rfl

end Hung

/-- Settles O32: where the crossing is stalled the block is that of the report, the bit and the event, but for its tiles. -/
theorem hungCrossingReports : Obligations.HungCrossingReports := by
  unfold Obligations.HungCrossingReports
  intro s w r since hlive
  have hexec : exec (.islandHung w ⟨r, since⟩) s = .next (s.withBlk (s.blk.islandHung w r since.toNat)) :=
    congrArg Host.Outcome.next (State.act_live hlive)
  rw [hexec]
  refine ⟨fun hnot => ?_, fun hcross hlate hread => ?_⟩
  · rw [Block.islandHung_of_not_stalled hnot, State.withBlk_self]
  · obtain ⟨ts, hts⟩ := Block.islandHung_of_stalled (Block.stalled_iff.2 ⟨hcross, hlate, hread⟩)
    exact ⟨_, rfl, by rw [hts]; exact Block.bit_eff_hungRaised, fun hclear => by rw [hts]; exact Block.isr_hungRaised hclear,
      hungReport w r, by rw [hts]; exact Block.reports_hungRaised, rfl, rfl, rfl⟩

end Sys2Proof.Machine
end

section
/-! SUPPORT. The boundary of a step, the idle poll, delivery, tenant updates and draft requests (R46 to R49, R297, R300, R308, R321, R326). -/
namespace Sys2Proof.Machine

/-! ### The boundary (R46 to R49) -/

section Boundary
variable {b : Block} {k : Nat} {st : StepAnn} {toks : List (Nat × List Nat)}

/-- The block as its step begins: the tick is a step start, and the announcement is due no more. -/
def Block.stepBegun (b : Block) (k : Nat) (st : StepAnn) : Block :=
  { b with stepTick := some b.now, tb := { b.tb with steps := SMap.set b.tb.steps k { st with due := false } } }

/-- A package does the boundary work of a partition's members (R49). -/
def Block.isMember (b : Block) (k : Nat) : Bool := b.enabled (pgPart k) && b.synced && !b.safe

/-- What a member does at its boundary, in order (R49). -/
def Block.memberBoundary (b : Block) (k : Nat) (st : StepAnn) (toks : List (Nat × List Nat)) : Block :=
  let b3 := (((b.trace 2 0x0F03 (pgPart k) 399 (some k) (st.bakeNo % 65536)).item1 k st.bakeNo).item2 k st.bakeNo).plcBoundary k st.bakeNo
  ((b3.item4 k st.start).item5 k st.start).item6 k st.bakeNo st.start (b3.membersOf k) toks

/-- A start that is due and whose tick has come begins the step, once a member has delivered the bake before it. -/
theorem Block.stepStart_of_due (hst : SMap.find b.tb.steps k = some st) (hdue : st.due = true) (hnow : st.start ≤ b.now)
    (hdel : b.isMember k = true → (b.srv k).delivered = true) : b.stepStart k toks =
      let b2 := if b.safe then b.stepBegun k st else (b.stepBegun k st).commitShared st.announcedAt
      if !b.isMember k then b2.watchBake k st else b2.memberBoundary k st toks := by
  have hwait : ¬ ((!st.due) = true ∨ b.now < st.start ∨ (b.isMember k = true ∧ (!(b.srv k).delivered) = true)) := by
    rintro (h | h | ⟨hm, h⟩)
    · simp [hdue] at h
    · omega
    · simp [hdel hm] at h
  unfold Block.stepStart
  simp only [hst]
  exact if_neg hwait

variable (hst : SMap.find b.tb.steps k = some st) (hdue : st.due = true) (hnow : st.start ≤ b.now)
include hst hdue hnow

/-- In the safe state nothing commits, and the package does no member's work. -/
theorem Block.stepStart_of_safe (hs : b.safe = true) : b.stepStart k toks = (b.stepBegun k st).watchBake k st := by
  have hm : b.isMember k = false := by simp [Block.isMember, hs]
  rw [Block.stepStart_of_due hst hdue hnow (by simp [hm])]
  simp [hs, hm]

/-- A package that is no member commits the shared pages alone. -/
theorem Block.stepStart_of_not_member (hs : b.safe = false) (hout : b.enabled (pgPart k) = false ∨ b.synced = false) :
    b.stepStart k toks = ((b.stepBegun k st).commitShared st.announcedAt).watchBake k st := by
  have hm : b.isMember k = false := by rcases hout with h | h <;> simp [Block.isMember, h]
  rw [Block.stepStart_of_due hst hdue hnow (by simp [hm])]
  simp [hs, hm]

theorem Block.stepStart_of_member (hs : b.safe = false) (he : b.enabled (pgPart k) = true) (hy : b.synced = true)
    (hdel : (b.srv k).delivered = true) :
    b.stepStart k toks = ((b.stepBegun k st).commitShared st.announcedAt).memberBoundary k st toks := by
  have hm : b.isMember k = true := by simp [Block.isMember, hs, he, hy]
  rw [Block.stepStart_of_due hst hdue hnow (fun _ => hdel)]
  simp [hs, hm]

end Boundary

/-! ### The idle poll, the drain and delivery (R297, R300, R321) -/

section Idle
variable {b : Block} {k : Nat}

theorem Block.pollDue_iff : b.pollDue k = true ↔
    ∀ t, (b.srv k).polled = some t → t + b.sv k F.SRV_POLL.IDLE_POLL * 1000 ≤ b.now := by
  unfold Block.pollDue
  cases (b.srv k).polled <;> simp

theorem Block.idlePoll_of_not_due (h : b.pollDue k = false) : b.idlePoll k = b := if_pos (by simp [h])

/-- A ring that is enabled and without error holds an entry that has not been read (R300). -/
def Block.ringsHold (b : Block) (k : Nat) : Bool := (List.range 16).any (fun i =>
  decide (b.eff (pgPart k) F.SRV_RING_CFG.RING_EN i = 1) && decide (b.eff (pgPart k) F.SRV_RING_CFG.ERR i = 0)
    && decide (b.m64 (b.ringOff k i) ≠ b.m64 (b.ringOff k i + 0x40)))

theorem Block.idlePoll_of_due (he : b.enabled (pgPart k) = true) (ha : b.sv k F.SRV_STAT.ACTIVE = 0) (hs : b.safe = false)
    (h : b.pollDue k = true) : b.idlePoll k =
      b.setSrv k { b.srv k with polled := some b.now, want := (b.srv k).want || b.ringsHold k } := if_neg (by simp [he, ha, hs, h])

theorem Block.drainedEv_of_drained (he : b.enabled (pgPart k) = true) (ha : b.sv k F.SRV_STAT.ACTIVE = 0)
    (hstop : b.sv k F.SRV_CFG.ADMIT_STOP = 1) (hd : (b.srv k).drained = false) :
    b.drainedEv k = (b.setSrv k { b.srv k with drained := true }).raise (pgPart k) 7 := if_pos (by simp [he, ha, hstop, hd])

/-- A bake whose earlier phases have ended is delivered: phase 6, the final records of requests that were left out, phase 7, and the draft
requests for the next bake. -/
theorem Block.deliver_of_ready {toks : List (Nat × List Nat)} (ha : (b.bake k).active = true) (hd : (b.srv k).delivered = false)
    (hs : b.safe = false) (he : b.enabled (pgPart k) = true) (hb : b.bakeBusy k = false) : b.deliver k toks =
      let es := (b.lenEntries k).map (fun p => (p, b.sampled k p.1 p.2 toks))
      let b1 := es.foldl (fun b x => b.phase6 k x.1 x.2) b
      let b2 := (b1.srv k).finals.foldl (fun b s => b.lateFinal k s) b1
      let b3 := es.foldl (fun b x => (b.phase7 k x.1.2 x.2).adaptEntry k x.1.2 x.2) (b2.setSrv k { b2.srv k with finals := [] })
      let b4 := es.foldl (fun b x => b.askDraft k x.1.2.seq (b.lenAfter k x.1)) b3
      b4.setSrv k { b4.srv k with delivered := true } := if_neg (by simp [ha, hd, hs, he, hb])

end Idle

/-! ### Tenant updates (R308) -/

section Tenant
variable {b : Block} {s : State} {a : Agent}

theorem pageKind_pgPart (k : Fin 16) : pageKind (pgPart k) = .srv := by revert k; decide

/-- The word of SRV_TEN_UPD holds one field. -/
theorem fieldsAt_tenUpd (k : Fin 16) : fieldsAt (pgPart k) 0x88 = [(F.SRV_TEN_UPD.TENANT, 0)] := by
  simp only [fieldsAt, fieldHere, pageKind_pgPart]
  decide

/-- A word spells for a field within it the value that was put there. -/
theorem Field.raw_intoWord {f : Field} {i off v : Nat} (hlo : off * 8 ≤ f.key i) (hhi : f.key i + f.width ≤ off * 8 + 32)
    (hv : v < 2 ^ f.width) : f.raw i off (f.intoWord i off v) = v := by
  obtain ⟨d, hd⟩ := Nat.exists_eq_add_of_le hlo
  have hfit : v * 2 ^ d < 2 ^ 32 := calc
    v * 2 ^ d < 2 ^ f.width * 2 ^ d := by gcongr
    _ = 2 ^ (f.width + d) := (pow_add ..).symm
    _ ≤ 2 ^ 32 := Nat.pow_le_pow_right (by decide) (by omega)
  have hcover : f.cover i off = (0, f.width) := by
    simp only [Field.cover, Prod.mk.injEq]
    exact ⟨by omega, (congrArg₂ Nat.min (by omega) rfl).trans (Nat.min_eq_left (by omega))⟩
  rw [Field.raw, hcover, Field.intoWord]
  simp only [hd, Nat.le_add_right, if_true, Nat.add_sub_cancel_left, bits, pow_zero, Nat.div_one, mul_one]
  rw [Nat.mod_eq_of_lt hfit, Nat.mul_div_cancel _ (Nat.two_pow_pos d), Nat.mod_eq_of_lt hv]

/-- The word that writes a tenant to SRV_TEN_UPD spells that tenant. -/
theorem Block.raw_wordWith_tenUpd (k : Fin 16) (ten : BitVec 12) :
    F.SRV_TEN_UPD.TENANT.raw 0 0x88 (b.wordWith (pgPart k) F.SRV_TEN_UPD.TENANT 0 ten.toNat) = ten.toNat := by
  have hmod : ten.toNat % 2 ^ F.SRV_TEN_UPD.TENANT.width = ten.toNat := Nat.mod_eq_of_lt ten.isLt
  have hword : b.wordWith (pgPart k) F.SRV_TEN_UPD.TENANT 0 ten.toNat = F.SRV_TEN_UPD.TENANT.intoWord 0 0x88 ten.toNat := by
    unfold Block.wordWith
    simp only [show F.SRV_TEN_UPD.TENANT.word 0 = 0x88 by decide, fieldsAt_tenUpd, hmod]
    rfl
  rw [hword, Field.raw_intoWord (by decide) (by decide) ten.isLt]

/-- A write to SRV_TEN_UPD does nothing but the update. -/
theorem Block.fieldsWrite_tenUpd {w : Nat} (k : Fin 16) :
    b.fieldsWrite (pgPart k) 0x88 w a = b.tenUpd k (F.SRV_TEN_UPD.TENANT.raw 0 0x88 w) := by
  have htrig : b.trigger (pgPart k) F.SRV_TEN_UPD.TENANT 0 (F.SRV_TEN_UPD.TENANT.raw 0 0x88 w) a =
      some (b.tenUpd k (F.SRV_TEN_UPD.TENANT.raw 0 0x88 w)) := by
    rw [Block.trigger, pageKind_pgPart]
    exact (if_pos rfl).trans (by rw [pgPart, Nat.add_sub_cancel_left])
  have hkind : F.SRV_TEN_UPD.TENANT.kind = .imm := rfl
  have hacc : F.SRV_TEN_UPD.TENANT.acc = .wo := rfl
  have hwidth : F.SRV_TEN_UPD.TENANT.width = 12 := rfl
  unfold Block.fieldsWrite
  simp only [fieldsAt_tenUpd]
  simp [hkind, hacc, hwidth, Block.writeOutside, Block.immWrite, htrig, pageKind_pgPart]

theorem exec_tenUpd (k : Fin 16) (ten : BitVec 12) (h : s.reaches (pgPart k) a) :
    exec (.tenUpd k ten a) s = .next (s.withBlk (s.blk.tenUpd k ten.toNat).rest) := by
  show Host.Outcome.next (s.act (fun b => b.fieldWrite (pgPart k) F.SRV_TEN_UPD.TENANT 0 ten.toNat a)) = _
  rw [State.act_live h.1, Block.fieldWrite, show F.SRV_TEN_UPD.TENANT.word 0 = 0x88 by decide,
    Block.writeWord_fields h (by simp [pageKind_pgPart]) (by decide) (by simp) (by simp [pgPart]; omega) (by simp [pageKind_pgPart]),
    Block.fieldsWrite_tenUpd, Block.raw_wordWith_tenUpd]

theorem Block.tenUpd_of_room {k t : Nat} (h : (b.srv k).tenQ.length < 256) : b.tenUpd k t =
    (b.setSrv k { b.srv k with tenQ := (b.srv k).tenQ ++ [t] }).put (pgPart k) F.SRV_TEN_Q.QUEUED ((b.srv k).tenQ.length + 1) :=
  if_neg (by omega)
theorem Block.tenUpd_of_full {k t : Nat} (h : 256 ≤ (b.srv k).tenQ.length) : b.tenUpd k t = b.cfgReject (pgPart k) := if_pos h

end Tenant

/-! ### Packets and control messages that are taken (R345, R367, R370, R371) -/

section Packets
variable {s : State} {b : Block} {q : Nat} {p r : Packet}

@[simp] theorem Block.freeUnits_islandOpen (i : Nat) : (b.freeUnits q p).islandOpen i = b.islandOpen i := by
  obtain ⟨l, h⟩ := Block.freeUnits_eq (b := b) (q := q) (p := p); rw [h]; rfl
@[simp] theorem Block.freeUnits_stalePacket : (b.freeUnits q p).stalePacket r = b.stalePacket r := by
  obtain ⟨l, h⟩ := Block.freeUnits_eq (b := b) (q := q) (p := p); rw [h]; rfl
@[simp] theorem Block.freeUnits_ctrlRepeated (src kind : Nat) (body : List Nat) :
    (b.freeUnits q p).ctrlRepeated src kind body = b.ctrlRepeated src kind body := by
  obtain ⟨l, h⟩ := Block.freeUnits_eq (b := b) (q := q) (p := p); rw [h]; rfl

/-- A packet that is meant for the package is taken once its units are free. -/
theorem Block.packetIn_of_meant (h : s.meant q p) (go : Block → Block) : s.blk.packetIn q p go = go (s.blk.freeUnits q p) := by
  obtain ⟨-, hopen, hdst, hage⟩ := h
  have hfresh : s.blk.stalePacket p = false := by simpa [Block.stalePacket] using hage
  simp [Block.packetIn, hopen, hfresh, hdst]

end Packets

section Ctrl
variable {s : State} {h : CtrlIn} {kind : Nat} {body : List Byte}

theorem State.meant_of_hears (hh : s.hears h kind body) : s.meant h.quad (ctrlPacket h kind body) := by
  obtain ⟨hlive, hopen, hdst, hage, -, -⟩ := hh
  exact ⟨hlive, hopen, hdst, fun _ => hage⟩

/-- A control message that the package hears is taken by the block that has noted it. -/
theorem Block.ctrlIn_of_hears (hh : s.hears h kind body) (go : Block → Block) :
    s.blk.ctrlIn h kind body go = go (s.blk.noted h kind body) := by
  rw [Block.ctrlIn, Block.packetIn_of_meant (State.meant_of_hears hh)]
  obtain ⟨-, -, -, -, hsafe, hnew⟩ := hh
  have hheard : ¬ ((s.blk.freeUnits h.quad (ctrlPacket h kind body)).safe = true ∧ kind ≠ ckLINK_STATE) := by
    rintro ⟨hs, hk⟩
    simp [hk] at hsafe
    simp [hsafe] at hs
  obtain ⟨l, hfree⟩ := Block.freeUnits_eq (b := s.blk) (q := h.quad) (p := ctrlPacket h kind body)
  rw [if_neg hheard, if_neg (by simp [hnew]), Block.noted, hfree]
  rfl

/-- Noting a message changes the links and the list of messages seen alone. -/
theorem Block.noted_eq (b : Block) : ∃ l c, b.noted h kind body = { b with links := l, ctrlSeen := c } := by
  obtain ⟨l, hfree⟩ := Block.freeUnits_eq (b := b) (q := h.quad) (p := ctrlPacket h kind body)
  exact ⟨l, _, by rw [Block.noted, hfree]⟩
@[simp] theorem Block.noted_pool (b : Block) (p : Nat) : (b.noted h kind body).pool p = b.pool p := by
  obtain ⟨l, c, e⟩ := Block.noted_eq (h := h) (kind := kind) (body := body) b; rw [e]; rfl
@[simp] theorem Block.noted_srv (b : Block) (k : Nat) : (b.noted h kind body).srv k = b.srv k := by
  obtain ⟨l, c, e⟩ := Block.noted_eq (h := h) (kind := kind) (body := body) b; rw [e]; rfl

end Ctrl

/-- Settles O36: each command is live, so it is its operation on the block, whose lemma for the command's condition gives the block after. -/
theorem stepsRunInOrder : Obligations.StepsRunInOrder := by
  unfold Obligations.StepsRunInOrder
  intro s k toks ten a h seq model pool lused len hlive
  simp only []
  have hact (f : Block → Block) : Host.Outcome.next (s.act f) = (.next (s.withBlk (f s.blk)) : Host.Outcome State Fault Refusal) := by
    rw [State.act_live hlive]
  have hstep : exec (.stepStartTick k toks) s = .next (s.withBlk (s.blk.rampAuto.stepStart k toks).rest) := hact _
  have hpoll : exec (.idlePoll k) s = .next (s.withBlk (s.blk.idlePoll k).rest) := hact _
  have hdeliver : exec (.deliver k toks) s = .next (s.withBlk (s.blk.deliver k toks).rest) := hact _
  have hdrained : exec (.drained k) s = .next (s.withBlk (s.blk.drainedEv k)) := hact _
  rw [hstep, hpoll, hdeliver, hdrained]
  refine ⟨fun st hst hdue hnow => ⟨fun hs => ?safe, fun hs hout => ?outsider, fun hs he hy hdel => ?member⟩,
    fun he ha hs => ⟨fun t ht hnow => ?early, fun hdue => ?poll⟩, fun ha hd hs he hb => ?deliver, fun he ha hstop hd => ?drained,
    fun hreach => ⟨fun hroom => ?queued, fun hfull => ?full⟩, fun hh => ?draft⟩
  case safe => rw [Block.stepStart_of_safe hst hdue hnow hs]; rfl
  case outsider => rw [Block.stepStart_of_not_member hst hdue hnow hs hout]; rfl
  case member => rw [Block.stepStart_of_member hst hdue hnow hs he hy hdel]; rfl
  case early =>
    have hnot : s.blk.pollDue k = false := by
      rw [Bool.eq_false_iff]
      exact fun hdue => absurd (Block.pollDue_iff.1 hdue t ht) (by omega)
    rw [Block.idlePoll_of_not_due hnot]
  case poll => rw [Block.idlePoll_of_due he ha hs (Block.pollDue_iff.2 hdue)]; rfl
  case deliver => rw [Block.deliver_of_ready ha hd hs he hb]; rfl
  case drained => rw [Block.drainedEv_of_drained he ha hstop hd]
  case queued => rw [exec_tenUpd k ten hreach, Block.tenUpd_of_room hroom]
  case full => rw [exec_tenUpd k ten hreach, Block.tenUpd_of_full hfull]
  case draft =>
    refine (hact _).trans ?_
    rw [Block.ctrlIn_of_hears hh, Block.draftRx, Block.draftReq]
    simp only [Block.noted_pool, Block.noted_srv]

end Sys2Proof.Machine
end

section
/-! SUPPORT. Lane operations of the vector unit: what one of them does, whatever the operation (R77, R78, R87, R104, R107). -/
namespace Sys2Proof.Machine

section Lanes
variable {s : State} {t : Fin 288} {c : Instr} {g : Gate} {f : Tile → TRes} {x : Tile} {vd va fn code : Nat} {l : List (Nat × Nat)}

/-- The results of the lanes go to the register and the flags of all lanes are joined (R87). -/
theorem laneRes_eq : laneRes x vd l = .ok (x.setV vd (l.map (fun e => BitVec.ofNat 32 e.1))) (l.foldl (fun f e => f ||| e.2) 0) := by
  rw [laneRes, ofLanes, List.map_map]; rfl

theorem vfn_of_listed (h : fn < 14) : vfn vd va fn x = laneRes x vd ((x.lanes va).map (vfnLane fn)) := if_pos h
theorem vfn_of_unlisted (h : ¬ fn < 14) : vfn vd va fn x = .fault tfILLEGAL := if_neg h

variable (h : s.issues t) (hg : s.blk.gated t g = false)
  (he : exec c s = .next (s.issue t c fun b => b.insn t g (fun _ => []) false f))
include h hg he

/-- A command that issues a lane operation, where the limiter lets it, writes the lanes and their flags, and the tile goes on. -/
theorem exec_lanes (hf : f (s.blk.tile t) = laneRes (s.blk.tile t) vd l) (hn : s.nextIs t c) :
    exec c s = .next (s.withBlk (s.blk.laneNext t (s.blk.tile t) vd l)) := by
  rw [he, State.issue_next _ h.1 hn, Block.insn_eq h false hg (by simp), hf, laneRes_eq]; rfl

/-- One that issues an operation that faults stops the tile. -/
theorem exec_lanes_fault (hf : f (s.blk.tile t) = .fault code) (hn : s.nextIs t c) :
    exec c s = .next (s.withBlk (s.blk.tileStop t code)) := by
  rw [he, State.issue_next _ h.1 hn, Block.insn_eq h false hg (by simp), hf]

end Lanes

/-- Settles O14: every command issues an operation that answers lanes (`laneRes`); the limiter gates the arithmetic and VFN, and nothing gates
those that move or compare bits. -/
theorem vectorLaneInstructions : Obligations.VectorLaneInstructions := by
  unfold Obligations.VectorLaneInstructions
  intro s t vd va vb vc sb fn bs h x A B C
  simp only [List.forall_mem_cons]
  refine ⟨fun hg => ⟨?vadd, ?vsub, ?vmul, ?vfma, List.forall_mem_nil _⟩, fun hg hn => ?vfn,
    ?vmax, ?vmin, ?vcmplt, ?vcmpeq, ?vsel, ?vabs, ?vneg, ?vmov, List.forall_mem_nil _⟩
  case vadd | vsub | vmul | vfma => exact fun hn => exec_lanes h hg rfl rfl hn
  case vfn =>
    split
    case isTrue hfn => exact exec_lanes h hg rfl (vfn_of_listed hfn) hn
    case isFalse hfn => exact exec_lanes_fault h hg rfl (vfn_of_unlisted hfn) hn
  case vmax | vmin | vcmplt | vcmpeq | vsel | vabs | vneg | vmov =>
    have hg : s.blk.gated t .none = false := rfl
    exact fun hn => exec_lanes h hg rfl rfl hn

end Sys2Proof.Machine
end

section
/-! SUPPORT. Scalar instructions of a tile and its SRAM (R91, R99, R100). -/
namespace Sys2Proof.Machine

/-! ### What an instruction that its tile fetches does -/

section Run
variable {s : State} {t : Fin 288} {c : Instr} {g : Gate} {touch : Tile → List (Nat × Nat)} {f : Tile → TRes} {y : Tile} {fl code : Nat}

/-- A command that issues an instruction does what the instruction's function answers, where no gate and no hazard holds it. -/
theorem exec_insn_ok (h : s.issues t) (he : exec c s = .next (s.issue t c fun b => b.insn t g touch false f))
    (hg : s.blk.gated t g = false) (ht : ∀ r ∈ touch (s.blk.tile t), s.blk.sramFree t r.1 r.2) (hf : f (s.blk.tile t) = .ok y fl)
    (hn : s.nextIs t c) : exec c s = .next (s.withBlk ((s.blk.tileNext t y).orNstat t fl)) := by
  rw [he, State.issue_next _ h.1 hn, Block.insn_eq h false hg ht, hf]; rfl

theorem exec_insnReg_ok (h : s.issues t) (he : exec c s = .next (s.issue t c fun b => b.insnReg t f)) (hf : f (s.blk.tile t) = .ok y 0)
    (hn : s.nextIs t c) : exec c s = .next (s.withBlk (s.blk.tileNext t y)) := by
  rw [he, State.issue_next _ h.1 hn, Block.insnReg_ok h hf]

theorem exec_insnJump_ok (h : s.issues t) (he : exec c s = .next (s.issue t c fun b => b.insnJump t f)) (hf : f (s.blk.tile t) = .ok y 0)
    (hn : s.nextIs t c) : exec c s = .next (s.withBlk (s.blk.setTile t y)) := by
  rw [he, State.issue_next _ h.1 hn, Block.insnJump_ok h hf]

theorem exec_insnJump_fault (h : s.issues t) (he : exec c s = .next (s.issue t c fun b => b.insnJump t f))
    (hf : f (s.blk.tile t) = .fault code) (hn : s.nextIs t c) : exec c s = .next (s.withBlk (s.blk.tileStop t code)) := by
  rw [he, State.issue_next _ h.1 hn, Block.insnJump_fault h hf]

variable {a : Tile → Nat} {n : Nat}

theorem exec_insnMem_ok (h : s.issues t) (he : exec c s = .next (s.issue t c fun b => b.insnMem t a n f))
    (ht : s.blk.sramFree t (a (s.blk.tile t)) n) (hf : f (s.blk.tile t) = .ok y 0)
    (hn : s.nextIs t c) : exec c s = .next (s.withBlk (s.blk.tileNext t y)) := by
  rw [he, State.issue_next _ h.1 hn, Block.insnMem_ok h ht hf, Block.orNstat_zero]

theorem exec_insnMem_fault (h : s.issues t) (he : exec c s = .next (s.issue t c fun b => b.insnMem t a n f))
    (ht : s.blk.sramFree t (a (s.blk.tile t)) n) (hf : f (s.blk.tile t) = .fault code)
    (hn : s.nextIs t c) : exec c s = .next (s.withBlk (s.blk.tileStop t code)) := by
  rw [he, State.issue_next _ h.1 hn, Block.insnMem_fault h ht hf]

end Run

/-! ### Registers (R91, R99) -/

/-- Settles O8, by what a read of the register file gives after a write to it. -/
theorem scalarRegisterFile : Obligations.ScalarRegisterFile := by
  unfold Obligations.ScalarRegisterFile
  intro x i j v
  refine ⟨Tile.s_zero x, Tile.setS_zero x v, fun hi => ?_, fun hj => ?_, Tile.setS_vregs x i v, Tile.setS_acc x i v, Tile.setS_sram x i v,
    Tile.setS_pc x i v⟩
  · rw [Tile.s_setS x i v hi, if_pos rfl]
  · by_cases hi : i = 0
    · rw [hi, Tile.setS_zero]
    · rw [Tile.s_setS x j v hi, if_neg hj]

theorem opSlt_eq (a b : W64) : opSlt a b = if a.toInt < b.toInt then 1 else 0 := by simp [opSlt, BitVec.slt_iff_toInt_lt]
theorem opSltu_eq (a b : W64) : opSltu a b = if a.toNat < b.toNat then 1 else 0 := by simp [opSltu, BitVec.ult_iff_lt, BitVec.lt_def]
theorem opMin_eq (a b : W64) : opMin a b = if b.toInt < a.toInt then b else a := by simp [opMin, BitVec.slt_iff_toInt_lt]
theorem opMax_eq (a b : W64) : opMax a b = if a.toInt < b.toInt then b else a := by simp [opMax, BitVec.slt_iff_toInt_lt]

/-- Settles O7: every command issues an operation on registers that answers the tile with its result in sd. -/
theorem scalarRegisterInstructions : Obligations.ScalarRegisterInstructions := by
  unfold Obligations.ScalarRegisterInstructions
  intro s t sd sa sb imm h
  simp only [List.forall_mem_cons]
  refine ⟨?add, ?sub, ?andW, ?orW, ?xorW, ?shl, ?shr, ?sra, ?mul, ?slt, ?sltu, ?min, ?max, ?addi, ?andi, ?ori, ?xori, ?shli, ?shri, ?srai, ?lui,
    List.forall_mem_nil _⟩
  case slt => rw [← opSlt_eq]; exact exec_insnReg_ok h rfl rfl
  case sltu => rw [← opSltu_eq]; exact exec_insnReg_ok h rfl rfl
  case min => rw [← opMin_eq]; exact exec_insnReg_ok h rfl rfl
  case max => rw [← opMax_eq]; exact exec_insnReg_ok h rfl rfl
  case add | sub | andW | orW | xorW | shl | shr | sra | mul | addi | andi | ori | xori | shli | shri | srai | lui =>
    exact exec_insnReg_ok h rfl rfl

/-! ### Loads and stores (R89, R99) -/

theorem inSram_iff {a n : Nat} : inSram a n = true ↔ a + n ≤ sramSize := by simp [inSram]

/-- An access to tile SRAM is checked for its alignment first, then for its range (R89). -/
theorem checked_misaligned {a k n : Nat} {r : TRes} (h : a % k ≠ 0) :
    (if a % k ≠ 0 then .fault tfALIGN else if !inSram a n then .fault tfRANGE else r) = TRes.fault tfALIGN := if_pos h

theorem checked_outside {a k n : Nat} {r : TRes} (h : a % k = 0) (hr : sramSize < a + n) :
    (if a % k ≠ 0 then .fault tfALIGN else if !inSram a n then .fault tfRANGE else r) = TRes.fault tfRANGE := by
  have hout : inSram a n = false := by simpa [inSram] using hr
  simp [h, hout]

theorem checked_ok {a k n : Nat} {r : TRes} (h : a % k = 0) (hr : a + n ≤ sramSize) :
    (if a % k ≠ 0 then .fault tfALIGN else if !inSram a n then .fault tfRANGE else r) = r := by
  simp [h, inSram_iff.2 hr]

section Values
variable {x : Tile} {n sd sa sb : Nat} {imm : BitVec 32}

theorem scalarLoad_ok (h : x.addrS sa imm % n = 0) (hr : x.addrS sa imm + n ≤ sramSize) :
    scalarLoad n sd sa imm x = .ok (x.setS sd (BitVec.ofNat 64 (leNat (x.rdBytes (x.addrS sa imm) n)))) 0 := by
  rw [scalarLoad]; exact checked_ok h hr
theorem scalarLoad_misaligned (h : x.addrS sa imm % n ≠ 0) : scalarLoad n sd sa imm x = .fault tfALIGN := by
  rw [scalarLoad]; exact checked_misaligned h
theorem scalarLoad_outside (h : x.addrS sa imm % n = 0) (hr : sramSize < x.addrS sa imm + n) : scalarLoad n sd sa imm x = .fault tfRANGE := by
  rw [scalarLoad]; exact checked_outside h hr

theorem scalarStore_ok (h : x.addrS sa imm % n = 0) (hr : x.addrS sa imm + n ≤ sramSize) :
    scalarStore n sa sb imm x = .ok (x.wr (x.addrS sa imm) (leBytes n (x.s sb).toNat)) 0 := by
  rw [scalarStore]; exact checked_ok h hr
theorem scalarStore_misaligned (h : x.addrS sa imm % n ≠ 0) : scalarStore n sa sb imm x = .fault tfALIGN := by
  rw [scalarStore]; exact checked_misaligned h
theorem scalarStore_outside (h : x.addrS sa imm % n = 0) (hr : sramSize < x.addrS sa imm + n) : scalarStore n sa sb imm x = .fault tfRANGE := by
  rw [scalarStore]; exact checked_outside h hr

end Values

section Access
variable {s : State} {t : Fin 288} {n sd sa sb : Nat} {imm : BitVec 32} {ld st : Instr}

/-- A load and a store of `n` bytes, whatever the two commands: their values, and what stops them. -/
theorem exec_load_store (h : s.issues t)
    (hld : exec ld s = .next (s.issue t ld fun b => b.insnMem t (fun x => x.addrS sa imm) n (scalarLoad n sd sa imm)))
    (hst : exec st s = .next (s.issue t st fun b => b.insnMem t (fun x => x.addrS sa imm) n (scalarStore n sa sb imm)))
    (ht : s.blk.sramFree t ((s.blk.tile t).addrS sa imm) n) :
    let x := s.blk.tile t
    let a := x.addrS sa imm
    (a % n = 0 → a + n ≤ sramSize →
      (s.nextIs t ld → exec ld s = .next (s.withBlk (s.blk.tileNext t (x.setS sd (BitVec.ofNat 64 (leNat (x.rdBytes a n))))))) ∧
      (s.nextIs t st → exec st s = .next (s.withBlk (s.blk.tileNext t (x.wr a (leBytes n (x.s sb).toNat)))))) ∧
    (a % n ≠ 0 → ∀ c ∈ [ld, st], (s.nextIs t c → exec c s = .next (s.withBlk (s.blk.tileStop t 0x0112)))) ∧
    (a % n = 0 → sramSize < a + n → ∀ c ∈ [ld, st], (s.nextIs t c → exec c s = .next (s.withBlk (s.blk.tileStop t 0x0111)))) := by
  simp only [List.forall_mem_cons]
  refine ⟨fun ha hr => ⟨?_, ?_⟩, fun ha => ⟨?_, ?_, List.forall_mem_nil _⟩, fun ha hr => ⟨?_, ?_, List.forall_mem_nil _⟩⟩
  · exact exec_insnMem_ok h hld ht (scalarLoad_ok ha hr)
  · exact exec_insnMem_ok h hst ht (scalarStore_ok ha hr)
  · exact exec_insnMem_fault h hld ht (scalarLoad_misaligned ha)
  · exact exec_insnMem_fault h hst ht (scalarStore_misaligned ha)
  · exact exec_insnMem_fault h hld ht (scalarLoad_outside ha hr)
  · exact exec_insnMem_fault h hst ht (scalarStore_outside ha hr)

end Access

/-- Settles O9: both widths are one load and one store. -/
theorem scalarMemoryInstructions : Obligations.ScalarMemoryInstructions := by
  unfold Obligations.ScalarMemoryInstructions
  intro s t sd sa sb imm h
  rw [List.forall_mem_cons, List.forall_mem_cons]
  exact ⟨exec_load_store h rfl rfl, exec_load_store h rfl rfl, List.forall_mem_nil _⟩

/-- Settles O10, by the laws of a write to a canonical byte map. -/
theorem tileStoresAreLocal : Obligations.TileStoresAreLocal := by
  unfold Obligations.TileStoresAreLocal
  intro x a bs h
  exact ⟨Bytes.write_canon h, Bytes.read_write h, fun i hi => Tile.byte_wr_outside h hi, rfl, rfl, rfl⟩

/-! ### Branches, jumps and status words (R99, R100) -/

theorem jr_aligned {x : Tile} {sa : Nat} (h : (x.s sa).toNat % 8 = 0) : jr sa x = .ok { x with pc := (x.s sa).toNat } 0 := if_neg (by simp [h])
theorem jr_misaligned {x : Tile} {sa : Nat} (h : (x.s sa).toNat % 8 ≠ 0) : jr sa x = .fault tfALIGN := if_pos h

section Csrr
variable {s : State} {t : Fin 288} {sd : BitVec 5} {w : BitVec 8}

/-- A status word that is listed goes to sd. -/
theorem exec_csrr_of_word {v : W64} (h : s.issues t) (hw : s.blk.csrWord t w.toNat = some v) (hn : s.nextIs t (.csrr t sd w)) :
    exec (.csrr t sd w) s = .next (s.withBlk (s.blk.tileNext t ((s.blk.tile t).setS sd.toNat v))) := by
  have he : exec (.csrr t sd w) s = .next (s.issue t (.csrr t sd w) fun b => b.csrr t sd.toNat w.toNat) := rfl
  rw [he, State.issue_next _ h.1 hn, Block.csrr, hw]
  simp only []
  rw [Block.insnReg_ok h (f := fun x => .ok (x.setS sd.toNat v) 0) rfl]

theorem Block.csrWord_of_unlisted {b : Block} {t w : Nat} (h : 7 ≤ w) : b.csrWord t w = none := by
  obtain ⟨k, rfl⟩ := Nat.exists_eq_add_of_le' h
  rfl

theorem exec_csrr_of_unlisted (h : s.issues t) (hw : 7 ≤ w.toNat) (hn : s.nextIs t (.csrr t sd w)) :
    exec (.csrr t sd w) s = .next (s.withBlk (s.blk.tileStop t tfILLEGAL)) := by
  have he : exec (.csrr t sd w) s = .next (s.issue t (.csrr t sd w) fun b => b.csrr t sd.toNat w.toNat) := rfl
  rw [he, State.issue_next _ h.1 hn, Block.csrr, Block.csrWord_of_unlisted hw]
  exact congrArg (fun b => Host.Outcome.next (s.withBlk b)) (Block.insnReg_fault h (f := fun _ => .fault tfILLEGAL) rfl)

end Csrr

/-- Settles O11: a branch, a jump or a status word is one instruction that answers the tile with its pc or its register. -/
theorem scalarControlInstructions : Obligations.ScalarControlInstructions := by
  unfold Obligations.ScalarControlInstructions
  intro s t sd sa sb imm w h
  simp only [List.forall_mem_cons]
  have hbge (a b : W64) : decide (b.toInt ≤ a.toInt) = !a.slt b := by simp [BitVec.slt, ← decide_not]
  refine ⟨⟨?beq, ?bne, ?blt, ?bge, List.forall_mem_nil _⟩, ?jal, fun ha => ?jr, fun ha => ?stop,
    ⟨?hearth, ?cycle, ?tileId, ?part, ?pool, ?tick, ?late, List.forall_mem_nil _⟩, fun hw => exec_csrr_of_unlisted h hw⟩
  case bge => rw [hbge]; exact exec_insnJump_ok h rfl rfl
  case beq | bne | blt | jal => exact exec_insnJump_ok h rfl rfl
  case jr => exact exec_insnJump_ok h rfl (jr_aligned ha)
  case stop => exact exec_insnJump_fault h rfl (jr_misaligned ha)
  case hearth | cycle | tileId | part | pool | tick | late => exact fun hw => exec_csrr_of_word h (by rw [hw]; rfl)

end Sys2Proof.Machine
end

section
/-! SUPPORT. What the operations of the block leave of its tiles: reports, writes of memory, control messages and barriers. -/
namespace Sys2Proof.Machine

section Tiles
variable {b c : Block} {t u : Nat}

theorem Block.tile_congr (h : b.tiles = c.tiles) : b.tile t = c.tile t := by rw [Block.tile, Block.tile, h]

/-- A sequence of operations that leave the tiles alone leaves them alone. -/
theorem foldl_tiles {α : Type} {f : Block → α → Block} (h : ∀ b x, (f b x).tiles = b.tiles) (l : List α) :
    (l.foldl f b).tiles = b.tiles := by
  exact List.foldlRecOn (motive := fun c => c.tiles = b.tiles) l f rfl fun c hc x _ => (h c x).trans hc

/-! ### Reports, counters and control messages -/

@[simp] theorem Block.emit_tiles (o : Out) : (b.emit o).tiles = b.tiles := rfl
@[simp] theorem Block.reportPage_tiles (p code d : Nat) : (b.reportPage p code d).tiles = b.tiles := rfl
@[simp] theorem Block.reportPart_tiles (p code k d : Nat) : (b.reportPart p code k d).tiles = b.tiles := rfl
@[simp] theorem Block.reportTile_tiles (code d : Nat) : (b.reportTile t code d).tiles = b.tiles := rfl
@[simp] theorem Block.bump_tiles (p i n : Nat) (f : Field) : (b.bump p f i n).tiles = b.tiles := rfl
@[simp] theorem Block.bumpWrap_tiles (p i n : Nat) (f : Field) : (b.bumpWrap p f i n).tiles = b.tiles := rfl

@[simp] theorem Block.pump_tiles (n : Nat) : (b.pump n).tiles = b.tiles := by
  unfold Block.pump
  simp only []
  split
  · rfl
  · rw [Block.bumpWrap_tiles]
    exact foldl_tiles (by intros; rfl) _

@[simp] theorem Block.sendOn_tiles (n : Nat) (p : Packet) : (b.sendOn n p).tiles = b.tiles := by
  unfold Block.sendOn
  split
  · rfl
  · split
    · exact Block.pump_tiles n
    · rfl

@[simp] theorem Block.inject_tiles (p : Packet) (d r : Nat) : (b.inject p d r).1.tiles = b.tiles := by
  unfold Block.inject
  simp only []
  split
  · rfl
  · exact Block.sendOn_tiles ..

@[simp] theorem Block.sendOneWay_tiles (p : Packet) (d r : Nat) : (b.sendOneWay p d r).tiles = b.tiles := Block.inject_tiles p d r

@[simp] theorem Block.castCtrl_tiles (mask kind : Nat) (body : List Byte) : (b.castCtrl mask kind body).tiles = b.tiles := by
  refine foldl_tiles (fun b d => ?_) _
  unfold Block.sendCtrl
  split
  · rfl
  · split
    · rfl
    · exact Block.sendOneWay_tiles ..

/-! ### Writes of memory -/

@[simp] theorem Block.reportPoison_tiles (off n : Nat) : (b.reportPoison off n).tiles = b.tiles := foldl_tiles (by intros; rfl) _
@[simp] theorem Block.countWrite_tiles (off n : Nat) : (b.countWrite off n).tiles = b.tiles := foldl_tiles (by intros; rfl) _
@[simp] theorem Block.unlease_tiles (fs : List Nat) : (b.unlease fs).tiles = b.tiles := foldl_tiles (by intros; rfl) _
@[simp] theorem Block.writeFrozen_tiles (f : Nat) : (b.writeFrozen f).tiles = b.tiles := Block.raise_tiles ..
@[simp] theorem Block.keyFault_tiles (p : Nat) : (b.keyFault p).tiles = b.tiles := by
  unfold Block.keyFault; simp only []; split <;> simp

@[simp] theorem Block.askLeases_tiles (fs : List Nat) : (b.askLeases fs).1.tiles = b.tiles := by
  induction fs generalizing b with
  | nil => rfl
  | cons f fs ih =>
    unfold Block.askLeases
    split
    · rfl
    · split
      · rfl
      · exact ih

@[simp] theorem Block.takeLeases_tiles (fs : List Nat) : (b.takeLeases fs).1.tiles = b.tiles := by
  unfold Block.takeLeases
  simp only []
  split
  · exact Block.askLeases_tiles fs
  · split <;> simp

@[simp] theorem Block.writeCheck_tiles (off n ten p : Nat) (priv : Bool) : (b.writeCheck off n ten priv p).1.tiles = b.tiles := by
  unfold Block.writeCheck
  split
  · rfl
  · split <;> simp

@[simp] theorem Block.writeNow_tiles (off ten p : Nat) (priv : Bool) (bs : List Byte) : (b.writeNow off ten priv p bs).1.tiles = b.tiles := by
  unfold Block.writeNow
  simp only []
  split
  · exact Block.writeCheck_tiles ..
  · split
    · simp
    · split
      · simp
      · simp [Block.store]

@[simp] theorem Block.atomicLocal_tiles (code off ten p x y : Nat) (priv : Bool) :
    (b.atomicLocal code off ten priv p x y).1.tiles = b.tiles := by
  unfold Block.atomicLocal
  simp only []
  cases atomicNew code (b.m64 off) x y with
  | none => rfl
  | some v =>
    simp only []
    split_ifs <;> simp [Block.storeNat, Block.store]

@[simp] theorem Block.tileWrite_tiles (a : Nat) (bs : List Byte) : (b.tileWrite t a bs).tiles = b.tiles := by
  unfold Block.tileWrite; split <;> simp
@[simp] theorem Block.tileAtomic_tiles (code a x y : Nat) : (b.tileAtomic t code a x y).tiles = b.tiles := by
  unfold Block.tileAtomic; split <;> simp

/-! ### Barriers -/

@[simp] theorem Block.setBar_tiles (k id : Nat) (x : Bar) : (b.setBar k id x).tiles = b.tiles := rfl
@[simp] theorem Block.dropWaiters_tiles (k id : Nat) : (b.dropWaiters k id).tiles = b.tiles := rfl
@[simp] theorem Block.completeBar_tiles (k id : Nat) : (b.completeBar k id).tiles = b.tiles := rfl
@[simp] theorem Block.sendBarDone_tiles (k id : Nat) (failed : Bool) : (b.sendBarDone k id failed).tiles = b.tiles := Block.castCtrl_tiles ..
@[simp] theorem Block.countStale_tiles (n : Nat) : (b.countStale n).tiles = b.tiles := by unfold Block.countStale; split <;> simp

@[simp] theorem Block.localComplete_tiles (k id : Nat) : (b.localComplete k id).tiles = b.tiles := by
  unfold Block.localComplete
  simp only []
  split_ifs <;> simp

section Awake
variable {x : Tile} (hx : b.tile t = x) (hw : x.wait = none)
include hx hw

/-- A failing or released barrier wakes no tile but those that wait. -/
theorem Block.tile_wakeBarw (k id v : Nat) : (b.wakeBarw k id v).tile t = x := by
  unfold Block.wakeBarw
  refine List.foldlRecOn (motive := fun c : Block => c.tile t = x) _ _ hx fun c hc u _ => ?_
  split
  · rename_i hwait
    have hu : t ≠ u := by rintro rfl; simp [hc, hw] at hwait
    split
    · rw [Block.tile_setTile, if_neg hu, hc]
    · exact hc
  · exact hc

/-- A chain of failing barriers changes no tile but those that wait. -/
theorem Block.tile_failBars (n : Nat) (l : List (Nat × Nat × Nat)) : (b.failBars n l).tile t = x := by
  induction n generalizing b l with
  | zero => exact hx
  | succ n ih =>
    cases l with
    | nil => exact hx
    | cons e rest =>
      unfold Block.failBars
      split
      · exact ih hx rest
      · simp only []
        split
        · refine ih ((Block.tile_congr (Block.dropWaiters_tiles ..)).trans (Block.tile_wakeBarw ?_ hw ..)) _
          refine (Block.tile_congr ?_).trans hx
          split <;> simp
        · exact ih ((Block.tile_congr (Block.reportPage_tiles ..)).trans hx) rest

/-- An arrival at a barrier changes no tile but those that wait. -/
theorem Block.tile_arrive (k tag id : Nat) (failed : Bool) : (b.arrive k tag id failed).tile t = x := by
  unfold Block.arrive
  split
  · exact hx
  · split
    · exact (Block.tile_congr (Block.countStale_tiles ..)).trans hx
    · simp only []
      split
      · split
        · exact Block.tile_failBars hx hw _ _
        · refine (Block.tile_congr ?_).trans hx
          split <;> simp
      · exact hx

end Awake

/-! ### The end of a launch and the stop of a tile (R123, R146, R147) -/

@[simp] theorem Block.launchFailed_tiles (st op : Nat) : (b.launchFailed t st op).tiles = b.tiles := by
  unfold Block.launchFailed
  split
  · rfl
  · simp only []
    split <;> split_ifs <;> simp

theorem Block.tile_endLaunch {x : Tile} (hx : b.tile t = x) (hw : x.wait = none) (l : Launch) (st bucket ran : Nat) :
    (b.endLaunch u l st bucket ran).tile t = x :=
  Block.tile_arrive ((Block.tile_congr ((Block.tileWrite_tiles ..).trans (Block.launchFailed_tiles ..))).trans hx) hw _ _ _ _

/-- The tile once a fault has stopped its sequencer (R123). -/
def Tile.stopped (x : Tile) : Tile := { x with seq := .err, wait := none, launch := none }

/-- A fault stops the tile and changes nothing else of it, its launch's record and arrival included. -/
theorem Block.tile_tileStop (code : Nat) : (b.tileStop t code).tile t = (b.tile t).stopped := by
  have hset {c : Block} (hc : c.tiles = (b.setTile t (b.tile t).stopped).tiles) : c.tile t = (b.tile t).stopped := by
    rw [Block.tile_congr hc, Block.tile_setTile_same]
  unfold Block.tileStop
  simp only []
  split
  · refine Block.tile_endLaunch (hset ?_) rfl _ _ _ _
    rw [Block.reportTile_tiles, Block.raise_tiles]; rfl
  · refine hset ?_
    rw [Block.reportTile_tiles, Block.raise_tiles]; rfl

end Tiles

end Sys2Proof.Machine
end

section
/-! SUPPORT. Matrix instructions of a tile (R101 to R103). -/
namespace Sys2Proof.Machine

section Values
variable {x : Tile} {sa sx acc fmt off : Nat} {start buf opnd : Bool}

/-- An address is a register plus a zero-extended offset (R89). -/
theorem Tile.addrZ_eq (x : Tile) (sa : Nat) (off : BitVec 32) : x.addrZ sa off.toNat = (x.s sa + off.zeroExtend 64).toNat := by
  rw [Tile.addrZ, BitVec.ofNat_toNat]

theorem mspill_ok (ha : x.addrZ sa off % 128 = 0) (hr : x.addrZ sa off + 65536 ≤ sramSize) :
    mspill sa acc off x = .ok (x.wr (x.addrZ sa off) ((x.a acc).flatMap (fun e => leBytes 4 e.toNat))) 0 := by
  rw [mspill]; exact checked_ok ha hr
theorem mspill_misaligned (ha : x.addrZ sa off % 128 ≠ 0) : mspill sa acc off x = .fault tfALIGN := by
  rw [mspill]; exact checked_misaligned ha
theorem mfill_ok (ha : x.addrZ sa off % 128 = 0) (hr : x.addrZ sa off + 65536 ≤ sramSize) :
    mfill sa acc off x = .ok (x.setA acc (x.words (x.addrZ sa off) 16384)) 0 := by
  rw [mfill]; exact checked_ok ha hr
theorem mfill_misaligned (ha : x.addrZ sa off % 128 ≠ 0) : mfill sa acc off x = .fault tfALIGN := by
  rw [mfill]; exact checked_misaligned ha

theorem mlw_ok (ha : x.addrZ sa off % 128 = 0) (hf : fmtWeightOk fmt = true) (hr : x.addrZ sa off + weightBytes fmt ≤ sramSize) :
    mlw sa fmt buf off x = .ok
      (let w : Option WBuf := some { fmt := fmt, bytes := x.rdBytes (x.addrZ sa off) (weightBytes fmt) }
       if buf then { x with wbuf1 := w } else { x with wbuf0 := w }) 0 := by
  rw [mlw, if_neg (by simp [hf])]
  exact checked_ok ha hr

theorem mzp_rowwise (ha : x.addrZ sa off % 128 = 0) (hr : x.addrZ sa off + 128 ≤ sramSize) :
    mzp sa sx opnd true off x = .ok
      (let z := (List.range 128).map (fun i => x.byte (x.addrZ sa off + i))
       if opnd then { x with zpA := z } else { x with zpW := z }) 0 := by
  rw [mzp, if_pos rfl]
  exact checked_ok ha hr

end Values

/-! ### The spill count (R103) -/

section Spill
variable {s : State} {t : Fin 288} {sa : BitVec 5} {acc : BitVec 3} {off : BitVec 32}

/-- An address lies in the spill area of a tile. -/
abbrev Block.inSpill (b : Block) (t a : Nat) : Prop :=
  b.eff (pgTile t) F.TIL_SPILL.SPILL_BASE * 65536 ≤ a ∧
    a < b.eff (pgTile t) F.TIL_SPILL.SPILL_BASE * 65536 + b.eff (pgTile t) F.TIL_SPILL.SPILL_TILES * 65536

/-- A spill is counted where it hits the spill area. -/
def Block.countSpill (b : Block) (t : Nat) (hit : Prop) [Decidable hit] : Block :=
  if hit then b.bumpWrap (pgTile t) F.TIL_SPILL_CNT.SPILL_CNT else b

/-- The tile once it has spilled an accumulator. -/
def Tile.spilled (x : Tile) (acc a : Nat) : Tile := x.wr a ((x.a acc).flatMap (fun e => leBytes 4 e.toNat))

/-- An MSPILL that stores its bytes counts where it targets the spill area. -/
theorem Block.mspillOp_ok {sa acc off : Nat} (h : s.issues t) (ht : s.blk.sramFree t ((s.blk.tile t).addrZ sa off) 65536)
    (ha : (s.blk.tile t).addrZ sa off % 128 = 0) (hr : (s.blk.tile t).addrZ sa off + 65536 ≤ sramSize) :
    let x := s.blk.tile t
    let c := s.blk.tileNext t (x.spilled acc (x.addrZ sa off))
    s.blk.mspillOp t sa acc off = c.countSpill t (s.blk.inSpill t (x.addrZ sa off)) := by
  have hin : s.blk.insn t .none (fun _ => [((s.blk.tile t).addrZ sa off, 65536)]) false (mspill sa acc off) =
      s.blk.tileNext t ((s.blk.tile t).spilled acc ((s.blk.tile t).addrZ sa off)) := by
    rw [Block.insn_eq h false rfl (by simpa using ht), mspill_ok ha hr]; rfl
  obtain ⟨-, hrun, -, -⟩ := h
  unfold Block.mspillOp
  simp only [hin, Block.tileNext, Block.tile_setTile_same]
  have hseq : ((s.blk.tile t).spilled acc ((s.blk.tile t).addrZ sa off)).seq = .run := hrun
  have hpc : ((s.blk.tile t).spilled acc ((s.blk.tile t).addrZ sa off)).pc = (s.blk.tile t).pc := rfl
  simp [hseq, hpc, Block.inSpill, Block.countSpill]

/-- A misaligned MSPILL stops the tile and counts nothing. -/
theorem Block.mspillOp_misaligned {sa acc off : Nat} (h : s.issues t) (ht : s.blk.sramFree t ((s.blk.tile t).addrZ sa off) 65536)
    (ha : (s.blk.tile t).addrZ sa off % 128 ≠ 0) : s.blk.mspillOp t sa acc off = s.blk.tileStop t tfALIGN := by
  have hin : s.blk.insn t .none (fun _ => [((s.blk.tile t).addrZ sa off, 65536)]) false (mspill sa acc off) = s.blk.tileStop t tfALIGN := by
    rw [Block.insn_eq h false rfl (by simpa using ht), mspill_misaligned ha]
  unfold Block.mspillOp
  simp only [hin, Block.tile_tileStop]
  exact if_neg (by simp [Tile.stopped])

end Spill

/-! ### The accumulation (R101, R102) -/

section Mma
variable {s : State} {t : Fin 288} {sa sx fmt : BitVec 5} {acc : BitVec 3} {start buf : Bool} {off : BitVec 32} {y : Tile} {fl : Nat}

/-- The elements, with their flags, that an MMA gives the first `m` rows of its accumulator. -/
def Tile.mmaRows (x : Tile) (w : WBuf) (rc : RateClass) (f : Fmt) (start : Bool) (a acc m : Nat) : List (Nat × Nat) :=
  let hs := List.range (if 16 ≤ w.fmt then 2 else 1)
  (List.range m).flatMap (fun r =>
    List.zipWith (fun ws o => mmaElem (rc == .r16) start (hs.map (fun h => x.actBlocks f a r h)) ws o)
      ((List.range 128).map (fun n => hs.map (fun h => w.blocks x.zpW n h))) ((((x.a acc).drop (128 * r)).take 128).map BitVec.toNat))

/-- An MMA of a loaded weight buffer whose formats, row count and address pass their checks. -/
theorem mma_ok {x : Tile} {sa sm fmt acc off : Nat} {w : WBuf} {rc : RateClass} (hw : (if buf then x.wbuf1 else x.wbuf0) = some w)
    (hlt : fmt < 16) (hact : fmtActOk fmt = true) (hrate : ratePair (Fmt.ofCode fmt) (Fmt.ofCode (w.fmt % 16)) = some rc)
    (h1 : 1 ≤ (x.s sm).toNat) (h128 : (x.s sm).toNat ≤ 128) (ha : x.addrZ sa off % 128 = 0)
    (hr : x.addrZ sa off + (if 16 ≤ w.fmt then 2 else 1) * tileBytes (Fmt.ofCode fmt) false ≤ sramSize) :
    mma sa sm fmt acc start buf off x =
      let rows := x.mmaRows w rc (Fmt.ofCode fmt) start (x.addrZ sa off) acc (x.s sm).toNat
      .ok (x.setA acc (ofLanes (rows.map Prod.fst) ++ (x.a acc).drop (128 * (x.s sm).toNat))) (rows.foldl (fun f e => f ||| e.2) 0) := by
  have hargs : ¬ ((x.s sm).toNat = 0 ∨ 128 < (x.s sm).toNat ∨ 16 ≤ fmt ∨ (!fmtActOk fmt) = true) := by
    simp only [hact, Bool.not_true, Bool.false_eq_true, or_false]; omega
  unfold mma
  simp only [hw, hrate, if_neg hargs]
  exact checked_ok ha hr

/-- An MMA that issues writes its accumulator and its flags, and the tile notes when. -/
theorem exec_mma_ok (h : s.issues t) (hg : s.blk.gated t .matrix = false)
    (ht : s.blk.sramFree t ((s.blk.tile t).addrZ sa.toNat off.toNat) (2 * tileBytes (Fmt.ofCode fmt.toNat) false))
    (hf : mma sa.toNat sx.toNat fmt.toNat acc.toNat start buf off.toNat (s.blk.tile t) = .ok y fl)
    (hn : s.nextIs t (.mma t sa sx fmt acc start buf off)) :
    exec (.mma t sa sx fmt acc start buf off) s = .next (s.withBlk ((s.blk.tileNext t { y with lastMat := some s.blk.now }).orNstat t fl)) := by
  have he : exec (.mma t sa sx fmt acc start buf off) s = .next (s.issue t (.mma t sa sx fmt acc start buf off)
      fun b => b.mmaOp t sa.toNat sx.toNat fmt.toNat acc.toNat start buf off.toNat) := rfl
  rw [he, State.issue_next _ h.1 hn, Block.mmaOp, Block.insn_eq h false hg (by simpa using ht), hf]
  rfl

end Mma

/-- Settles O12: each operation is one instruction on the tile; MSPILL counts in its spill area besides. -/
theorem matrixInstructions : Obligations.MatrixInstructions := by
  unfold Obligations.MatrixInstructions
  intro s t sa sx fmt acc start buf opnd off h
  simp only [← Tile.addrZ_eq]
  have hspill : exec (.mspill t sa acc off) s = .next (s.issue t (.mspill t sa acc off) fun b => b.mspillOp t sa.toNat acc.toNat off.toNat) := rfl
  refine ⟨?mzero, fun ha hr ht => ⟨?mfill, fun hn => ?mspill⟩, fun ha ht => ⟨?mfillStop, fun hn => ?mspillStop⟩, fun ha hf hr ht => ?mlw,
    fun ht => ?mzp, fun ha hr ht => ?rowwise, fun w rc hw hlt hact hrate h1 h128 ha hr hg ht hn => ?mma⟩
  case mzero => exact exec_insnReg_ok h rfl rfl
  case mfill => exact exec_insnMem_ok h rfl ht (mfill_ok ha hr)
  case mspill => rw [hspill, State.issue_next _ h.1 hn, Block.mspillOp_ok h ht ha hr]; rfl
  case mfillStop => exact exec_insnMem_fault h rfl ht (mfill_misaligned ha)
  case mspillStop => rw [hspill, State.issue_next _ h.1 hn, Block.mspillOp_misaligned h ht ha]; rfl
  case mlw => exact exec_insnMem_ok h rfl ht (mlw_ok ha hf hr)
  case mzp => exact exec_insnMem_ok h rfl ht rfl
  case rowwise => exact exec_insnMem_ok h rfl ht (mzp_rowwise ha hr)
  case mma =>
    rw [List.length_range] at hr
    rw [exec_mma_ok h hg ht (mma_ok hw hlt hact hrate h1 h128 ha hr) hn, ofLanes, List.map_map]
    rfl

/-! ### What MSPILL wrote, MFILL brings back (R103) -/

section Restore
variable {b c : Block} {x : Tile}

/-- Words whose bytes are read as they were spelled are read back. -/
theorem Tile.words_of_rdBytes (l : List W32) (a : Nat) (h : x.rdBytes a (4 * l.length) = l.flatMap (fun e => leBytes 4 e.toNat)) :
    x.words a l.length = l := by
  induction l generalizing a with
  | nil => rfl
  | cons e l ih =>
    have hsplit : x.rdBytes a (4 * (e :: l).length) = SMap.get 0 x.sram a :: SMap.get 0 x.sram (a + 1) :: SMap.get 0 x.sram (a + 2) ::
        SMap.get 0 x.sram (a + 3) :: x.rdBytes (a + 4) (4 * l.length) := rfl
    simp only [hsplit, List.flatMap_cons, leBytes, List.cons_append, List.nil_append, List.cons.injEq] at h
    obtain ⟨h0, h1, h2, h3, hrest⟩ := h
    have hword : BitVec.ofNat 32 (rd32 x.byte a) = e := by
      have hlt := e.isLt
      refine BitVec.eq_of_toNat_eq ?_
      simp only [rd32, rd16, Tile.byte, h0, h1, h2, h3, BitVec.toNat_ofNat]
      omega
    have htail : (List.range l.length).map (fun i => BitVec.ofNat 32 (rd32 x.byte (a + 4 * (i + 1)))) = l := by
      rw [← ih (a + 4) hrest]
      simp only [Tile.words, List.length_map, List.length_range]
      exact List.map_congr_left fun i _ => by rw [show a + 4 * (i + 1) = a + 4 + 4 * i by omega]
    simp only [Tile.words, List.length_cons, List.range_succ_eq_map, List.map_cons, List.map_map]
    exact congrArg₂ List.cons hword htail

theorem leBytes_length (n v : Nat) : (leBytes n v).length = n := by
  induction n generalizing v with
  | zero => rfl
  | succ n ih => exact congrArg (· + 1) (ih _)

theorem flatMap_leBytes_length (n : Nat) (l : List W32) : (l.flatMap (fun e => leBytes n e.toNat)).length = n * l.length := by
  simp [List.length_flatMap, leBytes_length, Nat.mul_comm]

/-- An accumulator that was spilled is read back word for word. -/
theorem Tile.words_spilled {acc a : Nat} (h : SMap.canon 0 x.sram = true) : (x.spilled acc a).words a (x.a acc).length = x.a acc := by
  refine Tile.words_of_rdBytes _ _ ?_
  rw [← flatMap_leBytes_length]
  exact Bytes.read_write h

/-- The hazard rule looks at the transfers and at HAZ_LINE alone. -/
theorem Block.sramBusy_congr (hx : c.xfers = b.xfers) (t : Nat)
    (hh : c.eff (pgTile t) F.TIL_X_SRAM.HAZ_LINE = b.eff (pgTile t) F.TIL_X_SRAM.HAZ_LINE) (a n : Nat) : c.sramBusy t a n = b.sramBusy t a n := by
  rw [Block.sramBusy, Block.sramBusy, hx, hh]

section Count
variable (t : Nat) (hit : Prop) [Decidable hit]

/-- Counting a spill changes SPILL_CNT alone. -/
theorem Block.countSpill_tiles : (b.countSpill t hit).tiles = b.tiles := by unfold Block.countSpill; split <;> rfl
theorem Block.countSpill_sramBusy (a n : Nat) : (b.countSpill t hit).sramBusy t a n = b.sramBusy t a n := by
  unfold Block.countSpill
  split
  · refine Block.sramBusy_congr ?_ t (Block.eff_put_of_ne _ _ _ _ _ _ _ _ (.inr ?_)) a n
    · rfl
    · decide
  · rfl

theorem Block.eff_countSpill : (b.countSpill t hit).eff (pgTile t) F.TIL_SPILL_CNT.SPILL_CNT =
    if hit then (b.eff (pgTile t) F.TIL_SPILL_CNT.SPILL_CNT + 1) % 2 ^ 32 else b.eff (pgTile t) F.TIL_SPILL_CNT.SPILL_CNT := by
  unfold Block.countSpill
  split
  · exact Block.eff_put_same _ _ _ _ _ rfl
  · rfl

end Count

end Restore

/-- Settles O13: the spill counts in its area; the spilled tile reads back its words, and nothing in between touches them. -/
theorem spillThenFillRestores : Obligations.SpillThenFillRestores := by
  unfold Obligations.SpillThenFillRestores
  intro s t sa acc back off h
  simp only [← Tile.addrZ_eq]
  intro ha hr ht hpc hcanon hlen hn
  have hspill : exec (.mspill t sa acc off) s = .next (s.issue t (.mspill t sa acc off) fun b => b.mspillOp t sa.toNat acc.toNat off.toNat) := rfl
  rw [hspill, State.issue_next _ h.1 hn, Block.mspillOp_ok h ht ha hr]
  refine ⟨_, rfl, fun hback => ?_, Block.eff_countSpill t _⟩
  set x := s.blk.tile t with hx
  set a := x.addrZ sa.toNat off.toNat with hadr
  set c := (s.blk.tileNext t (x.spilled acc.toNat a)).countSpill t (s.blk.inSpill t a) with hc
  have htile : c.tile t = { x.spilled acc.toNat a with pc := x.pc + 8 } :=
    (Block.tile_congr (Block.countSpill_tiles t _)).trans (Block.tile_setTile_same ..)
  obtain ⟨hlive, hrun, hwait, -⟩ := h
  have hissues : (s.withBlk c).issues t := by
    refine ⟨hlive, ?_, ?_, ?_⟩ <;> rw [State.withBlk_blk, htile]
    exacts [hrun, hwait, hpc]
  have hfree : c.sramFree t ((c.tile t).addrZ sa.toNat off.toNat) 65536 := by
    rw [htile]
    exact (Block.countSpill_sramBusy t _ _ _).trans ht
  refine ⟨_, exec_insnMem_ok hissues rfl hfree (mfill_ok ?_ ?_) hback, ?_⟩
  · rw [State.withBlk_blk, htile]; exact ha
  · rw [State.withBlk_blk, htile]; exact hr
  · have hwords : ((c.tile t).words a (x.a acc.toNat).length) = x.a acc.toNat := by rw [htile]; exact Tile.words_spilled hcanon
    have hadr' : (c.tile t).addrZ sa.toNat off.toNat = a := by rw [htile]; rfl
    rw [State.withBlk_blk, State.withBlk_blk, Block.tileNext, Block.tile_setTile_same, hadr', ← hlen, hwords]
    exact SMap.get_set_same ..

end Sys2Proof.Machine
end

section
/-! SUPPORT. Moves of the vector unit and macro-operations (R104 to R106, R108 to R112). -/
namespace Sys2Proof.Machine

/-! ### Moves between registers, accumulators and tile SRAM (R104 to R106) -/

section Values
variable {x : Tile} {vd sa sb fmt rnd imm j : Nat} {sat : Bool}

/-- An access without alignment is checked for its range alone (R89). -/
theorem inRange_ok {a n : Nat} {r : TRes} (hr : a + n ≤ sramSize) : (if !inSram a n then .fault tfRANGE else r) = r :=
  if_neg (by simp [inSram_iff.2 hr])
theorem inRange_outside {a n : Nat} {r : TRes} (hr : sramSize < a + n) : (if !inSram a n then .fault tfRANGE else r) = TRes.fault tfRANGE :=
  if_pos (by simpa [inSram] using hr)

theorem vldl_ok (hr : x.addrZ sa (imm * 128) + 1024 ≤ sramSize) :
    vldl vd sa imm x = .ok (x.setV vd (x.words (x.addrZ sa (imm * 128)) 256)) 0 := by rw [vldl]; exact inRange_ok hr
theorem vldl_outside (hr : sramSize < x.addrZ sa (imm * 128) + 1024) : vldl vd sa imm x = .fault tfRANGE := by
  rw [vldl]; exact inRange_outside hr
theorem vstl_ok (hr : x.addrZ sa (imm * 128) + 1024 ≤ sramSize) :
    vstl vd sa imm x = .ok (x.wr (x.addrZ sa (imm * 128)) ((x.v vd).flatMap (fun e => leBytes 4 e.toNat))) 0 := by
  rw [vstl]; exact inRange_ok hr
theorem vstl_outside (hr : sramSize < x.addrZ sa (imm * 128) + 1024) : vstl vd sa imm x = .fault tfRANGE := by
  rw [vstl]; exact inRange_outside hr

theorem vsrctx_ok (ha : (x.s sa).toNat % 128 = 0) (hr : (x.s sa).toNat + 2048 ≤ sramSize) : vsrctx sa sb x = .ok
    { x with rowCtx := some { opId := (x.s sb).toNat % 2 ^ 32, tile := (x.s sb).toNat / 2 ^ 32, table := (x.s sa).toNat } } 0 := by
  rw [vsrctx]; exact checked_ok ha hr

/-- VLD of a format that it may load, from a tile in SRAM. -/
theorem vld_ok (hf : fmtLoadOk fmt = true) (hr : (x.s sa).toNat + tileBytes (Fmt.ofCode fmt) false ≤ sramSize) :
    vld vd sa fmt j x =
      if Fmt.ofCode fmt = .fp32 then .ok (x.setV vd (x.words ((x.s sa).toNat + 1024 * j) 256)) 0
      else laneRes x vd (x.loadRow (Fmt.ofCode fmt) (x.s sa).toNat (2 * j) ++ x.loadRow (Fmt.ofCode fmt) (x.s sa).toNat (2 * j + 1)) := by
  rw [vld, if_neg (by simp [hf])]
  refine (inRange_ok hr).trans ?_
  simp only [beq_iff_eq]

/-- The tile and the flags after VST of a format other than FP32 has encoded two rows of lanes. -/
def Tile.storedRows (x : Tile) (f : Fmt) (mode : Rnd) (sat : Bool) (q j vd : Nat) : Tile × Nat :=
  let r0 := x.storeRow f mode sat (2 * j) ((x.lanes vd).take 128)
  let r1 := x.storeRow f mode sat (2 * j + 1) ((x.lanes vd).drop 128)
  ((x.wr (q + 2 * j * rowBytes f) (r0.1 ++ r1.1)).wr (q + scaleBase f + 8 * j) (r0.2.1 ++ r1.2.1), r0.2.2 ||| r1.2.2)

theorem vst_ok {mode : Rnd} (hm : Rnd.ofCode rnd = some mode) (hf : fmtStoreOk fmt = true)
    (hr : (x.s sa).toNat + tileBytes (Fmt.ofCode fmt) false ≤ sramSize) :
    vst vd sa fmt rnd sat j x =
      if Fmt.ofCode fmt = .fp32 then .ok (x.wr ((x.s sa).toNat + 1024 * j) ((x.v vd).flatMap (fun e => leBytes 4 e.toNat))) 0
      else
        let r := x.storedRows (Fmt.ofCode fmt) mode sat (x.s sa).toNat j vd
        .ok r.1 r.2 := by
  unfold vst
  simp only [hm]
  rw [if_neg (by simp [hf])]
  refine (inRange_ok hr).trans ?_
  simp only [beq_iff_eq]
  rfl

theorem viota_eq : viota vd x =
    .ok (x.setV vd ((List.range 256).map (fun k => BitVec.ofNat 32 (toFp32 (numOfInt (Int.ofNat k) 0 false)).1))) 0 := by
  rw [viota, ofLanes, List.map_map, Function.comp_def]

/-- Lanes without flags add none to those collected (R87). -/
theorem foldl_flags_replicate (n f : Nat) : (List.replicate n (0, 0)).foldl (fun f (e : Nat × Nat) => f ||| e.2) f = f := by
  induction n with
  | zero => rfl
  | succ n ih => simpa [List.replicate_succ] using ih

/-- A reduction is a lane operation whose other lanes are +0. -/
theorem vreduce_eq_laneRes {va : Nat} (r : List Nat → Nat × Nat) :
    vreduce r vd va x = laneRes x vd (r (x.lanes va) :: List.replicate 255 (0, 0)) := by
  simp only [vreduce, laneRes, List.map_cons, List.map_replicate, List.foldl_cons, foldl_flags_replicate, Nat.zero_or]

end Values

/-- An instruction whose function answers lanes writes them and their flags, where no gate and no hazard holds it. -/
theorem exec_insn_lanes {s : State} {t : Fin 288} {c : Instr} {g : Gate} {touch : Tile → List (Nat × Nat)} {f : Tile → TRes} {vd : Nat}
    {l : List (Nat × Nat)} (h : s.issues t) (he : exec c s = .next (s.issue t c fun b => b.insn t g touch false f))
    (hg : s.blk.gated t g = false) (ht : ∀ r ∈ touch (s.blk.tile t), s.blk.sramFree t r.1 r.2)
    (hf : f (s.blk.tile t) = laneRes (s.blk.tile t) vd l) (hn : s.nextIs t c) :
    exec c s = .next (s.withBlk (s.blk.laneNext t (s.blk.tile t) vd l)) :=
  exec_insn_ok h he hg ht (hf.trans laneRes_eq) hn

/-- Settles O15: each operation is one instruction that answers the tile with its result; a load or a store is checked for its range first. -/
theorem vectorMoveInstructions : Obligations.VectorMoveInstructions := by
  unfold Obligations.VectorMoveInstructions
  intro s t vd va sd sa sb fmt acc rnd sat j imm i h
  simp only []
  refine ⟨?vrsum, ?vrmax, ?viota, ?vbcast, ?vext, ?vlda, ?vsta, fun ht hr => ⟨?vldl, ?vstl⟩, fun ht hr => ⟨?vldlStop, ?vstlStop⟩,
    fun ht hr hf hn => ?vld, fun ht hr hf mode hm hn => ?vst, fun ha hr => ?vsrctx⟩
  case vrsum | vrmax => exact exec_insn_lanes h rfl rfl (List.forall_mem_nil _) (vreduce_eq_laneRes _)
  case viota => exact exec_insnReg_ok h rfl viota_eq
  case vbcast | vext | vlda | vsta => exact exec_insnReg_ok h rfl rfl
  case vldl => exact exec_insnMem_ok h rfl ht (vldl_ok hr)
  case vstl => exact exec_insnMem_ok h rfl ht (vstl_ok hr)
  case vldlStop => exact exec_insnMem_fault h rfl ht (vldl_outside hr)
  case vstlStop => exact exec_insnMem_fault h rfl ht (vstl_outside hr)
  case vsrctx => exact exec_insnReg_ok h rfl (vsrctx_ok ha hr)
  case vld =>
    have hres := vld_ok (vd := vd.toNat) (j := j.toNat) hf hr
    split
    case isTrue hfp => exact exec_insnMem_ok h rfl ht (hres.trans (if_pos hfp)) hn
    case isFalse hfp => exact exec_insn_lanes h rfl rfl (List.forall_mem_singleton.2 ht) (hres.trans (if_neg hfp)) hn
  case vst =>
    have hres := vst_ok (sat := sat) (vd := vd.toNat) (j := j.toNat) hm hf hr
    split
    case isTrue hfp => exact exec_insn_ok h rfl rfl ht (hres.trans (if_pos hfp)) hn
    case isFalse hfp => exact exec_insn_ok h rfl rfl ht (hres.trans (if_neg hfp)) hn

/-! ### Macro-operations (R108 to R112) -/

section Macro
variable {s : State} {t : Fin 288} {c : Instr} {touch : Tile → List (Nat × Nat)} {f : Tile → TRes} {ranges : List (Nat × Nat)}
  {r : Option (Nat × List Byte)} {sd sa : Nat}

/-- A macro-operation with result `r` that touches its parameter block and `ranges`: what it writes with status 0, or status 1 alone. -/
theorem exec_macroOp (h : s.issues t) (he : exec c s = .next (s.issue t c fun b => b.insn t .none touch false f))
    (ht : touch (s.blk.tile t) = (((s.blk.tile t).s sa).toNat, 32) :: ranges)
    (hf : f (s.blk.tile t) = macroOp (fun _ _ => r) sd sa (s.blk.tile t))
    (hp : s.blk.sramFree t ((s.blk.tile t).s sa).toNat 32) (hr : ∀ g ∈ ranges, s.blk.sramFree t g.1 g.2) :
    let x := s.blk.tile t
    (r = none → (s.nextIs t c → exec c s = .next (s.withBlk (s.blk.tileNext t (x.setS sd 1))))) ∧
    ∀ dst bs, r = some (dst, bs) → (s.nextIs t c → exec c s = .next (s.withBlk (s.blk.tileNext t ((x.wr dst bs).setS sd 0)))) := by
  have hfree : ∀ g ∈ touch (s.blk.tile t), s.blk.sramFree t g.1 g.2 := by
    rw [ht]; exact List.forall_mem_cons.2 ⟨hp, hr⟩
  refine ⟨fun hnone => ?_, fun dst bs hsome => ?_⟩
  · exact exec_insn_ok h he rfl hfree (hf.trans (by rw [hnone]; rfl))
  · exact exec_insn_ok h he rfl hfree (hf.trans (by rw [hsome]; rfl))

end Macro

/-- Settles O16: the four operations are one, over what they touch and what they answer. -/
theorem macroOperations : Obligations.MacroOperations := by
  unfold Obligations.MacroOperations
  intro s t sd sa h
  simp only [List.forall_mem_cons]
  refine ⟨?xtopk, ?xsort, ?xsample, ?xphilox, List.forall_mem_nil _⟩
  case xtopk | xsort | xsample | xphilox => exact exec_macroOp h rfl rfl rfl

end Sys2Proof.Machine
end

section
/-! SUPPORT. The synchronisation instructions of a tile (R118, R119), and what rests between commands (R116). -/
namespace Sys2Proof.Machine

/-! ### Rest (R116) -/

theorem Block.settleWith_of_settled {b : Block} {toks : List (Nat × List Nat)} (h : b.xfers.find? Xfer.settles = none) :
    ∀ n, b.settleWith toks n = b
  | 0 => rfl
  | n + 1 => by rw [Block.settleWith, h]

theorem Block.settleN_of_quiet {b : Block} (h : b.quiet) : ∀ n, Block.settleN n b = b
  | 0 => rfl
  | n + 1 => by
    obtain ⟨hx, hw, -⟩ := h
    rw [Block.settleN, show b.settle = b from Block.settleWith_of_settled hx 4096]
    simp only [hw]

/-- Settles O17: each of the three things that move of themselves has nothing to do. -/
theorem quietPackageRests : Obligations.QuietPackageRests := by
  unfold Obligations.QuietPackageRests
  intro b h
  rw [Block.rest, Block.settleN_of_quiet h, Block.missCounts, h.2.2, List.foldl_nil]

/-! ### Waiting in place (R118) -/

section Wait
variable {s : State} {t : Fin 288} {c : Instr} {w : TWait}

/-- A tile that can issue is not held at its pc. -/
theorem State.issues_not_held {t : Nat} (h : s.issues t) : ¬ ((!s.blk.canIssue t) = true ∨ sramSize ≤ (s.blk.tile t).pc) := by
  obtain ⟨-, hrun, hwait, hpc⟩ := h
  simp [Block.canIssue, hrun, hwait, hpc]

/-- A tile that can issue waits for nothing. -/
theorem Tile.unwaited_eq {x : Tile} (h : x.wait = none) (p : Nat) : ({ x with wait := none, pc := p } : Tile) = { x with pc := p } := by
  rw [← h]

theorem Block.waitInsn_eq {t : Nat} (h : s.issues t) (w : TWait) : s.blk.waitInsn t w = (s.blk.tileWait t w).wakeTile t :=
  if_neg (State.issues_not_held h)

section Wake
variable {b : Block} {t n mask rd : Nat}

theorem Block.tile_tileWait (w : TWait) : (b.tileWait t w).tile t = { b.tile t with wait := some w } := Block.tile_setTile_same ..

theorem Block.wakeTile_ufence_busy (h : (b.tile t).tagsIdle progTags = false) :
    (b.tileWait t (.ufence n)).wakeTile t = b.tileWait t (.ufence n) := by
  rw [Block.wakeTile, Block.tile_tileWait]
  exact if_neg fun hidle => Bool.false_ne_true (h.symm.trans hidle)

theorem Block.wakeTile_ufence_idle (h : (b.tile t).tagsIdle progTags = true) :
    (b.tileWait t (.ufence n)).wakeTile t = b.setTile t { b.tile t with wait := none, pc := (b.tile t).pc + 8 } := by
  rw [Block.wakeTile, Block.tile_tileWait]
  exact (if_pos h).trans (Block.setTile_setTile ..)

theorem Block.wakeTile_waitt_busy (h : (b.tile t).tagsIdle mask = false) :
    (b.tileWait t (.waitt mask rd)).wakeTile t = b.tileWait t (.waitt mask rd) := by
  rw [Block.wakeTile, Block.tile_tileWait]
  exact if_neg fun hidle => Bool.false_ne_true (h.symm.trans hidle)

theorem Block.wakeTile_waitt_idle (h : (b.tile t).tagsIdle mask = true) : (b.tileWait t (.waitt mask rd)).wakeTile t =
    b.setTile t (({ b.tile t with wait := some (.waitt mask rd) } : Tile).waitDone mask rd) := by
  rw [Block.wakeTile, Block.tile_tileWait]
  exact (if_pos h).trans (Block.setTile_setTile ..)

theorem Block.wakeTile_ending_busy (h : (b.tile t).tagsIdle progTags = false) :
    (b.tileWait t .ending).wakeTile t = b.tileWait t .ending := by
  rw [Block.wakeTile, Block.tile_tileWait]
  exact if_neg fun hidle => Bool.false_ne_true (h.symm.trans hidle)

theorem Block.wakeTile_ending_idle (h : (b.tile t).tagsIdle progTags = true) :
    (b.tileWait t .ending).wakeTile t = (b.tileWait t .ending).endProgram t := by
  rw [Block.wakeTile, Block.tile_tileWait]
  exact if_pos h

theorem Block.tileIdle_tileWait (w : TWait) : (b.tileWait t w).tileIdle t = b.tileIdle t := by
  rw [Block.tileIdle, Block.tile_tileWait, Block.tileIdle]
  exact Block.setTile_setTile ..

/-- END of a program that no launch runs leaves the tile IDLE (R118). -/
theorem Block.endProgram_of_no_launch (h : (b.tile t).launch = none) : (b.tileWait t .ending).endProgram t = b.tileIdle t := by
  have hl : ((b.tileWait t .ending).tile t).launch = none := by rw [Block.tile_tileWait]; exact h
  rw [Block.endProgram, hl]
  exact Block.tileIdle_tileWait _

/-- END of the last pass ends the launch with status 0 (R146). -/
theorem Block.endProgram_of_last_pass {l : Launch} (h : (b.tile t).launch = some l) (hp : l.passes.length ≤ 1) :
    (b.tileWait t .ending).endProgram t = (b.tileIdle t).endLaunch t l 0 l.bucket l.total := by
  have hl : ((b.tileWait t .ending).tile t).launch = some l := by rw [Block.tile_tileWait]; exact h
  unfold Block.endProgram
  simp only [hl]
  split
  · rename_i heq; simp [heq] at hp
  · rw [Block.finishLaunch, Block.tileIdle_tileWait]

end Wake

end Wait

/-! ### The tags that WAITT clears (R118) -/

section Tags
variable {x : Tile} {mask rd g : Nat}

theorem Tile.tag_setTag (x : Tile) (g h : Nat) (v : TagSt) : (x.setTag g v).tag h = if h = g then v else x.tag h := SMap.get_set _ _ _ _ _

/-- The statuses of the tags of a list cleared. -/
def Tile.clearTags (x : Tile) (l : List Nat) : Tile := l.foldl (fun x g => x.setTag g { x.tag g with status := 0 }) x

theorem Tile.tag_clearTags (l : List Nat) : (x.clearTags l).tag g = if g ∈ l then { x.tag g with status := 0 } else x.tag g := by
  induction l generalizing x with
  | nil => rfl
  | cons a l ih =>
    have hcons : x.clearTags (a :: l) = (x.setTag a { x.tag a with status := 0 }).clearTags l := rfl
    rw [hcons, ih, Tile.tag_setTag]
    by_cases hl : g ∈ l <;> by_cases ha : g = a <;> simp [hl, ha]

/-- Clearing statuses changes the tags alone. -/
theorem Tile.clearTags_eq (l : List Nat) : ∃ m, x.clearTags l = { x with tags := m } := by
  induction l generalizing x with
  | nil => exact ⟨x.tags, rfl⟩
  | cons a l ih => exact ih (x := x.setTag a { x.tag a with status := 0 })

theorem Tile.clearTags_pc (l : List Nat) : (x.clearTags l).pc = x.pc := by obtain ⟨m, e⟩ := Tile.clearTags_eq (x := x) l; rw [e]
theorem Tile.clearTags_sram (l : List Nat) : (x.clearTags l).sram = x.sram := by obtain ⟨m, e⟩ := Tile.clearTags_eq (x := x) l; rw [e]

theorem mem_bitIndices {w n g : Nat} : g ∈ bitIndices w n ↔ g < w ∧ bit n g = true := by simp [bitIndices, bit]

/-- The first tag of a mask with a status is the one that no earlier tag of the mask precedes. -/
theorem find_first_status (hg : g < 16) (hm : bit mask g = true) (hs : (x.tag g).status ≠ 0)
    (hfirst : ∀ h < g, bit mask h = true → (x.tag h).status = 0) :
    (bitIndices 16 mask).find? (fun g => decide ((x.tag g).status ≠ 0)) = some g := by
  rw [bitIndices, List.find?_filter, List.find?_range_eq_some]
  have hm' : mask.testBit g = true := hm
  refine ⟨by simp [hs, hm'], List.mem_range.2 hg, fun j hj => ?_⟩
  cases hb : bit mask j with
  | false => simp [show mask.testBit j = false from hb]
  | true => simp [hfirst j hj hb]

/-- What WAITT leaves of a tile: the status of the first tag that has one in sd, and the statuses cleared. -/
theorem Tile.waitDone_eq : x.waitDone mask rd = (x.clearTags (bitIndices 16 mask)).resume rd
    ((((bitIndices 16 mask).find? (fun g => decide ((x.tag g).status ≠ 0))).map (fun g => (x.tag g).status)).getD 0) := rfl

theorem Tile.resume_tag (v : Nat) : (x.resume rd v).tag g = x.tag g := by
  unfold Tile.resume Tile.setS; split <;> rfl
theorem Tile.tag_waitDone :
    (x.waitDone mask rd).tag g = if g ∈ bitIndices 16 mask then { x.tag g with status := 0 } else x.tag g :=
  (Tile.resume_tag _).trans (Tile.tag_clearTags _)

theorem Tile.resume_sram (v : Nat) : (x.resume rd v).sram = x.sram := Tile.setS_sram ..
theorem Tile.resume_pc (v : Nat) : (x.resume rd v).pc = x.pc + 8 := rfl
theorem Tile.s_resume (v : Nat) (h : rd ≠ 0) : (x.resume rd v).s rd = BitVec.ofNat 64 v :=
  (Tile.s_setS x rd (BitVec.ofNat 64 v) h).trans (if_pos rfl)

/-- WAITT returns the first status of its tags (R118). -/
theorem Tile.s_waitDone (hrd : rd ≠ 0) (hg : g < 16) (hm : bit mask g = true) (hs : (x.tag g).status ≠ 0)
    (hfirst : ∀ h < g, bit mask h = true → (x.tag h).status = 0) : (x.waitDone mask rd).s rd = BitVec.ofNat 64 (x.tag g).status := by
  rw [Tile.waitDone_eq, Tile.s_resume _ hrd, find_first_status hg hm hs hfirst]
  rfl

end Tags

/-! ### The instructions (R118, R119) -/

section Exec
variable {s : State} {t : Fin 288} {c : Instr} {go : Block → Block} {b : Block}

/-- A command that issues an operation does it on the block. -/
theorem exec_issue (h : s.issues t) (he : exec c s = .next (s.issue t c go)) (hb : go s.blk = b) (hn : s.nextIs t c) :
    exec c s = .next (s.withBlk b) := by
  rw [he, State.issue_next _ h.1 hn, hb]

end Exec

section Sync
variable {s : State} {t sd sa : Nat} {imm : BitVec 32}

theorem Block.insnReg_go_on (h : s.issues t) : s.blk.insnReg t (fun x => .ok x 0) = s.blk.tileNext t (s.blk.tile t) := Block.insnReg_ok h rfl

theorem Block.scwait_eq (h : s.issues t) : s.blk.scwait t sa imm =
    if (s.blk.tile t).addrS sa imm ≤ s.blk.hearthAt t then s.blk.tileNext t (s.blk.tile t)
    else s.blk.tileWait t (.scwait ((s.blk.tile t).addrS sa imm)) := by
  rw [Block.scwait, if_neg (State.issues_not_held h), Block.insnReg_go_on h]

theorem Block.bara_eq (h : s.issues t) : s.blk.bara t sa imm =
    (s.blk.tileNext t (s.blk.tile t)).arrive (s.blk.tilePart t) ((s.blk.bake (s.blk.tilePart t)).bakeNo % 256) ((s.blk.tile t).addrS sa imm)
      false := by
  rw [Block.bara, if_neg (State.issues_not_held h), Block.insnReg_go_on h]

theorem Block.barw_eq (h : s.issues t) : s.blk.barw t sd sa imm =
    let k := s.blk.tilePart t
    let id := (s.blk.tile t).addrS sa imm
    let give (v : Nat) : Block := s.blk.setTile t ((s.blk.tile t).resume sd v)
    if id = 0 then give 0
    else if (s.blk.bake k).active = false then give 2
    else if s.blk.barReleased t k id = true then give 0
    else if s.blk.barFailed k id ≠ 0 then give (s.blk.barFailed k id)
    else s.blk.tileWait t (.barw id sd s.blk.now) := by
  rw [Block.barw, if_neg (State.issues_not_held h)]
  simp only [Bool.not_eq_true']

/-- UFENCE goes on unless it waits for transfers of the program that still run. -/
theorem Block.ufence_eq (h : s.issues t) (n : Nat) : s.blk.ufence t n =
    if bit n 2 = false ∨ (s.blk.tile t).tagsIdle progTags = true then s.blk.tileNext t (s.blk.tile t)
    else s.blk.tileWait t (.ufence (n % 16)) := by
  unfold Block.ufence
  cases hb : bit n 2 with
  | false => simpa using Block.insnReg_go_on h
  | true =>
    rw [if_pos rfl, Block.waitInsn_eq h]
    cases hi : (s.blk.tile t).tagsIdle progTags with
    | false => rw [if_neg (by simp)]; exact Block.wakeTile_ufence_busy hi
    | true =>
      rw [if_pos (.inr rfl), Block.wakeTile_ufence_idle hi, Tile.unwaited_eq h.2.2.1]
      rfl

end Sync

/-- Settles O18: each instruction is one operation on the block, which goes on or waits as its lemma says. -/
theorem tileWaits : Obligations.TileWaits := by
  unfold Obligations.TileWaits
  intro s t sd sa imm h
  simp only []
  refine ⟨?dten, ?sccnt, ?scwait, ?ufence, ?bara, ?barw, fun hbusy => ?waittBusy, fun hidle => ?waitt, fun hbusy => ?endBusy,
    fun hidle hl => ?endP, fun hidle l hl hp => ?endLaunch⟩
  case dten => exact exec_insnReg_ok h rfl rfl
  case sccnt => exact exec_insnReg_ok h rfl rfl
  case scwait => exact exec_issue h rfl (Block.scwait_eq h)
  case ufence => exact exec_issue h rfl (Block.ufence_eq h _)
  case bara => exact exec_issue h rfl (Block.bara_eq h)
  case barw => exact exec_issue h rfl (Block.barw_eq h)
  case waittBusy => exact exec_issue h rfl ((Block.waitInsn_eq h _).trans (Block.wakeTile_waitt_busy hbusy))
  case endBusy => exact exec_issue h rfl (congrArg Block.rest ((Block.waitInsn_eq h _).trans (Block.wakeTile_ending_busy hbusy)))
  case endP =>
    refine exec_issue h rfl (congrArg Block.rest ((Block.waitInsn_eq h _).trans ?_))
    rw [Block.wakeTile_ending_idle hidle, Block.endProgram_of_no_launch hl]
  case endLaunch =>
    refine exec_issue h rfl (congrArg Block.rest ((Block.waitInsn_eq h _).trans ?_))
    rw [Block.wakeTile_ending_idle hidle, Block.endProgram_of_last_pass hl hp]
  case waitt =>
    refine ⟨_, exec_issue h rfl ((Block.waitInsn_eq h _).trans (Block.wakeTile_waitt_idle hidle)), rfl, ?pc, ?sram, fun g _ => ?inflight,
      fun g hg hm => ?cleared, fun hsd g hg hm hs hfirst => ?status⟩
    case pc => rw [Tile.waitDone_eq, Tile.resume_pc, Tile.clearTags_pc]
    case sram => rw [Tile.waitDone_eq, Tile.resume_sram, Tile.clearTags_sram]
    case inflight => rw [Tile.tag_waitDone]; split <;> rfl
    case cleared => rw [Tile.tag_waitDone, if_pos (mem_bitIndices.2 ⟨hg, hm⟩)]
    case status => exact Tile.s_waitDone hsd hg hm hs hfirst

end Sys2Proof.Machine
end

section
/-! SUPPORT. Transfers of a tile: its DMA instructions, the ends of transfers and FFENCE (R114 to R116, R366). -/
namespace Sys2Proof.Machine

/-! ### What a tag records (R116) -/

section Fault
variable {b : Block} {t u tag st : Nat}

theorem Block.dmaFault_tiles : (b.dmaFault t tag st).tiles = b.tiles := by
  unfold Block.dmaFault
  split
  · rfl
  · exact (Block.reportTile_tiles ..).trans (Block.raise_tiles ..)

theorem Block.dmaFault_ok : b.dmaFault t tag 0 = b := if_pos rfl

/-- A register field reads the same after a fault report. -/
theorem Block.eff_dmaFault {f : Field} (h : st ≠ 0) : (b.dmaFault t tag st).eff (pgTile t) f =
    (((b.put (pgTile t) F.TIL_DMA_ERR.LAST_STATUS st).put (pgTile t) F.TIL_DMA_ERR.LAST_TAG tag).bump (pgTile t)
      F.TIL_DMA_ERR.DMA_ERR_CNT).eff (pgTile t) f := by
  unfold Block.dmaFault
  rw [if_neg h]
  exact (Block.eff_report _ _ _ _ _).trans (Block.eff_raise _ _ _ _ _ _)

theorem Block.lastStatus_dmaFault (h : st ≠ 0) (hst : st < 16) : (b.dmaFault t tag st).eff (pgTile t) F.TIL_DMA_ERR.LAST_STATUS = st := by
  rw [Block.eff_dmaFault h, Block.bump, Block.eff_put_of_ne, Block.eff_put_of_ne, Block.eff_put_same _ _ _ _ _ rfl]
  · exact Nat.mod_eq_of_lt hst
  all_goals exact .inr (by decide)

theorem Block.lastTag_dmaFault (h : st ≠ 0) (htag : tag < 16) : (b.dmaFault t tag st).eff (pgTile t) F.TIL_DMA_ERR.LAST_TAG = tag := by
  rw [Block.eff_dmaFault h, Block.bump, Block.eff_put_of_ne, Block.eff_put_same _ _ _ _ _ rfl]
  · exact Nat.mod_eq_of_lt htag
  · exact .inr (by decide)

/-- A nonzero status raises DMA_ERR_EV. -/
theorem Block.isr_dmaFault (h : st ≠ 0) : bit ((b.dmaFault t tag st).hdr (pgTile t)).isr 1 = true := by
  unfold Block.dmaFault
  rw [if_neg h]
  simp only [Block.reportTile, Block.hdr_report, Block.hdr_raise, if_pos, Block.summarise_isr, bit_setBits_one]
  simp

/-- The state of a tag after a transfer of it has ended with a status: the first nonzero one stays. -/
def TagSt.done (s : TagSt) (st : Nat) : TagSt := { inflight := s.inflight - 1, status := if s.status = 0 then st else s.status }

theorem Block.tagDone_eq : b.tagDone t tag st = (b.setTile t ((b.tile t).setTag tag (((b.tile t).tag tag).done st))).dmaFault t tag st := rfl

theorem Block.tile_tagDone : (b.tagDone t tag st).tile t = (b.tile t).setTag tag (((b.tile t).tag tag).done st) := by
  rw [Block.tagDone_eq, Block.tile_congr Block.dmaFault_tiles, Block.tile_setTile_same]

end Fault

/-- Settles O21: the tag of the tile is set, and the fault of a nonzero status puts its fields and raises its event. -/
theorem tagRecordsFirstStatus : Obligations.TagRecordsFirstStatus := by
  unfold Obligations.TagRecordsFirstStatus
  intro b t tag st hst htag
  simp only [Block.tile_tagDone, Tile.tag_setTag, if_true]
  refine ⟨rfl, rfl, fun g hg => if_neg hg, fun h => ⟨?status, ?tag, ?event⟩, fun h => ?_⟩
  case status => exact Block.lastStatus_dmaFault h hst
  case tag => exact Block.lastTag_dmaFault h htag
  case event => exact Block.isr_dmaFault h
  · rw [h, Block.tagDone_eq, Block.dmaFault_ok]

/-! ### DMA instructions (R114, R115) -/

section Dma
variable {s : State} {t sa sb sl sd tag off : Nat} {touch : Tile → List (Nat × Nat)} {go : Block → Block} {write : Bool} {p : Piece}

/-- TAG 12 to 15 is illegal in an instruction. -/
theorem Block.dmaInsn_illegal (h : s.issues t) (ht : 12 ≤ tag) : s.blk.dmaInsn t tag touch go = s.blk.tileStop t tfILLEGAL := by
  rw [Block.dmaInsn, if_neg (State.issues_not_held h), if_pos ht]
  exact Block.insnReg_fault h (f := fun _ => .fault tfILLEGAL) rfl

/-- A DMA instruction that nothing holds acts on the block whose tile has gone on. -/
theorem Block.dmaInsn_go (h : s.issues t) (ht : tag < 12) (hfree : ∀ r ∈ touch (s.blk.tile t), s.blk.sramFree t r.1 r.2) :
    s.blk.dmaInsn t tag touch go = go (s.blk.tileNext t (s.blk.tile t)) := by
  have hbusy : ¬ (touch (s.blk.tile t)).any (fun r => s.blk.sramBusy t r.1 r.2) = true := by
    rw [List.any_eq_true]
    rintro ⟨r, hr, hb⟩
    exact Bool.false_ne_true ((hfree r hr).symm.trans hb)
  rw [Block.dmaInsn, if_neg (State.issues_not_held h), if_neg (by omega), if_neg hbusy, Block.insnReg_go_on h]

theorem Block.dmaInsn_go_one {a n : Nat} (h : s.issues t) (ht : tag < 12) (hfree : s.blk.sramFree t a n) :
    s.blk.dmaInsn t tag (fun _ => [(a, n)]) go = go (s.blk.tileNext t (s.blk.tile t)) :=
  Block.dmaInsn_go h ht (by simpa using hfree)

/-- A piece breaks R115: its status is not OK, or it has no length and is misaligned. -/
theorem Block.dmaMove_bad {b : Block} {ten grp : Nat} (hl : p.len ≠ 0) (hp : pieceStatus p = stALIGN) :
    b.dmaMove t tag write [p] ten grp none = b.tagAtOnce t tag stALIGN := by
  have hst : pieceStatus p ≠ 0 := by rw [hp]; decide
  unfold Block.dmaMove
  simp [hl, hst, Block.arriveOpt]

/-- A piece of no length moves nothing (log entry 25). -/
theorem Block.dmaMove_empty {b : Block} {ten grp : Nat} (hl : p.len = 0) (ha : p.addr % 128 = 0) (hs : p.sram % 128 = 0) :
    b.dmaMove t tag write [p] ten grp none = b.tagAtOnce t tag stOK := by
  unfold Block.dmaMove
  simp [hl, ha, hs, Block.arriveOpt]

theorem Block.dmaMove_go {b : Block} {ten grp : Nat} (hl : p.len ≠ 0) (hp : pieceStatus p = 0) :
    b.dmaMove t tag write [p] ten grp none =
      b.startTag t tag (if write then .write else .read) [p] (if write then [(b.tile t).rdBytes p.sram p.len] else []) ten grp none := by
  unfold Block.dmaMove
  simp [hl, hp, Tile.gather]

theorem Block.dmaLinear_illegal (h : s.issues t) (ht : 12 ≤ tag) : s.blk.dmaLinear t sa sb sl tag off write = s.blk.tileStop t tfILLEGAL := by
  unfold Block.dmaLinear; exact Block.dmaInsn_illegal h ht
theorem Block.dmaList_illegal (h : s.issues t) (ht : 12 ≤ tag) : s.blk.dmaList t sa sb sl tag off write = s.blk.tileStop t tfILLEGAL := by
  unfold Block.dmaList; exact Block.dmaInsn_illegal h ht
theorem Block.dwalk_illegal (h : s.issues t) (ht : 12 ≤ tag) : s.blk.dwalk t sa sb sl tag off = s.blk.tileStop t tfILLEGAL := by
  unfold Block.dwalk; exact Block.dmaInsn_illegal h ht

/-- The piece that DRD and DWR name (R114). -/
def Tile.dmaPiece (x : Tile) (sa sb sl off : Nat) : Piece := { addr := (x.s sa).toNat, len := (x.s sl).toNat, sram := x.addrZ sb off }

/-- DRD and DWR move their one piece. -/
theorem Block.dmaLinear_go (h : s.issues t) (ht : tag < 12)
    (hfree : s.blk.sramFree t ((s.blk.tile t).addrZ sb off) ((s.blk.tile t).s sl).toNat) :
    s.blk.dmaLinear t sa sb sl tag off write =
      (s.blk.tileNext t (s.blk.tile t)).dmaMove t tag write [(s.blk.tile t).dmaPiece sa sb sl off] (s.blk.tile t).tenant t none := by
  unfold Block.dmaLinear
  exact Block.dmaInsn_go_one h ht hfree

/-- DGATHER and DSCATTER move the pieces that their records name. -/
theorem Block.dmaList_go (h : s.issues t) (ht : tag < 12) (hn : ((s.blk.tile t).s sl).toNat % 16 = 0)
    (hr : (s.blk.tile t).addrZ sb off + ((s.blk.tile t).s sl).toNat ≤ sramSize)
    (hfree : ∀ g ∈ ((s.blk.tile t).addrZ sb off, ((s.blk.tile t).s sl).toNat) ::
      ((s.blk.tile t).records ((s.blk.tile t).addrZ sb off) (((s.blk.tile t).s sl).toNat / 16)).map (fun r => (r.sram, r.len)),
      s.blk.sramFree t g.1 g.2) :
    s.blk.dmaList t sa sb sl tag off write =
      (s.blk.tileNext t (s.blk.tile t)).dmaMove t tag write
        ((s.blk.tile t).records ((s.blk.tile t).addrZ sb off) (((s.blk.tile t).s sl).toNat / 16)) (s.blk.tile t).tenant t none := by
  have hok : (decide (((s.blk.tile t).s sl).toNat % 16 = 0) && inSram ((s.blk.tile t).addrZ sb off) ((s.blk.tile t).s sl).toNat) = true := by
    simp [hn, inSram_iff.2 hr]
  unfold Block.dmaList
  simp only [hok, if_true]
  exact Block.dmaInsn_go h ht hfree

/-- DWALK first asks whether its descriptor is aligned. -/
theorem Block.dwalk_misaligned (h : s.issues t) (ht : tag < 12)
    (hfree : s.blk.sramFree t ((s.blk.tile t).addrZ sb off) ((s.blk.tile t).s sl).toNat) (ha : ((s.blk.tile t).s sa).toNat % 32 ≠ 0) :
    s.blk.dwalk t sa sb sl tag off = (s.blk.tileNext t (s.blk.tile t)).tagAtOnce t tag stALIGN := by
  unfold Block.dwalk
  exact (Block.dmaInsn_go_one h ht hfree).trans (if_pos ha)

/-- A walk whose descriptor lies on this package reads it at once. -/
theorem Block.dwalk_here (h : s.issues t) (ht : tag < 12)
    (hfree : s.blk.sramFree t ((s.blk.tile t).addrZ sb off) ((s.blk.tile t).s sl).toNat) (ha : ((s.blk.tile t).s sa).toNat % 32 = 0) {o : Nat}
    (hres : (s.blk.tileNext t (s.blk.tile t)).resolve ((s.blk.tile t).s sa).toNat 32 = some (.here o)) :
    let b := s.blk.tileNext t (s.blk.tile t)
    let r := b.readLocal o 32 (s.blk.tile t).tenant false (b.tilePart t) (tileClu t)
    s.blk.dwalk t sa sb sl tag off = if r.2.1 = 0 then
        r.1.walkRun t tag ((s.blk.tile t).addrZ sb off) ((s.blk.tile t).s sl).toNat (walkDesc r.2.2) else r.1.tagAtOnce t tag r.2.1 := by
  unfold Block.dwalk
  refine (Block.dmaInsn_go_one h ht hfree).trans ?_
  rw [if_neg (by simpa using ha)]
  simp only [hres]
  exact ite_not ..

theorem Block.ffence_eq (h : s.issues t) : s.blk.ffence t sd =
    (s.blk.setTile t { s.blk.tile t with wait := some (.ffence s.blk.nextId sd) }).startFence (fun _ => .tile t sd) t :=
  if_neg (State.issues_not_held h)

/-- The oldest transfer of a tag that has ended is retired. -/
theorem Block.transferDone_of_found {b : Block} {y : Xfer}
    (hy : b.xfers.find? (fun y => decide (y.owner = .tag t tag) && decide (y.phase = .done)) = some y) :
    b.transferDone t tag = (((b.releaseLeases y.id).dropXfer y.id).tagDone t tag y.status).xferArrive t y := by
  rw [Block.transferDone, hy]

end Dma

/-- Settles O20: each DMA instruction acts on the block whose tile has gone on, as the checks of its pieces say. -/
theorem tileTransfers : Obligations.TileTransfers := by
  unfold Obligations.TileTransfers
  intro s t sa sb sl sd tag off h
  simp only [← Tile.addrZ_eq]
  refine ⟨fun ht c hc => ?illegal, fun ht hfree => ⟨fun hl hp c hc => ?bad, fun hl ha hs c hc => ?empty,
    fun hl hp => ⟨?read, ?write⟩, fun ha => ?misaligned,
    fun o ha hres => ?walk⟩, fun ht hn hr hfree => ⟨?gather, ?scatter⟩, ?fence, fun y hy => ?done⟩
  case illegal =>
    simp only [List.mem_cons, List.not_mem_nil, or_false] at hc
    rcases hc with rfl | rfl | rfl | rfl | rfl
    · exact exec_issue h rfl (congrArg Block.rest (Block.dmaLinear_illegal h ht))
    · exact exec_issue h rfl (congrArg Block.rest (Block.dmaLinear_illegal h ht))
    · exact exec_issue h rfl (congrArg Block.rest (Block.dmaList_illegal h ht))
    · exact exec_issue h rfl (congrArg Block.rest (Block.dmaList_illegal h ht))
    · exact exec_issue h rfl (congrArg Block.rest (Block.dwalk_illegal h ht))
  case bad =>
    simp only [List.mem_cons, List.not_mem_nil, or_false] at hc
    rcases hc with rfl | rfl <;>
      exact exec_issue h rfl (congrArg Block.rest ((Block.dmaLinear_go h ht hfree).trans (Block.dmaMove_bad hl hp)))
  case empty =>
    simp only [List.mem_cons, List.not_mem_nil, or_false] at hc
    rcases hc with rfl | rfl <;>
      exact exec_issue h rfl (congrArg Block.rest ((Block.dmaLinear_go h ht hfree).trans (Block.dmaMove_empty hl ha hs)))
  case read => exact exec_issue h rfl (congrArg Block.rest ((Block.dmaLinear_go h ht hfree).trans (Block.dmaMove_go hl hp)))
  case write =>
    refine exec_issue h rfl (congrArg Block.rest ((Block.dmaLinear_go h ht hfree).trans ((Block.dmaMove_go hl hp).trans ?_)))
    rw [Block.tileNext, Block.tile_setTile_same]
    rfl
  case misaligned => exact exec_issue h rfl (congrArg Block.rest (Block.dwalk_misaligned h ht hfree ha))
  case walk => exact exec_issue h rfl (congrArg Block.rest (Block.dwalk_here h ht hfree ha hres))
  case gather => exact exec_issue h rfl (congrArg Block.rest (Block.dmaList_go h ht hn hr hfree))
  case scatter => exact exec_issue h rfl (congrArg Block.rest (Block.dmaList_go h ht hn hr hfree))
  case fence => exact exec_issue h rfl (congrArg Block.rest (Block.ffence_eq h))
  case done =>
    have he : exec (.transferDone t tag) s = .next (s.act fun b => ((b.transferDone t tag.toNat).wakeTile t).rest) := rfl
    rw [he, State.act_live h.1, Block.transferDone_of_found hy]

end Sys2Proof.Machine
end

section
/-! SUPPORT. The Score: entries at its crossing, SCPUSH, and the due entry (R119 to R121, R157 to R165). -/
namespace Sys2Proof.Machine

section Scores
variable {b : Block} {i j : Nat} {x y : Score}

@[simp] theorem Block.score_setScore_same (b : Block) (i : Nat) (x : Score) : (b.setScore i x).score i = x := SMap.get_set_same _ _ _ _
@[simp] theorem Block.setScore_setScore (b : Block) (i : Nat) (x y : Score) : (b.setScore i x).setScore i y = b.setScore i y := by
  simp [Block.setScore]

/-- What a Score answers looks at its pending entries, and at no crossing (R159). -/
theorem Block.acceptStatus_setScore (hx : x.entries = (b.score i).entries) (e : ScoreEntry) :
    (b.setScore i x).acceptStatus i e = b.acceptStatus i e := by
  have hs : ((b.setScore i x).score i).entries = (b.score i).entries := by rw [Block.score_setScore_same, hx]
  unfold Block.acceptStatus
  rw [hs]
  rfl

/-! ### The crossing (R38 to R40, R119, R120, R159) -/

variable {a : Arriving} {rest : List Arriving} {e : ScoreEntry} {st : Nat}

theorem Score.popped_of_cons (h : x.arriving = a :: rest) (now : Nat) :
    x.popped now = { x with arriving := rest ++ x.held.take 1, held := x.held.drop 1, lastRead := now } := by
  rw [Score.popped, h]; rfl

/-- The oldest entry at the crossing of a Score that answers is taken. -/
theorem Block.scoreAccept_of_answer (hi : isScoreIsland i = true) (ha : (b.score i).arriving = a :: rest) (hst : b.acceptStatus i a.e = some st) :
    b.scoreAccept i none = (b.setScore i ((b.score i).popped b.now)).takeEntry i a.e a.sender st := by
  unfold Block.scoreAccept
  simp [hi, ha, hst]

/-- A full Score takes nothing. -/
theorem Block.scoreAccept_of_full (hi : isScoreIsland i = true) (ha : (b.score i).arriving = a :: rest) (hst : b.acceptStatus i a.e = none) :
    b.scoreAccept i none = b := by
  unfold Block.scoreAccept
  simp [hi, ha, hst]

/-- An entry that has waited 1 µs at a full Score is discarded. -/
theorem Block.scoreOverflow_of_late (ha : (b.score i).arriving = a :: rest) (hst : b.acceptStatus i a.e = none) (hlate : a.since + 1000 ≤ b.now) :
    b.scoreOverflow i = ((b.setScore i ((b.score i).popped b.now)).countOverflow i).tellSender a.sender 2 := by
  unfold Block.scoreOverflow
  simp [ha, hst, hlate]

/-- An entry of another package that finds its crossing empty is the first of it. -/
theorem Block.pushArriving_of_empty (ha : (b.score i).arriving = []) (s : Sender) :
    b.pushArriving i e s = b.setScore i { b.score i with arriving := [{ e := e, sender := s, since := b.now }] } := by
  have hroom : (b.score i).arriving.length < scoreCrossing i := by rw [ha]; exact (by decide : 0 < 8)
  unfold Block.pushArriving
  simp only [if_pos hroom]
  rw [ha, List.nil_append]

/-- An entry that comes with the command reaches its crossing first. -/
theorem Block.scoreAccept_some (hi : isScoreIsland i = true) : b.scoreAccept i (some e) = (b.pushArriving i e .remote).scoreAccept i none := by
  simp [Block.scoreAccept, hi]

/-- An entry of another package reaches its crossing and is taken from it. -/
theorem Block.scoreAccept_remote (hi : isScoreIsland i = true) (ha : (b.score i).arriving = []) (hh : (b.score i).held = [])
    (hst : b.acceptStatus i e = some st) :
    b.scoreAccept i (some e) =
      ((b.setScore i { b.score i with arriving := [{ e := e, sender := .remote, since := b.now }] }).setScore i
        { b.score i with arriving := [], held := [], lastRead := b.now }).takeEntry i e .remote st := by
  rw [Block.scoreAccept_some hi, Block.pushArriving_of_empty ha]
  refine (Block.scoreAccept_of_answer (a := { e := e, sender := .remote, since := b.now }) (rest := []) (st := st) hi ?_ ?_).trans ?_
  · rw [Block.score_setScore_same]
  · exact (Block.acceptStatus_setScore (by rfl) e).trans hst
  · rw [Block.score_setScore_same, Score.popped, hh]
    rfl

end Scores

/-! ### SCPUSH (R119) -/

section Push
variable {s : State} {t sd sa imm answer : Nat}

theorem Block.scpush_eq (h : s.issues t) : s.blk.scpush t sd sa imm answer =
    let x := s.blk.tile t
    let a := x.addrZ sa imm
    let e := x.entryAt a
    if !inSram a 32 then s.blk.tileStop t tfRANGE
    else if s.blk.sramBusy t a 32 then s.blk
    else if !isScoreIsland e.island then s.blk.setTile t (x.resume sd 3)
    else if e.isRemote ∧ e.slot ≠ s.blk.slotId then
      (s.blk.setTile t (x.resume sd (answer % 4))).emit (.event "score-push" [e.slot, e.launch, e.action, e.target, e.desc, e.barw])
    else (s.blk.tileWait t (.scpush sd)).pushArriving e.island e (.tile t sd) := by
  have hstop : s.blk.insnReg t (fun _ => .fault tfRANGE) = s.blk.tileStop t tfRANGE := Block.insnReg_fault h rfl
  unfold Block.scpush
  simp only [if_neg (State.issues_not_held h), hstop]

theorem Block.scpush_outside (h : s.issues t) (hr : sramSize < (s.blk.tile t).addrZ sa imm + 32) :
    s.blk.scpush t sd sa imm answer = s.blk.tileStop t tfRANGE :=
  (Block.scpush_eq h).trans (if_pos (by simpa [inSram] using hr))

/-- SCPUSH whose entry lies in tile SRAM, with no transfer landing on it, sends it. -/
theorem Block.scpush_sends (h : s.issues t) (hr : (s.blk.tile t).addrZ sa imm + 32 ≤ sramSize)
    (hfree : s.blk.sramFree t ((s.blk.tile t).addrZ sa imm) 32) : s.blk.scpush t sd sa imm answer =
    let x := s.blk.tile t
    let e := x.entryAt (x.addrZ sa imm)
    if !isScoreIsland e.island then s.blk.setTile t (x.resume sd 3)
    else if e.isRemote ∧ e.slot ≠ s.blk.slotId then
      (s.blk.setTile t (x.resume sd (answer % 4))).emit (.event "score-push" [e.slot, e.launch, e.action, e.target, e.desc, e.barw])
    else (s.blk.tileWait t (.scpush sd)).pushArriving e.island e (.tile t sd) := by
  rw [Block.scpush_eq h]
  simp only [inSram_iff.2 hr, hfree, Bool.not_true, Bool.false_eq_true, if_false]

end Push

/-- Settles O22: a Score answers or is full, and SCPUSH checks, in turn, the range, the island and the slot of its entry. -/
theorem scoreTakesEntries : Obligations.ScoreTakesEntries := by
  unfold Obligations.ScoreTakesEntries
  intro s i t sd sa imm answer hlive
  have hact (f : Block → Block) : Host.Outcome.next (s.act f) = (.next (s.withBlk (f s.blk)) : Host.Outcome State Fault Refusal) := by
    rw [State.act_live hlive]
  have haccept (e : Option ScoreEntry) : exec (.scoreEntryAccept i e) s = .next (s.withBlk (s.blk.scoreAccept i e)) := hact _
  have hoverflow : exec (.scoreOverflow i) s = .next (s.withBlk (s.blk.scoreOverflow i)) := hact _
  simp only [← Tile.addrZ_eq]
  refine ⟨fun a rest ha hi => ⟨fun st hst => ?taken, fun hfull => ?full, fun hfull hlate => ?overflow⟩, fun e ha hh hi st hst => ?remote,
    fun h hn => ?push⟩
  case taken => rw [haccept, Block.scoreAccept_of_answer hi ha hst, Score.popped_of_cons ha]
  case full => rw [haccept, Block.scoreAccept_of_full hi ha hfull]; rfl
  case overflow => rw [hoverflow, Block.scoreOverflow_of_late ha hfull hlate, Score.popped_of_cons ha]
  case remote => rw [haccept, Block.scoreAccept_remote hi ha hh hst]
  case push =>
    have hpush : exec (.scpush t sd sa imm answer) s = .next (s.withBlk (s.blk.scpush t sd.toNat sa.toNat imm.toNat answer)) :=
      congrArg _ (State.issue_next _ hlive hn)
    rw [hpush]
    refine ⟨fun hr => ?range, fun hr hfree hi => ?noScore, fun hr hfree hi hown => ?own, fun hr hfree hi hrem hslot => ?far⟩
    case range => rw [Block.scpush_outside h hr]; rfl
    case noScore => rw [Block.scpush_sends h hr hfree]; simp only [hi, Bool.not_false, if_true]
    case own => rw [Block.scpush_sends h hr hfree]; simp only [hi, Bool.not_true, Bool.false_eq_true, if_false, if_neg hown]; rfl
    case far =>
      rw [Block.scpush_sends h hr hfree]
      simp only [hi, Bool.not_true, Bool.false_eq_true, if_false, if_pos (⟨hrem, hslot⟩ : _ ∧ _), Nat.mod_eq_of_lt answer.isLt]

/-! ### The due entry (R121, R160, R163, R169) -/

section Fire
variable {b : Block} {i : Nat} {x : SEntry}

/-- What the due entry of a Score does when it fires. -/
theorem Block.scoreFire_of_due (hopen : 288 ≤ i → b.islandOpen i = true) (hx : b.nextDue i = some x) :
    b.scoreFire i =
      let sc := b.score i
      let sc' : Score := { sc with entries := sc.entries.filter (fun y => decide (y.order ≠ x.order)), head := none }
      if badEntry i x.e then (b.setScore i sc').discardBad x.e
      else if x.e.waitBar ≠ 0 ∧ b.barFailed x.e.part x.e.waitBar ≠ 0 ∧ x.e.code ≠ 1 then (b.setScore i sc').arriveEntry x.e true
      else if x.e.code = 1 ∧ ((b.tile i).seq = .run ∨ (b.tile i).seq = .retired) then b.setScore i { sc with head := some x.order }
      else b.setScore i { sc' with fired := sc.fired ++ [x.e] } := by
  have hi : ¬ (288 ≤ i ∧ (!b.islandOpen i) = true) := fun ⟨h, hc⟩ => by simp [hopen h] at hc
  unfold Block.scoreFire
  simp only [if_neg hi, hx, Block.score_setScore_same, Block.setScore_setScore]

end Fire

/-- Settles O23, by the branches of a firing. -/
theorem scoreFiresDueEntry : Obligations.ScoreFiresDueEntry := by
  unfold Obligations.ScoreFiresDueEntry
  intro s i x hlive hopen hx
  have hfire : exec (.scoreFire i) s = .next (s.withBlk (s.blk.scoreFire i)) := congrArg _ (State.act_live hlive)
  rw [hfire, Block.scoreFire_of_due hopen hx]
  refine ⟨fun hbad => ?bad, fun hbad hfail hcode => ?failed, fun hbad hcode hrun => ?waits, fun hbad hfail hrun => ?fires⟩
  case bad => simp only [hbad, if_true]
  case failed => simp only [hbad, Bool.false_eq_true, if_false, if_pos (⟨hfail.1, hfail.2, hcode⟩ : _ ∧ _ ∧ _)]
  case waits => simp only [hbad, Bool.false_eq_true, if_false, hcode, ne_eq, not_true, and_false, hrun, and_self, if_true]
  case fires =>
    have hfail' : ¬ (x.e.waitBar ≠ 0 ∧ s.blk.barFailed x.e.part x.e.waitBar ≠ 0 ∧ x.e.code ≠ 1) := by tauto
    simp only [hbad, Bool.false_eq_true, if_false, if_neg hfail', if_neg hrun]

end Sys2Proof.Machine
end

section
/-! SUPPORT. Fired actions of a Score: program starts, windows, transfers, arrivals, lists and segments (R94, R160 to R162, R180, R208, R243,
R369). -/
namespace Sys2Proof.Machine

section Actions
variable {b b1 : Block} {t i k q code : Nat} {e : ScoreEntry}

/-! ### Windows, arrivals, transfers and lists -/

theorem Block.idleWinAction_of_fired (h : b.takeFired t 2 = some (e, b1)) :
    b.idleWinAction t = (b1.setTile t { b1.tile t with idleWin := some (b.now, e.arg * 1000) }).arriveEntry e false := by
  rw [Block.idleWinAction, h]

theorem Block.arriveAction_of_fired (h : b.takeFired i 4 = some (e, b1)) : b.arriveAction i = b1.arriveEntry e false := by
  rw [Block.arriveAction, h]

theorem Block.xferAction_of_fired (h : b.takeFired t 3 = some (e, b1)) : b.xferAction t =
    let tag := 12 + e.arg % 4
    let c := (b1.tile t).tag tag
    if e.desc % 32 ≠ 0 then b1.xferEnd t tag stALIGN e
    else (b1.setTile t ((b1.tile t).setTag tag { c with inflight := c.inflight + 1 })).newXfer
      { xfer0 (.xferDesc t tag) .read with pieces := [{ addr := e.desc, len := 32, sram := 0 }], group := actionGroup t e
                                           part := b1.tilePart t, page := tileClu t, entry := some e } := by
  rw [Block.xferAction, h]

theorem Block.proofAction_of_fired (h : b.takeFired (344 + k) 0x20 = some (e, b1)) : b.proofAction k = b1.listStart (344 + k) e := by
  rw [Block.proofAction, h]
theorem Block.kvpfAction_of_fired (h : b.takeFired (344 + k) 0x21 = some (e, b1)) : b.kvpfAction k = b1.listStart (344 + k) e := by
  rw [Block.kvpfAction, h]

/-! ### Segment actions -/

/-- The block once a segment action has begun to read its list (R369). -/
def Block.segBegun (b : Block) (q : Nat) (e : ScoreEntry) (send : Bool) : Block :=
  let act : SegAct := { id := b.nextId, island := 360 + q, e := e, send := send, moe := noMoe, pieces := [], waitRead := 0, failed := false }
  ({ b with nextId := b.nextId + 1, segs := b.segs ++ [act] }).newXfer
    { xfer0 (.segList b.nextId) .read with pieces := [{ addr := e.desc, len := 32, sram := 0 }], priv := true, part := e.part, page := pgQuad q }

theorem Block.segFire_of_fired {send : Bool} (h : b.takeFired (360 + q) (if send then 0x10 else 0x11) = some (e, b1)) :
    b.segFire q send = if e.desc % 32 ≠ 0 then b1.discardBad e else b1.segBegun q e send := by
  rw [Block.segFire, h]; rfl

/-! ### Program starts (R94, R121, R125) -/

@[simp] theorem Block.trace_tiles (kind c p isl d : Nat) (part : Option Nat) : (b.trace kind c p isl part d).tiles = b.tiles := by
  unfold Block.trace; split <;> rfl

/-- The tile that a program start sets up, at the pc and the lateness given (R94); Knock's registers are cleared first (R125). -/
def Tile.started (x : Tile) (e : ScoreEntry) (pc late : Nat) : Tile :=
  { if x.seq = .knock then x.clearRegs else x with
    seq := .run, wait := none, launch := none, pc := pc, sregs := [(1, BitVec.ofNat 64 e.desc), (2, BitVec.ofNat 64 e.launch)], vregs := []
    rowCtx := none, tenant := 0, zpW := [], zpA := [], launchTick := e.launch, lateness := late }

/-- A program start that comes more than 4 ticks late is counted (R121). -/
def Block.countLate (b : Block) (t late : Nat) (part : Nat) : Block :=
  if 4 < late then
    (((b.bump (pgTile t) F.TIL_LATE.LATE_CNT).put (pgTile t) F.TIL_LATE.LATE_MAX
      (max (b.eff (pgTile t) F.TIL_LATE.LATE_MAX) (min late 0xFFFF))).raise (pgTile t) 2).trace 1 0x0F02 (pgTile t) t (some part) (min late 0xFFFF)
  else b

theorem Block.countLate_tiles (late part : Nat) : (b.countLate t late part).tiles = b.tiles := by
  unfold Block.countLate
  split
  · exact (Block.trace_tiles ..).trans (Block.raise_tiles ..)
  · rfl

/-- The block whose tile holds the program that entry `e` starts; `b1` is the block without the entry. -/
def Block.programSet (b b1 : Block) (t : Nat) (e : ScoreEntry) : Block :=
  let b0 := if (b.tile t).seq = .knock then
    (b1.bump pgFlt F.FLT_KERR.KNOCK_ABORTS).trace 4 0x0F05 (pgTile t) t (some (b.tilePart t)) 2 else b1
  (b0.setTile t ((b.tile t).started e (b.eff (pgTile t) F.TIL_PROG.PROG_BASE * 8) (b.hearthAt t - e.launch))).countLate t
    (b.hearthAt t - e.launch) (b.tilePart t)

theorem Block.tile_programSet : (b.programSet b1 t e).tile t =
    (b.tile t).started e (b.eff (pgTile t) F.TIL_PROG.PROG_BASE * 8) (b.hearthAt t - e.launch) := by
  rw [Block.programSet, Block.tile_congr (Block.countLate_tiles ..), Block.tile_setTile_same]

/-- A program start sets its tile up, then runs the rise profile and the shape layer. -/
theorem Block.progStart_of_fired (h : b.takeFired t 1 = some (e, b1)) (hrun : (b.tile t).seq ≠ .run) (hret : (b.tile t).seq ≠ .retired)
    (hready : (b.tile t).retireReady = false) :
    b.progStart t = ((b.programSet b1 t e).riseStart t e).shapeLaunch t e (if e.waitBar = 0 then 0 else b.barFailed e.part e.waitBar) := by
  unfold Block.progStart
  simp only [hrun, hret, hready, h, false_or, Bool.false_eq_true, if_false]
  rfl

section Started
variable {x : Tile} {pc late : Nat}

theorem Tile.started_acc : (x.started e pc late).acc = if x.seq = .knock then [] else x.acc := by
  unfold Tile.started; split <;> rfl
theorem Tile.started_sram : (x.started e pc late).sram = x.sram := by unfold Tile.started; split <;> rfl
theorem Tile.s_started (r : Nat) (h1 : r ≠ 1) (h2 : r ≠ 2) : (x.started e pc late).s r = 0 := by
  simp only [Tile.s, Tile.started, SMap.get, h1, h2, if_false, ite_self]

end Started

end Actions

/-- Settles O24: each command finds the fired action that its condition names and does what the lemma about that action says. -/
theorem firedActionsRun : Obligations.FiredActionsRun := by
  unfold Obligations.FiredActionsRun
  intro s t i k q toks hlive
  have hact {c : Instr} {f : Block → Block} {b : Block} (he : exec c s = .next (s.act f)) (hb : f s.blk = b) :
      exec c s = .next (s.withBlk b) := by rw [he, State.act_live hlive, hb]
  refine ⟨fun e b1 h => ?idleWin, fun e b1 h => ?arrive, fun e b1 h hd => ?xferBad, fun e b1 h hd => ?xfer, fun e b1 h => ?proof,
    fun e b1 h => ?kvpf, fun e b1 h hd => ?sendBad, fun e b1 h hd => ?expectBad, fun e b1 c0 code hc h hd => ?seg,
    fun e b1 h hrun hret hready => ?start, fun m h => ?shift⟩
  case idleWin => exact hact rfl (Block.idleWinAction_of_fired h)
  case arrive => exact hact rfl (Block.arriveAction_of_fired h)
  case xferBad => exact hact rfl (congrArg Block.rest ((Block.xferAction_of_fired h).trans (if_pos hd)))
  case xfer => exact hact rfl (congrArg Block.rest ((Block.xferAction_of_fired h).trans (if_neg (not_not.2 hd))))
  case proof => exact hact rfl (congrArg Block.rest (Block.proofAction_of_fired h))
  case kvpf => exact hact rfl (congrArg Block.rest (Block.kvpfAction_of_fired h))
  case sendBad =>
    exact hact rfl (congrArg (fun b => (b.settleWith toks 4096).rest) ((Block.segFire_of_fired (send := true) h).trans (if_pos hd)))
  case expectBad => exact hact rfl (congrArg Block.rest ((Block.segFire_of_fired (send := false) h).trans (if_pos hd)))
  case seg =>
    simp only [List.mem_cons, Prod.mk.injEq, List.not_mem_nil, or_false] at hc
    obtain ⟨rfl, rfl⟩ | ⟨rfl, rfl⟩ := hc
    · exact hact rfl (congrArg (fun b => (b.settleWith toks 4096).rest)
        ((Block.segFire_of_fired (send := true) h).trans (if_neg (not_not.2 hd))))
    · exact hact rfl (congrArg Block.rest ((Block.segFire_of_fired (send := false) h).trans (if_neg (not_not.2 hd))))
  case start =>
    refine ⟨s.blk.programSet b1 t e, hact rfl (congrArg (fun b => b.noteReasons.rest) (Block.progStart_of_fired h hrun hret hready)), ?_⟩
    rw [Block.tile_programSet]
    exact ⟨rfl, rfl, rfl, rfl, fun r => Tile.s_started r, rfl, Tile.started_acc, Tile.started_sram, rfl⟩
  case shift => exact hact rfl (by rw [Block.shiftNext, h])

end Sys2Proof.Machine
end

section
/-! SUPPORT. The service of a tile: the rise profile, retirement, the performance counters and Knock runs (R125 to R129, R182, R457 to R460). -/
namespace Sys2Proof.Machine

/-! ### The rise profile and retirement (R129, R182) -/

section Service
variable {b : Block} {t r : Nat}

theorem Block.riseStep_of_due (h : (b.tile t).rampAt = some r)
    (hdue : 16 * r + b.eff (pgTile t) F.TIL_ISSUE.RAMP_LEVEL * b.rampTime ≤ 16 * b.now) :
    b.riseStep t =
      let b1 := b.put (pgTile t) F.TIL_ISSUE.RAMP_LEVEL (b.eff (pgTile t) F.TIL_ISSUE.RAMP_LEVEL + 1)
      if 15 ≤ b.eff (pgTile t) F.TIL_ISSUE.RAMP_LEVEL then b1.setTile t { b.tile t with rampAt := none } else b1 := by
  unfold Block.riseStep
  simp only [h, if_pos hdue]

theorem Block.tileRetire_of_due (hs : (b.tile t).seq ≠ .retired) (hnow : (b.tile t).retireNow = true)
    (hready : (b.tile t).retireReady = true ∨ (b.tile t).hungNow = true) : b.tileRetire t = b.retireTile t (b.tile t).retireCause := by
  unfold Block.tileRetire
  simp only [hs, hnow, Bool.not_true, Bool.false_eq_true, or_self, if_false, if_pos hready]

theorem Block.retireReq_of_live (hs : (b.tile t).seq ≠ .retired) :
    b.retireReq t = (b.put (pgTile t) F.TIL_RETIRE.RETIRE_REQ 1).wantRetire t 2 := if_neg hs

/-! ### Knock (R457 to R460) -/

/-- A run starts on a tile that is due, where the run limit and the tile's window allow it (R458). -/
theorem Block.knockStart_of_due (hen : b.flt F.FLT_KNOCK.KNOCK_EN ≠ 0) (hsafe : b.safe = false) (hsleep : b.asleep = false)
    (hupd : b.upd.alive = none) (hidle : (b.tile t).seq = .idle) (hdue : b.knockDue t = true)
    (hruns : ((List.range 288).filter (fun i => decide ((b.tile i).seq = .knock))).length < b.flt F.FLT_KNOCK.KNOCK_CONC)
    (hwin : b.enabled (pgTile t) = true → b.windowOpen t = true ∧ b.issueLevel t = 16) :
    b.knockStart t = (b.setTile t { b.tile t with seq := .knock, idleWin := none, knockSince := b.now }).put (pgTile t) F.TIL_KNOCK.PATTERN_VER
      b.upd.knockVer := by
  have hmay : ((b.enabled (pgTile t) && b.windowOpen t && decide (b.issueLevel t = 16)) || !b.enabled (pgTile t)) = true := by
    cases he : b.enabled (pgTile t) with
    | false => simp
    | true => simp [hwin he]
  refine if_neg ?_
  simp only [hen, hsafe, hsleep, hupd, hidle, hdue, hmay, Option.isSome_none, Bool.not_true, Bool.false_eq_true, ne_eq, not_true, false_or,
    or_false]
  exact Nat.not_le.2 hruns

/-- A run of 18 µs ends and passes, or fails and retires the tile (R125, R126, R460). -/
theorem Block.knockComplete_of_run (hs : (b.tile t).seq = .knock) (hlong : (b.tile t).knockSince + 18000 ≤ b.now) (pass : Bool) :
    b.knockComplete t pass =
      let p := pgTile t
      let b1 := (b.put p F.TIL_KNOCK_TICK.LAST_TICK b.now).trace 4 0x0F05 p t (some (b.tilePart t)) (if pass then 0 else 1)
      if pass then
        (((b1.setTile t { (b.tile t).clearRegs with seq := .idle }).bump p F.TIL_KNOCK.PASS_CNT).bumpWrap pgFlt F.FLT_KRUNS.KNOCK_RUNS).knockFresh t
      else ((((((b1.bump p F.TIL_KNOCK.FAIL_CNT).raise p 4).reportTile t 0x0140).raise pgFlt 7).bump pgFlt F.FLT_KERR.KNOCK_FAILS).retireTile t 1) :=
  if_neg (by simp only [hs, ne_eq, not_true, false_or]; omega)

/-- The block once a tile has been noted as overdue, before the report (R457). -/
def Block.overdueRaised (b : Block) (t : Nat) : Block :=
  let b1 := b.setFcol { b.fcol with overdue := SMap.set b.fcol.overdue t b.now }
  ((b1.put pgFlt F.FLT_KOVER.OVERDUE_NOW b1.fcol.overdue.length).bump pgFlt F.FLT_KOVER.OVERDUE_CNT).raise pgFlt 8

/-- The report of an overdue tile. -/
def overdueReport (t : Nat) : Report := { page := pgFlt, code := 0x0203, island := t, detail := 0, part := none }

theorem Block.knockOverdue_of_due (hen : b.flt F.FLT_KNOCK.KNOCK_EN ≠ 0) (hs : (b.tile t).seq ≠ .retired)
    (hnew : SMap.find b.fcol.overdue t = none) (hage : b.knockAge t (b.flt F.FLT_KNOCK_GAP.KNOCK_MAX) = true) :
    b.knockOverdue t = (b.overdueRaised t).report (overdueReport t) :=
  if_neg (by simp [hen, hs, hnew, hage])

theorem Block.find_overdueRaised : SMap.find (b.overdueRaised t).fcol.overdue t = some b.now := by
  simp only [Block.overdueRaised, Block.raise_fcol]
  exact (SMap.find_set ..).trans (if_pos rfl)

theorem Block.reports_overdueRaised : (b.overdueRaised t).reports = b.reports := Block.raise_reports ..
theorem Block.tb_overdueRaised : (b.overdueRaised t).tb = b.tb := Block.raise_tb ..

theorem satAdd_lt (w c n : Nat) : satAdd w c n < 2 ^ w := by
  have := Nat.two_pow_pos w
  unfold satAdd
  omega

theorem Block.overdueCnt_overdueRaised : (b.overdueRaised t).eff pgFlt F.FLT_KOVER.OVERDUE_CNT =
    satAdd F.FLT_KOVER.OVERDUE_CNT.width (b.flt F.FLT_KOVER.OVERDUE_CNT) 1 := by
  have hold (c : Block) (n : Nat) : (c.put pgFlt F.FLT_KOVER.OVERDUE_NOW n).eff pgFlt F.FLT_KOVER.OVERDUE_CNT =
      c.eff pgFlt F.FLT_KOVER.OVERDUE_CNT := Block.eff_put_of_ne _ _ _ _ _ _ _ _ (.inr (by decide))
  simp only [Block.overdueRaised, Block.eff_raise, Block.bump]
  rw [Block.eff_put_same _ _ _ _ _ rfl, Nat.mod_eq_of_lt (satAdd_lt ..), hold]
  rfl

end Service

/-! ### Writes to RETIRE_REQ and CLEAR (R128, R129) -/

section Writes
variable {s : State} {b : Block} {t : Fin 288} {a : Agent} {w : Nat}

theorem pageKind_pgTile (t : Fin 288) : pageKind (pgTile t) = .til := by
  have ht := t.isLt
  unfold pageKind pgTile
  repeat rw [if_neg (by omega)]
  rw [if_pos (by omega)]

/-- The word of TIL_RETIRE holds one writable field. -/
theorem fieldsAt_retire (t : Fin 288) :
    fieldsAt (pgTile t) 0x78 = [(F.TIL_RETIRE.RETIRED, 0), (F.TIL_RETIRE.CAUSE, 0), (F.TIL_RETIRE.RETIRE_REQ, 0)] := by
  simp only [fieldsAt, fieldHere, pageKind_pgTile]
  decide

theorem fieldsAt_perfCtl (t : Fin 288) : fieldsAt (pgTile t) 0xC0 = [(F.TIL_PERF_CTL.CLEAR, 0), (F.TIL_PERF_CTL.FREEZE, 0)] := by
  simp only [fieldsAt, fieldHere, pageKind_pgTile]
  decide

/-- A field of a tile's page beyond the header is written by the fields of its word. -/
theorem Block.fieldWrite_tile (h : s.reaches (pgTile t) a) {f : Field} {v : Nat} (ho : 0x40 ≤ f.word 0) (ho' : f.word 0 ≠ 0x88) :
    s.blk.fieldWrite (pgTile t) f 0 v a = (s.blk.fieldsWrite (pgTile t) (f.word 0) (s.blk.wordWith (pgTile t) f 0 v) a).rest :=
  Block.writeWord_fields h (by simp [pageKind_pgTile]) ho (by simp [pageKind_pgTile]) (fun e => ho' e.2) (by simp [pageKind_pgTile])

theorem pgTile_sub (t : Fin 288) : pgTile t - 0x200 = t := Nat.add_sub_cancel_left ..

/-- A write that triggers does no more than what it triggers. -/
theorem Block.immWrite_of_trigger {p i off raw : Nat} {f : Field} {c : Block} (hraw : f.raw i off w = raw) (hne : raw ≠ 0)
    (hp : pageKind p ≠ .flt) (ht : b.trigger p f i raw a = some c) : b.immWrite p f i off w a = c := by
  unfold Block.immWrite
  simp only [hraw, hne, hp, ht, false_and, and_false, if_false]

theorem Block.raw_wordWith_retireReq (b : Block) (t : Fin 288) :
    F.TIL_RETIRE.RETIRE_REQ.raw 0 0x78 (b.wordWith (pgTile t) F.TIL_RETIRE.RETIRE_REQ 0 1) = 1 := by
  have hword : b.wordWith (pgTile t) F.TIL_RETIRE.RETIRE_REQ 0 1 = F.TIL_RETIRE.RETIRE_REQ.intoWord 0 0x78 1 := by
    unfold Block.wordWith
    simp only [show F.TIL_RETIRE.RETIRE_REQ.word 0 = 0x78 by decide, fieldsAt_retire]
    rfl
  rw [hword]
  decide

theorem Block.fieldsWrite_retireReq : b.fieldsWrite (pgTile t) 0x78 (b.wordWith (pgTile t) F.TIL_RETIRE.RETIRE_REQ 0 1) a = b.retireReq t := by
  have htrig : b.trigger (pgTile t) F.TIL_RETIRE.RETIRE_REQ 0 1 a = some (b.retireReq t) := by
    rw [Block.trigger, pageKind_pgTile]
    exact (if_pos rfl).trans (by rw [pgTile_sub])
  have hone := Block.immWrite_of_trigger (Block.raw_wordWith_retireReq b t) (by decide) (by simp [pageKind_pgTile]) htrig
  have hfs : (fieldsAt (pgTile t) 0x78).filter (fun x => decide (x.1.acc ≠ .ro)) = [(F.TIL_RETIRE.RETIRE_REQ, 0)] := by
    rw [fieldsAt_retire]; rfl
  unfold Block.fieldsWrite
  simp only [hfs, pageKind_pgTile, wholeWrite, Bool.and_false, Bool.false_and, Bool.false_eq_true, if_false]
  exact hone

/-- A write to FREEZE, the read-write field beside CLEAR, changes registers alone. -/
theorem Block.immWrite_freeze :
    ∃ c : Block, b.immWrite (pgTile t) F.TIL_PERF_CTL.FREEZE 0 0xC0 w a = c ∧ c.tiles = b.tiles ∧ c.mem = b.mem := by
  have hk := pageKind_pgTile t
  refine ⟨_, rfl, ?_⟩
  rw [Block.immWrite_rw rfl (by simp [hk]) (Block.trigger_of_rw (by rw [hk]; rfl) rfl) (by simp [hk]),
    Block.putActing_eq_put (by simp [hk]) (by simp [hk]) (by simp [hk])]
  split
  · exact ⟨Block.raise_tiles .., Block.raise_mem ..⟩
  · exact ⟨rfl, rfl⟩

/-- The word that writes CLEAR spells 1 for it, whatever FREEZE reads. -/
theorem Block.raw_wordWith_clear (b : Block) (t : Fin 288) :
    F.TIL_PERF_CTL.CLEAR.raw 0 0xC0 (b.wordWith (pgTile t) F.TIL_PERF_CTL.CLEAR 0 1) = 1 := by
  obtain ⟨v, hv⟩ : ∃ v, b.wordWith (pgTile t) F.TIL_PERF_CTL.CLEAR 0 1 = 1 + v * 2 % 2 ^ 32 := by
    refine ⟨b.readField (pgTile t) F.TIL_PERF_CTL.FREEZE 0, ?_⟩
    unfold Block.wordWith
    simp only [show F.TIL_PERF_CTL.CLEAR.word 0 = 0xC0 by decide, fieldsAt_perfCtl]
    rfl
  have hraw (w : Nat) : F.TIL_PERF_CTL.CLEAR.raw 0 0xC0 w = w % 2 := by
    simp [Field.raw, Field.cover, Field.key, F.TIL_PERF_CTL.CLEAR, bits]
  rw [hraw, hv]
  omega

theorem Block.fieldsWrite_clear : ∃ c : Block, c.tiles = b.tiles ∧ c.mem = b.mem ∧
    b.fieldsWrite (pgTile t) 0xC0 (b.wordWith (pgTile t) F.TIL_PERF_CTL.CLEAR 0 1) a = c.perfClear t := by
  obtain ⟨c, hc, htiles, hmem⟩ := Block.immWrite_freeze (b := b) (t := t) (a := a) (w := b.wordWith (pgTile t) F.TIL_PERF_CTL.CLEAR 0 1)
  have htrig : c.trigger (pgTile t) F.TIL_PERF_CTL.CLEAR 0 1 a = some (c.perfClear t) := by
    rw [Block.trigger, pageKind_pgTile]
    exact (if_neg (by decide)).trans ((if_pos rfl).trans (by rw [pgTile_sub]))
  have hone := Block.immWrite_of_trigger (Block.raw_wordWith_clear b t) (by decide) (by simp [pageKind_pgTile]) htrig
  have hfs : (fieldsAt (pgTile t) 0xC0).filter (fun x => decide (x.1.acc ≠ .ro)) = [(F.TIL_PERF_CTL.CLEAR, 0), (F.TIL_PERF_CTL.FREEZE, 0)] := by
    rw [fieldsAt_perfCtl]; rfl
  refine ⟨c, htiles, hmem, ?_⟩
  unfold Block.fieldsWrite
  simp only [hfs, pageKind_pgTile, wholeWrite, Bool.and_false, Bool.false_and, Bool.false_eq_true, if_false]
  rw [← hc] at hone ⊢
  exact hone

/-- Writing zero to a field of a page leaves no other field of it other than zero. -/
theorem Block.eff_put_zero {p : Nat} {f g : Field} (h : b.eff p f = 0) : (b.put p g 0).eff p f = 0 := by
  rw [Block.eff_put, Nat.zero_mod, h, ite_self]

theorem Block.eff_perfClear : ∀ f ∈ [F.TIL_PERF.MAT_BUSY, F.TIL_PERF.VEC_BUSY, F.TIL_PERF.STALL_ISSUE, F.TIL_PERF.STALL_HAZ],
    (b.perfClear t).eff (pgTile t) f = 0 := by
  have hself (c : Block) (f : Field) (hf : f.kind = .imm) : (c.put (pgTile t) f 0).eff (pgTile t) f = 0 := by
    rw [Block.eff_put_same _ _ _ _ _ hf, Nat.zero_mod]
  simp only [List.forall_mem_cons, Block.perfClear]
  refine ⟨?_, ?_, ?_, ?_, List.forall_mem_nil _⟩
  · exact Block.eff_put_zero (Block.eff_put_zero (Block.eff_put_zero (hself _ _ rfl)))
  · exact Block.eff_put_zero (Block.eff_put_zero (hself _ _ rfl))
  · exact Block.eff_put_zero (hself _ _ rfl)
  · exact hself _ _ rfl

end Writes

/-- Settles O25: each command meets the guard of its operation, whose lemma gives the block after. -/
theorem tileServiceCommands : Obligations.TileServiceCommands := by
  unfold Obligations.TileServiceCommands
  intro s t a pass hlive
  have hact {c : Instr} {f : Block → Block} {b : Block} (he : exec c s = .next (s.act f)) (hb : f s.blk = b) :
      exec c s = .next (s.withBlk b) := by rw [he, State.act_live hlive, hb]
  refine ⟨fun r hr hdue hk => ?rise, fun r hr hdue hk => ?riseEnd, fun hs hnow hready => ?retire, fun hs hreach => ?request, fun hreach => ?clear,
    fun hen hsafe hsleep hupd hidle hdue hruns hwin => ?start, fun hs hlong => ?complete, fun hen hs hnew hage => ?overdue⟩
  case rise => exact hact rfl (congrArg Block.noteReasons ((Block.riseStep_of_due hr hdue).trans (if_neg (Nat.not_le.2 hk))))
  case riseEnd => exact hact rfl (congrArg Block.noteReasons ((Block.riseStep_of_due hr hdue).trans (if_pos hk)))
  case retire => exact hact rfl (Block.tileRetire_of_due hs hnow hready)
  case start => exact hact rfl (Block.knockStart_of_due hen hsafe hsleep hupd hidle hdue hruns hwin)
  case complete => exact hact rfl (Block.knockComplete_of_run hs hlong pass)
  case overdue =>
    refine ⟨_, hact rfl (Block.knockOverdue_of_due hen hs hnew hage), ?find, ?count, ?event, overdueReport t, ?report, rfl, rfl⟩
    case find => exact Block.find_overdueRaised
    case count => exact (Block.eff_report _ _ _ _ _).trans Block.overdueCnt_overdueRaised
    case event =>
      simp only [Block.hdr_report, overdueReport, if_true, Block.summarise_isr, Block.overdueRaised, Block.hdr_raise, bit_setBits_one]
      simp
    case report => rw [Block.report_reports, Block.reports_overdueRaised, Block.hearthAt, Block.tb_overdueRaised]; rfl
  case request =>
    refine hact rfl ?_
    rw [Block.fieldWrite_tile hreach (by decide) (by decide)]
    exact congrArg Block.rest (Block.fieldsWrite_retireReq.trans (Block.retireReq_of_live hs))
  case clear =>
    obtain ⟨c, htiles, hmem, hc⟩ := Block.fieldsWrite_clear (b := s.blk) (t := t) (a := a)
    refine ⟨c.perfClear t, hact rfl ?_, htiles, hmem, Block.eff_perfClear⟩
    rw [Block.fieldWrite_tile hreach (by decide) (by decide)]
    exact congrArg Block.rest hc

end Sys2Proof.Machine
end

section
/-! SUPPORT. A tick of Hearth time, and the references and announcements of a step master (R149, R156, R176, R177). -/
namespace Sys2Proof.Machine

/-- Out of reset, a command that acts on the package gives the state with the block it leaves. -/
theorem exec_live {s : State} {c : Instr} {f : Block → Block} {b : Block} (hlive : s.live) (he : exec c s = .next (s.act f)) (hb : f s.blk = b) :
    exec c s = .next (s.withBlk b) := by
  rw [he, State.act_live hlive, hb]

/-- Settles O2: the step with no command waiting acts on the package by a tick. -/
theorem emptyQueueAdvancesTime : Obligations.EmptyQueueAdvancesTime := by
  unfold Obligations.EmptyQueueAdvancesTime
  intro s hq
  have hstep : step s = .next (s.act Block.tick) := by rw [step, hq]
  exact ⟨fun hlive => by rw [hstep, State.act_live hlive], fun hheld => by rw [hstep, State.act_of_held hheld]⟩

/-! ### The reference inputs (R156) -/

section Reference
variable {b : Block}

/-- The time stamp of an edge of TB_PPS that arrives now: Hearth time less the delay of the cable, in 1/16 ns. -/
def Block.ppsTime (b : Block) : Nat := wrapInt 64 ((b.now : Int) - sext 16 (b.eff pgTbs F.TBS_X_PPS.PPS_DELAY) / 16)

/-- An edge of TB_PPS at a time, stamped. -/
def Block.ppsStamped (b : Block) (now stamp : Nat) : Block :=
  ({ b with tb := { b.tb with lastPps := some now, ppsMissed := false } }.put pgTbs F.TBS_LAST_PPS.LAST_PPS stamp).put pgTbs F.TBS_STATUS.PPS_OK 1

section Edge
variable (href : b.usesRef = true) (hen : b.eff pgTbs F.TBS_CFG.PPS_EN = 1)
include href hen

/-- An edge is stamped; with PPS_ALIGN set, one aligns the time in FREE, and slews it from READY on. -/
theorem Block.ppsEdge_eq : b.ppsEdge =
    let r := b.ppsTime % 1000000000
    let up := (1000000000 - r) % 1000000000
    let b1 := b.ppsStamped b.now b.ppsTime
    if b.eff pgTbs F.TBS_CFG.PPS_ALIGN = 0 then b1
    else if b.sync = tbFREE then
      if b.tb.ppsAligned then b1
      else Block.ppsStamped { b with now := (b.now + up) % 2 ^ 64, tb := { b.tb with ppsAligned := true } } ((b.now + up) % 2 ^ 64)
        ((b.ppsTime + up) % 2 ^ 64)
    else if b.isReady then { b1 with tb := { b1.tb with slew := if r ≤ 500000000 then -(r : Int) else ((1000000000 - r : Nat) : Int) } }
    else b1 := if_neg (by simp [href, hen])

theorem Block.ppsMiss_of_late (hfirst : b.tb.ppsMissed = false) (hlate : b.tb.lastPps.getD 0 + 1100000000 < b.now) :
    b.ppsMiss = ((({ b with tb := { b.tb with ppsMissed := true } }.put pgTbs F.TBS_STATUS.PPS_OK 0).bump pgTbs
      F.TBS_CNT1.PPS_MISS_CNT).raise pgTbs 4).reportPage pgTbs 0x0403 := if_pos ⟨href, hen, by simp [hfirst], hlate⟩

end Edge

variable (href : b.usesRef = true) (hen : b.eff pgTbs F.TBS_CFG.EXT_REF_EN = 1)
include href hen

theorem Block.refLoss_of_ok (hok : b.eff pgTbs F.TBS_STATUS.REF_OK = 1) :
    b.refLoss = ((b.put pgTbs F.TBS_STATUS.REF_OK 0).raise pgTbs 3).reportPage pgTbs 0x0402 := if_pos ⟨href, hen, hok⟩

theorem Block.refOk_eq : b.refOk =
    (b.draw.2.put pgTbs F.TBS_STATUS.REF_OK 1).put pgTbs F.TBS_FREQ.FREQ (Config.refFreq b.draw.1).toNat := if_pos ⟨href, hen⟩

end Reference

/-! ### Announcements (R176, R177) -/

section Announce
variable {b : Block} {k no start : Nat}

theorem Block.stepDue_recordStart : (b.recordStart k no start).stepDue k = true := by
  simp [Block.recordStart, Block.stepDue, SMap.find_set]

/-- A present member asks for steps of an index: this package, or another that was heard. -/
theorem Block.announce_of_asked (hmaster : b.sync = 4) (hsafe : b.safe = false) (hdue : b.stepDue k = false)
    (hasked : bit b.partActive k = true ∨
      ∃ e ∈ b.tb.heard, bit e.2.partEn k = true ∧ bit e.2.partActive k = true ∧ b.stillHeard e.2 = true) :
    b.announce k =
      let at_ := max (b.eff pgTbs F.TBS_PLAN_END.PLAN_END k) (b.now + b.eff pgTbs F.TBS_STEP.ANNOUNCE_LEAD * 1000)
      let n := SMap.get 0 b.tb.lastBakeNo k + 1
      (b.recordStart k n at_).castCtrl (2 ^ 64 - 1) ckSTEP_ANNOUNCE (stepBody k n at_) := by
  have h : (bit b.partActive k || b.tb.heard.any (fun h => bit h.2.partEn k && bit h.2.partActive k && b.stillHeard h.2)) = true := by
    simpa only [Bool.or_eq_true, List.any_eq_true, Bool.and_eq_true, and_assoc] using hasked
  unfold Block.announce
  simp only [h]
  exact if_neg (by simp [hmaster, hsafe, hdue, tbMASTER])

end Announce

section Noted
variable {h : CtrlIn} {kind : Nat} {body : List Byte}

@[simp] theorem Block.noted_tb (b : Block) : (b.noted h kind body).tb = b.tb := by
  obtain ⟨l, c, e⟩ := Block.noted_eq (h := h) (kind := kind) (body := body) b; rw [e]

end Noted

/-- Settles O34: each reference command finds its guard met, and an announcement is recorded when it goes forward. -/
theorem timebaseReference : Obligations.TimebaseReference := by
  unfold Obligations.TimebaseReference
  intro s h k no start hlive
  refine ⟨fun href hen => ⟨fun hal => ?plain, fun hal hfree hdone => ?align, fun hal hfree hdone => ?aligned, fun hal hm hready => ?master,
      fun hal hm hready => ?slew⟩, fun href hen hfirst hlate => ?miss, fun href hen hok => ?loss, fun href hen => ?ok,
    fun hmaster hsafe hdue hasked => ⟨exec_live hlive rfl (Block.announce_of_asked hmaster hsafe hdue hasked), Block.stepDue_recordStart⟩,
    fun hh => ⟨fun hnew => ?forward, fun hold => ?back⟩⟩
  case plain => exact exec_live hlive rfl ((Block.ppsEdge_eq href hen).trans (if_pos hal))
  case align =>
    exact exec_live hlive rfl ((Block.ppsEdge_eq href hen).trans ((if_neg (by simp [hal])).trans ((if_pos hfree).trans (if_neg (by simp [hdone])))))
  case aligned => exact exec_live hlive rfl ((Block.ppsEdge_eq href hen).trans ((if_neg (by simp [hal])).trans ((if_pos hfree).trans (if_pos hdone))))
  case master =>
    exact exec_live hlive rfl ((Block.ppsEdge_eq href hen).trans ((if_neg (by simp [hal])).trans ((if_neg (by simp [hm, tbFREE])).trans
      (if_neg (by simp [hready])))))
  case slew =>
    have hr : s.blk.ppsTime % 1000000000 ≤ 1000000000 := (Nat.mod_lt _ (by decide)).le
    refine exec_live hlive rfl ((Block.ppsEdge_eq href hen).trans ((if_neg (by simp [hal])).trans ((if_neg (by simp [hm, tbFREE])).trans
      ((if_pos hready).trans ?_))))
    rw [Nat.cast_sub hr]
    rfl
  case miss => exact exec_live hlive rfl (Block.ppsMiss_of_late href hen hfirst hlate)
  case loss => exact exec_live hlive rfl (Block.refLoss_of_ok href hen hok)
  case ok => exact exec_live hlive rfl (Block.refOk_eq href hen)
  case forward =>
    refine exec_live hlive rfl ((Block.ctrlIn_of_hears hh _).trans ?_)
    rw [Block.stepAnnounced, Block.noted_tb, if_neg (Nat.not_le.2 hnew)]
  case back =>
    refine exec_live hlive rfl ((Block.ctrlIn_of_hears hh _).trans ?_)
    rw [Block.stepAnnounced, Block.noted_tb, if_pos hold]

end Sys2Proof.Machine
end

section
/-! SUPPORT. Timestamp sets, lock, the election and the loss of the master (R149 to R155). -/
namespace Sys2Proof.Machine

/-! ### States of the timebase (R154) -/

section Sync
variable {b : Block} {p j : Nat} {g : Field}

theorem Block.sync_enterSync (st : Nat) (h : st < 8) : (b.enterSync st).sync = st :=
  (Block.eff_put_same _ _ _ _ F.TBS_STATUS.SYNC rfl).trans (Nat.mod_eq_of_lt h)

theorem Block.eff_enterSync_of_ne (st : Nat) (h : g.key j ≠ F.TBS_STATUS.SYNC.key 0) : (b.enterSync st).eff p g j = b.eff p g j :=
  Block.eff_put_of_ne _ _ _ _ _ _ _ _ (.inr h)

@[simp] theorem Block.eff_correct (d : Int) : (b.correct d).eff p g j = b.eff p g j := by unfold Block.correct; split <;> rfl
@[simp] theorem Block.lockRun_correct (d : Int) : (b.correct d).tb.lockRun = b.tb.lockRun := by unfold Block.correct; split <;> rfl

end Sync

/-! ### A set that the package follows (R154, R155) -/

section Follow
variable {b : Block} {st : Nat} {off : Int} {g : Field}

/-- How many sets in a row lie within the lock threshold, once a set of this offset has come. -/
def Block.lockedRun (b : Block) (off : Int) : Nat :=
  if decide (off.natAbs ≤ b.eff pgTbs F.TBS_X_LOCK.LOCK_THR * 16) then b.tb.lockRun + 1 else 0

theorem Block.lockedRun_of_within (h : off.natAbs ≤ b.eff pgTbs F.TBS_X_LOCK.LOCK_THR * 16) : b.lockedRun off = b.tb.lockRun + 1 :=
  if_pos (decide_eq_true h)

theorem Block.lockedRun_of_outside (h : b.eff pgTbs F.TBS_X_LOCK.LOCK_THR * 16 < off.natAbs) : b.lockedRun off = 0 :=
  if_neg (by simpa using h)

/-- The package once a set has corrected its time, before its state changes. -/
def Block.corrected (b : Block) (st : Nat) (off : Int) : Block :=
  let b1 := (b.put pgTbs F.TBS_STATUS.STRATUM st).put pgTbs F.TBS_OFFSET.OFFSET (wrapInt 16 off)
  (Block.loopStep { b1 with tb := { b1.tb with lastSet := b.now, lockRun := b.lockedRun off } } off).correct (ticksOf off)

theorem Block.followSet_eq : b.followSet st off =
    if b.sync = tbACQUIRE ∧ decide (b.eff pgTbs F.TBS_X_LOCK.LOCK_COUNT ≤ b.lockedRun off) then
      ((b.corrected st off).enterSync tbLOCKED).raise pgTbs 0
    else if b.sync = tbHOLDOVER ∧ decide (b.eff pgTbs F.TBS_X_LOCK.LOCK_COUNT ≤ b.lockedRun off) then
      if b.tb.changed then ((b.corrected st off).enterSync tbLOCKED).masterChanged else (b.corrected st off).enterSync tbLOCKED
    else if b.sync = tbLOST then (b.corrected st off).enterSync tbACQUIRE
    else b.corrected st off := rfl

/-- Enough sets in a row within the threshold lock a package that acquires. -/
theorem Block.followSet_of_run (hs : b.sync = 1) (hrun : b.eff pgTbs F.TBS_X_LOCK.LOCK_COUNT ≤ b.lockedRun off) :
    b.followSet st off = ((b.corrected st off).enterSync tbLOCKED).raise pgTbs 0 :=
  Block.followSet_eq.trans (if_pos ⟨hs, decide_eq_true hrun⟩)

/-- A package that is locked, or that has too few sets in a row, corrects its time and keeps its state. -/
theorem Block.followSet_of_kept (h : b.sync = 2 ∨ b.sync = 1 ∧ b.lockedRun off < b.eff pgTbs F.TBS_X_LOCK.LOCK_COUNT) :
    b.followSet st off = b.corrected st off := by
  rw [Block.followSet_eq]
  rcases h with hs | ⟨hs, hrun⟩
  · simp [hs, tbACQUIRE, tbHOLDOVER, tbLOST]
  · simp [hs, hrun, tbHOLDOVER, tbLOST]

theorem Block.followSet_locks (hs : b.sync = 1) (hrun : b.eff pgTbs F.TBS_X_LOCK.LOCK_COUNT ≤ b.lockedRun off) :
    (b.followSet st off).sync = 2 ∧ bit ((b.followSet st off).hdr pgTbs).isr 0 = true := by
  rw [Block.followSet_of_run hs hrun, Block.hdr_raise, if_pos rfl, bit_setBits_one]
  exact ⟨(Block.eff_raise ..).trans (Block.sync_enterSync _ (by decide)), by simp⟩

@[simp] theorem Block.lockRun_corrected : (b.corrected st off).tb.lockRun = b.lockedRun off := Block.lockRun_correct _

/-- A set writes the stratum, the offset and the frequency alone. -/
theorem Block.eff_corrected (hfreq : g.key 0 ≠ F.TBS_FREQ.FREQ.key 0) (hoff : g.key 0 ≠ F.TBS_OFFSET.OFFSET.key 0) :
    (b.corrected st off).eff pgTbs g = (b.put pgTbs F.TBS_STATUS.STRATUM st).eff pgTbs g := by
  rw [Block.corrected, Block.eff_correct, Block.loopStep, Block.eff_put_of_ne _ _ _ _ _ _ _ _ (.inr hfreq)]
  exact Block.eff_put_of_ne (b.put pgTbs F.TBS_STATUS.STRATUM st) _ _ _ _ _ _ _ (.inr hoff)

theorem Block.sync_corrected : (b.corrected st off).sync = b.sync :=
  (Block.eff_corrected (by decide) (by decide)).trans (Block.eff_put_of_ne _ _ _ _ _ _ _ _ (.inr (by decide)))

/-- A set outside the threshold starts the count of sets in a row anew. -/
theorem Block.followSet_resets (hs : b.sync = 1) (hzero : b.lockedRun off = 0) (hcount : 0 < b.eff pgTbs F.TBS_X_LOCK.LOCK_COUNT) :
    (b.followSet st off).sync = 1 ∧ (b.followSet st off).tb.lockRun = 0 := by
  rw [Block.followSet_of_kept (.inr ⟨hs, hzero ▸ hcount⟩)]
  exact ⟨Block.sync_corrected.trans hs, Block.lockRun_corrected.trans hzero⟩

/-- What a package that locks or is locked reads after a set: the stratum of the set, and the other fields as before it. -/
theorem Block.eff_followSet (hs : b.sync = 1 ∨ b.sync = 2) (hsync : g.key 0 ≠ F.TBS_STATUS.SYNC.key 0)
    (hfreq : g.key 0 ≠ F.TBS_FREQ.FREQ.key 0) (hoff : g.key 0 ≠ F.TBS_OFFSET.OFFSET.key 0) :
    (b.followSet st off).eff pgTbs g = (b.put pgTbs F.TBS_STATUS.STRATUM st).eff pgTbs g := by
  by_cases hrun : b.sync = 1 ∧ b.eff pgTbs F.TBS_X_LOCK.LOCK_COUNT ≤ b.lockedRun off
  · rw [Block.followSet_of_run hrun.1 hrun.2, Block.eff_raise, Block.eff_enterSync_of_ne _ hsync, Block.eff_corrected hfreq hoff]
  · rw [Block.followSet_of_kept (by omega), Block.eff_corrected hfreq hoff]

end Follow

/-! ### A set that a link received (R151, R153) -/

section Received
variable {b : Block} {n frac : Nat} {s : TsSet} {off : Int} {g : Field}

/-- The set that a link sends. -/
def Block.tsSetOut (b : Block) (n : Nat) : TsSet :=
  { srcSlot := b.slotId, masterSlot := b.eff pgTbs F.TBS_STATUS.MASTER_SLOT, tbmEn := b.tbmEn, isMaster := decide (b.sync = tbMASTER)
    sync := b.sync, stratum := b.eff pgTbs F.TBS_STATUS.STRATUM, partEn := b.partEn, partActive := b.partActive
    txTime := b.now % 2 ^ 56 * 256, echoTx := (SMap.get (0, 0) b.tb.lastRx n).1, echoRx := (SMap.get (0, 0) b.tb.lastRx n).2 }

theorem Block.tsSend_of_up (h : b.linkUp n = true) : b.tsSend n = b.emit (.tsSet n (b.tsSetOut n)) := if_neg (by simp [h])

/-- The receive time of a set, in 1/256 ns. -/
def Block.rxTime (b : Block) (frac : Nat) : Nat := (b.now * 256 + frac) % 2 ^ 64

/-- The delay and the offset that a set received now gives. -/
def Block.tsGives (b : Block) (n : Nat) (s : TsSet) (frac : Nat) : Int × Int :=
  tsMeasure s.txTime (b.rxTime frac) s.echoTx s.echoRx (b.asymOf n)

/-- The package once it has heard a set and stored the link's delay. -/
def Block.tsHeard (b : Block) (n : Nat) (s : TsSet) (frac : Nat) : Block :=
  let h : Heard := { at_ := b.now, tbmEn := s.tbmEn, isMaster := s.isMaster, sync := s.sync, partEn := s.partEn
                     partActive := s.partActive, off := (b.tsGives n s frac).2 }
  Block.setLk { b with tb := { b.tb with lastRx := SMap.set b.tb.lastRx n (s.txTime, b.rxTime frac), heard := SMap.set b.tb.heard (s.srcSlot % 64) h }
                       lastHeard := SMap.set b.lastHeard (s.srcSlot % 64) b.now } n F.FAB_LTIME.DELAY ((b.tsGives n s frac).1.toNat / 256)

/-- No set of the master has come for MASTER_LOSS, or the last one was of no master. -/
def Block.masterStale (b : Block) : Bool :=
  match SMap.find b.tb.heard (b.eff pgTbs F.TBS_STATUS.MASTER_SLOT) with
  | some x => decide (x.at_ + b.eff pgTbs F.TBS_CFG.MASTER_LOSS * 1000 ≤ b.now) || !x.isMaster
  | none => true

/-- The package once it has taken up a new master: its count of sets starts anew. -/
def Block.newMaster (b : Block) (m : Nat) : Block :=
  { b.takeMaster m with tb := { (b.takeMaster m).tb with lockRun := 0, changed := decide (b.sync = tbHOLDOVER) } }

/-- The package `c`, which was `b` before it heard a set, takes up the sender as its master where that one is a better one. -/
def Block.adopts (b c : Block) (s : TsSet) : Block :=
  let src := s.srcSlot % 64
  let m := b.eff pgTbs F.TBS_STATUS.MASTER_SLOT
  if c.sync = tbMASTER ∧ s.isMaster ∧ s.tbmEn ∧ src < b.slotId ∧ !b.isReady then (c.takeMaster src).enterSync tbACQUIRE
  else if (c.sync = tbHOLDOVER ∨ c.sync = tbLOST ∨ c.sync = tbACQUIRE) ∧ s.isMaster ∧ src ≠ m ∧ (src < m ∨ b.masterStale) then
    c.newMaster src
  else c

/-- The package follows a set where it comes from its master. -/
def Block.tsFollowed (b : Block) (n : Nat) (s : TsSet) (off : Int) : Block :=
  match b.follows n s with
  | none => b
  | some st => if b.sync = tbMASTER ∨ b.sync = tbFREE then b else b.followSet st off

theorem Block.tsRx_of_up (hup : b.linkUp n = true) (hfrac : frac < 256) :
    b.tsRx n s frac = (b.adopts (b.tsHeard n s frac) s).tsFollowed n s (b.tsGives n s frac).2 := by
  refine (if_neg (by simp [hup])).trans ?_
  rw [Nat.mod_eq_of_lt hfrac]
  rfl

/-- A set touches no field of the timebase before it is followed: what it stores is the link's. -/
theorem Block.eff_tsHeard : (b.tsHeard n s frac).eff pgTbs g = b.eff pgTbs g :=
  Block.eff_put_of_ne _ _ _ _ _ _ _ _ (.inl (by simp [linkPage, pgQuad, pgTbs]; omega))

theorem Block.sync_tsHeard : (b.tsHeard n s frac).sync = b.sync := Block.eff_tsHeard

theorem Block.lockedRun_tsHeard (o : Int) : (b.tsHeard n s frac).lockedRun o = b.lockedRun o := by
  rw [Block.lockedRun, Block.eff_tsHeard]; rfl

/-- The package's master stays what it is when it hears a set: it is in LOCKED, or in ACQUIRE and hears no other master. -/
def Block.keepsMaster (b : Block) (s : TsSet) : Prop :=
  b.sync = 2 ∨ b.sync = 1 ∧ (s.isMaster = true → s.srcSlot % 64 = b.eff pgTbs F.TBS_STATUS.MASTER_SLOT)

theorem Block.adopts_of_free (hs : b.sync = 0) : b.adopts (b.tsHeard n s frac) s = b.tsHeard n s frac := by
  simp [Block.adopts, Block.sync_tsHeard, hs, tbMASTER, tbHOLDOVER, tbLOST, tbACQUIRE]

theorem Block.adopts_of_kept (hk : b.keepsMaster s) : b.adopts (b.tsHeard n s frac) s = b.tsHeard n s frac := by
  rcases hk with hs | ⟨hs, hm⟩
  · simp [Block.adopts, Block.sync_tsHeard, hs, tbMASTER, tbHOLDOVER, tbLOST, tbACQUIRE]
  · unfold Block.adopts
    rw [if_neg (by simp [Block.sync_tsHeard, hs, tbMASTER]), if_neg (fun ⟨_, hi, hne, _⟩ => hne (hm hi))]

theorem Block.adopts_of_lower (hs : b.sync = 1) (hm : s.isMaster = true) (hlow : s.srcSlot % 64 < b.eff pgTbs F.TBS_STATUS.MASTER_SLOT) :
    b.adopts (b.tsHeard n s frac) s = (b.tsHeard n s frac).newMaster (s.srcSlot % 64) := by
  unfold Block.adopts
  rw [if_neg (by simp [Block.sync_tsHeard, hs, tbMASTER]), if_pos ⟨.inr (.inr (Block.sync_tsHeard.trans hs)), hm, Nat.ne_of_lt hlow, .inl hlow⟩]

theorem Block.eff_takeMaster_of_ne (m : Nat) (hslot : g.key 0 ≠ F.TBS_STATUS.MASTER_SLOT.key 0)
    (hvalid : g.key 0 ≠ F.TBS_STATUS.MASTER_VALID.key 0) : (b.takeMaster m).eff pgTbs g = b.eff pgTbs g :=
  (Block.eff_put_of_ne _ _ _ _ _ _ _ _ (.inr hvalid)).trans (Block.eff_put_of_ne _ _ _ _ _ _ _ _ (.inr hslot))

theorem Block.masterSlot_takeMaster (m : Nat) : (b.takeMaster m).eff pgTbs F.TBS_STATUS.MASTER_SLOT = m % 64 :=
  (Block.eff_put_of_ne _ _ _ _ _ _ _ _ (.inr (by decide))).trans (Block.eff_put_same _ _ _ _ _ rfl)

theorem Block.masterValid_takeMaster (m : Nat) : (b.takeMaster m).eff pgTbs F.TBS_STATUS.MASTER_VALID = 1 := Block.eff_put_same _ _ _ _ _ rfl

/-- Following a set keeps the master of a package in ACQUIRE. -/
theorem Block.eff_tsFollowed (hs : b.sync = 1) (h : g ∈ [F.TBS_STATUS.MASTER_SLOT, F.TBS_STATUS.MASTER_VALID]) :
    (b.tsFollowed n s off).eff pgTbs g = b.eff pgTbs g := by
  have hkey : g.key 0 ≠ F.TBS_STATUS.SYNC.key 0 ∧ g.key 0 ≠ F.TBS_FREQ.FREQ.key 0 ∧ g.key 0 ≠ F.TBS_OFFSET.OFFSET.key 0
      ∧ g.key 0 ≠ F.TBS_STATUS.STRATUM.key 0 := by
    revert g; decide
  obtain ⟨hsync, hfreq, hoff, hstratum⟩ := hkey
  unfold Block.tsFollowed
  cases b.follows n s with
  | none => rfl
  | some st =>
    simp only [hs, tbMASTER, tbFREE]
    exact (Block.eff_followSet (.inl hs) hsync hfreq hoff).trans (Block.eff_put_of_ne _ _ _ _ _ _ _ _ (.inr hstratum))

theorem Block.tsFollowed_none (hf : b.follows n s = none) : b.tsFollowed n s off = b := by rw [Block.tsFollowed, hf]

theorem Block.tsFollowed_free (hs : b.sync = 0) : b.tsFollowed n s off = b := by
  unfold Block.tsFollowed
  cases b.follows n s with
  | none => rfl
  | some st => exact if_pos (.inr hs)

theorem Block.tsFollowed_some {st : Nat} (hs : b.sync = 1 ∨ b.sync = 2) (hf : b.follows n s = some st) :
    b.tsFollowed n s off = b.followSet st off := by
  rw [Block.tsFollowed, hf]
  exact if_neg (by rintro (h | h) <;> simp [h, tbMASTER, tbFREE] at hs)

section Rx
variable (hup : b.linkUp n = true) (hfrac : frac < 256)
include hup hfrac

theorem Block.tsRx_of_free (hs : b.sync = 0) : b.tsRx n s frac = b.tsHeard n s frac := by
  rw [Block.tsRx_of_up hup hfrac, Block.adopts_of_free hs, Block.tsFollowed_free (Block.sync_tsHeard.trans hs)]

theorem Block.tsRx_of_unfollowed (hk : b.keepsMaster s) (hf : (b.tsHeard n s frac).follows n s = none) :
    b.tsRx n s frac = b.tsHeard n s frac := by
  rw [Block.tsRx_of_up hup hfrac, Block.adopts_of_kept hk, Block.tsFollowed_none hf]

theorem Block.tsRx_of_followed {st : Nat} (hk : b.keepsMaster s) (hf : (b.tsHeard n s frac).follows n s = some st) :
    b.tsRx n s frac = (b.tsHeard n s frac).followSet st (b.tsGives n s frac).2 := by
  rw [Block.tsRx_of_up hup hfrac, Block.adopts_of_kept hk, Block.tsFollowed_some (by rw [Block.sync_tsHeard]; exact hk.symm.imp_left And.left) hf]

/-- A master at a lower slot is taken up and stays the master, whether the set is followed or not. -/
theorem Block.eff_tsRx_of_lower (hs : b.sync = 1) (hm : s.isMaster = true) (hlow : s.srcSlot % 64 < b.eff pgTbs F.TBS_STATUS.MASTER_SLOT) :
    (b.tsRx n s frac).eff pgTbs F.TBS_STATUS.MASTER_SLOT = s.srcSlot % 64 ∧ (b.tsRx n s frac).eff pgTbs F.TBS_STATUS.MASTER_VALID = 1 := by
  have hsync : ((b.tsHeard n s frac).newMaster (s.srcSlot % 64)).sync = 1 :=
    (Block.eff_takeMaster_of_ne _ (by decide) (by decide)).trans (Block.sync_tsHeard.trans hs)
  rw [Block.tsRx_of_up hup hfrac, Block.adopts_of_lower hs hm hlow, Block.eff_tsFollowed hsync (by decide), Block.eff_tsFollowed hsync (by decide)]
  exact ⟨(Block.masterSlot_takeMaster _).trans (Nat.mod_mod _ 64), Block.masterValid_takeMaster _⟩

end Rx

end Received

/-! ### The election and its loss (R152 to R154) -/

section Election
variable {b : Block}

/-- The masters that are still heard. -/
def Block.mastersHeard (b : Block) : List Nat := (b.tb.heard.filter (fun h => h.2.isMaster && b.stillHeard h.2)).map Prod.fst

/-- The slots that an election chooses from: the masters that are heard, or else the packages that may be one (R152, R153). -/
def Block.candidates (b : Block) : List Nat :=
  if b.mastersHeard ≠ [] then b.mastersHeard
  else (if b.tbmEn then [b.slotId] else []) ++ (b.tb.heard.filter (fun h => h.2.tbmEn)).map Prod.fst

theorem Block.candidates_eq : b.candidates = if !b.mastersHeard.isEmpty then b.mastersHeard
    else (if b.tbmEn then [b.slotId] else []) ++ (b.tb.heard.filter (fun h => h.2.tbmEn)).map Prod.fst := by
  unfold Block.candidates
  cases b.mastersHeard <;> rfl

/-- An elected package becomes the master, or follows the one elected and steps its time to it. -/
def Block.joins (b : Block) (m : Nat) : Block :=
  let b1 : Block := { b with tb := { b.tb with elected := true } }
  if m = b.slotId then b1.becomeMaster
  else ((b1.takeMaster m).enterSync tbACQUIRE).stepTime (match SMap.find b.tb.heard m with
    | some h => ticksOf h.off
    | none => 0)

/-- What an election makes of its candidates: the lowest is the master. -/
def Block.elects (b : Block) : List Nat → Block
  | [] => { b with tb := { b.tb with elected := true } }
  | c :: cs => b.joins (cs.foldl min c)

theorem Block.election_of_due {t : Nat} (ht : b.tb.trainedAt = some t) (hs : b.sync = 0) (hfirst : b.tb.elected = false)
    (hdue : t + 100000000 ≤ b.now) : b.election = b.elects b.candidates := by
  have hgo : ¬ (b.sync ≠ tbFREE ∨ b.tb.elected = true ∨ b.now < t + 100000000) := by simp [hs, hfirst, hdue, tbFREE]
  unfold Block.election
  rw [ht]
  refine (if_neg hgo).trans ?_
  rw [Block.candidates_eq]
  unfold Block.elects
  rfl

/-- The lowest of a list of slots is what the minimum of its elements finds. -/
theorem foldl_min_eq {m c : Nat} {cs : List Nat} (hmem : m ∈ c :: cs) (hle : ∀ x ∈ c :: cs, m ≤ x) : cs.foldl min c = m := by
  have h : (c :: cs).min? = some m := List.min?_eq_some_iff.2 ⟨hmem, hle⟩
  rw [List.min?_cons'] at h
  exact Option.some.inj h

theorem Block.elects_lowest {l : List Nat} {m : Nat} (hmem : m ∈ l) (hle : ∀ x ∈ l, m ≤ x) : b.elects l = b.joins m := by
  cases l with
  | nil => simp at hmem
  | cons c cs => rw [Block.elects, foldl_min_eq hmem hle]

/-- A package that loses its master enters HOLDOVER, and claims the master's place where it is the claimant. -/
theorem Block.masterLoss_of_late (hs : b.sync = 2) (hlate : b.tb.lastSet + b.eff pgTbs F.TBS_CFG.MASTER_LOSS * 1000 ≤ b.now) :
    b.masterLoss = if (b.enterSync 3).claims then (b.enterSync 3).becomeMaster.reportPage pgTbs 0x0404 else b.enterSync 3 := by
  have h3 : (b.enterSync 3).sync = tbHOLDOVER := Block.sync_enterSync 3 (by decide)
  have hlost : b.sync = tbLOCKED ∧ b.tb.lastSet + b.eff pgTbs F.TBS_CFG.MASTER_LOSS * 1000 ≤ b.now := ⟨hs, hlate⟩
  unfold Block.masterLoss
  simp only [if_pos hlost]
  by_cases hclaims : (b.enterSync 3).claims = true
  · exact (if_pos ⟨h3, hlate, hclaims⟩).trans (if_pos hclaims).symm
  · exact (if_neg fun h => hclaims h.2.2).trans (if_neg hclaims).symm

theorem Block.holdoverTimeout_of_late (hs : b.sync = 3) (hlate : b.tb.since + b.eff pgTbs F.TBS_CFG.HOLDOVER_MAX * 1000000 ≤ b.now) :
    b.holdoverTimeout = (((b.enterSync 5).bump pgTbs F.TBS_CNT0.LOCK_LOSS_CNT).raise pgTbs 1).reportPage pgTbs 0x0401 := if_pos ⟨hs, hlate⟩

end Election

/-- Settles O33: a set is heard, then adopted, then followed; the other commands find their guards met. -/
theorem timebaseFollows : Obligations.TimebaseFollows := by
  unfold Obligations.TimebaseFollows
  intro s a n set frac hlive
  refine ⟨exec_live hlive rfl rfl, exec_live hlive rfl rfl,
    fun hup => ⟨s.blk.tsSetOut n, exec_live hlive rfl (Block.tsSend_of_up hup), rfl, rfl, rfl, rfl, rfl, rfl, rfl⟩,
    fun hup => ?received, fun t0 ht hs hfirst hdue => ?election, fun hs hlate => ?loss,
    fun hs hlate => exec_live hlive rfl (Block.holdoverTimeout_of_late hs hlate)⟩
  case received =>
    refine ⟨fun hs => exec_live hlive rfl (Block.tsRx_of_free hup frac.isLt hs),
      fun hs hm hlow => ⟨_, exec_live hlive rfl rfl, Block.eff_tsRx_of_lower hup frac.isLt hs hm hlow⟩,
      fun hk hf => exec_live hlive rfl (Block.tsRx_of_unfollowed hup frac.isLt hk hf),
      fun st hk hf => ⟨_, exec_live hlive rfl (Block.tsRx_of_followed hup frac.isLt hk hf), rfl, ?stratum,
        fun hs hin hrun => Block.followSet_locks (Block.sync_tsHeard.trans hs) ?run, fun hs hout hcount =>
          Block.followSet_resets (Block.sync_tsHeard.trans hs) ((Block.lockedRun_tsHeard _).trans (Block.lockedRun_of_outside hout)) ?count⟩⟩
    case stratum =>
      refine (Block.eff_followSet ?_ (by decide) (by decide) (by decide)).trans (Block.eff_put_same _ _ _ _ _ rfl)
      rw [Block.sync_tsHeard]
      exact hk.symm.imp_left And.left
    case run =>
      rw [Block.eff_tsHeard, Block.lockedRun_tsHeard]
      exact hrun.trans_eq (Block.lockedRun_of_within hin).symm
    case count => rw [Block.eff_tsHeard]; exact hcount
  case election =>
    have hgo := Block.election_of_due ht hs hfirst hdue
    refine ⟨fun hnone => exec_live hlive rfl (hgo.trans (congrArg s.blk.elects hnone)), fun m hmem hle => ?lowest⟩
    have hlow := hgo.trans (Block.elects_lowest hmem hle)
    exact ⟨fun hown => exec_live hlive rfl (hlow.trans ((if_pos hown).trans (by rw [hown]; rfl))),
      fun hother => exec_live hlive rfl (hlow.trans (if_neg hother))⟩
  case loss =>
    have hgo := Block.masterLoss_of_late hs hlate
    exact ⟨Block.sync_enterSync 3 (by decide), fun hc => exec_live hlive rfl (hgo.trans (if_neg (by simp [hc]))),
      fun hc => exec_live hlive rfl (hgo.trans (if_pos hc))⟩

end Sys2Proof.Machine
end

section
/-! SUPPORT. What messages and stores leave alone of barriers, bakes and Scores. -/
namespace Sys2Proof.Machine

/-- What a message or a store of the package leaves alone: its barriers and bakes, its shift commands and Scores, and the pages of the
timebase and of expert routing; reports it adds alone. -/
structure Block.Beside (b c : Block) : Prop where
  bars : c.bars = b.bars
  bakes : c.bakes = b.bakes
  shifts : c.shifts = b.shifts
  scores : c.scores = b.scores
  page : ∀ p ∈ [pgTbs, pgMoe], c.page p = b.page p
  reports : b.reports ⊆ c.reports

section Beside
variable {b c d : Block} {p q i n v : Nat} {f : Field}

theorem Block.Beside.of_fields (hbars : c.bars = b.bars := by rfl) (hbakes : c.bakes = b.bakes := by rfl)
    (hshifts : c.shifts = b.shifts := by rfl) (hscores : c.scores = b.scores := by rfl) (hpages : c.pages = b.pages := by rfl)
    (hreports : c.reports = b.reports := by rfl) : b.Beside c :=
  ⟨hbars, hbakes, hshifts, hscores, fun p _ => by rw [Block.page, Block.page, hpages], by rw [hreports]; exact List.Subset.refl _⟩

theorem Block.Beside.refl : b.Beside b := .of_fields

theorem Block.Beside.trans (h : b.Beside c) (h' : c.Beside d) : b.Beside d :=
  ⟨h'.bars.trans h.bars, h'.bakes.trans h.bakes, h'.shifts.trans h.shifts, h'.scores.trans h.scores,
    fun p hp => (h'.page p hp).trans (h.page p hp), List.Subset.trans h.reports h'.reports⟩

theorem Block.Beside.foldl {α : Type} {f : Block → α → Block} (h : ∀ b x, Block.Beside b (f b x)) (l : List α) : b.Beside (l.foldl f b) :=
  List.foldlRecOn (motive := fun c => b.Beside c) l f .refl fun c hc x _ => hc.trans (h c x)

/-! ### Registers of other pages -/

/-- The event of a page changes that page, the messages and the host's endpoint alone. -/
theorem Block.raise_eq : ∃ ps o e, b.raise p i = { b with pages := ps, out := o, pcie := e } := by
  unfold Block.raise Block.msix
  simp only []
  split
  · split <;> exact ⟨_, _, _, rfl⟩
  · exact ⟨_, _, _, rfl⟩

@[simp] theorem Block.raise_bars : (b.raise p i).bars = b.bars := by obtain ⟨ps, o, e, h⟩ := Block.raise_eq (b := b) (p := p) (i := i); rw [h]
@[simp] theorem Block.raise_bakes : (b.raise p i).bakes = b.bakes := by obtain ⟨ps, o, e, h⟩ := Block.raise_eq (b := b) (p := p) (i := i); rw [h]
@[simp] theorem Block.raise_shifts : (b.raise p i).shifts = b.shifts := by
  obtain ⟨ps, o, e, h⟩ := Block.raise_eq (b := b) (p := p) (i := i); rw [h]
@[simp] theorem Block.raise_scores : (b.raise p i).scores = b.scores := by
  obtain ⟨ps, o, e, h⟩ := Block.raise_eq (b := b) (p := p) (i := i); rw [h]

theorem Block.page_modHdr_of_ne (k : Header → Header) (h : q ≠ p) : (b.modHdr p k).page q = b.page q :=
  (Block.page_setPage ..).trans (if_neg h)

theorem Block.page_raise_of_ne (h : q ≠ p) : (b.raise p i).page q = b.page q := by
  unfold Block.raise
  simp only []
  split
  · exact (Block.msix_page ..).trans (Block.page_modHdr_of_ne _ h)
  · exact Block.page_modHdr_of_ne _ h

theorem Block.page_report_of_ne (e : Report) (h : q ≠ e.page) : (b.report e).page q = b.page q :=
  Block.page_modHdr_of_ne (b := b) (fun h => h.summarise e.code (codeSev e.code)) h

section Other
variable (hp : p ∉ [pgTbs, pgMoe])
include hp

theorem Block.Beside.put : b.Beside (b.put p f v i) :=
  ⟨rfl, rfl, rfl, rfl, fun _ hq => (Block.page_setPage ..).trans (if_neg fun (h : _ = p) => hp (h ▸ hq)), List.Subset.refl _⟩

theorem Block.Beside.raise : b.Beside (b.raise p i) :=
  ⟨Block.raise_bars, Block.raise_bakes, Block.raise_shifts, Block.raise_scores, fun _ hq => Block.page_raise_of_ne fun (h : _ = p) => hp (h ▸ hq),
    by rw [Block.raise_reports]; exact List.Subset.refl _⟩

theorem Block.Beside.reportPage : b.Beside (b.reportPage p v n) :=
  ⟨rfl, rfl, rfl, rfl, fun _ hq => Block.page_report_of_ne _ fun (h : _ = p) => hp (h ▸ hq), List.subset_append_left ..⟩

end Other

theorem pgMem_other : pgMem n ∉ [pgTbs, pgMoe] := by
  simp [pgMem, pgTbs, pgMoe]; omega
theorem linkPage_other : linkPage n ∉ [pgTbs, pgMoe] := by
  simp [linkPage, pgQuad, pgTbs, pgMoe]; omega

/-! ### Control messages -/

theorem Block.beside_pump : b.Beside (b.pump n) := by
  unfold Block.pump
  simp only []
  split
  · exact .refl
  · refine Block.Beside.trans ?_ (.put linkPage_other)
    refine Block.Beside.trans (c := b.setLink n _) ?_ (.foldl (fun b p => ?_) _) <;>
      exact .of_fields

theorem Block.beside_sendOn (m : Packet) : b.Beside (b.sendOn n m) := by
  unfold Block.sendOn
  split
  · exact .of_fields
  · split
    · exact Block.Beside.trans (c := b.setLink n _) .of_fields Block.beside_pump
    · exact .refl

theorem Block.beside_sendOneWay (m : Packet) (dst rslot : Nat) : b.Beside (b.sendOneWay m dst rslot) := by
  have hinject : b.Beside (b.inject m dst rslot).1 := by
    unfold Block.inject
    simp only []
    split
    · exact .refl
    · exact Block.beside_sendOn _
  exact hinject.trans .of_fields

theorem Block.beside_castCtrl (mask kind : Nat) (body : List Byte) : b.Beside (b.castCtrl mask kind body) := by
  refine .foldl (fun b d => ?_) _
  unfold Block.sendCtrl
  split
  · exact .refl
  · split
    · exact .refl
    · exact Block.beside_sendOneWay ..

/-! ### Stores of the package's own blocks -/

theorem Block.beside_unlease (fs : List Nat) : b.Beside (b.unlease fs) :=
  Block.Beside.foldl (f := Block.unlease1) (fun _ _ => .of_fields) fs

theorem Block.beside_writeFrozen : b.Beside (b.writeFrozen n) :=
  ((Block.Beside.put (by decide)).trans (.raise (by decide))).trans (.reportPage pgMem_other)

theorem Block.beside_askLeases (fs : List Nat) : b.Beside (b.askLeases fs).1 := by
  induction fs generalizing b with
  | nil => exact .refl
  | cons f fs ih =>
    unfold Block.askLeases
    split
    · exact .refl
    · split
      · exact .refl
      · exact Block.Beside.trans (c := b.lease1 f) .of_fields ih

theorem Block.beside_takeLeases (fs : List Nat) : b.Beside (b.takeLeases fs).1 := by
  have hback (m : Nat) : b.Beside ((b.askLeases fs).1.unlease (fs.take m)) := (Block.beside_askLeases fs).trans (Block.beside_unlease _)
  unfold Block.takeLeases
  simp only []
  split
  · exact Block.beside_askLeases fs
  · split
    · exact (hback _).trans Block.beside_writeFrozen
    · exact hback _

theorem Block.beside_writeCheck (off len ten : Nat) (priv : Bool) : b.Beside (b.writeCheck off len ten priv pgDev).1 := by
  unfold Block.writeCheck
  split
  · exact .reportPage (by decide)
  · split
    · exact ((Block.Beside.put (by decide)).trans (.raise (by decide))).trans (.reportPage (p := pgDev) (by decide))
    · exact .refl

/-- A number that a block of the package stores changes memory and the registers of other pages (R357, R543). -/
theorem Block.beside_pw (off m : Nat) : b.Beside (b.pw off m v) := by
  unfold Block.pw Block.privWrite Block.writeNow
  simp only []
  have hcheck := Block.beside_writeCheck (b := b) off (leBytes m v).length 0 true
  have htake := hcheck.trans (Block.beside_takeLeases (framesOf off (leBytes m v).length))
  split
  · exact hcheck
  · split
    · exact htake
    · split
      · exact htake.trans (Block.beside_unlease _)
      · refine htake.trans (Block.Beside.trans ?_ (Block.beside_unlease _))
        exact Block.Beside.trans (c := Block.store _ off (leBytes m v)) .of_fields
          (.foldl (fun _ _ => .put pgMem_other) _)

theorem Block.beside_wakeBarw (k id : Nat) : b.Beside (b.wakeBarw k id v) := by
  refine .foldl (fun b t => ?_) _
  split
  · split
    · exact .of_fields
    · exact .refl
  · exact .refl

end Beside

end Sys2Proof.Machine
end

section
/-! SUPPORT. Barriers over the rack: completion, release and failure (R167 to R170). -/
namespace Sys2Proof.Machine

/-! ### Barriers that complete and release (R167, R168) -/

section Bars
variable {b : Block} {k id tag src n code : Nat} {x : Bar} {failed : Bool}

theorem Block.bar_setBar_same (hid : id < 4096) : (b.setBar k id x).bar k id = x := by
  simp [Block.bar, Block.setBar, hid, SMap.find_set]

/-- A barrier that is open is one that its bake has opened. -/
theorem Block.find_of_opened (h : (b.bar k id).st = .opened) : ∃ y, SMap.find b.bars (barKey k id) = some y ∧ y.st = .opened := by
  unfold Block.bar at h
  split at h
  · rename_i y hy
    split at hy
    · exact ⟨y, hy, h⟩
    · cases hy
  · cases h

theorem Block.barDone_of_stale (h : b.tagCurrent k tag = false) : b.barDone k tag id src failed = b.countStale := if_pos (by simp [h])

/-- A barrier once a member has sent its completion. -/
def Bar.doneBy (x : Bar) (src : Nat) : Bar := { x with doneFrom := setBits x.doneFrom src 1 1 }

theorem Block.completeBar_setBar (hid : id < 4096) : (b.setBar k id x).completeBar k id =
    (b.setBar k id x).setBar k id { x with st := .completed (b.now + b.eff pgTbs F.TBS_BAR.RELEASE_LEAD) } := by
  rw [Block.completeBar, Block.bar_setBar_same hid]; rfl

section Done
variable (ht : b.tagCurrent k tag = true) (hx : (b.bar k id).st = .opened)
include ht hx

theorem Block.barDone_of_open : b.barDone k tag id src failed =
    if failed then b.failBar k id 2
    else if (b.bar k id).localDone && b.allDone k ((b.bar k id).doneBy src) then (b.setBar k id ((b.bar k id).doneBy src)).completeBar k id
    else b.setBar k id ((b.bar k id).doneBy src) := by
  refine (if_neg (by simp [ht])).trans ?_
  simp only [hx, Bar.doneBy]
  rfl

/-- The last completion of a locally complete barrier gives it its release tick (R168). -/
theorem Block.barDone_of_last (hf : failed = false) (hid : id < 4096) (hloc : (b.bar k id).localDone = true)
    (hall : b.allDone k ((b.bar k id).doneBy src) = true) : b.barDone k tag id src failed = (b.setBar k id ((b.bar k id).doneBy src)).setBar k id
      { (b.bar k id).doneBy src with st := .completed (b.now + b.eff pgTbs F.TBS_BAR.RELEASE_LEAD) } := by
  rw [Block.barDone_of_open ht hx, if_neg (by simp [hf]), if_pos (by simp [hloc, hall]), Block.completeBar_setBar hid]

theorem Block.barDone_of_more (hf : failed = false)
    (hwait : (b.bar k id).localDone = false ∨ b.allDone k ((b.bar k id).doneBy src) = false) :
    b.barDone k tag id src failed = b.setBar k id ((b.bar k id).doneBy src) := by
  rw [Block.barDone_of_open ht hx, if_neg (by simp [hf]), if_neg (by rcases hwait with h | h <;> simp [h])]

end Done

theorem Block.barRelease_of_due {r : Nat} (hx : (b.bar k id).st = .completed r) (hr : r ≤ b.tb.replica) :
    b.barRelease k id = (b.setBar k id { b.bar k id with st := .released r }).wakeBarw k id 0 := by
  unfold Block.barRelease
  simp only [hx]
  exact if_pos hr

end Bars

/-! ### A barrier that fails (R169) -/

section Fails
variable {b c : Block} {k id key n code cd : Nat} {x : Bar} {rest : List (Nat × Nat × Nat)}

/-- The barrier of a key is listed as failed with a code. -/
def Block.listedFailed (b : Block) (key code : Nat) : Prop := ∃ x, SMap.find b.bars key = some x ∧ x.st = .failed code

/-- A barrier has failed, with the event of the timebase and a report of a failure. -/
def Block.barHasFailed (b : Block) (key code : Nat) : Prop :=
  b.listedFailed key code ∧ bit (b.hdr pgTbs).isr 5 = true ∧ ∃ e ∈ b.reports, e.2.code = 0x0405

theorem Block.barHasFailed.beside (h : b.barHasFailed key code) (hb : b.Beside c) : c.barHasFailed key code := by
  obtain ⟨⟨x, hx, hst⟩, hisr, e, he, hcode⟩ := h
  refine ⟨⟨x, by rw [hb.bars]; exact hx, hst⟩, ?_, e, hb.reports he, hcode⟩
  rw [Block.hdr, hb.page pgTbs (by decide)]
  exact hisr

theorem Block.barHasFailed.dropWaiters (h : b.barHasFailed key code) : (b.dropWaiters k id).barHasFailed key code := h

/-- The count, the event and the report of a failing barrier. -/
def Block.barReported (b : Block) : Block := ((b.bump pgTbs F.TBS_CNT3.BAR_FAIL_CNT).raise pgTbs 5).reportPage pgTbs 0x0405

theorem Block.barHasFailed_barReported (h : b.listedFailed key code) : b.barReported.barHasFailed key code := by
  obtain ⟨x, hx, hst⟩ := h
  refine ⟨⟨x, ?_, hst⟩, ?_, _, List.mem_append_right _ (List.mem_singleton_self _), rfl⟩
  · rw [← hx]
    exact congrArg (SMap.find · key) (Block.raise_bars (b := b.bump pgTbs F.TBS_CNT3.BAR_FAIL_CNT))
  · rw [Block.barReported, Block.reportPage, Block.hdr_report, if_pos rfl, Block.summarise_isr, Block.hdr_raise, if_pos rfl, bit_setBits_one]
    simp

/-- What an open barrier that fails does before its waiters are discarded: it is counted and reported, the other members are told, and each
BARW that waits on it returns the code. -/
def Block.barFails (b : Block) (k id code : Nat) : Block :=
  let b2 := (b.setBar k id { b.bar k id with st := .failed code }).barReported
  (if (b.bar k id).rack then b2.sendBarDone k id true else b2).wakeBarw k id code

theorem Block.barHasFailed_barFails (h : (b.setBar k id { b.bar k id with st := .failed cd }).listedFailed key code) :
    (b.barFails k id cd).barHasFailed key code := by
  unfold Block.barFails
  refine Block.barHasFailed.beside ?_ (Block.beside_wakeBarw ..)
  split
  · exact (Block.barHasFailed_barReported h).beside (Block.beside_castCtrl ..)
  · exact Block.barHasFailed_barReported h

theorem Block.failBars_of_open (hid : id ≠ 0) (hx : (b.bar k id).st = .opened) : b.failBars (n + 1) ((k, id, cd) :: rest) =
    ((b.barFails k id cd).dropWaiters k id).failBars n (rest ++ ((b.barFails k id cd).failedArrivals k id).map (fun a => (k, a, 2))) := by
  rw [Block.failBars, if_neg hid]
  simp only [hx]
  rfl

theorem Block.failBars_of_closed (hid : id ≠ 0) (hx : (b.bar k id).st ≠ .opened) : b.failBars (n + 1) ((k, id, cd) :: rest) =
    (b.reportPage pgTbs 0x0406).failBars n rest := by
  rw [Block.failBars, if_neg hid]
  simp only []

/-- A barrier that has failed stays as it is, whatever barriers fail after it. -/
theorem Block.barHasFailed.failBars (h : b.barHasFailed key code) (n : Nat) (l : List (Nat × Nat × Nat)) :
    (b.failBars n l).barHasFailed key code := by
  induction n generalizing b l with
  | zero => exact h
  | succ n ih =>
    cases l with
    | nil => exact h
    | cons a rest =>
      obtain ⟨k, id, cd⟩ := a
      by_cases hid : id = 0
      · rw [Block.failBars, if_pos hid]; exact ih h rest
      · obtain ⟨⟨x, hx, hst⟩, hisr, e, he, hcode⟩ := h
        by_cases ho : (b.bar k id).st = .opened
        · obtain ⟨y, hy, hyst⟩ := Block.find_of_opened ho
          have hne : key ≠ barKey k id := by rintro rfl; simp_all
          rw [Block.failBars_of_open hid ho]
          refine ih (Block.barHasFailed_barFails ⟨x, ?_, hst⟩).dropWaiters _
          exact (SMap.find_set ..).trans ((if_neg hne).trans hx)
        · rw [Block.failBars_of_closed hid ho]
          refine ih (b := b.reportPage pgTbs 0x0406) ⟨⟨x, hx, hst⟩, ?_, e, List.mem_append_left _ he, hcode⟩ rest
          rw [Block.reportPage, Block.hdr_report, if_pos rfl, Block.summarise_isr]
          exact hisr

/-- An open barrier that times out or is told of a failure fails with that code. -/
theorem Block.barHasFailed_failBar (hid : id ≠ 0) (hx : (b.bar k id).st = .opened) : (b.failBar k id cd).barHasFailed (barKey k id) cd := by
  have hfuel : b.failFuel = (b.bars.length + b.scores.foldl (fun n p => n + p.2.entries.length) 0 + 1) + 1 := rfl
  rw [Block.failBar, hfuel, Block.failBars_of_open hid hx]
  refine (Block.barHasFailed_barFails ⟨{ b.bar k id with st := .failed cd }, ?_, rfl⟩).dropWaiters.failBars _ _
  exact (SMap.find_set ..).trans (if_pos rfl)

theorem Block.barTimeout_of_late (hx : (b.bar k id).st = .opened) (hlate : b.barTimedOut k id = true) : b.barTimeout k id = b.failBar k id 1 := by
  unfold Block.barTimeout
  simp only [hx]
  exact if_pos hlate

theorem Block.bar_of_listedFailed (hid : id < 4096) (h : b.listedFailed (barKey k id) cd) : (b.bar k id).st = .failed cd := by
  obtain ⟨x, hx, hst⟩ := h
  simp [Block.bar, hid, hx, hst]

end Fails

end Sys2Proof.Machine
end

section
/-! SUPPORT. The tick plan of a bake, and the votes of its layers (R174, R179, R180). -/
namespace Sys2Proof.Machine

/-! ### Plan pushes (R174) -/

section Push

/-- The first of the least elements of a list, by a measure, is what a pass finds that changes its mind for a lesser element alone. -/
theorem foldl_first_least {α : Type} {f : α → Nat} {e a : α} {before rest after : List α} (hl : a :: rest = before ++ e :: after)
    (hb : ∀ c ∈ before, f e < f c) (ha : ∀ c ∈ after, f e ≤ f c) : rest.foldl (fun a c => if f c < f a then c else a) a = e := by
  have hkeep : after.foldl (fun a c => if f c < f a then c else a) e = e :=
    List.foldlRecOn (motive := fun x => x = e) after _ rfl fun x hx c hc => by rw [hx, if_neg (Nat.not_lt.2 (ha c hc))]
  cases before with
  | nil =>
    obtain ⟨rfl, rfl⟩ := List.cons.inj hl
    exact hkeep
  | cons a' before =>
    obtain ⟨rfl, rfl⟩ := List.cons.inj hl
    have hmore : f e < f (before.foldl (fun a c => if f c < f a then c else a) a) :=
      List.foldlRecOn (motive := fun x => f e < f x) before _ (hb a List.mem_cons_self) fun x hx c hc => by
        split
        · exact hb c (List.mem_cons_of_mem _ hc)
        · exact hx
    refine List.foldl_append.trans ?_
    rw [List.foldl_cons, if_pos hmore, hkeep]

variable {b : Block} {k : Nat} {e : PlanItem} {before after : List PlanItem}

/-- Of the queued entries whose Score has room, the first that launches earliest is pushed. -/
theorem Block.planPush_of_first (hq : (b.bake k).pushQ.filter (fun c => !b.scoreFull c.island) = before ++ e :: after)
    (hb : ∀ c ∈ before, b.queuedLaunch k e < b.queuedLaunch k c) (ha : ∀ c ∈ after, b.queuedLaunch k e ≤ b.queuedLaunch k c) :
    b.planPush k = (b.setBake k { b.bake k with pushQ := (b.bake k).pushQ.erase e }).pushArriving e.island
      ((b.bake k).entry k (b.planRec e.record) e) .serving := by
  unfold Block.planPush
  simp only []
  cases hl : (b.bake k).pushQ.filter (fun c => !b.scoreFull c.island) with
  | nil => simp [hl] at hq
  | cons a rest =>
    simp only []
    rw [foldl_first_least (hl.symm.trans hq) hb ha]

end Push

/-! ### Votes (R179) -/

section Votes
variable {b : Block} {k l no src r : Nat}

theorem Block.voteSend_of_due {p : MoePlan} (hact : (b.bake k).active = true) (hl : l < (b.bake k).layers.length)
    (hsent : SMap.get false (b.bake k).voteSent l = false) (hopen : SMap.find (b.bake k).rounds l = none)
    (hp : b.plan? k (b.plcLayerOf k l) = some p) (hok : p.failed = false)
    (hdue : (b.bake k).start + ((b.bake k).layer l).voteOff + (b.bake k).shift ((b.bake k).layer l).voteOff ≤ b.now) :
    b.voteSend k l = ((b.setBake k { b.bake k with voteSent := SMap.set (b.bake k).voteSent l true }).recordVote k l b.slotId (p.vote b.slotId)).castCtrl
      ((b.bake k).members ||| 2 ^ b.eff pgTbs F.TBS_STATUS.MASTER_SLOT) ckVOTE
      (leBytes 1 k ++ leBytes 8 (b.bake k).bakeNo ++ leBytes 2 l ++ leBytes 1 (p.vote b.slotId)) := by
  unfold Block.voteSend
  simp only []
  rw [if_neg (by simp [hact, hsent, hopen, hl]), hp]
  exact if_neg (by simp [hok, hdue])

/-- A vote of the bake in progress is recorded, at a member and at the step master that watches the bake. -/
theorem Block.voteRx_of_current (hact : (b.bake k).active = true ∨ (b.bake k).watched = true) (hno : (b.bake k).bakeNo = no)
    (hl : l < (b.bake k).layers.length) : b.voteRx k no l src r = b.recordVote k l src r := if_pos ⟨hact, hno, hl⟩

end Votes

/-! ### The close of a vote (R179, R180) -/

section Close
variable {b : Block} {k l r : Nat}

/-- Each missing vote is counted and reported. -/
def Block.votesMissed (b : Block) (k missing : Nat) : Block :=
  (List.range missing).foldl (fun b _ => ((b.bump pgTbs F.TBS_CNT2.VOTE_MISS_CNT).raise pgTbs 8).reportPart pgTbs 0x0409 k) b

/-- Counting missing votes leaves the bakes, the shift commands, the Scores and expert routing alone. -/
theorem Block.votesMissed_keeps (n : Nat) : (b.votesMissed k n).bakes = b.bakes ∧ (b.votesMissed k n).shifts = b.shifts ∧
    (b.votesMissed k n).scores = b.scores ∧ (b.votesMissed k n).page pgMoe = b.page pgMoe := by
  refine List.foldlRecOn (motive := fun c : Block => c.bakes = b.bakes ∧ c.shifts = b.shifts ∧ c.scores = b.scores ∧ c.page pgMoe = b.page pgMoe)
    _ _ ⟨rfl, rfl, rfl, rfl⟩ fun c ⟨hbakes, hshifts, hscores, hpage⟩ _ _ => ?_
  have hbump : (c.bump pgTbs F.TBS_CNT2.VOTE_MISS_CNT).page pgMoe = c.page pgMoe := (Block.page_setPage ..).trans (if_neg (by decide))
  have hraise := (Block.page_raise_of_ne (b := c.bump pgTbs F.TBS_CNT2.VOTE_MISS_CNT) (p := pgTbs) (i := 8) (q := pgMoe) (by decide)).trans hbump
  exact ⟨Block.raise_bakes.trans hbakes, Block.raise_shifts.trans hshifts, Block.raise_scores.trans hscores,
    ((Block.page_report_of_ne _ (show pgMoe ≠ pgTbs by decide)).trans hraise).trans hpage⟩

/-- The bake with the rounds of a layer agreed, and its end moved by them. -/
def Bake.closed (x : Bake) (l r : Nat) : Bake := { x with rounds := SMap.set x.rounds l r, planEnd := x.planEnd + r * (x.layer l).roundTicks }

theorem Bake.find_closed (x : Bake) : SMap.find (x.closed l r).rounds l = some r := (SMap.find_set ..).trans (if_pos rfl)

/-- The rounds that a member agrees on: the most of the members' votes, its own among them, a missing one counting as the most there may be. -/
theorem Block.agreed_of_active (h : (b.bake k).active = true) : (b.agreed k l).2 =
    (bitIndices 64 ((b.bake k).members ||| 2 ^ b.slotId)).foldl (fun m v =>
      max m ((SMap.find (b.bake k).votes (l * 64 + v)).getD (b.eff pgMoe F.MOE_PCTL.OVERFLOW_ROUNDS_MAX k))) 0 := by
  simp only [Block.agreed, h, if_true]

theorem Block.agreed_of_watched (h : (b.bake k).active = false) : (b.agreed k l).2 =
    (bitIndices 64 (b.bake k).members).foldl (fun m v =>
      max m ((SMap.find (b.bake k).votes (l * 64 + v)).getD (b.eff pgMoe F.MOE_PCTL.OVERFLOW_ROUNDS_MAX k))) 0 := by
  simp [Block.agreed, h]

/-- The bake of a partition and its end, as TBS_PLAN_END shows it. -/
def Block.setPlan (b : Block) (k : Nat) (x : Bake) : Block := (b.setBake k x).put pgTbs F.TBS_PLAN_END.PLAN_END x.planEnd k

theorem Block.bake_setPlan (x : Bake) : (b.setPlan k x).bake k = x := SMap.get_set_same ..

/-- The Scores that hold entries of a partition. -/
def Block.scoresOf (b : Block) (k : Nat) : List Nat := (b.scores.filter (fun p => p.2.entries.any (fun e => decide (e.e.part = k)))).map Prod.fst

/-- The shift commands of `r` rounds of a layer are on their way to the Scores of a partition. -/
def Block.sendShifts (b : Block) (k l r : Nat) (x : Bake) (held : List Nat) : Block :=
  { b with shifts := b.shifts ++ held.map (fun i => (i, k, x.bakeNo % 256, x.start + (x.layer l).insertOff + x.shiftBefore (x.layer l),
      r * (x.layer l).roundTicks)) }

/-- The bake of a member once a layer is closed: the template records of the rounds are queued. -/
def Block.memberBake (b : Block) (k l r : Nat) : Bake :=
  { (b.bake k).closed l r with pushQ := (b.bake k).pushQ ++ (b.votesMissed k (b.agreed k l).1).templates k (b.bake k) l r }

/-- A member once a layer is closed, before it counts the rounds. -/
def Block.memberClosed (b : Block) (k l r : Nat) : Block :=
  let b1 := b.votesMissed k (b.agreed k l).1
  ((b1.setPlan k (b.memberBake k l r)).sendShifts k l r (b.bake k) (b1.scoresOf k)).pw ((b.bake k).desc + 0x18) 8 (b.memberBake k l r).planEnd

/-- The deferred rounds are counted and raised. -/
def Block.countDeferred (b : Block) (r : Nat) : Block := if r = 0 then b else (b.bumpWrap pgMoe F.MOE_DEFER_CNT.DEFER_CNT 0 r).raise pgMoe 1

theorem Block.countDeferred_bake : (b.countDeferred r).bake k = b.bake k := by
  unfold Block.countDeferred Block.bake
  split
  · rfl
  · rw [Block.raise_bakes]; rfl
theorem Block.countDeferred_shifts : (b.countDeferred r).shifts = b.shifts := by
  unfold Block.countDeferred
  split
  · rfl
  · exact Block.raise_shifts
theorem Block.countDeferred_scores : (b.countDeferred r).scores = b.scores := by
  unfold Block.countDeferred
  split
  · rfl
  · exact Block.raise_scores

theorem Block.countDeferred_zero (h : r = 0) : b.countDeferred r = b := if_pos h

/-- Deferred rounds set the event of expert routing and are added to its count. -/
theorem Block.countDeferred_counts (h : r ≠ 0) : bit ((b.countDeferred r).hdr pgMoe).isr 1 = true ∧
    (b.countDeferred r).eff pgMoe F.MOE_DEFER_CNT.DEFER_CNT =
      (b.eff pgMoe F.MOE_DEFER_CNT.DEFER_CNT + r) % 2 ^ F.MOE_DEFER_CNT.DEFER_CNT.width := by
  rw [Block.countDeferred, if_neg h, Block.hdr_raise, if_pos rfl, bit_setBits_one, Block.eff_raise]
  exact ⟨by simp, Block.eff_put_same _ _ _ _ _ rfl⟩

/-- What a member keeps and changes as it closes a layer. -/
theorem Block.memberClosed_keeps : (b.memberClosed k l r).bake k = b.memberBake k l r ∧ (b.memberClosed k l r).scores = b.scores ∧
    (b.memberClosed k l r).shifts = (b.sendShifts k l r (b.bake k) (b.scoresOf k)).shifts ∧
    (b.memberClosed k l r).page pgMoe = b.page pgMoe := by
  obtain ⟨hbakes, hshifts, hscores, hpage⟩ := Block.votesMissed_keeps (b := b) (k := k) (b.agreed k l).1
  have hpw := Block.beside_pw (b := ((b.votesMissed k (b.agreed k l).1).setPlan k (b.memberBake k l r)).sendShifts k l r (b.bake k)
    ((b.votesMissed k (b.agreed k l).1).scoresOf k)) (v := (b.memberBake k l r).planEnd) ((b.bake k).desc + 0x18) 8
  refine ⟨?bake, hpw.scores.trans hscores, hpw.shifts.trans ?shifts, (hpw.page pgMoe (by decide)).trans ?page⟩
  case bake =>
    rw [Block.memberClosed, Block.bake, hpw.bakes]
    exact Block.bake_setPlan _
  case shifts =>
    have hsame : ((b.votesMissed k (b.agreed k l).1).setPlan k (b.memberBake k l r)).shifts = b.shifts := hshifts
    rw [Block.sendShifts, Block.sendShifts, hsame, Block.scoresOf, hscores, Block.scoresOf]
  case page => exact ((Block.page_setPage ..).trans (if_neg (by decide))).trans hpage

/-- What a member reads once a layer is closed and its rounds are counted. -/
theorem Block.memberClosed_counted :
    let c := (b.memberClosed k l r).countDeferred r
    SMap.find (c.bake k).rounds l = some r ∧ (c.bake k).planEnd = ((b.bake k).closed l r).planEnd ∧ c.scores = b.scores ∧
      c.shifts = (b.sendShifts k l r (b.bake k) (b.scoresOf k)).shifts ∧
      (r = 0 → c.eff pgMoe F.MOE_DEFER_CNT.DEFER_CNT = b.eff pgMoe F.MOE_DEFER_CNT.DEFER_CNT) ∧
      (r ≠ 0 → bit (c.hdr pgMoe).isr 1 = true ∧
        c.eff pgMoe F.MOE_DEFER_CNT.DEFER_CNT = (b.eff pgMoe F.MOE_DEFER_CNT.DEFER_CNT + r) % 2 ^ F.MOE_DEFER_CNT.DEFER_CNT.width) := by
  obtain ⟨hbake, hscores, hshifts, hpage⟩ := Block.memberClosed_keeps (b := b) (k := k) (l := l) (r := r)
  have hcnt : (b.memberClosed k l r).eff pgMoe F.MOE_DEFER_CNT.DEFER_CNT = b.eff pgMoe F.MOE_DEFER_CNT.DEFER_CNT := by
    rw [Block.eff, hpage]; rfl
  refine ⟨?find, ?planEnd, Block.countDeferred_scores.trans hscores, Block.countDeferred_shifts.trans hshifts, fun hz => ?none, fun hnz => ?some⟩
  case find => rw [Block.countDeferred_bake, hbake]; exact Bake.find_closed _
  case planEnd => rw [Block.countDeferred_bake, hbake]; rfl
  case none => rw [Block.countDeferred_zero hz, hcnt]
  case some => exact hcnt ▸ Block.countDeferred_counts hnz

section Due
variable (hl : l < (b.bake k).layers.length) (hopen : SMap.find (b.bake k).rounds l = none)
  (hdue : (b.bake k).start + ((b.bake k).layer l).closeOff + (b.bake k).shift ((b.bake k).layer l).closeOff ≤ b.now)
  (hr : (b.agreed k l).2 = r)
include hl hopen hdue hr

/-- The step master that watches a bake moves the end of its plan alone (R176). -/
theorem Block.voteClose_of_watched (hact : (b.bake k).active = false) (hwatch : (b.bake k).watched = true) :
    b.voteClose k l = (b.votesMissed k (b.agreed k l).1).setPlan k ((b.bake k).closed l r) := by
  unfold Block.voteClose
  simp only []
  rw [if_neg (by simp [hwatch, hl, hopen, hdue]), if_pos (by simp [hact]), hr]
  rfl

/-- A member moves the end of its plan, sends the shift commands and queues the template records (R180). -/
theorem Block.voteClose_of_active (hact : (b.bake k).active = true) : b.voteClose k l = (b.memberClosed k l r).countDeferred r := by
  unfold Block.voteClose
  simp only []
  rw [if_neg (by simp [hact, hl, hopen, hdue]), if_neg (by simp [hact]), hr]
  rfl

end Due

end Close

/-! ### Messages that are noted -/

section Noted
variable {h : CtrlIn} {kind : Nat} {body : List Byte}

@[simp] theorem Block.noted_tagCurrent (b : Block) (k tag : Nat) : (b.noted h kind body).tagCurrent k tag = b.tagCurrent k tag := by
  obtain ⟨l, c, e⟩ := Block.noted_eq (h := h) (kind := kind) (body := body) b; rw [e]; rfl
@[simp] theorem Block.noted_bar (b : Block) (k id : Nat) : (b.noted h kind body).bar k id = b.bar k id := by
  obtain ⟨l, c, e⟩ := Block.noted_eq (h := h) (kind := kind) (body := body) b; rw [e]; rfl
@[simp] theorem Block.noted_bake (b : Block) (k : Nat) : (b.noted h kind body).bake k = b.bake k := by
  obtain ⟨l, c, e⟩ := Block.noted_eq (h := h) (kind := kind) (body := body) b; rw [e]; rfl
@[simp] theorem Block.noted_allDone (b : Block) (k : Nat) (x : Bar) : (b.noted h kind body).allDone k x = b.allDone k x := by
  obtain ⟨l, c, e⟩ := Block.noted_eq (h := h) (kind := kind) (body := body) b; rw [e]; rfl
@[simp] theorem Block.noted_now (b : Block) : (b.noted h kind body).now = b.now := by
  obtain ⟨l, c, e⟩ := Block.noted_eq (h := h) (kind := kind) (body := body) b; rw [e]
@[simp] theorem Block.noted_eff (b : Block) (p j : Nat) (f : Field) : (b.noted h kind body).eff p f j = b.eff p f j := by
  obtain ⟨l, c, e⟩ := Block.noted_eq (h := h) (kind := kind) (body := body) b; rw [e]; rfl

end Noted

/-- Settles O35: messages act on the block that has noted them, and each command finds its guard met. -/
theorem barriersAndVotes : Obligations.BarriersAndVotes := by
  unfold Obligations.BarriersAndVotes
  intro s h k tag id failed l no rounds hlive
  refine ⟨fun hh => ⟨fun hstale => ?stale, fun ht hx => ⟨fun hf => ?failed, fun hf hloc hall => ?complete, fun hf hwait => ?waits⟩⟩,
    fun r hx hr => exec_live hlive rfl (Block.barRelease_of_due hx hr), fun hid hx hlate => ?timeout,
    fun before e after hq hb ha => exec_live hlive rfl (Block.planPush_of_first hq hb ha),
    fun p hact hl hsent hopen hp hok hdue => exec_live hlive rfl (Block.voteSend_of_due hact hl hsent hopen hp hok hdue),
    fun hh hact hno hl => ?vote, fun hact hwatch hl hopen hdue => ?watched, fun hact hl hopen hdue => ?member⟩
  case stale =>
    refine exec_live hlive rfl ((Block.ctrlIn_of_hears hh _).trans ?_)
    rw [Block.barDone_of_stale ((Block.noted_tagCurrent ..).trans hstale)]
  case timeout =>
    have hfails := Block.barHasFailed_failBar (cd := 1) (fun h0 => hid (BitVec.eq_of_toNat_eq h0)) hx
    obtain ⟨hlisted, hisr, hreport⟩ := hfails
    exact ⟨_, exec_live hlive rfl (congrArg Block.missCounts (Block.barTimeout_of_late hx hlate)), rfl,
      Block.bar_of_listedFailed id.isLt hlisted, hisr, hreport⟩
  case vote =>
    refine exec_live hlive rfl ((Block.ctrlIn_of_hears hh _).trans ?_)
    rw [Block.voteRx_of_current (by simpa using hact) (by simpa using hno) (by simpa using hl), Block.recordVote]
    simp only [Block.noted_bake]
  case watched =>
    refine ⟨_, exec_live hlive rfl (Block.voteClose_of_watched hl hopen hdue (Block.agreed_of_watched hact) hact hwatch), ?_⟩
    obtain ⟨-, hshifts, -, -⟩ := Block.votesMissed_keeps (b := s.blk) (k := k) (s.blk.agreed k l).1
    rw [Block.bake_setPlan]
    exact ⟨Bake.find_closed _, rfl, Block.eff_put_same _ _ _ _ _ rfl, hshifts, rfl⟩
  case member =>
    exact ⟨_, exec_live hlive rfl (Block.voteClose_of_active hl hopen hdue (Block.agreed_of_active hact) hact), Block.memberClosed_counted⟩
  all_goals
    have htag := (Block.noted_tagCurrent (h := h) (kind := ckBAR_DONE) (body := barDoneBody k tag.toNat id.toNat failed) ..).trans ht
    have hbar := Block.noted_bar (h := h) (kind := ckBAR_DONE) (body := barDoneBody k tag.toNat id.toNat failed) s.blk k id.toNat
    have hopen := (congrArg Bar.st hbar).trans hx
    refine exec_live hlive rfl ((Block.ctrlIn_of_hears hh _).trans ?_)
  case failed => rw [Block.barDone_of_open htag hopen, if_pos hf]
  case complete =>
    have hdone := Block.barDone_of_last (src := h.src) htag hopen hf id.isLt (by rw [hbar]; exact hloc) (by rw [hbar, Block.noted_allDone]; exact hall)
    rw [hdone, hbar, Block.noted_now, Block.noted_eff]
    rfl
  case waits =>
    have hmore := Block.barDone_of_more (src := h.src) htag hopen hf (by rw [hbar, Block.noted_allDone]; exact hwait)
    rw [hmore, hbar]
    rfl

end Sys2Proof.Machine
end

section
/-! SUPPORT. The retry of a refused write (R197), against the statement about freezes and thaws. -/
namespace Sys2Proof.Machine

/-- A write of the first byte of frame 0 that was refused with RETRY, and that is to ask for its lease again at tick 0. -/
def retriedWrite : Xfer :=
  { xfer0 (.tag 0 0) .write with
    id := 4, pieces := [{ addr := localAddr 0, len := 1, sram := 0 }], data := [[1]], priv := true, phase := .retry 0 }

/-- The package right after reset, with that write as its one transfer. -/
def retryState : State := State.reset.withBlk { blockReset with xfers := [retriedWrite] }

/-- LEASE_WAIT of controller 0, the state home of frame 0 (R226). -/
def Block.leaseWait (b : Block) : Nat := b.eff (pgMem 0) F.MEM_PERF.LEASE_WAIT

/-- The retry counts the 1,000 ticks that the write has waited, as 1,333 cycles of the controller (log entry 94). -/
theorem leaseWait_leaseRetry : (retryState.blk.leaseRetry 4).rest.leaseWait = 1333 := by decide

/-- Beginning the write again counts no wait. -/
theorem leaseWait_beginXfer : (retryState.blk.beginXfer 4).rest.leaseWait = 0 := by decide

/-- Refutes O37: its first clause has LEASE_RETRY do no more than begin the transfer again, but before that the command counts the wait in
LEASE_WAIT of the state home of the first frame here. -/
theorem not_framesFreezeAndThaw : ¬ Obligations.FramesFreezeAndThaw := by
  unfold Obligations.FramesFreezeAndThaw
  intro h
  obtain ⟨hretry, -⟩ := h retryState 4 true [] 0 0 0 0 0 rfl
  have hclaim : exec (.leaseRetry 4) retryState = .next (retryState.withBlk (retryState.blk.beginXfer 4).rest) :=
    hretry retriedWrite 0 rfl rfl (Nat.zero_le _)
  have hmodel : exec (.leaseRetry 4) retryState = .next (retryState.withBlk (retryState.blk.leaseRetry 4).rest) := exec_live rfl rfl rfl
  have hsame : (retryState.blk.leaseRetry 4).rest = (retryState.blk.beginXfer 4).rest :=
    congrArg State.blk (Host.Outcome.next.inj (hmodel.symm.trans hclaim))
  have hcount : 1333 = 0 := leaseWait_leaseRetry.symm.trans ((congrArg Block.leaseWait hsame).trans leaseWait_beginXfer)
  exact absurd hcount (by decide)

end Sys2Proof.Machine
end

section
/-! SUPPORT. Writes to the fields of slices and memory controllers that act (R211, R221, R222). -/
namespace Sys2Proof.Machine

section Acting
variable {s : State} {b : Block} {p : Nat} {a : Agent} {f : Field} {i off w v : Nat}

theorem pageKind_pgSlice (sl : Fin 32) : pageKind (pgSlice sl) = .slc := by revert sl; decide
theorem pageKind_pgMem (k : Fin 16) : pageKind (pgMem k) = .mem := by revert k; decide

/-- Where zero triggers nothing either, a write to a field that acts does what the value spells. -/
theorem Block.immWrite_of_action {act : Nat → Block} (hraw : f.raw i off w = v) (hacc : f.acc = .w1s) (hp : pageKind p ≠ .flt)
    (ht : b.trigger p f i v a = some (act v)) (hzero : act 0 = b) : b.immWrite p f i off w a = act v := by
  by_cases hv : v = 0
  · rw [Block.immWrite, if_pos ⟨.inl hacc, hraw.trans hv⟩, hv, hzero]
  · exact Block.immWrite_of_trigger hraw hv hp ht

/-- A write to a field that acts, alone in its word, does what the value spells. -/
theorem Block.fieldsWrite_of_action {act : Nat → Block} (hf : fieldsAt p off = [(f, i)]) (hacc : f.acc = .w1s) (hkind : f.kind = .imm)
    (hword : f.word i = off) (hlo : off * 8 ≤ f.key i) (hhi : f.key i + f.width ≤ off * 8 + 32) (hv : v < 2 ^ f.width)
    (hp : pageKind p ≠ .flt) (ht : b.trigger p f i v a = some (act v)) (hzero : act 0 = b) :
    b.fieldsWrite p off (b.wordWith p f i v) a = act v := by
  have hw : b.wordWith p f i v = f.intoWord i off v := by simp [Block.wordWith, hword, hf, hacc, Nat.mod_eq_of_lt hv]
  have hone := Block.immWrite_of_action (hw ▸ Field.raw_intoWord hlo hhi hv) hacc hp ht hzero
  unfold Block.fieldsWrite
  simp only [hf]
  simpa [hacc, hkind, Block.writeOutside] using hone

/-- A field of a slice or of a memory controller beyond the header is written by the fields of its word. -/
theorem Block.fieldWrite_memory (h : s.reaches p a) (hk : pageKind p = .slc ∨ pageKind p = .mem) (ho : 0x40 ≤ f.word i) :
    s.blk.fieldWrite p f i v a = (s.blk.fieldsWrite p (f.word i) (s.blk.wordWith p f i v) a).rest := by
  have heth : p ≠ 8 := by rintro rfl; simp [pageKind] at hk
  have hnot (k : PageKind) (hs : k ≠ .slc) (hm : k ≠ .mem) : pageKind p ≠ k := fun e => hk.elim (fun e' => hs (e ▸ e')) (fun e' => hm (e ▸ e'))
  exact Block.writeWord_fields h (hnot _ (by decide) (by decide)) ho (fun e => hnot _ (by decide) (by decide) e.1) (fun e => heth e.1)
    (fun e => hnot _ (by decide) (by decide) e.1)

end Acting

/-! ### SLC_UNPIN and CH_RETIRE_REQ -/

section Alone
variable {s : State} {b : Block} {a : Agent}

theorem fieldsAt_unpin (sl : Fin 32) : fieldsAt (pgSlice sl) 0x80 = [(F.SLC_UNPIN.UNPIN, 0)] := by
  simp only [fieldsAt, fieldHere, pageKind_pgSlice]
  decide

theorem fieldsAt_chRetire (k : Fin 16) : fieldsAt (pgMem k) 0x44 = [(F.MEM_CH_RETIRE.CH_RETIRE_REQ, 0)] := by
  simp only [fieldsAt, fieldHere, pageKind_pgMem]
  cases decide (pgMem k = 0xC0) <;> decide

theorem bitIndices_zero (w : Nat) : bitIndices w 0 = [] := by simp [bitIndices]

/-- Unpinning for no partition leaves every line. -/
theorem Block.slcUnpin_zero (s : Nat) : b.slcUnpin s 0 = b := by
  simp [Block.slcUnpin, SMap.mapVals]

theorem Block.chRetireReq_zero (k : Nat) : b.chRetireReq k 0 = b := by rw [Block.chRetireReq, bitIndices_zero]; rfl
theorem Block.retrainReq_zero (k : Nat) : b.retrainReq k 0 = b := by rw [Block.retrainReq, bitIndices_zero]; rfl

theorem Block.trigger_unpin (sl : Fin 32) (v : Nat) : b.trigger (pgSlice sl) F.SLC_UNPIN.UNPIN 0 v a = some (b.slcUnpin sl v) := by
  rw [Block.trigger, pageKind_pgSlice]
  exact (if_pos rfl).trans (by rw [pgSlice, Nat.add_sub_cancel_left])

theorem Block.trigger_chRetire (k : Fin 16) (v : Nat) : b.trigger (pgMem k) F.MEM_CH_RETIRE.CH_RETIRE_REQ 0 v a = some (b.chRetireReq k v) := by
  rw [Block.trigger, pageKind_pgMem]
  exact (if_pos rfl).trans (by rw [pgMem, Nat.add_sub_cancel_left])

theorem Block.trigger_retrain (k : Fin 16) (v : Nat) : b.trigger (pgMem k) F.MEM_RETRAIN.RETRAIN_REQ 0 v a = some (b.retrainReq k v) := by
  rw [Block.trigger, pageKind_pgMem]
  exact (if_neg (by decide)).trans ((if_pos rfl).trans (by rw [pgMem, Nat.add_sub_cancel_left]))

theorem exec_slcUnpin (sl : Fin 32) (m : BitVec 16) (h : s.reaches (pgSlice sl) a) :
    exec (.slcUnpin sl m a) s = .next (s.withBlk (s.blk.slcUnpin sl m.toNat).rest) :=
  exec_live h.1 rfl ((Block.fieldWrite_memory h (.inl (pageKind_pgSlice sl)) (by decide)).trans (congrArg Block.rest
    (Block.fieldsWrite_of_action (fieldsAt_unpin sl) rfl rfl rfl (by decide) (by decide) m.isLt (by simp [pageKind_pgSlice])
      (Block.trigger_unpin sl m.toNat) (Block.slcUnpin_zero _))))

theorem exec_chRetireReq (k : Fin 16) (m : BitVec 16) (h : s.reaches (pgMem k) a) :
    exec (.chRetireReq k m a) s = .next (s.withBlk (s.blk.chRetireReq k m.toNat).rest) :=
  exec_live h.1 rfl ((Block.fieldWrite_memory h (.inr (pageKind_pgMem k)) (by decide)).trans (congrArg Block.rest
    (Block.fieldsWrite_of_action (fieldsAt_chRetire k) rfl rfl rfl (by decide) (by decide) m.isLt (by simp [pageKind_pgMem])
      (Block.trigger_chRetire k m.toNat) (Block.chRetireReq_zero _))))

end Alone

/-! ### RETRAIN_REQ, in a word with two staged fields (R28, R221) -/

section Mixed
variable {s : State} {b : Block} {p : Nat} {a : Agent} {f g : Field} {i j off w v : Nat}

/-- One field of a register written as it reads. -/
def Block.rewriteOne (b : Block) (p : Nat) (x : Field × Nat) : Block :=
  if b.takes p x.1 then b.putPnd p x.1 (b.shown p x.1 x.2) x.2 else b

theorem Block.shown_rewriteOne (h : g.key j ≠ f.key i) : (b.rewriteOne p (f, i)).shown p g j = b.shown p g j := by
  unfold Block.rewriteOne
  split
  · rw [Block.shown_putPnd, if_neg (fun e => h e.2.2.2)]
  · rfl

/-- Beside an immediate field, a staged field that the word leaves as it reads is stored where it is taken, and not refused elsewhere. -/
theorem Block.stagedWrite_standing (hacc : f.acc = .rw) (hsame : b.afterWord p off w f i = b.shown p f i)
    (hok : b.valueOk p f i off (b.shown p f i) (b.afterWord p off w) a = true) : b.stagedWrite p f i off w true a = b.rewriteOne p (f, i) := by
  unfold Block.stagedWrite Block.rewriteOne
  cases ht : b.takes p f <;> simp [hacc, hsame, hok]

/-- The value of a staged field that lies within a word, once the word is written. -/
theorem Block.afterWord_of_covers (hkind : f.kind ≠ .imm) (hcov : f.cover i off = (0, f.width)) (hs : b.shown p f i < 2 ^ f.width) :
    b.afterWord p off w f i = f.raw i off w := by
  have hraw : f.raw i off w < 2 ^ f.width := by
    rw [Field.raw, hcov]
    simpa [bits] using Nat.mod_lt _ (Nat.two_pow_pos f.width)
  rw [Block.afterWord, if_neg hkind, Field.over, hcov]
  simp [setBits, Nat.mod_one, Nat.mod_eq_of_lt hraw, Nat.div_eq_of_lt hs]

/-! A word that holds an immediate field that acts and two staged read-write ones -/

section Three
variable {x y : Field × Nat} (hf : fieldsAt p off = [(f, i), x, y]) (hacc : f.acc = .w1s) (hx : x.1.acc = .rw) (hy : y.1.acc = .rw)
include hf hacc hx hy

theorem Block.wordWith_three (hword : f.word i = off) : b.wordWith p f i v =
    f.intoWord i off (v % 2 ^ f.width) + x.1.intoWord x.2 off (b.readField p x.1 x.2) + y.1.intoWord y.2 off (b.readField p y.1 y.2) := by
  have hxf : x.1 ≠ f := fun e => by simp [e, hacc] at hx
  have hyf : y.1 ≠ f := fun e => by simp [e, hacc] at hy
  simp [Block.wordWith, hword, hf, hacc, hx, hy, hxf, hyf]

/-- The staged fields are written first, then the field that acts. -/
theorem Block.fieldsWrite_three (hkind : f.kind = .imm) (hxk : x.1.kind ≠ .imm) (hyk : y.1.kind ≠ .imm) : b.fieldsWrite p off w a =
    ((b.stagedWrite p x.1 x.2 off w true a).stagedWrite p y.1 y.2 off w true a).immWrite p f i off w a := by
  simp [Block.fieldsWrite, hf, hacc, hx, hy, hkind, hxk, hyk]

end Three

theorem fieldsAt_retrain (k : Fin 16) : fieldsAt (pgMem k) 0x4C =
    [(F.MEM_RETRAIN.RETRAIN_REQ, 0), (F.MEM_RETRAIN.RETRAIN_PERIOD, 0), (F.MEM_RETRAIN.RETRAIN_DTEMP, 0)] := by
  simp only [fieldsAt, fieldHere, pageKind_pgMem]
  cases decide (pgMem k = 0xC0) <;> decide

/-- A readable field of a memory controller reads its own value, but for the depth of the Score. -/
theorem Block.readField_mem (k : Fin 16) (hwo : f.acc ≠ .wo) (hdepth : f ≠ F.MEM_SCORE.SCORE_DEPTH) (hs : b.shown (pgMem k) f i < 2 ^ f.width) :
    b.readField (pgMem k) f i = b.shown (pgMem k) f i := by
  rw [Block.readField, if_neg hwo, Block.window?, pageKind_pgMem]
  simp only [if_neg hdepth, Option.getD_none, Nat.mod_eq_of_lt hs]

/-- The word that writes RETRAIN_REQ, the period and the temperature difference standing as they read. -/
theorem Block.wordWith_retrain (k : Fin 16) (m : BitVec 2) (hperiod : b.shown (pgMem k) F.MEM_RETRAIN.RETRAIN_PERIOD 0 < 2 ^ 8)
    (hdtemp : b.shown (pgMem k) F.MEM_RETRAIN.RETRAIN_DTEMP 0 < 2 ^ 8) :
    b.wordWith (pgMem k) F.MEM_RETRAIN.RETRAIN_REQ 0 m.toNat =
      m.toNat + b.shown (pgMem k) F.MEM_RETRAIN.RETRAIN_PERIOD 0 * 2 ^ 8 + b.shown (pgMem k) F.MEM_RETRAIN.RETRAIN_DTEMP 0 * 2 ^ 16 := by
  rw [Block.wordWith_three (fieldsAt_retrain k) rfl rfl rfl rfl, Block.readField_mem k (by decide) (by decide) hperiod,
    Block.readField_mem k (by decide) (by decide) hdtemp]
  generalize b.shown (pgMem k) F.MEM_RETRAIN.RETRAIN_PERIOD 0 = x at hperiod ⊢
  generalize b.shown (pgMem k) F.MEM_RETRAIN.RETRAIN_DTEMP 0 = y at hdtemp ⊢
  have hm := m.isLt
  simp [Field.intoWord, Field.key, F.MEM_RETRAIN.RETRAIN_REQ, F.MEM_RETRAIN.RETRAIN_PERIOD, F.MEM_RETRAIN.RETRAIN_DTEMP]
  omega

/-- What that word spells for each of its three fields. -/
theorem raw_retrain {m x y : Nat} (hm : m < 2 ^ 2) (hx : x < 2 ^ 8) (hy : y < 2 ^ 8) :
    F.MEM_RETRAIN.RETRAIN_REQ.raw 0 0x4C (m + x * 2 ^ 8 + y * 2 ^ 16) = m ∧
    F.MEM_RETRAIN.RETRAIN_PERIOD.raw 0 0x4C (m + x * 2 ^ 8 + y * 2 ^ 16) = x ∧
    F.MEM_RETRAIN.RETRAIN_DTEMP.raw 0 0x4C (m + x * 2 ^ 8 + y * 2 ^ 16) = y := by
  have hraw (w : Nat) : F.MEM_RETRAIN.RETRAIN_REQ.raw 0 0x4C w = w % 2 ^ 2 ∧ F.MEM_RETRAIN.RETRAIN_PERIOD.raw 0 0x4C w = w / 2 ^ 8 % 2 ^ 8 ∧
      F.MEM_RETRAIN.RETRAIN_DTEMP.raw 0 0x4C w = w / 2 ^ 16 % 2 ^ 8 := by
    simp [Field.raw, Field.cover, Field.key, F.MEM_RETRAIN.RETRAIN_REQ, F.MEM_RETRAIN.RETRAIN_PERIOD, F.MEM_RETRAIN.RETRAIN_DTEMP, bits]
  simp only [hraw]
  omega

/-- A memory controller takes a value in the stated range of any field but WR_LO. -/
theorem Block.valueOk_mem (k : Fin 16) (hwr : f ≠ F.MEM_X_SCHED.WR_LO) (hmin : f.min ≤ v) (hmax : v ≤ f.max) (after : Field → Nat → Nat) :
    b.valueOk (pgMem k) f i off v after a = true := by
  simp [Block.valueOk, hmin, hmax, Block.addrOk, addrRule, Block.rangeOk, pageKind_pgMem, hwr]

/-- A write to RETRAIN_REQ rewrites the staged fields of its word, and then requests the retrainings. -/
theorem Block.fieldsWrite_retrain (k : Fin 16) (m : BitVec 2)
    (hs : b.standing (pgMem k) [(F.MEM_RETRAIN.RETRAIN_PERIOD, 0), (F.MEM_RETRAIN.RETRAIN_DTEMP, 0)]) :
    b.fieldsWrite (pgMem k) 0x4C (b.wordWith (pgMem k) F.MEM_RETRAIN.RETRAIN_REQ 0 m.toNat) a =
      (b.rewritten (pgMem k) [(F.MEM_RETRAIN.RETRAIN_PERIOD, 0), (F.MEM_RETRAIN.RETRAIN_DTEMP, 0)]).retrainReq k m.toNat := by
  obtain ⟨hplt, hpmin, hpmax⟩ := hs (F.MEM_RETRAIN.RETRAIN_PERIOD, 0) (by simp)
  obtain ⟨hdlt, hdmin, hdmax⟩ := hs (F.MEM_RETRAIN.RETRAIN_DTEMP, 0) (by simp)
  obtain ⟨hreq, hperiod, hdtemp⟩ := raw_retrain m.isLt hplt hdlt
  rw [Block.wordWith_retrain k m hplt hdlt]
  set w := m.toNat + b.shown (pgMem k) F.MEM_RETRAIN.RETRAIN_PERIOD 0 * 2 ^ 8 + b.shown (pgMem k) F.MEM_RETRAIN.RETRAIN_DTEMP 0 * 2 ^ 16
  set b1 := b.rewriteOne (pgMem k) (F.MEM_RETRAIN.RETRAIN_PERIOD, 0)
  set b2 := b1.rewriteOne (pgMem k) (F.MEM_RETRAIN.RETRAIN_DTEMP, 0)
  have hshown : b1.shown (pgMem k) F.MEM_RETRAIN.RETRAIN_DTEMP 0 = b.shown (pgMem k) F.MEM_RETRAIN.RETRAIN_DTEMP 0 :=
    Block.shown_rewriteOne (by decide)
  have hfirst : b.stagedWrite (pgMem k) F.MEM_RETRAIN.RETRAIN_PERIOD 0 0x4C w true a = b1 :=
    Block.stagedWrite_standing rfl ((Block.afterWord_of_covers (by decide) (by decide) hplt).trans hperiod)
      (Block.valueOk_mem k (by decide) hpmin hpmax _)
  have hsecond : b1.stagedWrite (pgMem k) F.MEM_RETRAIN.RETRAIN_DTEMP 0 0x4C w true a = b2 :=
    Block.stagedWrite_standing rfl ((Block.afterWord_of_covers (by decide) (by decide) (hshown ▸ hdlt)).trans (hdtemp.trans hshown.symm))
      (Block.valueOk_mem k (by decide) (hshown ▸ hdmin) (hshown ▸ hdmax) _)
  have hact : b2.immWrite (pgMem k) F.MEM_RETRAIN.RETRAIN_REQ 0 0x4C w a = b2.retrainReq k m.toNat :=
    Block.immWrite_of_action hreq rfl (by simp [pageKind_pgMem]) (Block.trigger_retrain k m.toNat) (Block.retrainReq_zero _)
  show _ = b2.retrainReq k m.toNat
  rw [Block.fieldsWrite_three (fieldsAt_retrain k) rfl rfl rfl rfl (by decide) (by decide), hfirst, hsecond, hact]

theorem exec_memRetrainReq (k : Fin 16) (m : BitVec 2) (h : s.reaches (pgMem k) a)
    (hs : s.blk.standing (pgMem k) [(F.MEM_RETRAIN.RETRAIN_PERIOD, 0), (F.MEM_RETRAIN.RETRAIN_DTEMP, 0)]) :
    exec (.memRetrainReq k m a) s = .next (s.withBlk
      ((s.blk.rewritten (pgMem k) [(F.MEM_RETRAIN.RETRAIN_PERIOD, 0), (F.MEM_RETRAIN.RETRAIN_DTEMP, 0)]).retrainReq k m.toNat).rest) :=
  exec_live h.1 rfl ((Block.fieldWrite_memory h (.inr (pageKind_pgMem k)) (by decide)).trans (congrArg Block.rest
    (Block.fieldsWrite_retrain k m hs)))

end Mixed

end Sys2Proof.Machine
end

section
/-! SUPPORT. Slice fills, starvation, scrub, and the retraining and retirement of channel groups (R204, R215 to R222). -/
namespace Sys2Proof.Machine

/-! ### Fills, starvation and scrub -/

section Lines
variable {b : Block} {f : Fill} {p i off bad n : Nat}

theorem Block.sliceFill_of_next (hf : b.fills.find? (fun f => decide (f.slice = n)) = some f) : b.sliceFill n =
    if b.islandOpen (312 + n) = true ∧ b.fillOk n f.line f.readTick = true then
      (({ b with fills := b.fills.erase f } : Block).installLine n f.line f.part f.pin f.data).1
    else ({ b with fills := b.fills.erase f } : Block).bumpWrap (pgSlice n) F.SLC_PERF.NOFILL := by
  simp only [Block.sliceFill, hf, ← Bool.and_eq_true]
  rfl

/-- The block once an arbiter of a page has noted a request that is too old, before it counts (R215). -/
def Block.starved (b : Block) (p i : Nat) : Block := (b.modHdr p (fun h => { h with stall := setBits h.stall i 1 1 })).raise p 0

theorem Block.starve_mem (hk : pageKind p = .mem) (hi : i < 16) (hg : b.retraining (2 * (p - 0xC0) + i / 8) = false) :
    b.starve p i = (b.starved p i).bump p F.MEM_STARVE_CNT.STARVE_CNT := by
  simp only [Block.starve, hk]
  exact if_pos ⟨hi, by rw [hg]; rfl⟩

theorem Block.starve_slc (hk : pageKind p = .slc) (hi : i < 2) : b.starve p i = (b.starved p i).bump p F.SLC_STARVE_CNT.STARVE_CNT := by
  simp only [Block.starve, hk]
  exact if_pos hi

theorem Block.starve_fab (hk : pageKind p = .fab) (hi : i < 3) : b.starve p i = (b.starved p i).bump p F.FAB_QSTARVE_CNT.STARVE_CNT := by
  simp only [Block.starve, hk]
  exact if_pos hi

theorem Block.starve_clu (hk : pageKind p = .clu) (hi : i < 2) : b.starve p i = (b.starved p i).bump p F.CLU_STARVE_CNT.STARVE_CNT := by
  simp only [Block.starve, hk]
  exact if_pos (by rw [stallBits, hk]; exact hi)

/-- A line is corrected: its channel counts and reports it (R217). -/
def Block.lineCe (b : Block) (ch : Nat) : Block := (b.bump (pgMem (ch / 16)) F.MEM_ECC.CE_CNT (ch % 16)).reportPage (pgMem (ch / 16)) 0x0601 ch

theorem Block.scrub_of_clean (h : bad = 0 ∨ SMap.get false b.poison (off / 128) = true) : b.scrub off bad = b := if_pos h

section Unpoisoned
variable (hp : SMap.get false b.poison (off / 128) = false)
include hp

theorem Block.scrub_of_few (h1 : 1 ≤ bad) (h2 : bad ≤ 2) : b.scrub off bad = b.lineCe (b.channelOf off) :=
  (if_neg (by rw [hp]; simp; omega)).trans (if_pos h2)

theorem Block.scrub_of_detected (h3 : 3 ≤ bad) (h4 : bad ≤ 4) : b.scrub off bad = b.lineUe off :=
  (if_neg (by rw [hp]; simp; omega)).trans ((if_neg (by omega)).trans (if_pos h4))

/-- Of more wrong bytes than the code detects, any of the three outcomes may be. -/
theorem Block.scrub_of_many (h5 : 4 < bad) : b.scrub off bad = b.draw.2 ∨ b.scrub off bad = b.draw.2.lineCe (b.channelOf off) ∨
    b.scrub off bad = b.draw.2.lineUe off := by
  have hmany : b.scrub off bad = match (Config.freeWord b.draw.1).toNat % 3 with
      | 0 => b.draw.2
      | 1 => b.draw.2.lineCe (b.channelOf off)
      | _ => b.draw.2.lineUe off :=
    (if_neg (by rw [hp]; simp; omega)).trans ((if_neg (by omega)).trans (if_neg (by omega)))
  rw [hmany]
  split
  · exact .inl rfl
  · exact .inr (.inl rfl)
  · exact .inr (.inr rfl)

end Unpoisoned

end Lines

/-! ### Retraining (R221) -/

section Retrain
variable {b : Block} {g k temp mr4 : Nat}

/-- Reading the temperature leaves every field but its own two. -/
theorem Block.eff_memTemp {p i : Nat} {f : Field} (ht : f.key i ≠ F.MEM_TEMP.TEMP.key 0) (hr : f.key i ≠ F.MEM_TEMP.MR4_RATE.key 0) :
    (b.memTemp k temp mr4).eff p f i = b.eff p f i := by
  rw [Block.memTemp, Block.eff_put_of_ne _ _ _ _ _ _ _ _ (.inr hr), Block.eff_put_of_ne _ _ _ _ _ _ _ _ (.inr ht)]

theorem Block.groupRetired_memTemp (j : Nat) : (b.memTemp k temp mr4).groupRetired j = b.groupRetired j := by
  rw [Block.groupRetired, Block.eff_memTemp (by decide) (by decide)]; rfl

theorem Block.retraining_memTemp (j : Nat) : (b.memTemp k temp mr4).retraining j = b.retraining j := by
  rw [Block.retraining, Block.eff_memTemp (by decide) (by decide)]; rfl

theorem Block.retraining_any : (List.range 32).any (b.memTemp k temp mr4).retraining = true ↔ ∃ j : Fin 32, b.retraining j = true := by
  simp only [List.any_eq_true, List.mem_range, Block.retraining_memTemp]
  exact ⟨fun ⟨j, hj, h⟩ => ⟨⟨j, hj⟩, h⟩, fun ⟨j, h⟩ => ⟨j, j.isLt, h⟩⟩

theorem Block.retrainStart_of_free (hs : b.atStep = true) (hd : (b.memTemp (g / 2) temp mr4).retrainIsDue g = true)
    (hr : b.groupRetired g = false) (hnone : ∀ j : Fin 32, b.retraining j = false) : b.retrainStart g temp mr4 =
      ((b.memTemp (g / 2) temp mr4).setGroup g { b.group g with since := b.now }).putBit (pgMem (g / 2)) F.MEM_GRP_STATUS.RETRAINING (g % 2) true := by
  have hany : ¬ (List.range 32).any (b.memTemp (g / 2) temp mr4).retraining = true := fun h => by
    obtain ⟨j, hj⟩ := Block.retraining_any.1 h
    simp [hnone] at hj
  exact if_pos ⟨hs, hd, by rw [Block.groupRetired_memTemp, hr]; rfl, by simpa using hany⟩

theorem Block.retrainStart_of_not (h : b.atStep = false ∨ (b.memTemp (g / 2) temp mr4).retrainIsDue g = false ∨ b.groupRetired g = true ∨
    ∃ j : Fin 32, b.retraining j = true) : b.retrainStart g temp mr4 = b.memTemp (g / 2) temp mr4 := by
  refine if_neg fun ⟨hs, hd, hr, hnone⟩ => ?_
  rw [Block.groupRetired_memTemp] at hr
  rcases h with h | h | h | h
  · exact Bool.false_ne_true (h.symm.trans hs)
  · exact Bool.false_ne_true (h.symm.trans hd)
  · simp [h] at hr
  · simp [Block.retraining_any.2 h] at hnone

/-- The block once a group has stopped retraining and its controller has counted the stall, before the group learns how it went. -/
def Block.retrainEnded (b : Block) (g : Nat) : Block :=
  (b.putBit (pgMem (g / 2)) F.MEM_GRP_STATUS.RETRAINING (g % 2) false).bumpWrap (pgMem (g / 2)) F.MEM_PERF.RETRAIN_STALL 0
    ((b.now - (b.group g).since) * 4 / 3)

theorem Block.retrainDone_of_good (h : b.retraining g = true) : b.retrainDone g true = ((b.retrainEnded g).setGroup g
    { b.group g with fails := 0, retrainDue := false, lastTrain := b.now, lastTemp := b.eff (pgMem (g / 2)) F.MEM_TEMP.TEMP }).raise
      (pgMem (g / 2)) 3 :=
  if_neg (by simp [h])

theorem Block.retrainDone_of_bad (h : b.retraining g = true) : b.retrainDone g false = ((b.retrainEnded g).setGroup g
    { b.group g with fails := (b.group g).fails + 1, retrainDue := decide ((b.group g).fails + 1 < 3),
                     retireDue := (b.group g).retireDue || decide (3 ≤ (b.group g).fails + 1) }).reportPage (pgMem (g / 2)) 0x0607 (g % 2) :=
  if_neg (by simp [h])

end Retrain

/-! ### Retirement (R222) -/

section Retire
variable {b c : Block} {g : Nat}

/-- Remapping windows changes their memory, their poison and the queue of the freeze engine. -/
theorem Block.remapWindow_eq (w : Nat) : ∃ n m po q h,
    b.remapWindow w = { b with fresh := n, mem := m, poison := po, frzQueue := q, frzHeld := h } := by
  unfold Block.remapWindow
  simp only []
  split <;> exact ⟨_, _, _, _, _, rfl⟩

theorem Block.remapWindows_eq (ws : List Nat) : ∃ n m po q h,
    ws.foldl Block.remapWindow b = { b with fresh := n, mem := m, poison := po, frzQueue := q, frzHeld := h } := by
  induction ws generalizing b with
  | nil => exact ⟨_, _, _, _, _, rfl⟩
  | cons w ws ih =>
    obtain ⟨n, m, po, q, h, hw⟩ := Block.remapWindow_eq (b := b) w
    rw [List.foldl_cons, hw]
    exact ih

/-- The registers of a controller once one of its groups has retired: the group and its channels are marked, and it no longer retrains. -/
def Block.groupMarked (b : Block) (g : Nat) : Block :=
  let p := pgMem (g / 2)
  let b1 := (b.putBit p F.MEM_GRP_STATUS.GRP_RETIRED (g % 2) true).putBit p F.MEM_GRP_STATUS.RETRAINING (g % 2) false
  let b2 := b1.put p F.MEM_CH_STATUS.CH_RETIRED (setBits (b1.eff p F.MEM_CH_STATUS.CH_RETIRED) (8 * (g % 2)) 8 0xFF)
  b2.put p F.MEM_CH_STATUS.CH_UP (setBits (b2.eff p F.MEM_CH_STATUS.CH_UP) (8 * (g % 2)) 8 0)

/-- The marked controller once the group has nothing due any more and the event is latched, before the windows are remapped. -/
def Block.groupDropped (b : Block) (g : Nat) : Block :=
  ((b.groupMarked g).setGroup g { b.group g with retireDue := false, retrainDue := false }).raise (pgMem (g / 2)) 2

/-- The report of a group's retirement. -/
def retireReport (g : Nat) : Report :=
  { page := pgMem (g / 2), code := 0x0606, island := pageIsland (pgMem (g / 2)), detail := 0, part := none }

theorem Block.retireGroup_eq : ∃ n m po q h, b.retireGroup g =
    ({ b.groupDropped g with fresh := n, mem := m, poison := po, frzQueue := q, frzHeld := h } : Block).report (retireReport g) := by
  obtain ⟨n, m, po, q, h, he⟩ := Block.remapWindows_eq (b := b.groupDropped g) (g :: (b.ownerSet g).filter (fun w => decide (w ≠ g)))
  exact ⟨n, m, po, q, h, congrArg (Block.report · (retireReport g)) he⟩

theorem Block.eff_retireGroup (p : Nat) (f : Field) (i : Nat) : (b.retireGroup g).eff p f i = (b.groupMarked g).eff p f i := by
  obtain ⟨n, m, po, q, h, he⟩ := Block.retireGroup_eq (b := b) (g := g)
  rw [he, Block.eff_report]
  exact Block.eff_raise ..

/-- A bit within the width of a field reads as it was put. -/
theorem Block.bit_eff_putBit {p i : Nat} {f : Field} {v : Bool} (hk : f.kind = .imm) (hi : i < f.width) :
    bit ((b.putBit p f i v).eff p f) i = v := by
  rw [Block.putBit, Block.eff_put_same _ _ _ _ _ hk, bit, Nat.testBit_mod_two_pow, decide_eq_true hi, Bool.true_and]
  exact (bit_setBits_b2n (b.eff p f) i i v).trans (if_pos rfl)

theorem Block.eff_putBit_of_ne {p i : Nat} {f r : Field} {v : Bool} (h : r.key 0 ≠ f.key 0) : (b.putBit p f i v).eff p r = b.eff p r :=
  Block.eff_put_of_ne _ _ _ _ _ _ _ _ (.inr h)

theorem Block.eff_groupMarked {f : Field} (hr : f.key 0 ≠ F.MEM_CH_STATUS.CH_RETIRED.key 0) (hu : f.key 0 ≠ F.MEM_CH_STATUS.CH_UP.key 0) :
    (b.groupMarked g).eff (pgMem (g / 2)) f = ((b.putBit (pgMem (g / 2)) F.MEM_GRP_STATUS.GRP_RETIRED (g % 2) true).putBit (pgMem (g / 2))
      F.MEM_GRP_STATUS.RETRAINING (g % 2) false).eff (pgMem (g / 2)) f := by
  rw [Block.groupMarked, Block.eff_put_of_ne _ _ _ _ _ _ _ _ (.inr hu), Block.eff_put_of_ne _ _ _ _ _ _ _ _ (.inr hr)]

theorem Block.groupRetired_retireGroup : (b.retireGroup g).groupRetired g = true := by
  rw [Block.groupRetired, Block.eff_retireGroup, Block.eff_groupMarked (by decide) (by decide), Block.eff_putBit_of_ne (by decide)]
  exact Block.bit_eff_putBit rfl (Nat.mod_lt g two_pos)

theorem Block.retraining_retireGroup : (b.retireGroup g).retraining g = false := by
  rw [Block.retraining, Block.eff_retireGroup, Block.eff_groupMarked (by decide) (by decide)]
  exact Block.bit_eff_putBit rfl (Nat.mod_lt g two_pos)

@[simp] theorem Block.raise_groups (p i : Nat) : (b.raise p i).groups = b.groups := by
  obtain ⟨ps, o, e, h⟩ := Block.raise_eq (b := b) (p := p) (i := i)
  rw [h]

theorem Block.retireDue_retireGroup : ((b.retireGroup g).group g).retireDue = false := by
  obtain ⟨n, m, po, q, h, he⟩ := Block.retireGroup_eq (b := b) (g := g)
  have hgroups : (b.retireGroup g).groups = SMap.set b.groups g { b.group g with retireDue := false, retrainDue := false } := by
    rw [he]
    exact Block.raise_groups ..
  rw [Block.group, hgroups, SMap.get_set_same]

theorem Block.isr_retireGroup : bit ((b.retireGroup g).hdr (pgMem (g / 2))).isr 2 = true := by
  obtain ⟨n, m, po, q, h, he⟩ := Block.retireGroup_eq (b := b) (g := g)
  have hraised : bit ((b.groupDropped g).hdr (pgMem (g / 2))).isr 2 = true := by
    rw [Block.groupDropped, Block.hdr_raise, if_pos rfl, bit_setBits_one]
    simp
  rw [he, Block.hdr_report, retireReport, if_pos rfl, Block.summarise_isr]
  exact hraised

theorem pageIsland_pgMem {k : Nat} (h : k < 16) : pageIsland (pgMem k) = 344 + k := by
  rw [pageIsland, pageKind_pgMem ⟨k, h⟩, pgMem, Nat.add_sub_cancel_left]

theorem Block.reports_retireGroup (hg : g < 32) : (b.retireGroup g).reports = b.reports ++ [(b.hearthAt (344 + g / 2), retireReport g)] := by
  obtain ⟨n, m, po, q, h, he⟩ := Block.retireGroup_eq (b := b) (g := g)
  have hold : (b.groupDropped g).reports = b.reports := Block.raise_reports ..
  have htb : (b.groupDropped g).tb = b.tb := Block.raise_tb ..
  rw [he, Block.report_reports]
  simp only [Block.hearthAt, hold, htb, retireReport, pageIsland_pgMem (show g / 2 < 16 by omega)]

theorem Block.groupRetire_of_due (hd : (b.group g).retireDue = true) (hs : b.atStep = true) (hr : b.groupRetired g = false) :
    b.groupRetire g = b.retireGroup g :=
  if_pos ⟨hd, hs, by rw [hr]; rfl⟩

end Retire

/-- Settles O38: each command meets the guard of its operation, whose lemma gives the block after. -/
theorem memoryIsRepaired : Obligations.MemoryIsRepaired := by
  unfold Obligations.MemoryIsRepaired
  intro s sl g k m16 m2 a p i off bad temp mr4 hlive
  refine ⟨fun f hf => ⟨fun ho hok => ?installed, fun hno => ?refused⟩, fun hreach => exec_slcUnpin sl m16 hreach,
    ⟨fun hk hg => ?mem, fun hk hi => ?slc, fun hk hi => ?fab, fun hk hi => ?clu⟩,
    ⟨fun hclean => ?clean, fun hp h1 h2 => ?few, fun hp h5 => ?many, fun hp h3 h4 => ?detected⟩,
    fun hreach hs => exec_memRetrainReq k m2 hreach hs, fun hreach => exec_chRetireReq k m16 hreach,
    ⟨fun h => ?notStarted, fun hs hd hr hnone => ?started⟩, fun h => ⟨?good, ?bad⟩, fun hd hs hr => ?retired⟩
  case installed => exact exec_live hlive rfl ((Block.sliceFill_of_next hf).trans (if_pos ⟨ho, hok⟩))
  case refused =>
    refine exec_live hlive rfl ((Block.sliceFill_of_next hf).trans (if_neg fun ⟨ho, hok⟩ => ?_))
    rcases hno with h | h
    · exact Bool.false_ne_true (h.symm.trans ho)
    · exact Bool.false_ne_true (h.symm.trans hok)
  case mem => exact exec_live hlive rfl (Block.starve_mem hk i.isLt hg)
  case slc => exact exec_live hlive rfl (Block.starve_slc hk hi)
  case fab => exact exec_live hlive rfl (Block.starve_fab hk hi)
  case clu => exact exec_live hlive rfl (Block.starve_clu hk hi)
  case clean => exact exec_live hlive rfl (Block.scrub_of_clean (hclean.imp_left (congrArg Fin.val)))
  case few => exact exec_live hlive rfl (Block.scrub_of_few hp h1 h2)
  case many =>
    exact (Block.scrub_of_many hp h5).imp (exec_live hlive rfl) (Or.imp (exec_live hlive rfl) (exec_live hlive rfl))
  case detected => exact exec_live hlive rfl (Block.scrub_of_detected hp h3 h4)
  case notStarted => exact exec_live hlive rfl (Block.retrainStart_of_not h)
  case started => exact exec_live hlive rfl (Block.retrainStart_of_free hs hd hr hnone)
  case good => exact exec_live hlive rfl (Block.retrainDone_of_good h)
  case bad => exact exec_live hlive rfl (Block.retrainDone_of_bad h)
  case retired =>
    exact ⟨_, exec_live hlive rfl (congrArg Block.rest (Block.groupRetire_of_due hd hs hr)), rfl, Block.groupRetired_retireGroup,
      Block.retraining_retireGroup, Block.retireDue_retireGroup, Block.isr_retireGroup, retireReport g, Block.reports_retireGroup g.isLt, rfl, rfl⟩

end Sys2Proof.Machine
end

section
/-! SUPPORT. Words of registers whose fields are written together: what a word spells for a field that lies within it, events that are
raised twice, and fields as they read once others are put (R11, R17, R27, R28). -/
namespace Sys2Proof.Machine

/-! ### A field that lies within a word -/

section Within
variable {f : Field} {i off lo w v : Nat} (hkey : f.key i = off * 8 + lo)
include hkey

theorem Field.intoWord_of_within : f.intoWord i off v = v * 2 ^ lo % 2 ^ 32 := by
  rw [Field.intoWord, if_pos (by omega), hkey, Nat.add_sub_cancel_left]

variable (hfit : lo + f.width ≤ 32)
include hfit

theorem Field.cover_of_within : f.cover i off = (0, f.width) := by
  simp only [Field.cover, hkey, Nat.sub_self_add, Nat.add_sub_cancel_left, Nat.sub_zero, Prod.mk.injEq, true_and]
  exact Nat.min_eq_left (by omega)

theorem Field.raw_of_within : f.raw i off w = w / 2 ^ lo % 2 ^ f.width := by
  rw [Field.raw, Field.cover_of_within hkey hfit]
  simp [hkey, bits]

end Within

section Values
variable {b : Block} {p i off w v : Nat} {f : Field} {a : Agent}

/-- A word replaces the whole of a field that lies within it. -/
theorem Field.over_of_covers (hcov : f.cover i off = (0, f.width)) (hv : v < 2 ^ f.width) : f.over i off w v = f.raw i off w := by
  have hraw : f.raw i off w < 2 ^ f.width := by
    rw [Field.raw, hcov]
    simpa [bits] using Nat.mod_lt _ (Nat.two_pow_pos f.width)
  rw [Field.over, hcov]
  simp [setBits, Nat.mod_one, Nat.mod_eq_of_lt hraw, Nat.div_eq_of_lt hv]

theorem Block.readField_lt : b.readField p f i < 2 ^ f.width := by
  unfold Block.readField
  split
  · exact Nat.two_pow_pos _
  · exact Nat.mod_lt _ (Nat.two_pow_pos _)

theorem Block.afterWord_of_imm (hkind : f.kind = .imm) (hcov : f.cover i off = (0, f.width)) : b.afterWord p off w f i = f.raw i off w := by
  rw [Block.afterWord, if_pos hkind, Field.over_of_covers hcov Block.readField_lt]

/-- A readable field that shows no other state reads its own value. -/
theorem Block.readField_own (hwo : f.acc ≠ .wo) (hwin : b.window? p f i = none) (hs : b.shown p f i < 2 ^ f.width) :
    b.readField p f i = b.shown p f i := by
  rw [Block.readField, if_neg hwo, hwin]
  exact Nat.mod_eq_of_lt hs

/-- A value within the stated range of a field that has no other rule is taken. -/
theorem Block.valueOk_of_free {after : Field → Nat → Nat} (haddr : addrRule (pageKind p) f = none) (hrange : b.rangeOk p f i off v after a = true)
    (hmin : f.min ≤ v) (hmax : v ≤ f.max) : b.valueOk p f i off v after a = true := by
  simp [Block.valueOk, Block.addrOk, haddr, hrange, hmin, hmax]

/-! ### Staged fields that a word leaves as they read -/

theorem Block.takes_congr {g : Field} (h : f.kind = g.kind) : b.takes p f = b.takes p g := by rw [Block.takes, Block.takes, h]

theorem Block.takes_rewriteOne {g : Field} {x : Field × Nat} : (b.rewriteOne p x).takes p g = b.takes p g := by
  unfold Block.rewriteOne
  split
  · simp only [Block.takes, Block.hdr_putPnd]; rfl
  · rfl

/-- A word written to a page leaves a staged field as it reads: the page takes the field, the word spells the value that is shown, and no
rule refuses that value. -/
structure Block.Leaves (b : Block) (p off w : Nat) (a : Agent) (x : Field × Nat) : Prop where
  acc : x.1.acc = .rw
  kind : x.1.kind ≠ .imm
  takes : b.takes p x.1 = true
  spells : x.1.over x.2 off w (b.shown p x.1 x.2) = b.shown p x.1 x.2
  ok : ∀ (c : Block) (after : Field → Nat → Nat), c.valueOk p x.1 x.2 off (b.shown p x.1 x.2) after a = true

section Leaves
variable {x y : Field × Nat}

theorem Block.Leaves.afterWord (h : b.Leaves p off w a x) : b.afterWord p off w x.1 x.2 = b.shown p x.1 x.2 := by
  rw [Block.afterWord, if_neg h.kind, h.spells]

theorem Block.Leaves.wordOk (h : b.Leaves p off w a x) : b.wordOk p off w x.1 x.2 a = true := by
  rw [Block.wordOk, h.afterWord, h.ok]

theorem Block.Leaves.stagedWrite (h : b.Leaves p off w a x) : b.stagedWrite p x.1 x.2 off w false a = b.rewriteOne p x := by
  rw [Block.stagedWrite_rw h.acc, if_pos ⟨h.takes, h.wordOk⟩, h.afterWord, Block.rewriteOne, if_pos h.takes]

/-- Rewriting one field leaves the next one to be written. -/
theorem Block.Leaves.rewriteOne (h : b.Leaves p off w a x) (hne : x.1.key x.2 ≠ y.1.key y.2) : (b.rewriteOne p y).Leaves p off w a x := by
  have hshown : (b.rewriteOne p y).shown p x.1 x.2 = b.shown p x.1 x.2 := Block.shown_rewriteOne hne
  exact ⟨h.acc, h.kind, Block.takes_rewriteOne.trans h.takes, by rw [hshown, h.spells], by rw [hshown]; exact h.ok⟩

theorem Block.writeOutside_of_leaves {l : List (Field × Nat)} (h : ∀ x ∈ l, b.Leaves p off w a x) : b.writeOutside p off w l a = false := by
  simp only [Block.writeOutside, List.any_eq_false]
  intro x hx
  simp [show b.valueOk p x.1 x.2 off _ _ a = true from (h x hx).wordOk]

/-- The staged fields that a word leaves as they read are rewritten one after the other. -/
theorem Block.foldl_stagedWrite {l : List (Field × Nat)} (hne : l.Pairwise (fun x y => y.1.key y.2 ≠ x.1.key x.2))
    (h : ∀ x ∈ l, b.Leaves p off w a x) : l.foldl (fun c x => c.stagedWrite p x.1 x.2 off w false a) b = b.rewritten p l := by
  induction l generalizing b with
  | nil => rfl
  | cons x l ih =>
    obtain ⟨hx, hl⟩ := List.pairwise_cons.1 hne
    rw [List.foldl_cons, (h x List.mem_cons_self).stagedWrite]
    exact ih hl fun y hy => (h y (List.mem_cons_of_mem _ hy)).rewriteOne (hx y hy)

end Leaves

/-- A staged field that its block does not take refuses the write, unless it would act and is not spelled. -/
theorem Block.stagedWrite_refused (ht : b.takes p f = false) (hraw : f.acc = .w1s → f.raw i off w ≠ 0) :
    b.stagedWrite p f i off w false a = b.cfgReject p := by
  simp only [Block.stagedWrite]
  rw [if_neg fun h => hraw h.1 h.2]
  simp [ht]

end Values

/-- In a word whose writable fields are an immediate one and a staged one, both read-write, each acts on its own, in this order. -/
theorem Block.fieldsWrite_beside {b : Block} {p off w i j : Nat} {f g : Field} {a : Agent}
    (hf : (fieldsAt p off).filter (fun x => decide (x.1.acc ≠ .ro)) = [(f, i), (g, j)]) (hacc : f.acc = .rw) (hacc' : g.acc = .rw)
    (hkind : f.kind = .imm) (hkind' : g.kind ≠ .imm) :
    b.fieldsWrite p off w a = (b.immWrite p f i off w a).stagedWrite p g j off w true a := by
  unfold Block.fieldsWrite
  simp only [hf]
  simp [hacc, hacc', hkind, hkind']

/-! ### Events and immediate fields beside staged ones -/

section Raise
variable {b : Block} {p q i j v : Nat} {f g : Field}

theorem setBits_one_idem (x k : Nat) : setBits (setBits x k 1 1) k 1 1 = setBits x k 1 1 := by
  refine Nat.eq_of_testBit_eq fun m => ?_
  have h (y : Nat) := bit_setBits_one y k m
  simp only [bit] at h
  rw [h, h, Bool.or_assoc, Bool.or_self]

/-- What an event leaves of its own page: the header, and every field. -/
theorem Block.page_raise : (b.raise p i).page p = { b.page p with hdr := { b.hdr p with isr := setBits (b.hdr p).isr i 1 1 } } := by
  unfold Block.raise
  simp only []
  split
  · rw [Block.msix_page, Block.page_modHdr_same]
  · rw [Block.page_modHdr_same]

theorem Block.raise_eq_setPage : ∃ c : Block, b.raise p i = c.setPage p ((b.raise p i).page p) := by
  have hset {d : Block} {r : PageRegs} (h : b.raise p i = d.setPage p r) : b.raise p i = d.setPage p ((b.raise p i).page p) := by
    rw [h, Block.page_setPage_same]
  by_cases hs : (b.hdr p).isr &&& (b.hdr p).ier = 0 ∧ bit (b.hdr p).ier i = true
  · exact ⟨_, hset ((Block.raise_sends hs.1 hs.2).trans (Block.msix_setPage ..))⟩
  · exact ⟨b, hset (Block.raise_silent (by by_cases h0 : (b.hdr p).isr &&& (b.hdr p).ier = 0 <;> simp_all))⟩

/-- An event that is latched already changes nothing (R17). -/
theorem Block.raise_raise : (b.raise p i).raise p i = b.raise p i := by
  have hhdr : (b.raise p i).hdr p = { b.hdr p with isr := setBits (b.hdr p).isr i 1 1 } := by rw [Block.hdr_raise, if_pos rfl]
  have hsilent : ((b.raise p i).hdr p).isr &&& ((b.raise p i).hdr p).ier ≠ 0 ∨ bit ((b.raise p i).hdr p).ier i = false := by
    rw [hhdr]
    by_cases hi : bit (b.hdr p).ier i = true
    · exact .inl (setBits_one_and_ne_zero hi)
    · exact .inr (Bool.not_eq_true _ ▸ hi)
  rw [Block.raise_silent hsilent, Block.modHdr]
  have hpage : { (b.raise p i).page p with hdr := { (b.raise p i).hdr p with isr := setBits ((b.raise p i).hdr p).isr i 1 1 } } =
      (b.raise p i).page p := by
    rw [hhdr, setBits_one_idem, Block.page_raise]
  rw [hpage]
  obtain ⟨c, hc⟩ := Block.raise_eq_setPage (b := b) (p := p) (i := i)
  generalize (b.raise p i).page p = r at hc ⊢
  rw [hc, Block.setPage_setPage]

theorem Block.cfgReject_cfgReject : (b.cfgReject p).cfgReject p = b.cfgReject p := Block.raise_raise

theorem Block.takes_cfgReject : (b.cfgReject p).takes p f = b.takes p f := by
  obtain ⟨ps, o, e, h⟩ := Block.raise_eq (b := b) (p := p) (i := evCfgReject)
  have hupd : (b.cfgReject p).upd = b.upd := by rw [Block.cfgReject, h]
  rw [Block.takes, Block.takes, hupd, Block.cfgReject, Block.hdr_raise, if_pos rfl]

theorem Block.shown_cfgReject : (b.cfgReject p).shown p f i = b.shown p f i := by
  rw [Block.shown_eq, Block.shown_eq, Block.cfgReject, Block.hdr_raise, if_pos rfl, Block.page_raise]

/-- Putting an immediate field leaves every staged one as it reads. -/
theorem Block.shown_put_of_staged (h : f.kind ≠ .imm) : (b.put p g v j).shown p f i = b.shown p f i := by
  rw [Block.shown_of_staged i h, Block.shown_of_staged i h, Block.hdr_put, Block.put, Block.page_setPage_same]

end Raise

/-- A field of the KV manager or of expert routing beyond the header is written by the fields of its word. -/
theorem Block.fieldWrite_kvm_moe {s : State} {p i v : Nat} {f : Field} {a : Agent} (h : s.reaches p a) (hp : p = pgKvm ∨ p = pgMoe)
    (ho : 0x40 ≤ f.word i) : s.blk.fieldWrite p f i v a = (s.blk.fieldsWrite p (f.word i) (s.blk.wordWith p f i v) a).rest := by
  refine Block.writeWord_fields h ?_ ho ?_ ?_ ?_ <;> rcases hp with rfl | rfl <;> simp [pageKind, pgKvm, pgMoe]

end Sys2Proof.Machine
end

section
/-! SUPPORT. KV pools and pages, the prefix table, the placement table and the plan of a layer (R231, R236, R245, R251, R264, R265, R276). -/
namespace Sys2Proof.Machine

/-! ### Ends that the freeze engine reports to the KV manager (R231, R236, R245) -/

section Done
variable {b : Block} {k p st q i : Nat}

theorem Block.poolInitDone_of_stopped (h : b.kvmWorks = false) : b.poolInitDone k = b := if_pos (by simp [h])
theorem Block.pageThawDone_of_stopped (h : b.kvmWorks = false) : b.pageThawDone k p = b := if_pos (by simp [h])
theorem Block.kvFreezeDone_of_stopped (h : b.kvmWorks = false) : b.kvFreezeDone q i p = b := if_pos (by simp [h])

theorem Block.poolInitDone_of_done (hw : b.kvmWorks = true) (hi : b.poolState k = poINIT) (hd : b.takeDone (.poolInit k) = some st) :
    b.poolInitDone k =
      if st = 0 then ((b.dropDone (.poolInit k)).put pgKvm F.KVM_FREE.FREE (b.pool k).pages k).setPoolState k poON
      else (b.dropDone (.poolInit k)).askPoolInit k := by
  rw [Block.poolInitDone, if_neg (by simp [hw, hi]), hd]

theorem Block.pageThawDone_of_done (hw : b.kvmWorks = true) (hd : b.takeDone (.kvThaw k p) = some st) : b.pageThawDone k p =
    if st = 0 then (b.dropDone (.kvThaw k p)).pushPage k p else (b.dropDone (.kvThaw k p)).askPageThaw k p := by
  rw [Block.pageThawDone, if_neg (by simp [hw]), hd]

section Freeze
variable (hw : b.kvmWorks = true) (hd : b.takeDone (.kvPage q i p) = some st)
include hw hd

/-- The freeze of a page that its sequence holds no more, or that was aborted, is forgotten. -/
theorem Block.kvFreezeDone_of_lost (h : st ≠ 0 ∨ (b.seqRec q).valid = false ∨ (b.seqRec q).held ≤ i ∨ b.plEntry q i ≠ p) :
    b.kvFreezeDone q i p = b.dropDone (.kvPage q i p) := by
  rw [Block.kvFreezeDone, if_neg (by simp [hw]), hd]
  exact if_pos (by simpa using h)

/-- The page after the leading frozen ones joins them, and the prefix table. -/
theorem Block.kvFreezeDone_of_next (hst : st = 0) (hv : (b.seqRec q).valid = true) (hi : i < (b.seqRec q).held) (hp : b.plEntry q i = p)
    (hf : (b.seqRec q).frozen = i) {c : Block} (hc : c = (b.dropDone (.kvPage q i p)).setSeqRec q { b.seqRec q with frozen := i + 1 }) :
    b.kvFreezeDone q i p = c.pfxInsert (c.pool (b.seqRec q).pool).part q i (c.cxModel (c.pool (b.seqRec q).pool).part q)
      (c.bake (c.pool (b.seqRec q).pool).part).bakeNo := by
  subst hc
  rw [Block.kvFreezeDone, if_neg (by simp [hw]), hd]
  exact (if_neg (by simp [hst, hv, hi, hp])).trans (if_neg (by simp [hf]))

end Freeze

end Done

/-! ### CLEAR of the prefix table, in a word with three staged fields (R251) -/

section Clear
variable {s : State} {b : Block} {a : Agent} {off w x y z : Nat}

/-- The staged fields that a write of CLEAR leaves as they read. -/
def pfxFields (k : Nat) : List (Field × Nat) := [(F.KVM_PFX_CFG.PREFIX_EN, k), (F.KVM_PFX_CFG.VERIFY, k), (F.KVM_PFX_CFG.BLOCK_LOG2, k)]

theorem fieldsAt_pfxCfg (k : Fin 16) : fieldsAt pgKvm (0x180 + 4 * k) = pfxFields k ++ [(F.KVM_PFX_CFG.CLEAR, k.val)] := by
  revert k; decide

theorem word_pfxClear (k : Nat) : F.KVM_PFX_CFG.CLEAR.word k = 0x180 + 4 * k := by
  simp only [Field.word, Field.key, F.KVM_PFX_CFG.CLEAR]; omega

theorem key_pfxCfg (k : Nat) : F.KVM_PFX_CFG.PREFIX_EN.key k = (0x180 + 4 * k) * 8 + 0 ∧ F.KVM_PFX_CFG.VERIFY.key k = (0x180 + 4 * k) * 8 + 1 ∧
    F.KVM_PFX_CFG.BLOCK_LOG2.key k = (0x180 + 4 * k) * 8 + 2 ∧ F.KVM_PFX_CFG.CLEAR.key k = (0x180 + 4 * k) * 8 + 6 := ⟨rfl, rfl, rfl, rfl⟩

/-- What the word that writes CLEAR spells for its four fields, the others at given values. -/
theorem raw_pfxCfg (k : Nat) (hx : x < 2) (hy : y < 2) (hz : z < 16) :
    F.KVM_PFX_CFG.PREFIX_EN.raw k (0x180 + 4 * k) (64 + x + y * 2 + z * 4) = x ∧
    F.KVM_PFX_CFG.VERIFY.raw k (0x180 + 4 * k) (64 + x + y * 2 + z * 4) = y ∧
    F.KVM_PFX_CFG.BLOCK_LOG2.raw k (0x180 + 4 * k) (64 + x + y * 2 + z * 4) = z ∧
    F.KVM_PFX_CFG.CLEAR.raw k (0x180 + 4 * k) (64 + x + y * 2 + z * 4) = 1 := by
  obtain ⟨hen, hverify, hlog, hclear⟩ := key_pfxCfg k
  rw [Field.raw_of_within hen (by decide), Field.raw_of_within hverify (by decide), Field.raw_of_within hlog (by decide),
    Field.raw_of_within hclear (by decide)]
  simp only [F.KVM_PFX_CFG.PREFIX_EN, F.KVM_PFX_CFG.VERIFY, F.KVM_PFX_CFG.BLOCK_LOG2, F.KVM_PFX_CFG.CLEAR]
  omega

theorem Block.wordWith_pfxClear (k : Fin 16) : b.wordWith pgKvm F.KVM_PFX_CFG.CLEAR k 1 = 64 + b.readField pgKvm F.KVM_PFX_CFG.PREFIX_EN k +
    b.readField pgKvm F.KVM_PFX_CFG.VERIFY k * 2 + b.readField pgKvm F.KVM_PFX_CFG.BLOCK_LOG2 k * 4 := by
  obtain ⟨hen, hverify, hlog, hclear⟩ := key_pfxCfg k
  have hx : b.readField pgKvm F.KVM_PFX_CFG.PREFIX_EN k < 2 := Block.readField_lt
  have hy : b.readField pgKvm F.KVM_PFX_CFG.VERIFY k < 2 := Block.readField_lt
  have hz : b.readField pgKvm F.KVM_PFX_CFG.BLOCK_LOG2 k < 16 := Block.readField_lt
  have hword : b.wordWith pgKvm F.KVM_PFX_CFG.CLEAR k 1 = F.KVM_PFX_CFG.CLEAR.intoWord k (0x180 + 4 * k) 1 +
      F.KVM_PFX_CFG.PREFIX_EN.intoWord k (0x180 + 4 * k) (b.readField pgKvm F.KVM_PFX_CFG.PREFIX_EN k) +
      F.KVM_PFX_CFG.VERIFY.intoWord k (0x180 + 4 * k) (b.readField pgKvm F.KVM_PFX_CFG.VERIFY k) +
      F.KVM_PFX_CFG.BLOCK_LOG2.intoWord k (0x180 + 4 * k) (b.readField pgKvm F.KVM_PFX_CFG.BLOCK_LOG2 k) := by
    simp only [Block.wordWith, word_pfxClear, fieldsAt_pfxCfg]
    rfl
  rw [hword, Field.intoWord_of_within hen, Field.intoWord_of_within hverify, Field.intoWord_of_within hlog, Field.intoWord_of_within hclear]
  omega

/-- A word of the prefix table's configuration is discarded whole for a value out of range; else CLEAR is written after the other three. -/
theorem Block.fieldsWrite_pfxCfg (k : Fin 16) : b.fieldsWrite pgKvm (0x180 + 4 * k) w a =
    if b.writeOutside pgKvm (0x180 + 4 * k) w (pfxFields k) a = true then b.cfgReject pgKvm
    else ((pfxFields k).foldl (fun c x => c.stagedWrite pgKvm x.1 x.2 (0x180 + 4 * k) w false a) b).stagedWrite pgKvm F.KVM_PFX_CFG.CLEAR k
      (0x180 + 4 * k) w false a := by
  unfold Block.fieldsWrite
  simp only [fieldsAt_pfxCfg]
  rfl

/-- Where the KV manager does not take staged fields, the word is refused, by each of its fields or whole. -/
theorem Block.fieldsWrite_pfxCfg_refused (k : Fin 16) (ht : b.takes pgKvm F.KVM_PFX_CFG.CLEAR = false)
    (hraw : F.KVM_PFX_CFG.CLEAR.raw k (0x180 + 4 * k) w ≠ 0) : b.fieldsWrite pgKvm (0x180 + 4 * k) w a = b.cfgReject pgKvm := by
  have hrefused {c : Block} {f : Field} (hc : c.takes pgKvm F.KVM_PFX_CFG.CLEAR = false) (hf : f.acc = .rw ∧ f.kind = .staged) :
      c.stagedWrite pgKvm f k (0x180 + 4 * k) w false a = c.cfgReject pgKvm :=
    Block.stagedWrite_refused ((Block.takes_congr hf.2).trans hc) (by simp [hf.1])
  have htr : (b.cfgReject pgKvm).takes pgKvm F.KVM_PFX_CFG.CLEAR = false := Block.takes_cfgReject.trans ht
  rw [Block.fieldsWrite_pfxCfg]
  split
  · rfl
  · simp only [pfxFields, List.foldl_cons, List.foldl_nil]
    rw [hrefused ht ⟨rfl, rfl⟩, hrefused htr ⟨rfl, rfl⟩, Block.cfgReject_cfgReject, hrefused htr ⟨rfl, rfl⟩, Block.cfgReject_cfgReject,
      Block.stagedWrite_refused htr fun _ => hraw, Block.cfgReject_cfgReject]

/-- Where it takes them, CLEAR is set in the pending set after the fields beside it are rewritten. -/
theorem Block.fieldsWrite_pfxCfg_taken (k : Fin 16) (ht : b.takes pgKvm F.KVM_PFX_CFG.CLEAR = true)
    (h : ∀ x ∈ pfxFields k, b.Leaves pgKvm (0x180 + 4 * k) w a x) (hraw : F.KVM_PFX_CFG.CLEAR.raw k (0x180 + 4 * k) w = 1) :
    b.fieldsWrite pgKvm (0x180 + 4 * k) w a =
      (b.rewritten pgKvm (pfxFields k)).putPnd pgKvm F.KVM_PFX_CFG.CLEAR (b.shown pgKvm F.KVM_PFX_CFG.CLEAR k ||| 1) k := by
  have hne : (pfxFields k).Pairwise (fun x y => y.1.key y.2 ≠ x.1.key x.2) := by
    obtain ⟨hen, hverify, hlog, -⟩ := key_pfxCfg k
    simp [pfxFields, hen, hverify, hlog]
  have hkept : (b.rewritten pgKvm (pfxFields k)).takes pgKvm F.KVM_PFX_CFG.CLEAR = true ∧
      (b.rewritten pgKvm (pfxFields k)).shown pgKvm F.KVM_PFX_CFG.CLEAR k = b.shown pgKvm F.KVM_PFX_CFG.CLEAR k := by
    obtain ⟨hen, hverify, hlog, hclear⟩ := key_pfxCfg k
    show Block.takes (((b.rewriteOne pgKvm _).rewriteOne pgKvm _).rewriteOne pgKvm _) _ _ = true ∧
      Block.shown (((b.rewriteOne pgKvm _).rewriteOne pgKvm _).rewriteOne pgKvm _) _ _ _ = _
    rw [Block.takes_rewriteOne, Block.takes_rewriteOne, Block.takes_rewriteOne, Block.shown_rewriteOne (by omega),
      Block.shown_rewriteOne (by omega), Block.shown_rewriteOne (by omega)]
    exact ⟨ht, rfl⟩
  have hw1s : F.KVM_PFX_CFG.CLEAR.acc = .w1s := rfl
  rw [Block.fieldsWrite_pfxCfg, Block.writeOutside_of_leaves h, if_neg (by decide), Block.foldl_stagedWrite hne h]
  simp [Block.stagedWrite, hw1s, hraw, hkept]

theorem Block.leaves_pfxFields (k : Fin 16) (ht : b.takes pgKvm F.KVM_PFX_CFG.CLEAR = true) (hs : b.standing pgKvm (pfxFields k)) :
    ∀ x ∈ pfxFields k, b.Leaves pgKvm (0x180 + 4 * k) (b.wordWith pgKvm F.KVM_PFX_CFG.CLEAR k 1) a x := by
  have hread {f : Field} (hf : f.acc = .rw) (hlt : b.shown pgKvm f k < 2 ^ f.width) : b.readField pgKvm f k = b.shown pgKvm f k :=
    Block.readField_own (by simp [hf]) rfl hlt
  have hleaves {f : Field} {lo : Nat} (hacc : f.acc = .rw) (hkind : f.kind = .staged) (haddr : addrRule .kvm f = none)
      (hkey : f.key k = (0x180 + 4 * k) * 8 + lo) (hfit : lo + f.width ≤ 32) (hmem : (f, k.val) ∈ pfxFields k)
      (hraw : f.raw k (0x180 + 4 * k) (b.wordWith pgKvm F.KVM_PFX_CFG.CLEAR k 1) = b.readField pgKvm f k) :
      b.Leaves pgKvm (0x180 + 4 * k) (b.wordWith pgKvm F.KVM_PFX_CFG.CLEAR k 1) a (f, k.val) := by
    obtain ⟨hlt, hmin, hmax⟩ := hs _ hmem
    exact ⟨hacc, by simp [hkind], (Block.takes_congr hkind).trans ht,
      (Field.over_of_covers (Field.cover_of_within hkey hfit) hlt).trans (hraw.trans (hread hacc hlt)),
      fun _ _ => Block.valueOk_of_free haddr rfl hmin hmax⟩
  obtain ⟨hen, hverify, hlog, -⟩ := key_pfxCfg k
  obtain ⟨hren, hrverify, hrlog, -⟩ := raw_pfxCfg k (x := b.readField pgKvm F.KVM_PFX_CFG.PREFIX_EN k)
    (y := b.readField pgKvm F.KVM_PFX_CFG.VERIFY k) (z := b.readField pgKvm F.KVM_PFX_CFG.BLOCK_LOG2 k)
    Block.readField_lt Block.readField_lt Block.readField_lt
  rw [← Block.wordWith_pfxClear] at hren hrverify hrlog
  intro x hx
  simp only [pfxFields, List.mem_cons, List.not_mem_nil, or_false] at hx
  rcases hx with rfl | rfl | rfl
  · exact hleaves rfl rfl (by decide) hen (by decide) (by simp [pfxFields]) hren
  · exact hleaves rfl rfl (by decide) hverify (by decide) (by simp [pfxFields]) hrverify
  · exact hleaves rfl rfl (by decide) hlog (by decide) (by simp [pfxFields]) hrlog

theorem Block.raw_wordWith_pfxClear (k : Fin 16) :
    F.KVM_PFX_CFG.CLEAR.raw k (0x180 + 4 * k) (b.wordWith pgKvm F.KVM_PFX_CFG.CLEAR k 1) = 1 := by
  rw [Block.wordWith_pfxClear]
  obtain ⟨-, -, -, hclear⟩ := raw_pfxCfg k (Block.readField_lt (b := b) (p := pgKvm) (f := F.KVM_PFX_CFG.PREFIX_EN) (i := k))
    (Block.readField_lt (b := b) (p := pgKvm) (f := F.KVM_PFX_CFG.VERIFY) (i := k)) (Block.readField_lt (f := F.KVM_PFX_CFG.BLOCK_LOG2))
  exact hclear

theorem Block.fieldWrite_pfxClear (k : Fin 16) (h : s.reaches pgKvm a) : s.blk.fieldWrite pgKvm F.KVM_PFX_CFG.CLEAR k 1 a =
    (s.blk.fieldsWrite pgKvm (0x180 + 4 * k) (s.blk.wordWith pgKvm F.KVM_PFX_CFG.CLEAR k 1) a).rest := by
  rw [Block.fieldWrite_kvm_moe h (.inl rfl) (by rw [word_pfxClear]; omega), word_pfxClear]

end Clear

/-! ### ARM of the placement table, in a word with a staged field (R264) -/

section Arm
variable {s : State} {b : Block} {a : Agent} {k off v w : Nat}

/-- The block once ARM is written: a package that is not ready does not arm a table. -/
def Block.armed (b : Block) (k v : Nat) : Block :=
  if v = 1 ∧ b.eff pgBoot F.BOOT_STAT.READY = 0 then b.cfgReject pgMoe else b.armWrite k v

theorem Block.armed_of_unready (h : b.eff pgBoot F.BOOT_STAT.READY = 0) : b.armed k 1 = b.cfgReject pgMoe := if_pos ⟨rfl, h⟩

theorem Block.armed_of_ready (h : b.eff pgBoot F.BOOT_STAT.READY ≠ 0) : b.armed k 1 =
    if b.eff pgMoe F.MOE_PCTL.ARM k = 1 then b
    else ((b.put pgMoe F.MOE_PCTL.ARM 1 k).put pgMoe F.MOE_PCTL.SWAP_ERR 0 k).put pgMoe F.MOE_PCTL.CHECKED 0 k :=
  if_neg fun hu => h hu.2

theorem Block.armed_zero : b.armed k 0 = (b.put pgMoe F.MOE_PCTL.ARM 0 k).put pgMoe F.MOE_PCTL.CHECKED 0 k := if_neg (by simp)

/-- Arming a table leaves the staged fields of the page as they read. -/
theorem Block.shown_armed {f : Field} {i : Nat} (hf : f.kind ≠ .imm) : (b.armed k v).shown pgMoe f i = b.shown pgMoe f i := by
  unfold Block.armed Block.armWrite
  split_ifs
  · exact Block.shown_cfgReject
  · rfl
  · rw [Block.shown_put_of_staged hf, Block.shown_put_of_staged hf, Block.shown_put_of_staged hf]
  · rw [Block.shown_put_of_staged hf, Block.shown_put_of_staged hf]

theorem fieldsAt_pctl (k : Fin 16) : fieldsAt pgMoe (0x11C + 32 * k) =
    [(F.MOE_PCTL.ARM, k.val), (F.MOE_PCTL.CHECKED, k.val), (F.MOE_PCTL.SWAP_ERR, k.val), (F.MOE_PCTL.OVERFLOW_ROUNDS_MAX, k.val)] := by
  revert k; decide

theorem word_arm (k : Nat) : F.MOE_PCTL.ARM.word k = 0x11C + 32 * k := by
  simp only [Field.word, Field.key, F.MOE_PCTL.ARM]; omega

theorem key_arm (k : Nat) : F.MOE_PCTL.ARM.key k = (0x11C + 32 * k) * 8 + 0 := rfl
theorem key_overflowRoundsMax (k : Nat) : F.MOE_PCTL.OVERFLOW_ROUNDS_MAX.key k = (0x11C + 32 * k) * 8 + 8 := rfl

theorem Block.wordWith_arm (k : Fin 16) (hv : v < 2) :
    b.wordWith pgMoe F.MOE_PCTL.ARM k v = v + b.readField pgMoe F.MOE_PCTL.OVERFLOW_ROUNDS_MAX k * 256 := by
  have hx : b.readField pgMoe F.MOE_PCTL.OVERFLOW_ROUNDS_MAX k < 16 := Block.readField_lt
  have hmod : v % 2 ^ F.MOE_PCTL.ARM.width = v := Nat.mod_eq_of_lt hv
  have hword : b.wordWith pgMoe F.MOE_PCTL.ARM k v = F.MOE_PCTL.ARM.intoWord k (0x11C + 32 * k) v +
      F.MOE_PCTL.OVERFLOW_ROUNDS_MAX.intoWord k (0x11C + 32 * k) (b.readField pgMoe F.MOE_PCTL.OVERFLOW_ROUNDS_MAX k) := by
    simp only [Block.wordWith, word_arm, fieldsAt_pctl, hmod, List.foldl_cons, List.foldl_nil]
    rfl
  rw [hword, Field.intoWord_of_within (key_arm k), Field.intoWord_of_within (key_overflowRoundsMax k)]
  omega

theorem raw_pctl {x : Nat} (k : Nat) (hv : v < 2) (hx : x < 16) :
    F.MOE_PCTL.ARM.raw k (0x11C + 32 * k) (v + x * 256) = v ∧ F.MOE_PCTL.OVERFLOW_ROUNDS_MAX.raw k (0x11C + 32 * k) (v + x * 256) = x := by
  rw [Field.raw_of_within (key_arm k) (by decide), Field.raw_of_within (key_overflowRoundsMax k) (by decide)]
  simp only [F.MOE_PCTL.ARM, F.MOE_PCTL.OVERFLOW_ROUNDS_MAX]
  omega

/-- A placement field without a rule of its own takes every value in its range. -/
theorem Block.valueOk_pctl {f : Field} {i : Nat} {after : Field → Nat → Nat} (hf : f = F.MOE_PCTL.ARM ∨ f = F.MOE_PCTL.OVERFLOW_ROUNDS_MAX)
    (hmin : f.min ≤ v) (hmax : v ≤ f.max) : b.valueOk pgMoe f i off v after a = true := by
  have hrule : f ≠ F.MOE_PLC_NEXT.PLC_NEXT ∧ f ≠ F.MOE_SWAP_BAKE.SWAP_BAKE ∧ f ≠ F.MOE_LOAD_BASE.LOAD_BASE := by
    rcases hf with rfl | rfl <;> decide
  have hpage : pageKind pgMoe = .moe := rfl
  exact Block.valueOk_of_free (by simp [addrRule, hpage, hrule]) (by simp [Block.rangeOk, hpage, hrule]) hmin hmax

/-- ARM takes its value before the staged field beside it. -/
theorem Block.fieldsWrite_pctl (k : Fin 16) : b.fieldsWrite pgMoe (0x11C + 32 * k) w a =
    (b.immWrite pgMoe F.MOE_PCTL.ARM k (0x11C + 32 * k) w a).stagedWrite pgMoe F.MOE_PCTL.OVERFLOW_ROUNDS_MAX k (0x11C + 32 * k) w true a :=
  Block.fieldsWrite_beside (by rw [fieldsAt_pctl]; rfl) rfl rfl rfl (by decide)

theorem Block.immWrite_arm (hraw : F.MOE_PCTL.ARM.raw k (0x11C + 32 * k) w = v) (hv : v < 2) :
    b.immWrite pgMoe F.MOE_PCTL.ARM k (0x11C + 32 * k) w a = b.armed k v := by
  have hafter : b.afterWord pgMoe (0x11C + 32 * k) w F.MOE_PCTL.ARM k = v :=
    (Block.afterWord_of_imm rfl (Field.cover_of_within (key_arm k) (by decide))).trans hraw
  have hok : b.valueOk pgMoe F.MOE_PCTL.ARM k (0x11C + 32 * k) v (b.afterWord pgMoe (0x11C + 32 * k) w) a = true :=
    Block.valueOk_pctl (.inl rfl) (Nat.zero_le v) (Nat.le_of_lt_succ hv)
  have hacc : F.MOE_PCTL.ARM.acc = .rw := rfl
  have hpage : pageKind pgMoe = .moe := rfl
  simp [Block.immWrite, Block.trigger, Block.putActing, Block.armed, hpage, hacc, hafter, hok]

theorem Block.fieldsWrite_arm (k : Fin 16) (hv : v < 2) (hs : b.standing pgMoe [(F.MOE_PCTL.OVERFLOW_ROUNDS_MAX, k.val)]) :
    b.fieldsWrite pgMoe (0x11C + 32 * k) (b.wordWith pgMoe F.MOE_PCTL.ARM k v) a =
      (b.armed k v).rewritten pgMoe [(F.MOE_PCTL.OVERFLOW_ROUNDS_MAX, k.val)] := by
  obtain ⟨hlt, hmin, hmax⟩ := hs _ List.mem_cons_self
  have hread : b.readField pgMoe F.MOE_PCTL.OVERFLOW_ROUNDS_MAX k = b.shown pgMoe F.MOE_PCTL.OVERFLOW_ROUNDS_MAX k :=
    Block.readField_own (by decide) rfl hlt
  have hshown : (b.armed k v).shown pgMoe F.MOE_PCTL.OVERFLOW_ROUNDS_MAX k = b.shown pgMoe F.MOE_PCTL.OVERFLOW_ROUNDS_MAX k :=
    Block.shown_armed (by decide)
  obtain ⟨hraw, hother⟩ := raw_pctl k hv hlt
  rw [Block.wordWith_arm k hv, hread, Block.fieldsWrite_pctl, Block.immWrite_arm hraw hv]
  refine Block.stagedWrite_standing rfl ?_ (Block.valueOk_pctl (.inr rfl) (hshown ▸ hmin) (hshown ▸ hmax))
  exact (Block.afterWord_of_covers (by decide) (Field.cover_of_within (key_overflowRoundsMax k) (by decide)) (hshown ▸ hlt)).trans
    (hother.trans hshown.symm)

theorem exec_arm (k : Fin 16) (x : Bool) (h : s.reaches pgMoe a) (hs : s.blk.standing pgMoe [(F.MOE_PCTL.OVERFLOW_ROUNDS_MAX, k.val)]) :
    exec (.arm k x a) s = .next (s.withBlk ((s.blk.armed k (b2n x)).rewritten pgMoe [(F.MOE_PCTL.OVERFLOW_ROUNDS_MAX, k.val)]).rest) := by
  refine exec_live h.1 rfl ?_
  rw [Block.fieldWrite_kvm_moe h (.inr rfl) (by rw [word_arm]; omega), word_arm, Block.fieldsWrite_arm k (by cases x <;> decide) hs]

end Arm

/-! ### The check of an armed table, and the swap (R264, R265) -/

section Check
variable {b : Block} {k p i n off : Nat} {f : Field}

theorem leNat_lt (l : List Byte) : leNat l < 256 ^ l.length := by
  induction l with
  | nil => exact Nat.one_pos
  | cons x l ih =>
    have hx := x.isLt
    rw [leNat, List.length_cons, pow_succ]
    omega

theorem Memory.read_length (m : Memory) (a n : Nat) : (m.read a n).length = n := by
  induction n generalizing a with
  | zero => rfl
  | succ n ih => exact congrArg (· + 1) (ih _)

theorem Block.m32_lt : b.m32 off < 2 ^ 32 := by
  simpa [Block.m32, Memory.read_length] using leNat_lt (b.mem.read off 4)

/-- Reading a structure of the package's own reports poison, and leaves every field and the memory as they are (R218). -/
theorem Block.watch_keeps : (b.watch off n).mem = b.mem ∧ ∀ p f i, (b.watch off n).eff p f i = b.eff p f i := by
  unfold Block.watch
  split
  · refine List.foldlRecOn (motive := fun c : Block => c.mem = b.mem ∧ ∀ p f i, c.eff p f i = b.eff p f i) _ _ ⟨rfl, fun _ _ _ => rfl⟩ ?_
    intro c hc l _
    exact ⟨hc.1, fun p f i => (Block.eff_report ..).trans (hc.2 p f i)⟩
  · exact ⟨rfl, fun _ _ _ => rfl⟩

/-- The block once the table at an offset has passed its check, before one without a table swaps at once. -/
def Block.plcChecked (b : Block) (k t : Nat) : Block :=
  ({ b with plcNext := SMap.set b.plcNext k (b.plcSumOf t) }.put pgMoe F.MOE_PCTL.CHECKED 1 k).raise pgMoe 6

theorem Block.plcChecked_mem (t : Nat) : (b.plcChecked k t).mem = b.mem := Block.raise_mem ..

theorem Block.eff_plcChecked (t : Nat) (h : f.key i ≠ F.MOE_PCTL.CHECKED.key k) : (b.plcChecked k t).eff p f i = b.eff p f i :=
  (Block.eff_raise ..).trans (Block.eff_put_of_ne _ _ _ _ _ _ _ _ (.inr h))

/-- The armed table that the check of a partition reads. -/
def Block.plcArmed (b : Block) (k : Nat) : Nat := b.eff pgMoe F.MOE_PLC_NEXT.PLC_NEXT k % 2 ^ 41

/-- The block once the check of a table has read it. -/
def Block.plcWatched (b : Block) (t : Nat) : Block := b.watch t (64 + b.plcLayers t * b.plcStride t * 32)

section Armed
variable (ha : b.eff pgMoe F.MOE_PCTL.ARM k = 1) (hc : b.eff pgMoe F.MOE_PCTL.CHECKED k ≠ 1) (hs : b.safe = false) (hr : b.runs pgMoe = true)
include ha hc hs hr

theorem Block.plcCheckDone_of_failed (h : b.plcOk k (b.plcArmed k) = false) : b.plcCheckDone k = (b.plcWatched (b.plcArmed k)).swapErr k :=
  (if_neg (by simp [ha, hc, hs, hr])).trans (if_pos (congrArg not h))

/-- A table that passes its check swaps at once where none is in force. -/
theorem Block.plcCheckDone_of_passed (h : b.plcOk k (b.plcArmed k) = true) : b.plcCheckDone k =
    if b.epoch k = 0 then ((b.plcWatched (b.plcArmed k)).plcChecked k (b.plcArmed k)).plcSwap k
    else (b.plcWatched (b.plcArmed k)).plcChecked k (b.plcArmed k) := by
  have hepoch : ((b.plcWatched (b.plcArmed k)).plcChecked k (b.plcArmed k)).epoch k = b.epoch k := by
    obtain ⟨-, heff⟩ := Block.watch_keeps (b := b) (off := b.plcArmed k) (n := 64 + b.plcLayers (b.plcArmed k) * b.plcStride (b.plcArmed k) * 32)
    exact (Block.eff_plcChecked _ (by simp only [Field.key, F.MOE_EPOCH.EPOCH, F.MOE_PCTL.CHECKED]; omega)).trans (heff ..)
  have hpassed : ¬ (!b.plcOk k (b.plcArmed k)) = true := by simp [h]
  rw [← hepoch]
  exact (if_neg (by simp [ha, hc, hs, hr])).trans (if_neg hpassed)

end Armed

/-- The registers of the table that comes into force. -/
def Block.plcInForce (b : Block) (k : Nat) : Block :=
  ((((b.put pgMoe F.MOE_PLC_ACTIVE.PLC_ACTIVE (b.eff pgMoe F.MOE_PLC_NEXT.PLC_NEXT k) k).put pgMoe F.MOE_EPOCH.EPOCH
    (b.m32 (b.plcArmed k + 4)) k).put pgMoe F.MOE_PCTL.ARM 0 k).put pgMoe F.MOE_PCTL.CHECKED 0 k).bumpWrap pgMoe F.MOE_EPOCH_CNT.EPOCH_CNT

/-- Past its registers, a swap changes memory and raises an event. -/
theorem Block.eff_plcSwap : (b.plcSwap k).eff pgMoe f i = (b.plcInForce k).eff pgMoe f i := by
  have heff {c d : Block} (h : d.page pgMoe = c.page pgMoe) : d.eff pgMoe f i = c.eff pgMoe f i := by simp only [Block.eff, h]
  have hdesc (c : Block) (x ep : Nat) (active : Bool) : (if active then c.pw x 4 ep else c).page pgMoe = c.page pgMoe := by
    split
    · exact (Block.beside_pw x 4).page pgMoe (by decide)
    · rfl
  have hload (c : Block) (m : Memory) (P : Prop) [Decidable P] : (if P then c else { c with mem := m }).page pgMoe = c.page pgMoe := by
    split <;> rfl
  rw [Block.plcSwap, Block.eff_raise]
  exact heff ((hload ..).trans (hdesc ..))

/-- A field of a partition's table that the swap does not put after another keeps what it was put. -/
theorem Block.eff_plcInForce (hc : f.key i ≠ F.MOE_PCTL.CHECKED.key k) (hn : f.key i ≠ F.MOE_EPOCH_CNT.EPOCH_CNT.key 0) :
    (b.plcInForce k).eff pgMoe f i = (((b.put pgMoe F.MOE_PLC_ACTIVE.PLC_ACTIVE (b.eff pgMoe F.MOE_PLC_NEXT.PLC_NEXT k) k).put pgMoe
      F.MOE_EPOCH.EPOCH (b.m32 (b.plcArmed k + 4)) k).put pgMoe F.MOE_PCTL.ARM 0 k).eff pgMoe f i := by
  rw [Block.plcInForce, Block.bumpWrap, Block.eff_put_of_ne _ _ _ _ _ _ _ _ (.inr hn), Block.eff_put_of_ne _ _ _ _ _ _ _ _ (.inr hc)]

theorem Block.arm_plcSwap : (b.plcSwap k).eff pgMoe F.MOE_PCTL.ARM k = 0 := by
  rw [Block.eff_plcSwap, Block.eff_plcInForce (by simp only [Field.key, F.MOE_PCTL.ARM, F.MOE_PCTL.CHECKED]; omega)
    (by simp only [Field.key, F.MOE_PCTL.ARM, F.MOE_EPOCH_CNT.EPOCH_CNT]; omega)]
  exact Block.eff_put_same _ _ _ _ _ rfl

theorem Block.epoch_plcSwap : (b.plcSwap k).epoch k = b.m32 (b.plcArmed k + 4) := by
  rw [Block.epoch, Block.eff_plcSwap, Block.eff_plcInForce (by simp only [Field.key, F.MOE_EPOCH.EPOCH, F.MOE_PCTL.CHECKED]; omega)
    (by simp only [Field.key, F.MOE_EPOCH.EPOCH, F.MOE_EPOCH_CNT.EPOCH_CNT]; omega), Block.eff_put_of_ne _ _ _ _ _ _ _ _
    (.inr (by simp only [Field.key, F.MOE_EPOCH.EPOCH, F.MOE_PCTL.ARM]; omega)), Block.eff_put_same _ _ _ _ _ rfl]
  exact Nat.mod_eq_of_lt Block.m32_lt

theorem Block.plcActive_plcSwap : (b.plcSwap k).plcActive k = b.plcArmed k := by
  rw [Block.plcActive, Block.eff_plcSwap, Block.eff_plcInForce
    (by simp only [Field.key, F.MOE_PLC_ACTIVE.PLC_ACTIVE, F.MOE_PCTL.CHECKED]; omega)
    (by simp only [Field.key, F.MOE_PLC_ACTIVE.PLC_ACTIVE, F.MOE_EPOCH_CNT.EPOCH_CNT]; omega), Block.eff_put_of_ne _ _ _ _ _ _ _ _
    (.inr (by simp only [Field.key, F.MOE_PLC_ACTIVE.PLC_ACTIVE, F.MOE_PCTL.ARM]; omega)), Block.eff_put_of_ne _ _ _ _ _ _ _ _
    (.inr (by simp only [Field.key, F.MOE_PLC_ACTIVE.PLC_ACTIVE, F.MOE_EPOCH.EPOCH]; omega)), Block.eff_put_same _ _ _ _ _ rfl]
  exact Nat.mod_mod_of_dvd _ (pow_dvd_pow 2 (by decide))

/-- The table that a check has passed is still the armed one, and reads the same. -/
theorem Block.plcArmed_plcChecked (t : Nat) : ((b.plcWatched t).plcChecked k t).plcArmed k = b.plcArmed k ∧
    ∀ x, ((b.plcWatched t).plcChecked k t).m32 x = b.m32 x := by
  obtain ⟨hmem, heff⟩ := Block.watch_keeps (b := b) (off := t) (n := 64 + b.plcLayers t * b.plcStride t * 32)
  refine ⟨congrArg (· % 2 ^ 41) ((Block.eff_plcChecked t ?_).trans (heff ..)), fun x => ?_⟩
  · simp only [Field.key, F.MOE_PLC_NEXT.PLC_NEXT, F.MOE_PCTL.CHECKED]; omega
  · rw [Block.m32, Block.plcChecked_mem, Block.plcWatched, hmem, Block.m32]

end Check

/-! ### The plan of a layer (R276) -/

section Plan
variable {b : Block} {k l : Nat} {w : Window} {ws : List Window}

/-- The layer record that a COUNT window names. -/
def Block.countedRecord (b : Block) (w : Window) : List Byte := b.mem.read (w.moe.lrec % 2 ^ 41) 128

/-- The plan that the histograms of a layer make. -/
def Block.planOf (b : Block) (k : Nat) (r : List Byte) : MoePlan :=
  { rec128 := r, rlim := b.rlimOf k r, members := (b.bake k).members, bakeNo := (b.bake k).bakeNo
    hist := b.readHists r (b.bake k).members, failed := false, countAt := b.now }

section Counted
variable (hno : b.plan? k l = none) (hw : b.countWindows k l = w :: ws) (hs : b.safe = false) (hr : b.runs pgMoe = true)
  (hc : b.countComplete k l = true)
include hno hw hs hr hc

theorem Block.moePlan_of_unrouted (h : b.routes? k (b.countedRecord w) = false) : b.moePlan k l = b.notRouted k l (b.countedRecord w) := by
  rw [Block.moePlan, hno, hw]
  exact (if_neg (by simp [hs, hr, hc])).trans (if_pos (congrArg not h))

theorem Block.moePlan_of_routed (h : b.routes? k (b.countedRecord w) = true) : b.moePlan k l =
    (({ b with plans := SMap.set b.plans (planKey k l) (b.planOf k (b.countedRecord w)) }).countPlan k
      (b.planOf k (b.countedRecord w))).writeStats (b.planOf k (b.countedRecord w)) := by
  have hrouted : ¬ (!b.routes? k (b.countedRecord w)) = true := by simp [h]
  rw [Block.moePlan, hno, hw]
  exact (if_neg (by simp [hs, hr, hc])).trans (if_neg hrouted)

end Counted

end Plan

/-- Settles O39: each end finds the state that its guard names, the two register writes act on the fields of their word, and a check or a
plan takes the branch that the table gives it. -/
theorem poolsAndPlacement : Obligations.PoolsAndPlacement := by
  unfold Obligations.PoolsAndPlacement
  intro s k pg seq i l a hlive
  refine ⟨fun hw => ⟨?initStopped, ?thawStopped, ?freezeStopped⟩, fun st hw hi hd => ⟨fun h0 => ?initOk, fun h0 => ?initAgain⟩,
    fun st hw hd => ⟨fun h0 => ?thawOk, fun h0 => ?thawAgain⟩,
    fun st hw hd => ⟨fun hlost => ?freezeLost, fun h0 hv hh hp hf => ?freezeNext⟩,
    fun hreach => ⟨fun ht => ?clearRefused, fun ht hs => ?clearTaken⟩,
    fun hreach hs => ⟨fun hu => ?unready, fun hr ha => ?armedAlready, fun hr ha => ?arms, ?disarms⟩,
    fun ha hc hsafe hruns => ⟨fun hbad => ?bad, fun hok he => ?good, fun hok he => ?swaps⟩,
    fun w ws hno hw hsafe hruns hc => ⟨fun hroute => ?unrouted, fun hroute => ?planned⟩⟩
  case initStopped => exact exec_live hlive rfl (congrArg Block.rest (Block.poolInitDone_of_stopped hw))
  case thawStopped => exact exec_live hlive rfl (congrArg Block.rest (Block.pageThawDone_of_stopped hw))
  case freezeStopped => exact exec_live hlive rfl (congrArg Block.rest (Block.kvFreezeDone_of_stopped hw))
  case initOk => exact exec_live hlive rfl (congrArg Block.rest ((Block.poolInitDone_of_done hw hi hd).trans (if_pos h0)))
  case initAgain => exact exec_live hlive rfl (congrArg Block.rest ((Block.poolInitDone_of_done hw hi hd).trans (if_neg h0)))
  case thawOk => exact exec_live hlive rfl (congrArg Block.rest ((Block.pageThawDone_of_done hw hd).trans (if_pos h0)))
  case thawAgain => exact exec_live hlive rfl (congrArg Block.rest ((Block.pageThawDone_of_done hw hd).trans (if_neg h0)))
  case freezeLost => exact exec_live hlive rfl (congrArg Block.rest (Block.kvFreezeDone_of_lost hw hd hlost))
  case freezeNext => exact ⟨_, exec_live hlive rfl (congrArg Block.rest (Block.kvFreezeDone_of_next hw hd h0 hv hh hp hf rfl)), rfl⟩
  case clearRefused =>
    exact exec_live hlive rfl ((Block.fieldWrite_pfxClear k hreach).trans (congrArg Block.rest
      (Block.fieldsWrite_pfxCfg_refused k ht (by rw [Block.raw_wordWith_pfxClear]; exact one_ne_zero))))
  case clearTaken =>
    exact exec_live hlive rfl ((Block.fieldWrite_pfxClear k hreach).trans (congrArg Block.rest
      (Block.fieldsWrite_pfxCfg_taken k ht (Block.leaves_pfxFields k ht hs) (Block.raw_wordWith_pfxClear k))))
  case unready => rw [exec_arm k true hreach hs, show b2n true = 1 from rfl, Block.armed_of_unready hu]
  case armedAlready => rw [exec_arm k true hreach hs, show b2n true = 1 from rfl, Block.armed_of_ready hr, if_pos ha]
  case arms => rw [exec_arm k true hreach hs, show b2n true = 1 from rfl, Block.armed_of_ready hr, if_neg ha]
  case disarms => rw [exec_arm k false hreach hs, show b2n false = 0 from rfl, Block.armed_zero]
  case bad => exact exec_live hlive rfl (Block.plcCheckDone_of_failed ha hc hsafe hruns hbad)
  case good => exact exec_live hlive rfl ((Block.plcCheckDone_of_passed ha hc hsafe hruns hok).trans (if_neg he))
  case swaps =>
    obtain ⟨harmed, hread⟩ := Block.plcArmed_plcChecked (b := s.blk) (k := k) (s.blk.plcArmed k)
    refine ⟨_, exec_live hlive rfl ((Block.plcCheckDone_of_passed ha hc hsafe hruns hok).trans (if_pos he)), rfl, ?_,
      Block.plcActive_plcSwap.trans harmed, Block.arm_plcSwap⟩
    rw [Block.epoch_plcSwap, harmed, hread]
    rfl
  case unrouted => exact exec_live hlive rfl (congrArg Block.rest (Block.moePlan_of_unrouted hno hw hsafe hruns hc hroute))
  case planned => exact exec_live hlive rfl (congrArg Block.rest (Block.moePlan_of_routed hno hw hsafe hruns hc hroute))

end Sys2Proof.Machine
end

section
/-! SUPPORT. The breadbox: its command word, what a command and an end do in each state, and what freeing a model leaves alone
(R251, R312 to R314). -/
namespace Sys2Proof.Machine

/-! ### What the invalidation of prefix entries leaves alone (R251) -/

/-- What the KV manager's own work leaves alone: the tiles, and all that a store of the package leaves alone. -/
structure Block.BesideTiles (b c : Block) : Prop extends Block.Beside b c where
  tiles : c.tiles = b.tiles

section BesideTiles
variable {b c d : Block} {k p v : Nat} {f : Field}

theorem Block.BesideTiles.refl : b.BesideTiles b := ⟨.refl, rfl⟩

theorem Block.BesideTiles.trans (h : b.BesideTiles c) (h' : c.BesideTiles d) : b.BesideTiles d :=
  ⟨h.toBeside.trans h'.toBeside, h'.tiles.trans h.tiles⟩

theorem Block.BesideTiles.foldl {α : Type} {f : Block → α → Block} (h : ∀ b x, Block.BesideTiles b (f b x)) (l : List α) :
    b.BesideTiles (l.foldl f b) :=
  ⟨.foldl (fun b x => (h b x).toBeside) l, foldl_tiles (fun b x => (h b x).tiles) l⟩

theorem Block.BesideTiles.put_kvm : b.BesideTiles (b.put pgKvm f v k) := ⟨.put (by decide), rfl⟩
theorem Block.besideTiles_pw (off n : Nat) : b.BesideTiles (b.pw off n v) := ⟨Block.beside_pw off n, Block.writeNow_tiles ..⟩

theorem Block.besideTiles_setFree : b.BesideTiles (b.setFree k v) := by
  unfold Block.setFree
  simp only []
  split
  · exact .trans .put_kvm ⟨.raise (by decide), Block.raise_tiles ..⟩
  · exact .put_kvm

theorem Block.besideTiles_poolDrained : b.BesideTiles (b.poolDrained k) := by
  unfold Block.poolDrained
  split
  · exact .put_kvm
  · exact .refl

theorem Block.besideTiles_pushPage : b.BesideTiles (b.pushPage k p) :=
  (((Block.besideTiles_pw ..).trans Block.besideTiles_setFree).trans .put_kvm).trans Block.besideTiles_poolDrained

theorem Block.besideTiles_kvmQueue (l : List FrzRec) : b.BesideTiles { b with kvmQueue := l } := ⟨.of_fields, rfl⟩

/-- What the KV manager asks of the freeze engine changes the queues of both alone. -/
theorem Block.besideTiles_kvmFeed : b.BesideTiles b.kvmFeed := by
  unfold Block.kvmFeed
  split
  · exact .refl
  · exact (Block.besideTiles_kvmQueue _).trans (.foldl (f := Block.enqueueFreeze) (fun _ _ => ⟨.of_fields, rfl⟩) _)

theorem Block.besideTiles_askPageThaw : b.BesideTiles (b.askPageThaw k p) := (Block.besideTiles_kvmQueue _).trans Block.besideTiles_kvmFeed

theorem Block.besideTiles_releasePage : b.BesideTiles (b.releasePage k p) := by
  have href : b.BesideTiles (b.setPageRef k p (b.pageRef k p - 1)) := Block.besideTiles_pw ..
  unfold Block.releasePage
  simp only []
  split
  · exact href
  · split
    · exact href.trans Block.besideTiles_askPageThaw
    · exact href.trans Block.besideTiles_pushPage

theorem Block.besideTiles_pfxInvalidate (test : Nat → Bool) : b.BesideTiles (b.pfxInvalidate p test) :=
  .foldl (fun _ _ => (Block.besideTiles_pw ..).trans Block.besideTiles_releasePage) _

end BesideTiles

/-! ### The store of descriptors -/

section Store
variable {b : Block} {i p n : Nat} (x : Bread)

@[simp] theorem Block.brd_setBrd_same : (b.setBrd i x).brd i = x := SMap.get_set_same ..
@[simp] theorem Block.setBrd_tiles : (b.setBrd i x).tiles = b.tiles := rfl
@[simp] theorem Block.setBrd_bakes : (b.setBrd i x).bakes = b.bakes := rfl

@[simp] theorem Block.brd_raise : (b.raise p n).brd i = b.brd i := by
  obtain ⟨ps, o, e, h⟩ := Block.raise_eq (b := b) (p := p) (i := n)
  rw [h]
  rfl

end Store

/-! ### The command word of SRV_BB_CMD (R314, R333) -/

/-- A word of SRV_BB_CMD that reaches its page is a command of the breadbox: the operation in bits [10:8], the index in [7:0]. -/
theorem Block.writeWord_bbCmd {s : State} {a : Agent} (k : Fin 16) (i : Fin 256) {op : Nat} (hop : op < 8) (h : s.reaches (pgPart k) a) :
    s.blk.writeWord (pgPart k) 0x90 (op * 256 + i) a = (s.blk.bbCommand k op i).rest := by
  have hkind : pageKind (pgPart k) = .srv := pageKind_pgPart k
  have hpart : pgPart k - 0x10 = k := Nat.add_sub_cancel_left ..
  have hop' : bits (op * 256 + i) 8 3 = op := by simp only [bits]; omega
  have hindex : bits (op * 256 + i) 0 8 = i := by simp only [bits]; omega
  rw [Block.writeWord, if_neg (Block.reaches_open h (by simp [hkind])), if_neg (by decide), hkind]
  simp only [if_true, hpart, hop', hindex]

/-- A command that writes SRV_BB_CMD gives the state with the block that its operation leaves. -/
theorem exec_bbCommand {s : State} {a : Agent} {c : Instr} {b : Block} {k : Fin 16} {i : Fin 256} {op : Nat} (h : s.reaches (pgPart k) a)
    (he : exec c s = .next (s.act fun b => b.writeWord (pgPart k) 0x90 (op * 256 + i) a)) (hop : op < 8)
    (hb : s.blk.bbCommand k op i = b) : exec c s = .next (s.withBlk b.rest) :=
  exec_live h.1 he ((Block.writeWord_bbCmd k i hop h).trans (congrArg Block.rest hb))

/-! ### The commands by the state of the descriptor (R312, R314) -/

section Commands
variable {b : Block} {k i : Nat}

/-- The copy of a model descriptor that CHECK takes; a descriptor that cannot be read leaves it empty. -/
def Block.bbCopy (b : Block) (k : Nat) : List Byte :=
  match b.localOff (b.sv k F.SRV_BB_DESC.DESC) with
  | some off => if b.usable off 128 ∧ !b.poisoned off 128 then b.mem.read off 128 else []
  | none => []

/-- The package once CHECK has read the descriptor. -/
def Block.bbCopied (b : Block) (k : Nat) : Block :=
  match b.localOff (b.sv k F.SRV_BB_DESC.DESC) with
  | some off => b.watch off 128
  | none => b

theorem Block.bbCopied_of_local {off : Nat} (h : b.localOff (b.sv k F.SRV_BB_DESC.DESC) = some off) : b.bbCopied k = b.watch off 128 := by
  rw [Block.bbCopied, h]

theorem Block.bbCopy_of_readable {off : Nat} (h : b.localOff (b.sv k F.SRV_BB_DESC.DESC) = some off) (hu : b.usable off 128 = true)
    (hp : b.poisoned off 128 = false) : b.bbCopy k = b.mem.read off 128 := by
  rw [Block.bbCopy, h]
  exact if_pos ⟨hu, by simp [hp]⟩

theorem Block.bbCheck_of_empty (h : (b.brd i).st = bbEMPTY) :
    b.bbCheck k i = (b.bbCopied k).setBrd i { st := bbCHECKING, part := k, chkErr := 0, desc := b.bbCopy k, job := 0 } :=
  if_neg (not_not.2 h)

theorem Block.bbCheck_of_taken (h : (b.brd i).st ≠ bbEMPTY) : b.bbCheck k i = b.bbError k i := if_pos h

theorem Block.promote_of_warm (hst : (b.brd i).st = bbWARM) (hpart : (b.brd i).part = k) : b.promote k i =
    (b.setBrd i { b.brd i with st := bbPROMOTING, job := b.nextId }).bbList k (field (b.brd i).desc 0x40 8) :=
  if_neg (by simp [hst, hpart])

theorem Block.promote_of_other (h : (b.brd i).st ≠ bbWARM ∨ (b.brd i).part ≠ k) : b.promote k i = b.bbError k i := if_pos h

theorem Block.demote_of_hot (hst : (b.brd i).st = bbHOT) (hpart : (b.brd i).part = k) (husers : b.bbUsers i = 0) : b.demote k i =
    (b.setBrd i { b.brd i with st := bbDEMOTING, job := b.nextId }).bbList k (field (b.brd i).desc 0x48 8) :=
  if_neg (by simp [hst, hpart, husers])

theorem Block.demote_of_other (h : (b.brd i).st ≠ bbHOT ∨ (b.brd i).part ≠ k ∨ b.bbUsers i ≠ 0) : b.demote k i = b.bbError k i := if_pos h

theorem Block.bbFree_of_warm (hst : (b.brd i).st = bbWARM) (hpart : (b.brd i).part = k) (husers : b.bbUsers i = 0) :
    b.bbFree k i = b.setBrd i { b.brd i with st := bbFREEING } :=
  if_neg (by simp [hst, hpart, husers])

theorem Block.bbFree_of_other (h : (b.brd i).st ≠ bbWARM ∨ (b.brd i).part ≠ k ∨ b.bbUsers i ≠ 0) : b.bbFree k i = b.bbError k i := if_pos h

end Commands

/-! ### The ends of the breadbox's work (R313, R314) -/

section Ends
variable {b : Block} {k i : Nat}

theorem Block.bbCheckDone_of_checking (h : (b.brd i).st = bbCHECKING) : b.bbCheckDone i =
    if b.residency (b.brd i).part (b.brd i).desc = 0 then
      ((b.watchModel (b.brd i).desc).setBrd i { b.brd i with st := bbWARM }).raise (pgPart (b.brd i).part) 2
    else
      (((b.watchModel (b.brd i).desc).setBrd i
        { b.brd i with st := bbEMPTY, chkErr := b.residency (b.brd i).part (b.brd i).desc, desc := [] }).raise
          (pgPart (b.brd i).part) 3).reportPart (pgPart (b.brd i).part) 0x0903 (b.brd i).part :=
  if_neg (not_not.2 h)

theorem Block.bbIdle_iff (x : Bread) : b.bbIdle x = true ↔ ∀ e ∈ b.acts, e.id ≠ x.job := by simp [Block.bbIdle]

theorem Block.promoteDone_of_idle (hst : (b.brd i).st = bbPROMOTING) (hidle : ∀ e ∈ b.acts, e.id ≠ (b.brd i).job) :
    b.promoteDone i = (b.setBrd i { b.brd i with st := bbHOT }).raise (pgPart (b.brd i).part) 2 :=
  if_pos ⟨hst, (Block.bbIdle_iff _).2 hidle⟩

theorem Block.demoteDone_of_idle (hst : (b.brd i).st = bbDEMOTING) (hidle : ∀ e ∈ b.acts, e.id ≠ (b.brd i).job) :
    b.demoteDone i = (b.setBrd i { b.brd i with st := bbWARM }).raise (pgPart (b.brd i).part) 2 :=
  if_pos ⟨hst, (Block.bbIdle_iff _).2 hidle⟩

/-- The package once every prefix entry of a model is invalid. -/
def Block.bbInvalidated (b : Block) (i : Nat) : Block :=
  (List.range 16).foldl (fun b p =>
    if b.eff pgKvm F.KVM_PFX_BASE.PFX_BASE p = 0 then b else b.pfxInvalidate p (fun a => decide (b.byteAt (a + 0x12) = i))) b

theorem Block.besideTiles_bbInvalidated : b.BesideTiles (b.bbInvalidated i) := by
  refine .foldl (fun b p => ?_) _
  split
  · exact .refl
  · exact Block.besideTiles_pfxInvalidate _

/-- The package once a freed model has left its descriptor. -/
def Block.bbFreed (b : Block) (i : Nat) : Block := ((b.bbInvalidated i).setBrd i breadNone).raise (pgPart (b.brd i).part) 2

theorem Block.bbFreeDone_of_freeing (h : (b.brd i).st = bbFREEING) : b.bbFreeDone i = b.bbFreed i := if_neg (not_not.2 h)

theorem Block.brd_bbFreed : (b.bbFreed i).brd i = breadNone := by rw [Block.bbFreed, Block.brd_raise, Block.brd_setBrd_same]

theorem Block.isr_bbFreed : bit ((b.bbFreed i).hdr (pgPart (b.brd i).part)).isr 2 = true := by
  rw [Block.bbFreed, Block.hdr_raise, if_pos rfl, bit_setBits_one, decide_eq_true rfl, Bool.or_true]

theorem Block.tiles_bbFreed : (b.bbFreed i).tiles = b.tiles := by
  rw [Block.bbFreed, Block.raise_tiles, Block.setBrd_tiles, Block.besideTiles_bbInvalidated.tiles]

theorem Block.bake_bbFreed : (b.bbFreed i).bake k = b.bake k := by
  rw [Block.bake, Block.bake, Block.bbFreed, Block.raise_bakes, Block.setBrd_bakes, Block.besideTiles_bbInvalidated.bakes]

end Ends

/-- Settles O40: a word of SRV_BB_CMD is the command that it spells, and each command and each end takes the branch of its state. -/
theorem modelsAreManaged : Obligations.ModelsAreManaged := by
  unfold Obligations.ModelsAreManaged
  intro s k i a hlive
  refine ⟨fun hr => ⟨fun hst => ?check, fun hst => ?checkRefused, fun hst hpart => ?promote, fun hno => ?promoteRefused,
      fun hst hpart hu => ?demote, fun hno => ?demoteRefused, fun hst hpart hu => ?free, fun hno => ?freeRefused⟩,
    fun hst => ⟨fun h0 => ?resident, fun h0 => ?notResident⟩, fun hst hidle => ?promoted, fun hst hidle => ?demoted, fun hst => ?freed⟩
  case check =>
    exact ⟨s.blk.bbCopy k, s.blk.bbCopied k, exec_bbCommand hr (op := 1) rfl (by decide) (Block.bbCheck_of_empty hst), fun off hoff =>
      ⟨Block.bbCopied_of_local hoff, Block.bbCopy_of_readable hoff⟩⟩
  case checkRefused => exact exec_bbCommand hr (op := 1) rfl (by decide) (Block.bbCheck_of_taken hst)
  case promote => exact exec_bbCommand hr (op := 2) rfl (by decide) (Block.promote_of_warm hst hpart)
  case promoteRefused => exact exec_bbCommand hr (op := 2) rfl (by decide) (Block.promote_of_other hno)
  case demote => exact exec_bbCommand hr (op := 3) rfl (by decide) (Block.demote_of_hot hst hpart hu)
  case demoteRefused => exact exec_bbCommand hr (op := 3) rfl (by decide) (Block.demote_of_other hno)
  case free => exact exec_bbCommand hr (op := 4) rfl (by decide) (Block.bbFree_of_warm hst hpart hu)
  case freeRefused => exact exec_bbCommand hr (op := 4) rfl (by decide) (Block.bbFree_of_other hno)
  case resident => exact exec_live hlive rfl ((Block.bbCheckDone_of_checking hst).trans (if_pos h0))
  case notResident => exact exec_live hlive rfl ((Block.bbCheckDone_of_checking hst).trans (if_neg h0))
  case promoted => exact exec_live hlive rfl (congrArg Block.rest (Block.promoteDone_of_idle hst hidle))
  case demoted => exact exec_live hlive rfl (congrArg Block.rest (Block.demoteDone_of_idle hst hidle))
  case freed =>
    exact ⟨s.blk.bbFreed i, exec_live hlive rfl (congrArg Block.rest (Block.bbFreeDone_of_freeing hst)), Block.brd_bbFreed, Block.isr_bbFreed,
      Block.tiles_bbFreed, Block.bake_bbFreed⟩

end Sys2Proof.Machine
end

section
/-! SUPPORT. A link from DETECT to UP: signal, training, the peer's IDENT sets and the width (R339 to R342). -/
namespace Sys2Proof.Machine

/-! ### Training (R339) -/

section Train
variable {b : Block} {n lanes pol : Nat}

theorem Block.laneSignal_of_detect (h : b.lstate n = lsDETECT) : b.laneSignal n = b.enterLink n lsTRAIN := if_pos h

theorem Block.detectTimeout_of_late (h : b.lstate n = lsDETECT) (hlate : (b.link n).since + 100000000 ≤ b.now) :
    b.detectTimeout n = b.linkDown n 0 := if_pos ⟨h, hlate⟩

theorem Block.trainDone_of_none (h : b.lstate n = lsTRAIN) (hnone : lanes &&& allLanes n = 0) : b.trainDone n lanes pol = b.linkDown n 0x0B01 :=
  (if_neg (not_not.2 h)).trans (if_pos hnone)

theorem Block.trainDone_of_some (h : b.lstate n = lsTRAIN) (hsome : lanes &&& allLanes n ≠ 0) : b.trainDone n lanes pol =
    (((b.setLk n F.FAB_LEXP.POL_INV (pol &&& (lanes &&& allLanes n))).showLanes n 0 (allLanes n - (lanes &&& allLanes n))).setLink n
      { b.link n with trained := lanes &&& allLanes n }).enterLink n lsALIGN :=
  (if_neg (not_not.2 h)).trans (if_neg hsome)

theorem Block.alignLock_of_align (h : b.lstate n = lsALIGN) : b.alignLock n = (b.enterLink n lsIDENT).identSet n false := if_pos h

end Train

/-! ### The peer's IDENT sets (R340, R341) -/

section Ident
variable {b : Block} {n lane : Nat} {set : IdentSet}

/-- The package once it knows from an IDENT set that a slot is occupied. -/
def Block.identHeard (b : Block) (set : IdentSet) : Block := { b with occupied := setBits b.occupied (set.slot % 64) 1 1 }

/-- The link once a lane of it has read its place and the peer's good lanes. -/
def Block.identLink (b : Block) (n lane : Nat) (set : IdentSet) : LinkX :=
  { b.link n with peerGood := set.good, order := SMap.set (b.link n).order lane set.lane }

/-- The package once an IDENT set that is no refusal has named the peer of a link. -/
def Block.identNamed (b : Block) (n lane : Nat) (set : IdentSet) (loop : Nat) : Block :=
  (((((((b.identHeard set).setLk n F.FAB_LSTAT.PEER_SLOT (set.slot % 64)).setLk n F.FAB_LPSER.PEER_SERIAL set.serial).setLk n
    F.FAB_LSTAT.LANE_PERM (b2n (b.identLink n lane set).permuted)).setLk n F.FAB_LSTAT.PEER_VALID 1).setLink n
    (b.identLink n lane set)).setLk n F.FAB_LSTAT.LOOPBACK loop).setLk n F.FAB_LSTAT.PEER_MISMATCH 0

/-- Another link reports the same slot with another serial number (R341). -/
def Block.slotTwice (b : Block) (n : Nat) (set : IdentSet) : Prop :=
  ∃ m : Fin 63, m.val ≠ n ∧ b.knowsPeer m = true ∧ b.peerOf m = set.slot % 64 ∧ b.lk m F.FAB_LPSER.PEER_SERIAL ≠ set.serial % 2 ^ 64

theorem Block.slotTwice_iff : b.slotTwice n set ↔ (List.range 63).any (fun m => decide (m ≠ n) && b.knowsPeer m &&
    decide (b.peerOf m = set.slot % 64) && decide (b.lk m F.FAB_LPSER.PEER_SERIAL ≠ set.serial % 2 ^ 64)) = true := by
  simp only [List.any_eq_true, List.mem_range, Bool.and_eq_true, decide_eq_true_eq, and_assoc]
  exact ⟨fun ⟨m, h⟩ => ⟨m, m.isLt, h⟩, fun ⟨m, hm, h⟩ => ⟨⟨m, hm⟩, h⟩⟩

section Received
variable (h : b.lstate n = lsIDENT) (ht : (b.link n).trained.testBit lane = true)
include h ht

theorem Block.identRx_of_refusal (hr : set.refuse = true) :
    b.identRx n lane set = ((b.identHeard set).setLk n F.FAB_LSTAT.REFUSED_BY_PEER 1).linkRefuse n 0x0B04 :=
  (if_neg (by simp [h, ht])).trans (if_pos hr)

variable (hr : set.refuse = false)
include hr

theorem Block.identRx_of_loop (hown : set.slot % 64 = b.slotId) : b.identRx n lane set = (b.identNamed n lane set 1).linkRefuse n 0x0B04 := by
  have hloop : b2n (decide (set.slot % 64 = b.slotId)) = 1 := by simp [hown, b2n]
  refine (if_neg (by simp [h, ht])).trans ((if_neg (by simp [hr])).trans ((if_pos hown).trans ?_))
  rw [hloop]
  rfl

variable (hother : set.slot % 64 ≠ b.slotId)
include hother

/-- The checks of R341 on the set of another slot, in order. -/
theorem Block.identRx_of_other : b.identRx n lane set =
    if (List.range 63).any (fun m => decide (m ≠ n) && b.knowsPeer m && decide (b.peerOf m = set.slot % 64) &&
      decide (b.lk m F.FAB_LPSER.PEER_SERIAL ≠ set.serial % 2 ^ 64)) then (b.identNamed n lane set 0).slotDup (set.slot % 64)
    else if set.slot % 64 ≠ expectedPeer b.slotId n then
      let odd := ((b.identNamed n lane set 0).setLk n F.FAB_LSTAT.PEER_MISMATCH 1).raise (linkPage n) 4 |>.reportPage (linkPage n) 0x0B03 n
      if b.lk n F.FAB_LCFG.STRICT_SLOT = 1 then odd.linkRefuse n 0x0B04 else odd.identNews n (b.link n)
    else (b.identNamed n lane set 0).identNews n (b.link n) := by
  have hloop : b2n (decide (set.slot % 64 = b.slotId)) = 0 := by simp [hother, b2n]
  refine (if_neg (by simp [h, ht])).trans ((if_neg (by simp [hr])).trans ((if_neg hother).trans ?_))
  rw [hloop]
  rfl

theorem Block.identRx_of_twice (htwice : b.slotTwice n set) : b.identRx n lane set = (b.identNamed n lane set 0).slotDup (set.slot % 64) :=
  (Block.identRx_of_other h ht hr hother).trans (if_pos (Block.slotTwice_iff.1 htwice))

variable (honce : ¬ b.slotTwice n set)
include honce

theorem Block.identRx_of_unexpected (hodd : set.slot % 64 ≠ expectedPeer b.slotId n) : b.identRx n lane set =
    let odd := ((b.identNamed n lane set 0).setLk n F.FAB_LSTAT.PEER_MISMATCH 1).raise (linkPage n) 4 |>.reportPage (linkPage n) 0x0B03 n
    if b.lk n F.FAB_LCFG.STRICT_SLOT = 1 then odd.linkRefuse n 0x0B04 else odd.identNews n (b.link n) :=
  (Block.identRx_of_other h ht hr hother).trans ((if_neg fun e => honce (Block.slotTwice_iff.2 e)).trans (if_pos hodd))

theorem Block.identRx_of_expected (hpeer : set.slot % 64 = expectedPeer b.slotId n) :
    b.identRx n lane set = (b.identNamed n lane set 0).identNews n (b.link n) :=
  (Block.identRx_of_other h ht hr hother).trans ((if_neg fun e => honce (Block.slotTwice_iff.2 e)).trans (if_neg (not_not.2 hpeer)))

end Received

/-- IDENT ends with the widest lane group that both ends can use (R342). -/
theorem Block.identDone_of_group {g : Nat × Nat} {asym : Nat} (h : b.lstate n = lsIDENT) (hk : b.knowsPeer n = true)
    (hg : chooseGroup n ((b.link n).usable n) = some g) : b.identDone n asym =
    (((((b.setLink n { b.link n with credit := fullCredit n }).setLk n F.FAB_LTIME.ASYM asym).linkGroup n g).enterLink n lsUP).raise
      (linkPage n) 1) := by
  rw [Block.identDone, if_neg (by simp [h, hk]), hg]

end Ident

/-- Settles O41: each command finds the state of the link that its guard names, and an IDENT set takes the branch of the first check of R341
that applies. -/
theorem linksComeUp : Obligations.LinksComeUp := by
  unfold Obligations.LinksComeUp
  intro s n lanes pol lane set asym hlive b x p good
  refine ⟨fun h => ?signal, fun h hlate => ?timeout, fun h h0 => ?noLane, fun h h1 => ?trained, fun h => ?aligned, fun h ht => ?ident,
    fun g h hk hg => ?up⟩
  case signal => exact exec_live hlive rfl (Block.laneSignal_of_detect h)
  case timeout => exact exec_live hlive rfl (congrArg Block.rest (Block.detectTimeout_of_late h hlate))
  case noLane => exact exec_live hlive rfl (congrArg Block.rest (Block.trainDone_of_none h h0))
  case trained => exact exec_live hlive rfl (congrArg Block.rest (Block.trainDone_of_some h h1))
  case aligned => exact exec_live hlive rfl (Block.alignLock_of_align h)
  case up => exact exec_live hlive rfl (congrArg Block.rest (Block.identDone_of_group h hk hg))
  case ident =>
    have htwice : (∃ m : Fin 63, m ≠ n ∧ b.knowsPeer m = true ∧ b.peerOf m = set.slot % 64 ∧
        b.lk m F.FAB_LPSER.PEER_SERIAL ≠ set.serial % 2 ^ 64) ↔ b.slotTwice n set := by
      simp only [Block.slotTwice, ne_eq, Fin.ext_iff]
    refine ⟨fun hr => ?refusal, fun hr hown => ?loop, fun hr hother h2 => ?twice, fun hr hother h2 hodd => ?unexpected,
      fun hr hother h2 hpeer => ?expected⟩
    case refusal => exact exec_live hlive rfl (congrArg Block.rest (Block.identRx_of_refusal h ht hr))
    case loop => exact exec_live hlive rfl (congrArg Block.rest (Block.identRx_of_loop h ht hr hown))
    case twice => exact exec_live hlive rfl (congrArg Block.rest (Block.identRx_of_twice h ht hr hother (htwice.1 h2)))
    case unexpected =>
      exact exec_live hlive rfl (congrArg Block.rest (Block.identRx_of_unexpected h ht hr hother (fun e => h2 (htwice.2 e)) hodd))
    case expected => exact exec_live hlive rfl (congrArg Block.rest (Block.identRx_of_expected h ht hr hother (fun e => h2 (htwice.2 e)) hpeer))

end Sys2Proof.Machine
end

section
/-! SUPPORT. Registers of a link: its page, what changes of its lanes and its state leave of its fields, and its word FAB_LCFG (R28, R372). -/
namespace Sys2Proof.Machine

/-! ### The page of a link (R335, R372) -/

theorem pageKind_linkPage (n : Fin 63) : pageKind (linkPage n) = .fab := by revert n; decide

theorem quadLink_linkPage (n : Fin 63) : quadLink (linkPage n) (linkPos n) = some n.val := by revert n; decide

theorem linkPos_lt {n : Nat} : linkPos n < 2 := by
  unfold linkPos
  split <;> omega

/-- The word of FAB_LCFG holds two staged fields and one that acts. -/
theorem fieldsAt_lcfg (n : Fin 63) : fieldsAt (linkPage n) (F.FAB_LCFG.RETRAIN_REQ.word (linkPos n)) =
    [(F.FAB_LCFG.LINK_EN, linkPos n), (F.FAB_LCFG.STRICT_SLOT, linkPos n), (F.FAB_LCFG.RETRAIN_REQ, linkPos n)] := by
  have hlink := quadLink_linkPage n
  have hhits : ∀ i < 2, (fieldsOf .fab).flatMap (fun f => (f.hits (F.FAB_LCFG.RETRAIN_REQ.word i)).map (fun j => (f, j))) =
      [(F.FAB_LCFG.LINK_EN, i), (F.FAB_LCFG.STRICT_SLOT, i), (F.FAB_LCFG.RETRAIN_REQ, i)] := by decide
  simp [fieldsAt, fieldHere, pageKind_linkPage, hhits _ linkPos_lt, hlink]

/-! ### Fields that other changes of a link leave -/

section Eff
variable {b : Block} {p q i j m n v st up dis : Nat} {f g : Field} {x : LinkX}

theorem Block.eff_congr {c : Block} (h : c.pages = b.pages) : c.eff p f i = b.eff p f i := by
  simp only [Block.eff, Block.page, h]

@[simp] theorem Block.trace_pages (k code pg isl d : Nat) (part : Option Nat) : (b.trace k code pg isl part d).pages = b.pages := by
  unfold Block.trace; split <;> rfl

theorem Block.eff_setLk_of_ne (h : g.key j ≠ f.key (linkPos n)) : (b.setLk n f v).eff p g j = b.eff p g j :=
  Block.eff_put_of_ne _ _ _ _ _ _ _ _ (.inr h)

theorem Block.lk_setLk_same (h : f.kind = .imm) : (b.setLk n f v).lk n f = v % 2 ^ f.width := Block.eff_put_same _ _ _ _ _ h

/-- Showing the lanes of a link changes the two lane masks of their quads alone. -/
theorem Block.eff_showLanes (hup : g.key j ≠ F.FAB_QLANE.LANE_UP.key 0) (hdis : g.key j ≠ F.FAB_QLANE.LANE_DIS.key 0) :
    (b.showLanes n up dis).eff p g j = b.eff p g j :=
  List.foldlRecOn (motive := fun (c : Block) => c.eff p g j = b.eff p g j) _ _ rfl fun _ hc _ _ =>
    ((Block.eff_put_of_ne _ _ _ _ _ _ _ _ (.inr hdis)).trans (Block.eff_put_of_ne _ _ _ _ _ _ _ _ (.inr hup))).trans hc

theorem Block.enterLink_pages : (b.enterLink n st).pages = (b.setLk n F.FAB_LSTAT.LSTATE st).pages := Block.trace_pages ..

theorem Block.eff_enterLink_of_ne (h : g.key j ≠ F.FAB_LSTAT.LSTATE.key (linkPos n)) : (b.enterLink n st).eff p g j = b.eff p g j :=
  (Block.eff_congr Block.enterLink_pages).trans (Block.eff_setLk_of_ne h)

theorem Block.lstate_enterLink (hst : st < 16) : (b.enterLink n st).lstate n = st := by
  rw [Block.lstate, Block.lk, Block.eff_congr Block.enterLink_pages]
  exact (Block.lk_setLk_same rfl).trans (Nat.mod_eq_of_lt hst)

end Eff

section Down
variable {b : Block} {n code : Nat}

theorem Block.width_linkQuiet : (b.linkQuiet n).width n = 0 := by
  have hkey : ∀ i < 2, F.FAB_LSTAT.WIDTH.key i ≠ F.FAB_QLANE.LANE_UP.key 0 ∧ F.FAB_LSTAT.WIDTH.key i ≠ F.FAB_QLANE.LANE_DIS.key 0 ∧
      F.FAB_LSTAT.WIDTH.key i ≠ F.FAB_LEXP.LANE_MASK.key i := by decide
  obtain ⟨hup, hdis, hmask⟩ := hkey _ (linkPos_lt (n := n))
  have hset : (b.linkQuiet n).width n = (b.setLk n F.FAB_LSTAT.WIDTH 0).lk n F.FAB_LSTAT.WIDTH :=
    (Block.eff_showLanes hup hdis).trans (Block.eff_setLk_of_ne (b := b.setLk n F.FAB_LSTAT.WIDTH 0) hmask)
  rw [hset, Block.lk_setLk_same rfl, Nat.zero_mod]

/-- What a field of a link reads once the link has gone DOWN. -/
theorem Block.lk_linkDown {g : Field} : (b.linkDown n code).lk n g =
    (((b.linkQuiet n).bump (linkPage n) F.FAB_LERR2.DOWN_CNT (linkPos n)).enterLink n lsDOWN).lk n g := by
  unfold Block.linkDown Block.lk
  simp only []
  split <;> split <;> simp [Block.reportPage]

theorem Block.lstate_linkDown : (b.linkDown n code).lstate n = lsDOWN := Block.lk_linkDown.trans (Block.lstate_enterLink (by decide))

theorem Block.width_linkDown : (b.linkDown n code).width n = 0 := by
  have hkey : ∀ i < 2, F.FAB_LSTAT.WIDTH.key i ≠ F.FAB_LSTAT.LSTATE.key i ∧ F.FAB_LSTAT.WIDTH.key i ≠ F.FAB_LERR2.DOWN_CNT.key i := by decide
  obtain ⟨hstate, hcnt⟩ := hkey _ (linkPos_lt (n := n))
  exact Block.lk_linkDown.trans ((Block.eff_enterLink_of_ne hstate).trans ((Block.eff_put_of_ne _ _ _ _ _ _ _ _ (.inr hcnt)).trans
    Block.width_linkQuiet))

end Down

/-! ### RETRAIN_REQ, in a word with two staged fields (R28, R339) -/

section Acts
variable {b : Block} {p i off w v : Nat} {a : Agent} {f : Field} {x y : Field × Nat}
  (hf : fieldsAt p off = [x, y, (f, i)]) (hx : x.1.acc = .rw) (hy : y.1.acc = .rw) (hacc : f.acc = .w1s)
include hf hx hy hacc

theorem Block.wordWith_acts_last (hword : f.word i = off) : b.wordWith p f i v =
    f.intoWord i off (v % 2 ^ f.width) + x.1.intoWord x.2 off (b.readField p x.1 x.2) + y.1.intoWord y.2 off (b.readField p y.1 y.2) := by
  have hxf : x.1 ≠ f := fun e => by simp [e, hacc] at hx
  have hyf : y.1 ≠ f := fun e => by simp [e, hacc] at hy
  simp [Block.wordWith, hword, hf, hacc, hx, hy, hxf, hyf]

/-- The staged fields are written first, then the field that acts. -/
theorem Block.fieldsWrite_acts_last (hkind : f.kind = .imm) (hxk : x.1.kind ≠ .imm) (hyk : y.1.kind ≠ .imm) : b.fieldsWrite p off w a =
    ((b.stagedWrite p x.1 x.2 off w true a).stagedWrite p y.1 y.2 off w true a).immWrite p f i off w a := by
  simp [Block.fieldsWrite, hf, hacc, hx, hy, hkind, hxk, hyk]

end Acts

section Lcfg
variable {s : State} {b : Block} {a : Agent} {n : Fin 63} {f : Field} {i v off w : Nat}

/-- Three bits of a word: the first two and the ninth. -/
theorem lcfg_bits {x y : Nat} (hx : x < 2) (hy : y < 2) :
    (256 + x + y * 2) % 2 = x ∧ (256 + x + y * 2) / 2 % 2 = y ∧ (256 + x + y * 2) / 2 ^ 8 % 2 = 1 := by omega

/-- The fields of FAB_LCFG lie within one word, at bits 0, 1 and 8. -/
theorem lcfg_keys (i : Nat) : F.FAB_LCFG.LINK_EN.key i = F.FAB_LCFG.RETRAIN_REQ.word i * 8 + 0 ∧
    F.FAB_LCFG.STRICT_SLOT.key i = F.FAB_LCFG.RETRAIN_REQ.word i * 8 + 1 ∧
    F.FAB_LCFG.RETRAIN_REQ.key i = F.FAB_LCFG.RETRAIN_REQ.word i * 8 + 8 := by
  simp only [Field.word, Field.key, F.FAB_LCFG.LINK_EN, F.FAB_LCFG.STRICT_SLOT, F.FAB_LCFG.RETRAIN_REQ]
  omega

/-- A staged field of a quad page shows no other state of the package. -/
theorem Block.readField_lcfg (hl : f ∈ [F.FAB_LCFG.LINK_EN, F.FAB_LCFG.STRICT_SLOT]) (hs : b.shown (linkPage n) f i < 2 ^ f.width) :
    b.readField (linkPage n) f i = b.shown (linkPage n) f i := by
  simp only [List.mem_cons, List.not_mem_nil, or_false] at hl
  have hwin : b.window? (linkPage n) f i = none := by
    rw [Block.window?, pageKind_linkPage]
    rcases hl with rfl | rfl <;> rfl
  exact Block.readField_own (by rcases hl with rfl | rfl <;> decide) hwin hs

/-- The word that writes RETRAIN_REQ, LINK_EN and STRICT_SLOT standing as they read. -/
theorem Block.wordWith_lcfg (hen : b.shown (linkPage n) F.FAB_LCFG.LINK_EN (linkPos n) < 2)
    (hstrict : b.shown (linkPage n) F.FAB_LCFG.STRICT_SLOT (linkPos n) < 2) :
    b.wordWith (linkPage n) F.FAB_LCFG.RETRAIN_REQ (linkPos n) 1 =
      256 + b.shown (linkPage n) F.FAB_LCFG.LINK_EN (linkPos n) + b.shown (linkPage n) F.FAB_LCFG.STRICT_SLOT (linkPos n) * 2 := by
  obtain ⟨hkEn, hkStrict, hkReq⟩ := lcfg_keys (linkPos n)
  rw [Block.wordWith_acts_last (fieldsAt_lcfg n) rfl rfl rfl rfl, Block.readField_lcfg (by simp) hen, Block.readField_lcfg (by simp) hstrict,
    Field.intoWord_of_within hkEn, Field.intoWord_of_within hkStrict, Field.intoWord_of_within hkReq]
  generalize b.shown (linkPage n) F.FAB_LCFG.LINK_EN (linkPos n) = x at hen ⊢
  generalize b.shown (linkPage n) F.FAB_LCFG.STRICT_SLOT (linkPos n) = y at hstrict ⊢
  simp [F.FAB_LCFG.RETRAIN_REQ]
  omega

/-- A quad page takes a value in the stated range of either field. -/
theorem Block.valueOk_lcfg (hmin : f.min ≤ v) (hmax : v ≤ f.max) (after : Field → Nat → Nat) : b.valueOk (linkPage n) f i off v after a = true :=
  Block.valueOk_of_free (by rw [pageKind_linkPage]; rfl) (by simp [Block.rangeOk, pageKind_linkPage]) hmin hmax

theorem Block.trigger_lcfg : b.trigger (linkPage n) F.FAB_LCFG.RETRAIN_REQ (linkPos n) 1 a = some (b.linkRetrain n) := by
  rw [Block.trigger, pageKind_linkPage]
  exact (if_pos rfl).trans (by rw [quadLink_linkPage]; rfl)

/-- A write to RETRAIN_REQ rewrites the staged fields of its word, and then retrains the link. -/
theorem Block.fieldsWrite_lcfg
    (hs : b.standing (linkPage n) [(F.FAB_LCFG.LINK_EN, linkPos n), (F.FAB_LCFG.STRICT_SLOT, linkPos n)]) :
    b.fieldsWrite (linkPage n) (F.FAB_LCFG.RETRAIN_REQ.word (linkPos n)) (b.wordWith (linkPage n) F.FAB_LCFG.RETRAIN_REQ (linkPos n) 1) a =
      (b.rewritten (linkPage n) [(F.FAB_LCFG.LINK_EN, linkPos n), (F.FAB_LCFG.STRICT_SLOT, linkPos n)]).linkRetrain n := by
  obtain ⟨hen, henMin, henMax⟩ := hs (F.FAB_LCFG.LINK_EN, linkPos n) (by simp)
  obtain ⟨hst, hstMin, hstMax⟩ := hs (F.FAB_LCFG.STRICT_SLOT, linkPos n) (by simp)
  obtain ⟨hkEn, hkStrict, hkReq⟩ := lcfg_keys (linkPos n)
  obtain ⟨hx, hy, hr⟩ := lcfg_bits hen hst
  rw [Block.wordWith_lcfg hen hst]
  set w := 256 + b.shown (linkPage n) F.FAB_LCFG.LINK_EN (linkPos n) + b.shown (linkPage n) F.FAB_LCFG.STRICT_SLOT (linkPos n) * 2
  set b1 := b.rewriteOne (linkPage n) (F.FAB_LCFG.LINK_EN, linkPos n)
  set b2 := b1.rewriteOne (linkPage n) (F.FAB_LCFG.STRICT_SLOT, linkPos n)
  have hshown : b1.shown (linkPage n) F.FAB_LCFG.STRICT_SLOT (linkPos n) = b.shown (linkPage n) F.FAB_LCFG.STRICT_SLOT (linkPos n) :=
    Block.shown_rewriteOne (by omega)
  have hrawEn : F.FAB_LCFG.LINK_EN.raw (linkPos n) _ w = b.shown (linkPage n) F.FAB_LCFG.LINK_EN (linkPos n) :=
    (Field.raw_of_within hkEn (by decide)).trans (by simpa [F.FAB_LCFG.LINK_EN] using hx)
  have hrawStrict : F.FAB_LCFG.STRICT_SLOT.raw (linkPos n) _ w = b.shown (linkPage n) F.FAB_LCFG.STRICT_SLOT (linkPos n) :=
    (Field.raw_of_within hkStrict (by decide)).trans (by simpa [F.FAB_LCFG.STRICT_SLOT] using hy)
  have hrawReq : F.FAB_LCFG.RETRAIN_REQ.raw (linkPos n) _ w = 1 :=
    (Field.raw_of_within hkReq (by decide)).trans (by simpa [F.FAB_LCFG.RETRAIN_REQ] using hr)
  have hfirst : b.stagedWrite (linkPage n) F.FAB_LCFG.LINK_EN (linkPos n) _ w true a = b1 :=
    Block.stagedWrite_standing rfl ((Block.afterWord_of_covers (by decide) (Field.cover_of_within hkEn (by decide)) hen).trans hrawEn)
      (Block.valueOk_lcfg henMin henMax _)
  have hsecond : b1.stagedWrite (linkPage n) F.FAB_LCFG.STRICT_SLOT (linkPos n) _ w true a = b2 :=
    Block.stagedWrite_standing rfl
      ((Block.afterWord_of_covers (by decide) (Field.cover_of_within hkStrict (by decide)) (hshown ▸ hst)).trans (hrawStrict.trans hshown.symm))
      (Block.valueOk_lcfg (hshown ▸ hstMin) (hshown ▸ hstMax) _)
  have hact : b2.immWrite (linkPage n) F.FAB_LCFG.RETRAIN_REQ (linkPos n) _ w a = b2.linkRetrain n :=
    Block.immWrite_of_trigger hrawReq (by decide) (by simp [pageKind_linkPage]) Block.trigger_lcfg
  show _ = b2.linkRetrain n
  rw [Block.fieldsWrite_acts_last (fieldsAt_lcfg n) rfl rfl rfl rfl FKind.noConfusion FKind.noConfusion, hfirst, hsecond, hact]

/-- A field of a quad page beyond the header is written by the fields of its word. -/
theorem Block.fieldWrite_quad (h : s.reaches (linkPage n) a) (ho : 0x40 ≤ f.word i) :
    s.blk.fieldWrite (linkPage n) f i v a = (s.blk.fieldsWrite (linkPage n) (f.word i) (s.blk.wordWith (linkPage n) f i v) a).rest :=
  Block.writeWord_fields h (by simp [pageKind_linkPage]) ho (by simp [pageKind_linkPage])
    (fun e => by have := pageKind_linkPage n; rw [e.1] at this; exact absurd this (by decide)) (by simp [pageKind_linkPage])

/-- A write of RETRAIN_REQ retrains the link of the block whose other fields of the word are rewritten. -/
theorem exec_linkRetrainReq {c : Block} (h : s.reaches (linkPage n) a)
    (hs : s.blk.standing (linkPage n) [(F.FAB_LCFG.LINK_EN, linkPos n), (F.FAB_LCFG.STRICT_SLOT, linkPos n)])
    (hc : (s.blk.rewritten (linkPage n) [(F.FAB_LCFG.LINK_EN, linkPos n), (F.FAB_LCFG.STRICT_SLOT, linkPos n)]).linkRetrain n = c) :
    exec (.linkRetrainReq n a) s = .next (s.withBlk c.rest) := by
  have hword : 0x40 ≤ F.FAB_LCFG.RETRAIN_REQ.word (linkPos n) := by
    simp only [Field.word, Field.key, F.FAB_LCFG.RETRAIN_REQ]
    omega
  exact exec_live h.1 rfl ((Block.fieldWrite_quad h hword).trans (congrArg Block.rest ((Block.fieldsWrite_lcfg hs).trans hc)))

/-- Rewriting staged fields changes no field in effect. -/
theorem Block.eff_rewritten {p q j : Nat} {g : Field} (l : List (Field × Nat)) : (b.rewritten p l).eff q g j = b.eff q g j :=
  List.foldlRecOn (motive := fun (c : Block) => c.eff q g j = b.eff q g j) l _ rfl fun c hc x _ => by split <;> simp [hc]

theorem Block.lstate_rewritten {p m : Nat} (l : List (Field × Nat)) : (b.rewritten p l).lstate m = b.lstate m := by
  rw [Block.lstate, Block.lk, Block.eff_rewritten]
  rfl

theorem Block.linkUp_rewritten {p m : Nat} (l : List (Field × Nat)) : (b.rewritten p l).linkUp m = b.linkUp m := by
  rw [Block.linkUp, Block.linkUp, Block.lstate_rewritten]

theorem Block.link_rewritten {p m : Nat} (l : List (Field × Nat)) : (b.rewritten p l).link m = b.link m :=
  List.foldlRecOn (motive := fun (c : Block) => c.link m = b.link m) l _ rfl fun c hc x _ => by split <;> exact hc

end Lcfg

end Sys2Proof.Machine
end

section
/-! SUPPORT. A link that is UP: narrowing, loss, retraining, flits, LINK units and replays (R339, R343 to R347). -/
namespace Sys2Proof.Machine

/-! ### Narrowing (R343) -/

section Narrow
variable {b : Block} {n lane mask : Nat} {g : Nat × Nat}

/-- The package once a lane of a link has been retired: disabled and reported. -/
def Block.laneLost (b : Block) (n lane : Nat) : Block :=
  (((b.setLink n { b.link n with trained := setBits (b.link n).trained lane 1 0 }).putBit (pgQuad (laneAt n lane).1) F.FAB_QLANE.LANE_UP
    (laneAt n lane).2 false).putBit (pgQuad (laneAt n lane).1) F.FAB_QLANE.LANE_DIS (laneAt n lane).2 true).reportPage (linkPage n) 0x0B02 n

/-- The lanes of a link that both ends can use once one of them has been retired. -/
def Block.lanesLeft (b : Block) (n lane : Nat) : Nat :=
  ({ b.link n with trained := setBits (b.link n).trained lane 1 0 } : LinkX).usable n

theorem Block.laneRetire_of_up (h : b.lstate n = lsUP) (hl : lane < linkLanes n) (ht : (b.link n).trained.testBit lane = true) :
    b.laneRetire n lane = if chooseGroup n (b.lanesLeft n lane) = none then (b.laneLost n lane).linkDown n 0x0B01
      else (b.laneLost n lane).narrowStart n (b.lanesLeft n lane) :=
  if_neg (by simp [h, ht, Nat.not_le.2 hl])

/-- A NARROW set of the peer makes an UP link start to narrow as well. -/
def Block.narrowBegun (b : Block) (n : Nat) : Block := if b.lstate n = lsUP then b.narrowStart n ((b.link n).usable n) else b

/-- The link once it has taken the intersection of its own mask and the peer's, and counted a matching set. -/
def LinkX.narrowed (y : LinkX) (mask : Nat) : LinkX :=
  { y with narrowMask := y.narrowMask &&& mask
           narrowSets := if y.narrowMask &&& mask = y.narrowMask ∧ y.narrowMask &&& mask = mask then y.narrowSets + 1 else 0 }

/-- The package once a link has heard a NARROW set. -/
def Block.narrowHeard (b : Block) (n mask : Nat) : Block := (b.narrowBegun n).setLink n (((b.narrowBegun n).link n).narrowed mask)

section Heard
variable (hup : b.linkUp n = true)
include hup

theorem Block.narrowRx_of_none (hg : chooseGroup n (((b.narrowBegun n).link n).narrowMask &&& mask) = none) :
    b.narrowRx n mask = (b.narrowHeard n mask).linkDown n 0x0B01 := by
  refine (if_neg (by simp [hup])).trans ?_
  show (match chooseGroup n (((b.narrowBegun n).link n).narrowMask &&& mask) with | none => _ | some _ => _) = _
  rw [hg]
  rfl

variable (hg : chooseGroup n (((b.narrowBegun n).link n).narrowMask &&& mask) = some g)
include hg

/-- The link narrows once 16 sets have matched. -/
theorem Block.narrowRx_of_group : b.narrowRx n mask =
    if (((b.narrowBegun n).link n).narrowed mask).narrowSets < 16 then b.narrowHeard n mask
    else ((((b.narrowHeard n mask).setLink n { (b.narrowHeard n mask).link n with
      peerGood := ((b.narrowBegun n).link n).peerGood &&& (((b.narrowBegun n).link n).narrowMask &&& mask) }).linkGroup n g).enterLink n
        lsUP).pump n := by
  refine (if_neg (by simp [hup])).trans ?_
  show (match chooseGroup n (((b.narrowBegun n).link n).narrowMask &&& mask) with | none => _ | some _ => _) = _
  rw [hg]
  rfl

end Heard

end Narrow

/-! ### Loss and retraining (R339) -/

section Loss
variable {b : Block} {n : Nat}

theorem Block.linkLoss_of_up (h : b.linkUp n = true) : b.linkLoss n = b.linkDown n 0x0B01 := if_pos h

theorem Block.linkUp_of_down (h : b.lstate n = lsDOWN) : b.linkUp n = false := by
  simp [Block.linkUp, h]
  decide

theorem Block.linkUp_of_refused (h : b.lstate n = lsREFUSED) : b.linkUp n = false := by
  simp [Block.linkUp, h]
  decide

theorem Block.linkRetrain_of_up (h : b.linkUp n = true) : b.linkRetrain n = b.linkDown n 0 := if_pos h

theorem Block.linkRetrain_of_down (h : b.lstate n = lsDOWN ∨ b.lstate n = lsREFUSED ∧ (b.link n).dupRefused = false) :
    b.linkRetrain n = b.linkDetect n := by
  obtain h | ⟨h, hd⟩ := h
  · rw [Block.linkRetrain, if_neg (by simp [Block.linkUp_of_down h]), if_pos h]
  · rw [Block.linkRetrain, if_neg (by simp [Block.linkUp_of_refused h]), if_neg (by rw [h]; decide), if_pos (by simp [h, hd])]

/-- A link that a doubled slot has refused stays so until reset (R341). -/
theorem Block.linkRetrain_of_dup (h : b.lstate n = lsREFUSED) (hd : (b.link n).dupRefused = true) : b.linkRetrain n = b := by
  rw [Block.linkRetrain, if_neg (by simp [Block.linkUp_of_refused h]), if_neg (by rw [h]; decide), if_neg (by simp [hd])]

theorem Block.downRetry_of_due (hnow : (b.link n).since + 1000000000 ≤ b.now)
    (h : b.lstate n = lsDOWN ∨ b.lstate n = lsREFUSED ∧ b.lk n F.FAB_LSTAT.REFUSED_BY_PEER = 1 ∧ (b.link n).dupRefused = false) :
    b.downRetry n = b.linkDetect n := by
  obtain h | ⟨h, hpeer, hd⟩ := h
  · exact (if_pos hnow).trans (if_pos h)
  · exact (if_pos hnow).trans ((if_neg (by rw [h]; decide)).trans (if_pos (by simp [h, hpeer, hd])))

theorem Block.replayExhaust_of_late (h : b.lstate n = lsUP) (hmax : b.eff (linkPage n) F.FAB_X_LINK.REPLAY_MAX ≤ (b.link n).replays + 1) :
    b.replayExhaust n = b.linkDown n 0x0B08 := if_pos ⟨h, hmax⟩

end Loss

/-! ### Flits and LINK units (R344 to R347) -/

section Flits
variable {b : Block} {n fseq fec : Nat} {crc : Bool}

/-- The package once the FEC of a flit has been counted. -/
def Block.fecCounted (b : Block) (n fec : Nat) : Block :=
  if fec = fecCorrected then b.bumpWrap (linkPage n) F.FAB_LERR0.FEC_CORR_CNT (linkPos n)
  else if fec = fecClean then b else b.bump (linkPage n) F.FAB_LERR1.FEC_UNCORR_CNT (linkPos n)

/-- The package once the checks of a PAYLOAD flit have been counted. -/
def Block.flitCounted (b : Block) (n fec : Nat) (crc : Bool) : Block :=
  if fec ≤ 1 ∧ crc = false then (b.fecCounted n fec).bump (linkPage n) F.FAB_LERR2.CRC_ERR_CNT (linkPos n) else b.fecCounted n fec

theorem Block.link_flitCounted (m : Nat) : (b.flitCounted n fec crc).link m = b.link m := by
  unfold Block.flitCounted Block.fecCounted
  split_ifs <;> rfl

theorem Block.fecCounted_eq (v : BitVec 8) : b.fecCounted n v.toNat =
    if v = 1 then b.bumpWrap (linkPage n) F.FAB_LERR0.FEC_CORR_CNT (linkPos n)
    else if v = 0 then b else b.bump (linkPage n) F.FAB_LERR1.FEC_UNCORR_CNT (linkPos n) := by
  rw [Block.fecCounted]
  exact if_congr (BitVec.toNat_inj (x := v) (y := 1)) rfl (if_congr (BitVec.toNat_inj (x := v) (y := 0)) rfl rfl)

/-- The FEC of a flit that can be read was clean or has corrected it. -/
theorem Block.fecCounted_of_readable {v : BitVec 8} (h : v.toNat ≤ 1) :
    b.fecCounted n v.toNat = if v = 1 then b.bumpWrap (linkPage n) F.FAB_LERR0.FEC_CORR_CNT (linkPos n) else b := by
  rw [Block.fecCounted_eq]
  by_cases h1 : v = 1
  · rw [if_pos h1, if_pos h1]
  · rw [if_neg h1, if_neg h1, if_pos (by bv_omega)]

theorem Block.flitCounted_of_crc : b.flitCounted n fec true = b.fecCounted n fec := if_neg (by simp)

/-- A PAYLOAD flit is taken in its order, or discarded with at most one NAK (R347). -/
theorem Block.flitRx_payload (h : b.linkUp n = true) : b.flitRx n 1 fseq fec crc =
    if fec ≤ 1 ∧ crc = true ∧ fseq = (b.link n).rxSeq then
      ((b.flitCounted n fec crc).setLink n { b.link n with rxSeq := ((b.link n).rxSeq + 1) % 1024, nakSent := false
                                                           sinceAck := (b.link n).sinceAck + 1 }).bumpWrap (linkPage n) F.FAB_LRX.RX_UNITS
        (linkPos n) 20
    else if (b.link n).nakSent = true then b.flitCounted n fec crc
    else (b.flitCounted n fec crc).linkUnitOut n { b.link n with nakSent := true } true := by
  have hcount : (if (!decide (1 < fec) && (!crc || decide ((1 : Nat) = 3))) = true
      then (b.fecCounted n fec).bump (linkPage n) F.FAB_LERR2.CRC_ERR_CNT (linkPos n) else b.fecCounted n fec) = b.flitCounted n fec crc := by
    rw [Block.flitCounted]
    exact if_congr (by simp) rfl rfl
  refine (if_neg (by simp [h])).trans ?_
  show (if (1 : Nat) = 1 then _ else _) = _
  rw [if_pos rfl]
  simp only [Block.fecCounted] at hcount
  simp only [hcount, Block.link_flitCounted]
  exact if_congr (by simp [and_assoc]) rfl rfl

variable {u : LinkAck} {x : LinkX}

/-- A LINK unit adds to the credit of each virtual channel. -/
theorem LinkX.credit_took (v : Fin 5) : (x.took u).credit.getD v 0 = x.credit.getD v 0 + u.cred.getD v 0 := by
  have hlist : (x.took u).credit = (List.range 5).map (fun v => x.credit.getD v 0 + u.cred.getD v 0) := by
    unfold LinkX.took
    simp only []
    split <;> rfl
  rw [hlist]
  simp [List.getD_eq_getElem?_getD]

/-- An ACK_SEQ that names no flit of the replay buffer takes none out of it. -/
theorem LinkX.ackSeq_took_of_outside (h : x.unacked < (u.ack + 1024 - x.ackSeq) % 1024) : (x.took u).ackSeq = x.ackSeq := by
  rw [LinkX.took, if_pos (.inr h)]

theorem LinkX.took_of_within (h0 : 0 < (u.ack + 1024 - x.ackSeq) % 1024) (h : (u.ack + 1024 - x.ackSeq) % 1024 ≤ x.unacked) :
    (x.took u).ackSeq = u.ack ∧ (x.took u).replays = 0 := by
  rw [LinkX.took, if_neg (not_or.2 ⟨h0.ne', Nat.not_lt.2 h⟩)]
  exact ⟨rfl, rfl⟩

theorem Block.linkUnitRx_of_ack (h : b.linkUp n = true) : b.linkUnitRx n u false = (b.setLink n ((b.link n).took u)).pump n :=
  if_neg (by simp [h])

theorem Block.linkUnitRx_of_nak (h : b.linkUp n = true) : b.linkUnitRx n u true =
    (((b.setLink n { (b.link n).took u with replays := ((b.link n).took u).replays + 1 }).bump (linkPage n) F.FAB_LERR1.REPLAY_CNT
      (linkPos n)).raise (linkPage n) 6).pump n :=
  if_neg (by simp [h])

theorem Block.linkUnitTx_of_up (h : b.linkUp n = true) : b.linkUnitTx n = b.linkUnitOut n (b.link n) false := if_pos h

end Flits

/-- Settles O42: each command finds the link in the state that its guard names; a write of RETRAIN_REQ acts on the block whose staged fields
it has rewritten, which have no part in the state of the link. -/
theorem linksCarryFlits : Obligations.LinksCarryFlits := by
  unfold Obligations.LinksCarryFlits
  intro s n lane mask a kind fseq fec crc u nak hlive b x p i
  refine ⟨fun h hl ht => ?retire, fun hup => ?narrow, fun hup => ?loss, ?retrain, fun hnow h => ?retry, fun hup => ?flit, fun hup => ?unit,
    fun hup => ?send, fun h hmax => ?exhaust⟩
  case retire =>
    have hb := Block.laneRetire_of_up (b := b) h hl ht
    exact ⟨fun hg => exec_live hlive rfl (congrArg Block.rest (hb.trans (if_pos hg))),
      fun hg => exec_live hlive rfl (congrArg Block.rest (hb.trans (if_neg hg)))⟩
  case narrow =>
    refine ⟨fun hg => ?_, fun g hg hfew => ?_, fun g hg hall => ?_⟩
    · exact exec_live hlive rfl (congrArg Block.rest (Block.narrowRx_of_none hup hg))
    · exact exec_live hlive rfl (congrArg Block.rest ((Block.narrowRx_of_group hup hg).trans (if_pos hfew)))
    · exact exec_live hlive rfl (congrArg Block.rest ((Block.narrowRx_of_group hup hg).trans (if_neg (Nat.not_lt.2 hall))))
  case loss =>
    exact ⟨exec_live hlive rfl (congrArg Block.rest (Block.linkLoss_of_up hup)), Block.lstate_linkDown, Block.width_linkDown⟩
  case retrain =>
    intro l r hreach hstand
    refine ⟨fun h => ?_, fun h => ?_, fun h hd => ?_⟩
    · exact exec_linkRetrainReq hreach hstand (Block.linkRetrain_of_up ((Block.linkUp_rewritten l).trans h))
    · exact exec_linkRetrainReq hreach hstand (Block.linkRetrain_of_down (by rw [Block.lstate_rewritten, Block.link_rewritten]; exact h))
    · exact exec_linkRetrainReq hreach hstand
        (Block.linkRetrain_of_dup ((Block.lstate_rewritten l).trans h) (by rw [Block.link_rewritten]; exact hd))
  case retry => exact exec_live hlive rfl (Block.downRetry_of_due hnow h)
  case flit =>
    have hpay (hk : kind = 1) {c : Block} (hc : b.flitRx n 1 fseq.toNat fec.toNat crc = c) :
        exec (.flitRx n kind fseq fec crc) s = .next (s.withBlk c.rest) := by
      subst hk
      exact exec_live hlive rfl (congrArg Block.rest hc)
    refine ⟨fun hk hf hc hs => ?taken, fun hk hf hc hs hn => ?again, fun hk hn hbad => ?nak⟩
    case taken =>
      have hcount : b.flitCounted n fec.toNat crc = if fec = 1 then b.bumpWrap p F.FAB_LERR0.FEC_CORR_CNT i else b := by
        rw [hc, Block.flitCounted_of_crc, Block.fecCounted_of_readable hf]
      exact hpay hk ((Block.flitRx_payload hup).trans ((if_pos ⟨hf, hc, hs⟩).trans (by rw [hcount])))
    case again =>
      have hcount : b.flitCounted n fec.toNat crc = b := by
        rw [hc, hf]
        rfl
      exact hpay hk ((Block.flitRx_payload hup).trans ((if_neg fun e => hs e.2.2).trans ((if_pos hn).trans hcount)))
    case nak =>
      have hnot : ¬ (fec.toNat ≤ 1 ∧ crc = true ∧ fseq.toNat = x.rxSeq) := by
        rintro ⟨hf, hc, hs⟩
        obtain h | h | h := hbad
        · omega
        · exact absurd hc (by simp [h])
        · exact h hs
      refine hpay hk ((Block.flitRx_payload hup).trans ((if_neg hnot).trans ((if_neg (by rw [hn]; decide)).trans ?_)))
      rw [Block.flitCounted, Block.fecCounted_eq]
      rfl
  case unit =>
    refine ⟨LinkX.credit_took, LinkX.ackSeq_took_of_outside, LinkX.took_of_within, fun hn => ?_, fun hn => ?_⟩
    · subst hn
      exact exec_live hlive rfl (congrArg Block.rest (Block.linkUnitRx_of_ack hup))
    · subst hn
      exact exec_live hlive rfl (congrArg Block.rest (Block.linkUnitRx_of_nak hup))
  case send => exact exec_live hlive rfl (Block.linkUnitTx_of_up hup)
  case exhaust => exact exec_live hlive rfl (congrArg Block.rest (Block.replayExhaust_of_late h hmax))

end Sys2Proof.Machine
end

section
/-! SUPPORT. Atomics, from packets and from tiles (R114, R353). -/
namespace Sys2Proof.Machine

/-! ### An atomic on this package's memory -/

section Local
variable {b : Block} {code off ten page opd cmp v : Nat} {priv : Bool}

theorem Block.writeCheck_ok {len : Nat} (hu : b.usable off len = true) (hk : b.keysOk ten off len priv = true) :
    b.writeCheck off len ten priv page = (b, stOK) :=
  (if_neg (by simp [hu])).trans (if_neg (by simp [hk]))

variable (hv : atomicNew code (b.m64 off) opd cmp = some v)
include hv

theorem Block.atomicLocal_misaligned (ha : off % 8 ≠ 0) : b.atomicLocal code off ten priv page opd cmp = (b, stALIGN, 0) := by
  rw [Block.atomicLocal]
  simp only [hv]
  exact if_pos ha

/-- An atomic that nothing refuses stores its new value and answers the old one. -/
theorem Block.atomicLocal_ok (ha : off % 8 = 0) (hu : b.usable off 8 = true) (hk : b.keysOk ten off 8 priv = true)
    (hframe : b.frame (off / 4096) = frWRITABLE) (hlease : b.leaseFull (off / 4096) = false) (hopen : b.memOpen page off 8 = true)
    (hpoison : b.poisoned off 8 = false) :
    b.atomicLocal code off ten priv page opd cmp = ((b.storeNat off 8 v).countWrite off 8, stOK, b.m64 off) := by
  rw [Block.atomicLocal]
  simp only [hv, Block.writeCheck_ok hu hk]
  simp [ha, hframe, hlease, hopen, hpoison]

end Local

/-! ### From a packet and from a tile -/

section Atom
variable {s : State} {q : Fin 36} {p : Packet} {code : Nat}

theorem Block.atomPacket_of_meant (h : s.meant q p) (hs : (s.blk.freeUnits q p).safe = false) (hr : (s.blk.freeUnits q p).asleep = false)
    (hc : p.acode < 10) {r : Block × Nat × Nat} (hl : (s.blk.freeUnits q p).atomicLocal code p.addr p.tenant p.priv (pgQuad q)
      (leNat (p.payload.take 8)) (leNat ((p.payload.drop 8).take 8)) = r) :
    s.blk.atomPacket q code p =
      r.1.reply { respond p ptATOM_CPL r.2.1 with payload := leBytes 8 r.2.2 ++ List.replicate 24 0, len := 32 } := by
  rw [Block.atomPacket, Block.packetIn_of_meant h]
  simp only [hs, hr, if_neg (Nat.not_le.2 hc), hl, Bool.false_eq_true, if_false]

variable {t sa sb tag off : Nat}

/-- A nonzero bit in OFFSET[31:4] raises ILLEGAL_INSN (R114). -/
theorem Block.datom_of_wide {b : Block} (h : 16 ≤ off) : b.datom t sa sb tag off = b.illegal t := if_pos h

section Datom
variable (h : s.issues t) (ht : tag < 12) (hoff : off < 16) (hfree : s.blk.sramFree t ((s.blk.tile t).s sb).toNat 16)
include h ht hoff hfree

/-- DATOM goes on to the checks of R353. -/
theorem Block.datom_go : s.blk.datom t sa sb tag off =
    if ((s.blk.tile t).s sa).toNat % 8 ≠ 0 ∨ !inSram ((s.blk.tile t).s sb).toNat 16 then
      (s.blk.tileNext t (s.blk.tile t)).tagAtOnce t tag stALIGN
    else (s.blk.tileNext t (s.blk.tile t)).startTag t tag
      (.atomic off (rd64 (s.blk.tile t).byte ((s.blk.tile t).s sb).toNat) (rd64 (s.blk.tile t).byte (((s.blk.tile t).s sb).toNat + 8)))
      [{ addr := ((s.blk.tile t).s sa).toNat, len := 8, sram := ((s.blk.tile t).s sb).toNat }] [] (s.blk.tile t).tenant t none :=
  (if_neg (Nat.not_le.2 hoff)).trans (Block.dmaInsn_go_one h ht hfree)

theorem Block.datom_misaligned (ha : ((s.blk.tile t).s sa).toNat % 8 ≠ 0 ∨ sramSize < ((s.blk.tile t).s sb).toNat + 16) :
    s.blk.datom t sa sb tag off = (s.blk.tileNext t (s.blk.tile t)).tagAtOnce t tag stALIGN :=
  (Block.datom_go h ht hoff hfree).trans (if_pos (ha.imp id fun hr => by simpa [inSram] using hr))

theorem Block.datom_starts (ha : ((s.blk.tile t).s sa).toNat % 8 = 0) (hr : ((s.blk.tile t).s sb).toNat + 16 ≤ sramSize) :
    s.blk.datom t sa sb tag off = (s.blk.tileNext t (s.blk.tile t)).startTag t tag
      (.atomic off (rd64 (s.blk.tile t).byte ((s.blk.tile t).s sb).toNat) (rd64 (s.blk.tile t).byte (((s.blk.tile t).s sb).toNat + 8)))
      [{ addr := ((s.blk.tile t).s sa).toNat, len := 8, sram := ((s.blk.tile t).s sb).toNat }] [] (s.blk.tile t).tenant t none :=
  (Block.datom_go h ht hoff hfree).trans (if_neg (by simp [ha, inSram_iff.2 hr]))

end Datom

/-- A command of the model is the atomic of a code: what it runs, and the instruction that its code spells. -/
structure IsAtomic (c : AtomSrc → Instr) (code : Nat) : Prop where
  listed : code < 10
  runs : ∀ src s, exec (c src) s = .next (s.act fun b => (b.atomOp code src).rest)
  spelled : ∀ src, atomOf code src = c src

theorem IsAtomic.exec_packet {c : AtomSrc → Instr} {b : Block} (hc : IsAtomic c code) (hlive : s.live) (hb : s.blk.atomPacket q code p = b) :
    exec (c (.packet q p)) s = .next (s.withBlk b.rest) :=
  exec_live hlive (hc.runs _ _) (congrArg Block.rest hb)

theorem IsAtomic.exec_datom {c : AtomSrc → Instr} {b : Block} {t : Fin 288} {sa sb : BitVec 5} {tag : BitVec 4} {off : BitVec 32}
    (hc : IsAtomic c code) (h : s.issues t) (hn : s.nextIs t (c (.datom t sa sb tag off)))
    (hb : s.blk.datom t sa.toNat sb.toNat tag.toNat off.toNat = b) : exec (c (.datom t sa sb tag off)) s = .next (s.withBlk b.rest) := by
  have hfetched : s.blk.fetched t = some (atomOf code (.datom t sa sb tag off)) := hn.trans (congrArg some (hc.spelled _).symm)
  have hdatom : s.blk.atomOp code (.datom t sa sb tag off) = b := (Block.issue_next (fun b => b.datom t _ _ _ _) hfetched).trans hb
  exact exec_live h.1 (hc.runs _ _) (congrArg Block.rest hdatom)

end Atom

/-- Settles O43: the ten commands are the atomics of the codes 0 to 9, whose new values are those of R353; a packet and a tile then do the one
or the other of two things. -/
theorem atomicOperations : Obligations.AtomicOperations := by
  unfold Obligations.AtomicOperations
  intro s q p t sa sb tag off b old opd cmp answer r hr
  obtain ⟨hc, hnew⟩ : IsAtomic r.1 r.2.1 ∧ atomicNew r.2.1 old opd cmp = some r.2.2 := by
    clear_value old opd cmp
    simp only [List.mem_cons, List.not_mem_nil, or_false] at hr
    rcases hr with rfl | rfl | rfl | rfl | rfl | rfl | rfl | rfl | rfl | rfl <;>
      exact ⟨⟨by simp, fun _ _ => rfl, fun _ => rfl⟩, rfl⟩
  refine ⟨fun h hs ha hac => ⟨fun hal => ?packetAlign, fun hal hu hk hf hl ho hp => ?packet⟩, fun h hn hw => ?wide, fun h hn ht hoff => ?_⟩
  case packetAlign => exact hc.exec_packet h.1 (Block.atomPacket_of_meant h hs ha hac (Block.atomicLocal_misaligned hnew hal))
  case packet => exact hc.exec_packet h.1 (Block.atomPacket_of_meant h hs ha hac (Block.atomicLocal_ok hnew hal hu hk hf hl ho hp))
  case wide => exact hc.exec_datom h hn (Block.datom_of_wide hw)
  have hlt : off.toNat < 16 := by have := hc.listed; omega
  refine fun hfree => ⟨fun hal => ?tileAlign, fun hal hr => ?tile⟩
  case tileAlign => exact hc.exec_datom h hn (Block.datom_misaligned h ht hlt hfree hal)
  case tile =>
    rw [← hoff]
    exact hc.exec_datom h hn (Block.datom_starts h ht hlt hfree hal hr)

end Sys2Proof.Machine
end

section
/-! SUPPORT. Packets at their destination and at their source: reads, writes, their answers and acknowledgements (R349, R352 to R354, R364,
R367). -/
namespace Sys2Proof.Machine

/-- A command that acts on the package and lets it come to rest. -/
theorem exec_rest {s : State} {c : Instr} {f : Block → Block} {b : Block} (hlive : s.live)
    (he : exec c s = .next (s.act fun b => (f b).rest)) (hb : f s.blk = b) : exec c s = .next (s.withBlk b.rest) :=
  exec_live hlive he (congrArg Block.rest hb)

theorem Block.badPacket_of_unlisted {b : Block} {q : Nat} {p : Packet} (h : packetTypes.contains p.type = false) :
    b.badPacket q p = b.bump (pgQuad q) F.FAB_QCNT0.BAD_PKT_CNT := if_neg (by rw [h]; decide)

/-- The acknowledgement that a path is owed leaves once it has waited (R364). -/
theorem Block.ackExpire_of_due {b : Block} {k : Nat} {e : AckQ} (hk : SMap.find b.ackq k = some e)
    (hdue : e.since + b.eff pgGfab F.FAB_X_ACK.ACK_COALESCE ≤ b.now) : b.ackExpire k =
      ({ b with ackq := SMap.erase b.ackq k } : Block).reply { respond e.pkt ptWR_ACK stOK with len := e.count } := by
  simp only [Block.ackExpire, Block.ackSend, hk, if_pos hdue]

/-! ### Requests that are served here -/

section Serve
variable {b0 b : Block} {q : Nat} {p : Packet} (hin : ∀ go, b0.packetIn q p go = go b)
include hin

theorem Block.rdReq_of_safe (hs : b.safe = true) : b0.rdReq q p = b.reply (respond p ptRD_CPL stSAFE) := (hin _).trans (if_pos hs)

theorem Block.rdReq_of_asleep (hs : b.safe = false) (ha : b.asleep = true) : b0.rdReq q p = b.reply (respond p ptRD_CPL stISLAND) :=
  (hin _).trans ((if_neg (by simp [hs])).trans (if_pos ha))

/-- A read is answered with its status and bytes; the lines of frozen frames may be kept. -/
theorem Block.rdReq_of_awake (hs : b.safe = false) (ha : b.asleep = false) {r : Block × Nat × List Byte}
    (hr : b.readLocal p.addr (min p.len 4096) p.tenant p.priv p.part (pgQuad q) = r) : b0.rdReq q p =
      (if r.2.1 = stOK ∧ (∀ f ∈ framesOf p.addr p.len, b.frame f = frFROZEN) then r.1.emit (.event "cacheable" [p.src, p.tag]) else r.1).reply
        { respond p ptRD_CPL r.2.1 with payload := r.2.2, len := r.2.2.length, addr := p.addr, injTick := b.now % 2 ^ 32 } := by
  refine (hin _).trans ((if_neg (by simp [hs])).trans ((if_neg (by simp [ha])).trans ?_))
  simp only [hr, List.all_eq_true, decide_eq_true_eq]
  exact (apply_ite (fun c : Block => c.reply _) _ _ _).symm

/-! A write (R198, R200, R352) -/

/-- The lease that a write names covers every frame that it touches. -/
abbrev Block.covers (b : Block) (p : Packet) : Prop :=
  ∀ f ∈ framesOf p.addr (p.payload.take 4096).length, f ∈ b.leaseOf p.src p.lease

omit hin in
theorem Block.covers_iff : ((framesOf p.addr (p.payload.take 4096).length).all fun f => (b.leaseOf p.src p.lease).contains f) = true ↔
    b.covers p := by simp only [Block.covers, List.all_eq_true, List.contains_iff_mem]

theorem Block.wrPacket_of_safe (hs : b.safe = true)
    (h : isDoorbell p.addr (p.payload.take 4096).length = true ∨ ¬ b.covers p) : b0.wrPacket q p = b.ackBad p stSAFE := by
  refine (hin _).trans ((if_pos hs).trans ?_)
  rw [if_neg]
  rw [Block.covers_iff]
  rintro ⟨hc, hd⟩
  exact h.elim (fun e => by rw [e] at hd; exact absurd hd (by decide)) fun e => e hc

/-- A write in flight when the safe state is entered leaves its bytes undefined (R354). -/
theorem Block.wrPacket_of_safe_covered (hs : b.safe = true) (hd : isDoorbell p.addr (p.payload.take 4096).length = false) (hc : b.covers p) :
    b0.wrPacket q p = (b.undefine p.addr (p.payload.take 4096).length).ackBad p stSAFE := by
  refine (hin _).trans ((if_pos hs).trans ?_)
  rw [if_pos ⟨Block.covers_iff.2 hc, by rw [hd]; rfl⟩]

variable (hs : b.safe = false)
include hs

theorem Block.wrPacket_of_asleep (ha : b.asleep = true) : b0.wrPacket q p = b.ackBad p stISLAND :=
  (hin _).trans ((if_neg (by simp [hs])).trans (if_pos ha))

variable (ha : b.asleep = false)
include ha

theorem Block.wrPacket_of_door (hd : isDoorbell p.addr (p.payload.take 4096).length = true) : b0.wrPacket q p =
    if b.groupRetired 31 then (b.reportRange (pgQuad q)).ackBad p stRANGE
    else if b.doorFull (p.payload.take 4096) then b
    else (b.doorbellWrite p.priv (p.payload.take 4096)).ackOwe p :=
  (hin _).trans ((if_neg (by simp [hs])).trans ((if_neg (by simp [ha])).trans (if_pos hd)))

variable (hd : isDoorbell p.addr (p.payload.take 4096).length = false)
include hd

theorem Block.wrPacket_of_covered (hc : b.covers p) : b0.wrPacket q p =
    ((b.store p.addr (p.payload.take 4096)).countWrite p.addr (p.payload.take 4096).length).ackOwe p :=
  (hin _).trans ((if_neg (by simp [hs])).trans ((if_neg (by simp [ha])).trans ((if_neg (by rw [hd]; decide)).trans
    (if_pos (Block.covers_iff.2 hc)))))

/-- A write is refused for the first frame that its lease does not cover. -/
theorem Block.wrPacket_of_frozen {f : Nat} (hf : (framesOf p.addr (p.payload.take 4096).length).find?
    (fun f => !(b.leaseOf p.src p.lease).contains f) = some f) : b0.wrPacket q p = (b.writeFrozen f).ackBad p stFROZEN := by
  have hnot : ¬ b.covers p := fun hc => by
    have hmem := hc f (List.mem_of_find?_eq_some hf)
    have hout := List.find?_some hf
    simp [hmem] at hout
  refine (hin _).trans ((if_neg (by simp [hs])).trans ((if_neg (by simp [ha])).trans ((if_neg (by rw [hd]; decide)).trans
    ((if_neg fun e => hnot (Block.covers_iff.1 e)).trans ?_))))
  rw [hf]
  rfl

end Serve

/-! ### Answers to requests of this package -/

section Answer
variable {b0 b : Block} {q : Nat} {p : Packet} {cache : Bool} {r : Req} {x : Xfer} (hin : ∀ go, b0.packetIn q p go = go b)

/-- A transfer once a piece of its read has been answered. -/
def Block.readTaken (b : Block) (p : Packet) (cache : Bool) (r : Req) (x : Xfer) : Block :=
  (((b.dropReq r).pieceOver r.xfer p.status).countFarRead r.pkt.dst r.pkt.addr r.pkt.len cache).setXfer
    { x with data := setAt x.data r.piece (p.payload.take r.pkt.len), uncached := x.uncached || !cache
             readTick := some (match x.readTick with
               | some t => min t (b.tick32 p.injTick)
               | none => b.tick32 p.injTick) }

section Read
variable (hr : b.reqOf p = some r) (ht : r.pkt.type = ptRD_REQ) (hx : ((b.dropReq r).pieceOver r.xfer p.status).xfer? r.xfer = some x)
include hin hr ht hx

/-- The bytes of a piece that failed, that may not be kept, or that a proof list reads start no fill. -/
theorem Block.rdCpl_uncached (h : p.status ≠ 0 ∨ cache = false ∨ ∃ i j l, x.owner = .proof i j l) :
    b0.rdCpl q p cache = (b.readTaken p cache r x).readSettle r.xfer := by
  refine (hin _).trans ?_
  simp only [hr, ht, ne_eq, not_true_eq_false, if_false, hx]
  rw [if_neg]
  · rfl
  · rintro ⟨h0, hc, hp⟩
    obtain h | h | ⟨i, j, l, h⟩ := h
    · exact h h0
    · simp [h] at hc
    · simp [h] at hp

theorem Block.rdCpl_fills (h0 : p.status = 0) (hc : cache = true) (hp : ∀ i j l, x.owner ≠ .proof i j l) : b0.rdCpl q p cache =
    ((b.readTaken p cache r x).farFills r.pkt.dst r.pkt.addr x.part (b.tick32 p.injTick) (p.payload.take r.pkt.len)).readSettle r.xfer := by
  refine (hin _).trans ?_
  simp only [hr, ht, ne_eq, not_true_eq_false, if_false, hx]
  rw [if_pos]
  · rfl
  · refine ⟨h0, hc, ?_⟩
    cases ho : x.owner with
    | proof i j l => exact absurd ho (hp i j l)
    | _ => rfl

end Read

section Atom
variable (hr : b.reqOf p = some r) (ht : r.pkt.type = ptATOM)
include hin hr ht

theorem Block.atomCpl_of_retry (h : p.status = stRETRY) : b0.atomCpl q p = (b.dropReq r).leaseRefused r.xfer stRETRY := by
  refine (hin _).trans ?_
  simp only [hr, ht, ne_eq, not_true_eq_false, if_false, if_pos h]

theorem Block.atomCpl_of_answer (h : p.status ≠ stRETRY) (hx : ((b.dropReq r).pieceOver r.xfer p.status).xfer? r.xfer = some x) :
    b0.atomCpl q p = (((b.dropReq r).pieceOver r.xfer p.status).setXfer { x with data := [p.payload.take 8] }).readSettle r.xfer := by
  refine (hin _).trans ?_
  simp only [hr, ht, ne_eq, not_true_eq_false, if_false, if_neg h, hx]

end Atom

end Answer

/-- Settles O44: a packet that is meant for the package is taken by the block that has freed its units, in the branch of its condition. -/
theorem packetsAreServed : Obligations.PacketsAreServed := by
  unfold Obligations.PacketsAreServed
  intro s q p cache path b0 b bs bad
  refine ⟨fun hlive ht => ?unlisted, fun e hlive hk hdue => ?expire, fun h => ?_⟩
  case unlisted => exact exec_live hlive rfl (Block.badPacket_of_unlisted ht)
  case expire => exact exec_live hlive rfl (Block.ackExpire_of_due hk hdue)
  have hlive := h.1
  have hin : ∀ go, s.blk.packetIn q p go = go b := Block.packetIn_of_meant h
  refine ⟨fun hs => ?readSafe, fun hs ha => ?readAsleep, fun hs ha => ?read, fun hs hno => ?writeSafe, fun hs hd hc => ?writeUndefined,
    fun hs ha => ?writeAsleep, fun hs ha hd => ?door, fun hs ha hd => ⟨fun hc => ?write, fun f hf => ?writeFrozen⟩, ?writeAck,
    fun r x hr ht hx => ⟨fun hno => ?readAnswer, fun h0 hc hp => ?readFills⟩,
    fun r hr ht => ⟨fun hst => ?atomRetry, fun x hst hx => ?atomAnswer⟩⟩
  case readSafe => exact exec_rest hlive rfl (Block.rdReq_of_safe hin hs)
  case readAsleep => exact exec_rest hlive rfl (Block.rdReq_of_asleep hin hs ha)
  case read => exact exec_rest hlive rfl (Block.rdReq_of_awake hin hs ha rfl)
  case writeSafe => exact exec_rest hlive rfl (Block.wrPacket_of_safe hin hs hno)
  case writeUndefined => exact exec_rest hlive rfl (Block.wrPacket_of_safe_covered hin hs hd hc)
  case writeAsleep => exact exec_rest hlive rfl (Block.wrPacket_of_asleep hin hs ha)
  case door =>
    have hb := Block.wrPacket_of_door hin hs ha hd
    refine ⟨fun hg => ?_, fun hg hfull => ?_, fun hg hroom => ?_⟩
    · exact exec_rest hlive rfl (hb.trans (if_pos hg))
    · exact exec_rest hlive rfl (hb.trans ((if_neg (by simp [hg])).trans (if_pos (decide_eq_true hfull))))
    · exact exec_rest hlive rfl (hb.trans ((if_neg (by simp [hg])).trans (if_neg fun e => Nat.not_lt.2 hroom (of_decide_eq_true e))))
  case write => exact exec_rest hlive rfl (Block.wrPacket_of_covered hin hs ha hd hc)
  case writeFrozen => exact exec_rest hlive rfl (Block.wrPacket_of_frozen hin hs ha hd hf)
  case writeAck => exact exec_rest hlive rfl (hin _)
  case readAnswer => exact exec_rest hlive rfl (Block.rdCpl_uncached hin hr ht hx hno)
  case readFills => exact exec_rest hlive rfl (Block.rdCpl_fills hin hr ht hx h0 hc hp)
  case atomRetry => exact exec_rest hlive rfl (Block.atomCpl_of_retry hin hr ht hst)
  case atomAnswer => exact exec_rest hlive rfl (Block.atomCpl_of_answer hin hr ht hst hx)

end Sys2Proof.Machine
end

section
/-! SUPPORT. Leases of other packages, flush markers and segments (R352, R366, R369). -/
namespace Sys2Proof.Machine

/-! ### Leases: what a grant leaves alone (R197, R352) -/

section Frames
variable {b : Block} {off len ten page : Nat} {priv : Bool}

theorem Block.unlease_frames (fs : List Nat) : (b.unlease fs).frames = b.frames :=
  List.foldlRecOn (motive := fun c : Block => c.frames = b.frames) fs _ rfl fun _ hc _ _ => hc

theorem Block.writeFrozen_frames (f : Nat) : (b.writeFrozen f).frames = b.frames := by
  obtain ⟨ps, o, e, h⟩ := Block.raise_eq (b := b.bump pgDev F.DEV_FRZ_REJ.WFROZEN_CNT) (p := pgDev) (i := 2)
  rw [Block.writeFrozen, h]
  rfl

theorem Block.askLeases_frames (fs : List Nat) : (b.askLeases fs).1.frames = b.frames := by
  induction fs generalizing b with
  | nil => rfl
  | cons f fs ih =>
    unfold Block.askLeases
    split
    · rfl
    · split
      · rfl
      · exact ih

theorem Block.takeLeases_frames (fs : List Nat) : (b.takeLeases fs).1.frames = b.frames := by
  unfold Block.takeLeases
  simp only []
  split
  · exact Block.askLeases_frames fs
  · split
    · exact (Block.writeFrozen_frames _).trans ((Block.unlease_frames _).trans (Block.askLeases_frames fs))
    · exact (Block.unlease_frames _).trans (Block.askLeases_frames fs)

/-- A check that passes changes nothing. -/
theorem Block.writeCheck_of_ok (h : (b.writeCheck off len ten priv page).2 = stOK) : (b.writeCheck off len ten priv page).1 = b := by
  unfold Block.writeCheck at h ⊢
  split at h
  · exact absurd (show stRANGE = stOK from h) (by decide)
  · split at h
    · exact absurd (show stKEY = stOK from h) (by decide)
    · rename_i hu hk
      rw [if_neg hu, if_neg hk]

end Frames

/-! ### Leases asked for, granted and given back -/

section Lease
variable {b0 b : Block} {q : Nat} {p : Packet} (hin : ∀ go, b0.packetIn q p go = go b)

section Refused
include hin

theorem Block.leaseReq_of_safe (hs : b.safe = true) : b0.leaseReq q p = b.reply (respond p ptLEASE_RSP stSAFE) := (hin _).trans (if_pos hs)

theorem Block.leaseReq_of_asleep (hs : b.safe = false) (ha : b.asleep = true) : b0.leaseReq q p = b.reply (respond p ptLEASE_RSP stISLAND) :=
  (hin _).trans ((if_neg (by simp [hs])).trans (if_pos ha))

theorem Block.segPacket_of_safe (hs : b.safe = true) : b0.segPacket q p = b.reply (respond p ptSEG_ACK stSAFE) := (hin _).trans (if_pos hs)

theorem Block.segPacket_of_asleep (hs : b.safe = false) (ha : b.asleep = true) : b0.segPacket q p = b.reply (respond p ptSEG_ACK stISLAND) :=
  (hin _).trans ((if_neg (by simp [hs])).trans (if_pos ha))

end Refused

/-- The check of the frames that a LEASE_REQ names. -/
def Block.leaseCheck (b : Block) (q : Nat) (p : Packet) : Block × Nat :=
  b.writeCheck (p.addr / 4096 * 4096) (p.len * 4096) p.tenant p.priv (pgQuad q)

/-- The frames that a LEASE_REQ names. -/
def leaseFrames (p : Packet) : List Nat := (List.range p.len).map (· + p.addr / 4096)

/-- The number of a new lease: the next that is free. -/
def Block.newLease (b : Block) : Nat :=
  (b.nextId + ((List.range 65536).find? (fun i => (SMap.find b.rleases ((b.nextId + i) % 65536)).isNone)).getD 0) % 65536

/-- The package once it has listed a new lease. -/
def Block.leaseListed (b : Block) (p : Packet) (fs : List Nat) : Block :=
  { b with rleases := SMap.set b.rleases b.newLease { src := p.src, tag := p.tag, frames := fs }, nextId := b.nextId + 1 }

theorem Block.newLease_lt : b.newLease < 65536 := Nat.mod_lt _ (by decide)

theorem Block.leaseOf_leaseListed (fs : List Nat) : (b.leaseListed p fs).leaseOf p.src b.newLease = fs := by
  simp [Block.leaseOf, Block.leaseListed, SMap.find_set]

section Asked
variable (hs : b.safe = false) (ha : b.asleep = false)
include hin hs ha

/-- A source that asks again for the lease of a TAG is answered with it. -/
theorem Block.leaseReq_of_held {l : Nat} (hl : b.leaseFor p.src p.tag = some l) :
    b0.leaseReq q p = b.reply { respond p ptLEASE_RSP stOK with lease := l } := by
  refine (hin _).trans ((if_neg (by simp [hs])).trans ((if_neg (by simp [ha])).trans ?_))
  rw [hl]

/-- Every frame is checked, then leased; a lease is granted, or the first status that applies is answered. -/
theorem Block.leaseReq_of_new (hl : b.leaseFor p.src p.tag = none) {c g : Block × Nat} (hc : b.leaseCheck q p = c)
    (hg : c.1.takeLeases (leaseFrames p) = g) : b0.leaseReq q p =
      if c.2 ≠ stOK then c.1.reply (respond p ptLEASE_RSP c.2)
      else if g.2 ≠ stOK then g.1.reply (respond p ptLEASE_RSP g.2)
      else (g.1.leaseListed p (leaseFrames p)).reply { respond p ptLEASE_RSP stOK with lease := g.1.newLease } := by
  refine (hin _).trans ((if_neg (by simp [hs])).trans ((if_neg (by simp [ha])).trans ?_))
  rw [hl, ← hg, ← hc]
  rfl

end Asked

include hin

/-- The holder of a lease gives it back. -/
theorem Block.leaseRel_of_held {l : RLease} (hl : SMap.find b.rleases p.lease = some l) (hsrc : l.src = p.src) :
    b0.leaseRel q p = ({ b with rleases := SMap.erase b.rleases p.lease } : Block).unlease l.frames := by
  refine (hin _).trans ?_
  simp only [hl, if_pos hsrc, Block.endLease]

section Answered
variable {r : Req} {x : Xfer} (hr : b.reqOf p = some r) (ht : r.pkt.type = ptLEASE_REQ) (hx : (b.dropReq r).xfer? r.xfer = some x)
include hr ht hx

theorem Block.leaseRsp_of_refusal (h : p.status ≠ 0) : b0.leaseRsp q p = (b.dropReq r).leaseRefused r.xfer p.status := by
  refine (hin _).trans ?_
  simp only [hr, ht, ne_eq, not_true_eq_false, if_false, hx]
  exact if_pos h

/-- A write whose last lease is granted moves its bytes. -/
theorem Block.leaseRsp_of_grant (h : p.status = 0) {y : Xfer} (hy : y = { x with
      outstanding := x.outstanding - 1
      remote := x.remote ++ [{ slot := r.pkt.dst, lease := p.lease, first := r.pkt.addr / 4096, count := r.pkt.len }] }) :
    b0.leaseRsp q p =
      if y.outstanding = 0 then (((b.dropReq r).setXfer y).sendWrites r.xfer).writeSettle r.xfer else (b.dropReq r).setXfer y := by
  subst hy
  refine (hin _).trans ?_
  simp only [hr, ht, ne_eq, not_true_eq_false, if_false, hx]
  exact if_neg (not_not.2 h)

end Answered

end Lease

/-! ### Flush markers (R366) -/

section Flush
variable {b0 b : Block} {q k : Nat} {p : Packet} (hin : ∀ go, b0.packetIn q p go = go b)

theorem Block.path_settlePath : ((b.settlePath k).path k).st = .settled := by
  simp [Block.settlePath, Block.path]

include hin in
theorem Block.pflushEcho_of_flushing (h : (b.path (pathKey p.src p.rslot p.gen)).st = .flushing) :
    b0.pflushEcho q p = (b.settlePath (pathKey p.src p.rslot p.gen)).settleFences := (hin _).trans (if_pos h)

end Flush

/-! ### Segments (R369) -/

section Seg
variable {b0 b : Block} {q : Nat} {p : Packet} (hin : ∀ go, b0.packetIn q p go = go b)
include hin

section Window
variable (hs : b.safe = false) (ha : b.asleep = false)
include hs ha

theorem Block.segPacket_of_no_window (hw : b.windows.find? (fun w => decide (w.src = p.src) && decide (w.key = p.addr % 2 ^ 40)) = none) :
    b0.segPacket q p = (b.reportPage (pgQuad q) 0x0B0B).reply (respond p ptSEG_ACK stNOWIN) := by
  refine (hin _).trans ((if_neg (by simp [hs])).trans ((if_neg (by simp [ha])).trans ?_))
  rw [hw]

theorem Block.segPacket_of_window {w : Window}
    (hw : b.windows.find? (fun w => decide (w.src = p.src) && decide (w.key = p.addr % 2 ^ 40)) = some w) :
    b0.segPacket q p = (b.segPiece q w p).1.reply (respond p ptSEG_ACK (b.segPiece q w p).2) := by
  refine (hin _).trans ((if_neg (by simp [hs])).trans ((if_neg (by simp [ha])).trans ?_))
  rw [hw]

end Window

section Ack
variable {r : Req} {g : SegAct}

omit hin in
/-- The package once the path of an answered piece has counted it. -/
def Block.segCounted (b : Block) (r : Req) : Block := (b.dropReq r).ackPath (pathKey r.pkt.dst r.pkt.rslot r.pkt.gen) 1

omit hin in
/-- A piece of a send is the one that a SEG_ACK answers. -/
def answersPiece (p : Packet) (x : Packet × Option Nat) : Bool := decide (x.1.tag = p.tag) && decide (x.1.dst = p.src)

variable (hr : b.reqOf p = some r) (ht : r.pkt.type = ptSEG) (hg : b.seg? r.xfer = some g)
include hr ht hg

/-- The three answers to a piece of a send. -/
theorem Block.segAck_of_piece : b0.segAck q p =
    (if p.status = 0 then
      ((b.segCounted r).setSeg { g with pieces := g.pieces.filter (fun x => !answersPiece p x) }).segSettle r.xfer
    else if p.status = stNOWIN then (b.segCounted r).setSeg { g with pieces := g.pieces.map (fun x =>
      if answersPiece p x then (x.1, some (b.now + b.eff pgGfab F.FAB_SEG.SEG_RETRY * 1000)) else x) }
    else ((b.segCounted r).setSeg { g with failed := true }).segSettle r.xfer).settleFences := by
  have hseg : (b.segCounted r).seg? r.xfer = some g := hg
  refine (hin _).trans ?_
  rw [Block.segCounted] at hseg ⊢
  simp only [hr, ht, ne_eq, not_true_eq_false, if_false, hseg]
  rfl

end Ack

end Seg

/-- Settles O45: each packet is taken by the block that has freed its units, in the branch of its condition; a lease is granted under the next
number that is free. -/
theorem leasesAndSegments : Obligations.LeasesAndSegments := by
  unfold Obligations.LeasesAndSegments
  intro s q p b h
  have hlive := h.1
  have hin : ∀ go, s.blk.packetIn q p go = go b := Block.packetIn_of_meant h
  refine ⟨fun st hst => ?closed, fun hs ha => ⟨fun l hl => ?held, fun hl => ?ask⟩, fun l hl hsrc => ?release, fun r x hr ht hx =>
    ⟨fun hst => ?refusal, fun hst => ?granted⟩, ?flush, fun hk => ⟨?echo, Block.path_settlePath⟩, fun hs ha => ⟨fun hw => ?noWindow, fun w hw => ?window⟩,
    fun r g hr ht hg => ?ack, ?resend⟩
  case closed =>
    rcases hst with ⟨hs, rfl⟩ | ⟨hs, ha, rfl⟩
    · exact ⟨exec_rest hlive rfl (Block.leaseReq_of_safe hin hs), exec_rest hlive rfl (Block.segPacket_of_safe hin hs)⟩
    · exact ⟨exec_rest hlive rfl (Block.leaseReq_of_asleep hin hs ha), exec_rest hlive rfl (Block.segPacket_of_asleep hin hs ha)⟩
  case held => exact exec_rest hlive rfl (Block.leaseReq_of_held hin hs ha hl)
  case ask =>
    have hb := Block.leaseReq_of_new hin hs ha hl rfl rfl
    refine ⟨fun hc => ?_, fun hc hg => ?_, fun hc hg => ⟨_, _, exec_rest hlive rfl (hb.trans ?_), Block.newLease_lt,
      Block.leaseOf_leaseListed _, rfl, ?_⟩⟩
    · exact exec_rest hlive rfl (hb.trans (if_pos hc))
    · exact exec_rest hlive rfl (hb.trans ((if_neg (not_not.2 hc)).trans (if_pos hg)))
    · exact (if_neg (not_not.2 hc)).trans (if_neg (not_not.2 hg))
    · exact (Block.takeLeases_frames _).trans (congrArg Block.frames (Block.writeCheck_of_ok hc))
  case release => exact exec_rest hlive rfl (Block.leaseRel_of_held hin hl hsrc)
  case refusal => exact exec_rest hlive rfl (Block.leaseRsp_of_refusal hin hr ht hx hst)
  case granted =>
    have hb := Block.leaseRsp_of_grant hin hr ht hx hst rfl
    exact ⟨fun hmore => exec_rest hlive rfl (hb.trans (if_neg hmore)), fun hlast => exec_rest hlive rfl (hb.trans (if_pos hlast))⟩
  case flush => exact exec_rest hlive rfl (hin _)
  case echo => exact exec_rest hlive rfl (Block.pflushEcho_of_flushing hin hk)
  case noWindow => exact exec_rest hlive rfl (Block.segPacket_of_no_window hin hs ha hw)
  case window => exact exec_rest hlive rfl (Block.segPacket_of_window hin hs ha hw)
  case ack =>
    have hb := Block.segAck_of_piece hin hr ht hg
    refine ⟨fun h0 => ?_, fun hno => ?_, fun h0 hno => ?_⟩
    · exact exec_rest hlive rfl (hb.trans (congrArg Block.settleFences (if_pos h0)))
    · exact exec_rest hlive rfl (hb.trans (congrArg Block.settleFences ((if_neg (by rw [hno]; decide)).trans (if_pos hno))))
    · exact exec_rest hlive rfl (hb.trans (congrArg Block.settleFences ((if_neg h0).trans (if_neg hno))))
  case resend => exact exec_rest hlive rfl rfl

end Sys2Proof.Machine
end

section
/-! SUPPORT. Writes to registers whose writable fields all act: no field of the word is read-write (R11, R27). -/
namespace Sys2Proof.Machine

section Acts
variable {s : State} {b : Block} {p off w v i j raw : Nat} {a : Agent} {f g : Field}

theorem Block.wordWith_of_no_value (hrw : ∀ x ∈ fieldsAt p (f.word i), x.1.acc ≠ .rw) :
    b.wordWith p f i v = f.intoWord i (f.word i) (v % 2 ^ f.width) :=
  List.foldlRecOn (motive := fun w : Nat => w = f.intoWord i (f.word i) (v % 2 ^ f.width)) _ _ rfl
    fun _ hw x hx => (if_neg fun h => hrw x hx h.1).trans hw

section One
variable (hfs : (fieldsAt p off).filter (fun x => decide (x.1.acc ≠ .ro)) = [(f, i)]) (hkind : f.kind = .imm) (hacc : f.acc ≠ .rw)
include hfs hkind hacc

theorem Block.fieldsWrite_one_act : b.fieldsWrite p off w a = b.immWrite p f i off w a := by
  unfold Block.fieldsWrite
  simp only [hfs]
  simp [hkind, hacc, Block.writeOutside]

end One

section Two
variable (hfs : (fieldsAt p off).filter (fun x => decide (x.1.acc ≠ .ro)) = [(f, i), (g, j)])
  (hf : f.kind = .imm ∧ f.acc = .w1s) (hg : g.kind = .imm ∧ g.acc = .w1s)
include hfs hf hg

theorem Block.fieldsWrite_two_acts : b.fieldsWrite p off w a = (b.immWrite p f i off w a).immWrite p g j off w a := by
  unfold Block.fieldsWrite
  simp only [hfs]
  simp [hf, hg, Block.writeOutside]

end Two

/-- A write of zero triggers nothing. -/
theorem Block.immWrite_of_zero (hacc : f.acc = .w1s) (hraw : f.raw i off w = 0) : b.immWrite p f i off w a = b :=
  if_pos ⟨.inl hacc, hraw⟩

/-- Outside the injection registers, a write that triggers does no more than what it triggers. -/
theorem Block.immWrite_of_act {c : Block} (hzero : f.acc = .wo ∧ f.width ≠ 1 ∨ raw ≠ 0)
    (hinj : ¬ (pageKind p = .flt ∧ (f.off = 0x140 ∨ f.off = 0x144))) (hraw : f.raw i off w = raw) (ht : b.trigger p f i raw a = some c) :
    b.immWrite p f i off w a = c := by
  unfold Block.immWrite
  simp only [hraw, ht]
  refine (if_neg ?_).trans (if_neg fun h => hinj ⟨h.1, h.2.1⟩)
  rintro ⟨hacc, h0⟩
  rcases hzero with ⟨hwo, hwide⟩ | hne
  · simp [hwo, hwide] at hacc
  · exact hne h0

/-- A command that writes one field of a page is what the write does to the fields of its word. -/
theorem exec_fieldWrite {c : Instr} (h : s.reaches p a) (he : exec c s = .next (s.act fun b => b.fieldWrite p f i v a))
    (hp : pageKind p ∉ [.reserved, .srv, .eth]) (ho : 0x40 ≤ f.word i) (hflt : ¬ (pageKind p = .flt ∧ f.word i = 0x64))
    (hb : s.blk.fieldsWrite p (f.word i) (s.blk.wordWith p f i v) a = b) : exec c s = .next (s.withBlk b.rest) := by
  simp only [List.mem_cons, List.not_mem_nil, or_false, not_or] at hp
  obtain ⟨hres, hsrv, heth⟩ := hp
  refine exec_live h.1 he ((Block.writeWord_fields h hres ho (fun e => hsrv e.1) ?_ hflt).trans (congrArg Block.rest hb))
  rintro ⟨rfl, -⟩
  exact heth rfl

end Acts

end Sys2Proof.Machine
end

section
/-! SUPPORT. LINK_STATE, routes, paths that die, unreachable slots, region keys and tags (R358, R361, R363, R366, R367). -/
namespace Sys2Proof.Machine

/-! ### LINK_STATE and reachability (R361, R363, R366) -/

section Reach
variable {s : State} {b : Block} {d : Nat}

/-- A package that hears a LINK_STATE takes its widths and its SAFE flag. -/
theorem Block.linkState_noted {h : CtrlIn} {widths : List Nat} {safe : Bool} {kind : Nat} {body : List Byte} {c : Block}
    (hc : c = ({ b.noted h kind body with
      adv := (List.range 64).foldl (fun m d => SMap.put 0 m (h.src.val * 64 + d) (widths.getD d 0 % 5)) b.adv
      lastHeard := SMap.set b.lastHeard h.src b.now
      lsFrom := setBits b.lsFrom h.src 1 1
      occupied := b.occupied ||| (List.range 64).foldl (fun m d => if widths.getD d 0 ≠ 0 then setBits m d 1 1 else m) (2 ^ h.src.val) } :
        Block).putBit pgGfab F.FAB_SAFE_SEEN.SAFE h.src safe) :
    (b.noted h kind body).linkState h.src widths safe = (if safe then c.endLeasesOf h.src else c).reachCheck h.src := by
  obtain ⟨l, seen, hnoted⟩ := Block.noted_eq (h := h) (kind := kind) (body := body) b
  rw [hnoted] at hc ⊢
  rw [hc]
  rfl

/-- A slot is late: no route to it, or no message of it, for UNREACH_TIMEOUT. -/
theorem Block.unreachable_of_late (hd : d ≠ b.slotId) (hr : b.reachable d = true) {lim : Nat}
    (hlim : lim = b.eff pgGfab F.FAB_UNREACH.UNREACH_TIMEOUT * 1000)
    (hlate : ∃ t, (SMap.find b.noneSince d = some t ∨ SMap.find b.lastHeard d = some t) ∧ t + lim ≤ b.now) : b.unreachable d =
      (((((((b.reqs.filter (fun r => decide (r.pkt.dst = d))).foldl Block.reqLost
        (({ b with reqs := b.reqs.filter (fun r => decide (r.pkt.dst ≠ d)), lsFrom := setBits b.lsFrom d 1 0 } : Block).putBit pgGfab
          F.FAB_REACH.REACH d false)).endLeasesOf d).ackUnreachable d).bump pgGfab F.FAB_GCNT1.UNREACH_CNT).raise pgGfab 2).reportPage
            pgGfab 0x0B09 d).settleFences := by
  obtain ⟨t, ht, hle⟩ := hlate
  subst hlim
  refine if_pos ⟨hd, hr, ht.imp (fun e => ?_) fun e => ?_⟩
  all_goals rw [e]; exact decide_eq_true hle

end Reach

/-! ### Region keys and tags (R358) -/

section Tags
variable {s : State} {b : Block} {a : Agent}

/-- A write to FAB_KEY_VAL sets the key of the tenant in FAB_KEY_IDX. -/
theorem Block.fieldsWrite_key (v : BitVec 32) :
    b.fieldsWrite pgGfab 0x54 (b.wordWith pgGfab F.FAB_KEY_VAL.KEY 0 v.toNat) a = b.keyWrite v.toNat := by
  have hword : b.wordWith pgGfab F.FAB_KEY_VAL.KEY 0 v.toNat = F.FAB_KEY_VAL.KEY.intoWord 0 0x54 v.toNat :=
    (Block.wordWith_of_no_value (by decide)).trans (congrArg _ (Nat.mod_eq_of_lt v.isLt))
  refine (Block.fieldsWrite_one_act (f := F.FAB_KEY_VAL.KEY) (i := 0) (by decide) rfl (by decide)).trans
    (Block.immWrite_of_act (raw := v.toNat) (.inl (by decide)) (by decide) ?_ rfl)
  rw [hword]
  exact Field.raw_intoWord (by decide) (by decide) v.isLt

theorem Block.keyWrite_of_lt {v : Nat} (hv : v < 2 ^ 32) :
    b.keyWrite v = { b with keys := SMap.put 0 b.keys (b.eff pgGfab F.FAB_KEY_IDX.TENANT) v } := by
  rw [Block.keyWrite, Nat.mod_eq_of_lt hv]

/-- A write to GO starts the write of the tags. -/
theorem Block.fieldsWrite_tagGo : b.fieldsWrite pgGfab 0x68 (b.wordWith pgGfab F.FAB_TAG_CMD.GO 0 1) a = b.tagGo := by
  have hword : b.wordWith pgGfab F.FAB_TAG_CMD.GO 0 1 = 1 := Block.wordWith_of_no_value (by decide)
  rw [hword]
  exact (Block.fieldsWrite_one_act (f := F.FAB_TAG_CMD.GO) (i := 0) (by decide) rfl (by decide)).trans
    (Block.immWrite_of_act (raw := 1) (.inr (by decide)) (by decide) (by decide) rfl)

/-- The write of the tags is refused: one runs, or its range leaves the space or touches a retired group. -/
theorem Block.tagGo_eq {base n : Nat} (hbase : base = b.eff pgGfab F.FAB_TAG_BASE.BASE) (hn : n = b.eff pgGfab F.FAB_TAG_CNT.COUNT)
    {bad : Prop} (hbad : bad = (b.eff pgGfab F.FAB_TAG_CMD.BUSY = 1 ∨ spaceSize < base + n * 2 ^ 20 ∨
      ∃ w ∈ windowsOf base (n * 2 ^ 20), b.groupRetired w = true)) :
    (bad → b.tagGo = b.cfgReject pgGfab) ∧
    (¬ bad → b.tagGo = ({ b with tagJob := some (base / 2 ^ 20, n, b.eff pgGfab F.FAB_TAG_VAL.VAL) } : Block).put pgGfab F.FAB_TAG_CMD.BUSY 1) := by
  subst hbase hn hbad
  simp only [Block.tagGo, ← List.any_eq_true]
  exact ⟨fun h => if_pos h, fun h => if_neg h⟩

/-- Every tag cache has dropped the old values. -/
theorem Block.tagDoneEv_of_job {first n val : Nat} (hj : b.tagJob = some (first, n, val)) {kept : SMap Nat}
    (hkept : kept = b.rtags.filter (fun e => !(decide (first ≤ e.1) && decide (e.1 < first + n) && decide (e.1 * 2 ^ 20 % winSize < resvPos)))) :
    b.tagDoneEv = (({ b with tagJob := none, rtags := if val = 0xFFFFFFFF then kept
      else (tagRegions first n).foldl (fun m r => SMap.set m r val) kept } : Block).put pgGfab F.FAB_TAG_CMD.BUSY 0).raise pgGfab 3 := by
  subst hkept
  rw [Block.tagDoneEv, hj]
  rfl

end Tags

/-- Settles O46: a message is taken by the block that has noted it, each event is the branch of its operation whose condition holds, and the
words of KEY and GO do no more than what they trigger. -/
theorem routesKeysAndTags : Obligations.RoutesKeysAndTags := by
  unfold Obligations.RoutesKeysAndTags
  intro s h widths safe d r g v a hlive
  refine ⟨fun hh => ?linkState, exec_live hlive rfl rfl, fun hd => exec_rest hlive rfl (if_pos hd), fun hd => exec_rest hlive rfl (if_neg hd),
    fun hst hdue => exec_rest hlive rfl (if_pos ⟨hst, hdue⟩), fun hd hr hlate => exec_rest hlive rfl (Block.unreachable_of_late hd hr rfl hlate),
    fun hreach => ?key, fun hreach => ?go, fun first n val hj => exec_live hlive rfl (Block.tagDoneEv_of_job hj rfl)⟩
  case linkState => exact exec_rest hlive rfl ((Block.ctrlIn_of_hears hh _).trans (Block.linkState_noted rfl))
  case key =>
    exact exec_fieldWrite hreach rfl (by decide) (by decide) (by decide) ((Block.fieldsWrite_key v).trans (Block.keyWrite_of_lt v.isLt))
  case go =>
    obtain ⟨hbad, hok⟩ := Block.tagGo_eq (b := s.blk) rfl rfl rfl
    have hgo {c : Block} (hc : s.blk.tagGo = c) : exec (.tagGo a) s = .next (s.withBlk c.rest) :=
      exec_fieldWrite hreach rfl (by decide) (by decide) (by decide) (Block.fieldsWrite_tagGo.trans hc)
    exact ⟨fun h => hgo (hbad h), fun h => hgo (hok h)⟩

end Sys2Proof.Machine
end

section
/-! SUPPORT. The registers of Rest and of the safe state: words with two fields that act, and what Rest leaves alone (R371, R431 to R434, R449
to R453). -/
namespace Sys2Proof.Machine

/-! ### Words that act in one of two fields -/

section Pair
variable {b c : Block} {p off w i j : Nat} {a : Agent} {f g : Field}
  (hfs : (fieldsAt p off).filter (fun x => decide (x.1.acc ≠ .ro)) = [(f, i), (g, j)])
  (hf : f.kind = .imm ∧ f.acc = .w1s) (hg : g.kind = .imm ∧ g.acc = .w1s)
include hfs hf hg

theorem Block.fieldsWrite_first_acts (hinj : ¬ (pageKind p = .flt ∧ (f.off = 0x140 ∨ f.off = 0x144))) (hfw : f.raw i off w = 1)
    (hgw : g.raw j off w = 0) (ht : b.trigger p f i 1 a = some c) : b.fieldsWrite p off w a = c := by
  rw [Block.fieldsWrite_two_acts hfs hf hg, Block.immWrite_of_act (.inr one_ne_zero) hinj hfw ht, Block.immWrite_of_zero hg.2 hgw]

theorem Block.fieldsWrite_second_acts (hinj : ¬ (pageKind p = .flt ∧ (g.off = 0x140 ∨ g.off = 0x144))) (hfw : f.raw i off w = 0)
    (hgw : g.raw j off w = 1) (ht : b.trigger p g j 1 a = some c) : b.fieldsWrite p off w a = c := by
  rw [Block.fieldsWrite_two_acts hfs hf hg, Block.immWrite_of_zero hf.2 hfw, Block.immWrite_of_act (.inr one_ne_zero) hinj hgw ht]

end Pair

section Words
variable {s : State} {b : Block} {a : Agent}

/-- The word of PWR_REST that writes one of its fields spells no other. -/
theorem Block.fieldsWrite_restReq : b.fieldsWrite pgPwr 0x78 (b.wordWith pgPwr F.PWR_REST.REST_REQ 0 1) a = b.restReq := by
  have hword : b.wordWith pgPwr F.PWR_REST.REST_REQ 0 1 = 1 := Block.wordWith_of_no_value (by decide)
  rw [hword]
  exact Block.fieldsWrite_first_acts (f := F.PWR_REST.REST_REQ) (i := 0) (g := F.PWR_REST.WAKE) (j := 0) (by decide) (by decide) (by decide)
    (by decide) (by decide) (by decide) rfl

theorem Block.fieldsWrite_wake : b.fieldsWrite pgPwr 0x78 (b.wordWith pgPwr F.PWR_REST.WAKE 0 1) a = b.wake := by
  have hword : b.wordWith pgPwr F.PWR_REST.WAKE 0 1 = 2 := Block.wordWith_of_no_value (by decide)
  rw [hword]
  exact Block.fieldsWrite_second_acts (f := F.PWR_REST.REST_REQ) (i := 0) (g := F.PWR_REST.WAKE) (j := 0) (by decide) (by decide) (by decide)
    (by decide) (by decide) (by decide) rfl

/-- The word of FLT_SAFE that writes one of its fields spells no other. -/
theorem Block.fieldsWrite_safeReq : b.fieldsWrite pgFlt 0x44 (b.wordWith pgFlt F.FLT_SAFE.SAFE_REQ 0 1) a = b.safeReq := by
  have hword : b.wordWith pgFlt F.FLT_SAFE.SAFE_REQ 0 1 = 2 ^ 8 := Block.wordWith_of_no_value (by decide)
  rw [hword]
  exact Block.fieldsWrite_first_acts (f := F.FLT_SAFE.SAFE_REQ) (i := 0) (g := F.FLT_SAFE.RELEASE) (j := 0) (by decide) (by decide) (by decide)
    (by decide) (by decide) (by decide) rfl

theorem Block.fieldsWrite_release : b.fieldsWrite pgFlt 0x44 (b.wordWith pgFlt F.FLT_SAFE.RELEASE 0 1) a = b.release := by
  have hword : b.wordWith pgFlt F.FLT_SAFE.RELEASE 0 1 = 2 ^ 9 := Block.wordWith_of_no_value (by decide)
  rw [hword]
  exact Block.fieldsWrite_second_acts (f := F.FLT_SAFE.SAFE_REQ) (i := 0) (g := F.FLT_SAFE.RELEASE) (j := 0) (by decide) (by decide) (by decide)
    (by decide) (by decide) (by decide) rfl

section Reached
variable {c : Block}

theorem exec_restReq (h : s.reaches pgPwr a) (hc : s.blk.restReq = c) : exec (.restReq a) s = .next (s.withBlk c.rest) :=
  exec_fieldWrite h rfl (by decide) (by decide) (by decide) (Block.fieldsWrite_restReq.trans hc)

theorem exec_wake (h : s.reaches pgPwr a) (hc : s.blk.wake = c) : exec (.wake a) s = .next (s.withBlk c.rest) :=
  exec_fieldWrite h rfl (by decide) (by decide) (by decide) (Block.fieldsWrite_wake.trans hc)

theorem exec_safeReq (h : s.reaches pgFlt a) (hc : s.blk.safeReq = c) : exec (.safeReq a) s = .next (s.withBlk c.rest) :=
  exec_fieldWrite h rfl (by decide) (by decide) (by decide) (Block.fieldsWrite_safeReq.trans hc)

theorem exec_release (h : s.reaches pgFlt a) (hc : s.blk.release = c) : exec (.release a) s = .next (s.withBlk c.rest) :=
  exec_fieldWrite h rfl (by decide) (by decide) (by decide) (Block.fieldsWrite_release.trans hc)

end Reached

end Words

/-! ### Entry into Rest (R371, R431 to R433) -/

section Entry
variable {b c : Block}

/-- What holds of every value that is given, and of the default, holds of the value at a key. -/
theorem SMap.get_mapVals_of {α : Type} {P : α → Prop} {f : Nat → α → α} {d : α} (hd : P d) (hf : ∀ k x, P (f k x)) (m : SMap α) (k : Nat) :
    P (SMap.get d (SMap.mapVals f m) k) := by
  induction m with
  | nil => exact hd
  | cons e m ih =>
    show P (if k < e.1 then d else if k = e.1 then f e.1 e.2 else SMap.get d (SMap.mapVals f m) k)
    split
    · exact hd
    · split
      · exact hf _ _
      · exact ih

theorem Tile.seq_halt (x : Tile) : x.halt.seq = .idle ∨ x.halt.seq = .retired := by
  unfold Tile.halt
  split
  next h => exact .inr h
  next => exact .inl rfl

/-- Nothing of the package's work is left: no request, no action, no Score entry, and no tile that runs. -/
structure Block.Halted (b : Block) : Prop where
  scores : b.scores = []
  reqs : b.reqs = []
  acts : b.acts = []
  tiles (t : Nat) : (b.tile t).seq = .idle ∨ (b.tile t).seq = .retired

theorem Block.Halted.congr (h : b.Halted) (hs : c.scores = b.scores) (hr : c.reqs = b.reqs) (ha : c.acts = b.acts) (ht : c.tiles = b.tiles) :
    c.Halted where
  scores := hs.trans h.scores
  reqs := hr.trans h.reqs
  acts := ha.trans h.acts
  tiles t := Block.tile_congr ht ▸ h.tiles t

theorem Block.reqs_dropWork : b.dropWork.reqs = [] := (apply_ite Block.reqs _ _ _).trans (ite_self [])

theorem Block.acts_dropWork : b.dropWork.acts = [] := (apply_ite Block.acts _ _ _).trans (ite_self [])

theorem Block.halted_haltTiles (hr : b.reqs = []) (ha : b.acts = []) : (b.haltTiles Tile.halt).Halted where
  scores := rfl
  reqs := hr
  acts := ha
  tiles t := SMap.get_mapVals_of (P := fun x => x.seq = .idle ∨ x.seq = .retired) (.inl rfl) (fun _ => Tile.seq_halt) b.tiles t

theorem Block.Halted.islandUp (h : b.Halted) (i : Nat) (on : Bool) : (b.islandUp i on).Halted := by
  unfold Block.islandUp
  simp only []
  split <;> exact h.congr rfl rfl rfl rfl

theorem Block.Halted.flushSlices (h : b.Halted) : b.flushSlices.Halted := h.congr rfl rfl rfl rfl

theorem Block.Halted.put_coreVolt (h : b.Halted) (mv v : Nat) : ((b.coreVolt mv).put pgPwr F.PWR_REST.REST_STATE v).Halted :=
  h.congr rfl rfl rfl rfl

/-- The package while it enters Rest. -/
def Block.enteringRest (b : Block) : Block :=
  ((restIslands.foldl (fun c i => c.islandUp i false)
    (((if b.power.freq = .boost ∨ b.power.freq = .entering then b.leaveBoost else b).dropWork.haltTiles Tile.halt).flushSlices)).coreVolt 650).put
      pgPwr F.PWR_REST.REST_STATE restENTERING

theorem Block.halted_enteringRest : b.enteringRest.Halted := by
  have hislands : ∀ l : List Nat, ∀ c : Block, c.Halted → (l.foldl (fun c i => c.islandUp i false) c).Halted := fun l c hc =>
    List.foldlRecOn (motive := Block.Halted) l _ hc fun _ h i _ => h.islandUp i false
  exact (hislands restIslands _ (Block.halted_haltTiles Block.reqs_dropWork Block.acts_dropWork).flushSlices).put_coreVolt _ _

theorem Block.restState_enteringRest : b.enteringRest.pw? F.PWR_REST.REST_STATE = restENTERING := Block.eff_put_same _ _ _ _ _ rfl

theorem Block.restReq_of_ok (ha : b.asleep = false) (hok : b.restOk = true) : b.restReq = b.enteringRest :=
  (if_neg (by simp [ha])).trans (if_neg (by simp [hok]))

theorem Block.restReq_of_refused (ha : b.asleep = false) (hok : b.restOk = false) : b.restReq = (b.cfgReject pgPwr).raise pgPwr 8 :=
  (if_neg (by simp [ha])).trans (if_pos (by simp [hok]))

end Entry

/-! ### The wake (R434): what the power manager leaves of REST_STATE -/

section Wake
variable {b : Block}

/-- Another register of the power page, or one of another page, leaves REST_STATE. -/
theorem Block.restState_put {p i v : Nat} {f : Field} (h : pgPwr ≠ p ∨ F.PWR_REST.REST_STATE.key 0 ≠ f.key i) :
    (b.put p f v i).pw? F.PWR_REST.REST_STATE = b.pw? F.PWR_REST.REST_STATE := Block.eff_put_of_ne _ _ _ _ _ _ _ _ h

theorem Block.restState_congr {c : Block} (h : c.pages = b.pages) : c.pw? F.PWR_REST.REST_STATE = b.pw? F.PWR_REST.REST_STATE :=
  Block.eff_congr h

theorem Block.restState_giveLevel (c g : Nat) : (b.giveLevel c g).pw? F.PWR_REST.REST_STATE = b.pw? F.PWR_REST.REST_STATE := by
  have hpage (t : Nat) : pgPwr ≠ pgTile t := by unfold pgPwr pgTile; omega
  exact List.foldlRecOn (motive := fun d : Block => d.pw? F.PWR_REST.REST_STATE = b.pw? F.PWR_REST.REST_STATE) _ _ rfl fun _ hd i _ =>
    (Block.restState_put (.inl (hpage _))).trans ((Block.restState_put (.inl (hpage _))).trans hd)

theorem Block.restState_retarget1 (c : Nat) : (b.retarget1 c).pw? F.PWR_REST.REST_STATE = b.pw? F.PWR_REST.REST_STATE := by
  unfold Block.retarget1
  simp only []
  split
  · exact Block.restState_giveLevel _ _
  · rfl

theorem Block.restState_retarget : b.retarget.pw? F.PWR_REST.REST_STATE = b.pw? F.PWR_REST.REST_STATE :=
  (Block.restState_put (.inr (by decide))).trans
    (List.foldlRecOn (motive := fun d : Block => d.pw? F.PWR_REST.REST_STATE = b.pw? F.PWR_REST.REST_STATE) _ _ rfl fun _ hd c _ =>
      (Block.restState_retarget1 c).trans hd)

theorem Block.restState_noteReasons : b.noteReasons.pw? F.PWR_REST.REST_STATE = b.pw? F.PWR_REST.REST_STATE := by
  unfold Block.noteReasons
  simp only []
  split
  · rfl
  · exact (Block.restState_congr (Block.trace_pages ..)).trans (Block.restState_put (.inr (by decide)))

theorem Block.coreVolt_pages (mv : Nat) : (b.coreVolt mv).pages = b.pages := rfl

theorem Block.restState_leaveBoost : b.leaveBoost.pw? F.PWR_REST.REST_STATE = b.pw? F.PWR_REST.REST_STATE :=
  (Block.restState_congr (Block.coreVolt_pages _)).trans ((Block.restState_put (f := F.PWR_MODE.FREQ_BUSY) (i := 0) (.inr (by decide))).trans
    (Block.restState_put (f := F.PWR_MODE.BOOST_ACTIVE) (i := 0) (.inr (by decide))))

theorem Block.restState_raise (p i : Nat) : (b.raise p i).pw? F.PWR_REST.REST_STATE = b.pw? F.PWR_REST.REST_STATE := Block.eff_raise ..

theorem Block.restState_reportPage (p code : Nat) : (b.reportPage p code).pw? F.PWR_REST.REST_STATE = b.pw? F.PWR_REST.REST_STATE :=
  Block.eff_report ..

theorem Block.restState_abortBoost : b.abortBoost.pw? F.PWR_REST.REST_STATE = b.pw? F.PWR_REST.REST_STATE :=
  calc b.abortBoost.pw? F.PWR_REST.REST_STATE
    _ = (((b.leaveBoost.raise pgPwr 5).bump pgPwr F.PWR_FREQ_CNT.FREQ_ABORTS).reportPage pgPwr 0x0306).pw? F.PWR_REST.REST_STATE :=
        Block.restState_noteReasons
    _ = (b.leaveBoost.raise pgPwr 5).pw? F.PWR_REST.REST_STATE := (Block.restState_reportPage ..).trans (Block.restState_put (.inr (by decide)))
    _ = b.pw? F.PWR_REST.REST_STATE := (Block.restState_raise ..).trans Block.restState_leaveBoost

theorem Block.restState_freqCheck : b.freqCheck.pw? F.PWR_REST.REST_STATE = b.pw? F.PWR_REST.REST_STATE := by
  unfold Block.freqCheck
  simp only []
  split
  · rfl
  · split
    · exact Block.restState_abortBoost
    · exact Block.restState_leaveBoost
    · rfl

theorem Block.restState_powerChanged : b.powerChanged.pw? F.PWR_REST.REST_STATE = b.pw? F.PWR_REST.REST_STATE :=
  Block.restState_freqCheck.trans (Block.restState_noteReasons.trans Block.restState_retarget)

theorem Block.restState_alertOn : b.alertOn.pw? F.PWR_REST.REST_STATE = b.pw? F.PWR_REST.REST_STATE :=
  (Block.restState_reportPage ..).trans ((Block.restState_raise ..).trans (Block.restState_put (.inr (by decide))))

theorem Block.restState_alerted (P : Prop) [Decidable P] :
    (if P then b.alertOn else b).pw? F.PWR_REST.REST_STATE = b.pw? F.PWR_REST.REST_STATE := by
  split
  · exact Block.restState_alertOn
  · rfl

theorem Block.restState_wokenUp : b.wokenUp.pw? F.PWR_REST.REST_STATE = restRUN :=
  Block.restState_powerChanged.trans ((Block.restState_alerted _).trans ((Block.restState_alerted _).trans
    ((Block.restState_raise ..).trans (Block.eff_put_same _ _ _ _ _ rfl))))

theorem Block.restEntryDone_of_entering (h : b.pw? F.PWR_REST.REST_STATE = restENTERING) {c : Block}
    (hc : c = (b.put pgPwr F.PWR_REST.REST_STATE restREST).raise pgPwr 6) : b.restEntryDone = if b.power.wakePend then c.startWake else c := by
  subst hc
  exact if_neg (not_not.2 h)

theorem Block.wakeDone_of_due (h : b.pw? F.PWR_REST.REST_STATE = restWAKING) (hdue : b.power.wakeAt + 1000000 ≤ b.now) :
    b.wakeDone = if b.flt F.FLT_SAFE.SAFE_STATE = sfRUN then b.wokenUp else b.wokenUp.safeNow := by
  refine (if_neg ?_).trans (ite_not ..)
  rintro (hne | hearly)
  · exact hne h
  · exact absurd hearly (Nat.not_lt.2 hdue)

end Wake

/-! ### The safe state (R449 to R453) -/

section Safe
variable {b : Block}

theorem Block.quietExpire_of_due (hs : b.flt F.FLT_SAFE.SAFE_STATE = sfSAFE) (hh : b.flt F.FLT_SAFE.HOLD = 0)
    (hdue : b.fcol.quietFrom + b.flt F.FLT_QUIET.QUIET_PERIOD * 1000000 ≤ b.now) : b.quietExpire =
      if (b.fcol.exits.filter (fun t => decide (b.now ≤ t + 3600000000000))).length < b.flt F.FLT_RECOV.RECOVERY_LIMIT then b.exitSafe
      else (b.modHdr pgFlt (fun h => h.summarise 0x0202 3)).fcolTake b.hearth
        { page := pgFlt, code := 0x0202, island := 399, detail := 0, part := none } 3 false true 5 := by
  refine if_neg ?_
  rintro (hne | hhold | hearly)
  · exact hne hs
  · exact absurd (hh.symm.trans hhold) (by decide)
  · exact absurd hearly (Nat.not_lt.2 hdue)

end Safe

/-- Settles O52: a write of one acting field does what that field triggers, each operation is the branch of its condition, entry into Rest
halts all work, and no part of the wake but its own write changes REST_STATE. -/
theorem restAndSafeState : Obligations.RestAndSafeState := by
  unfold Obligations.RestAndSafeState
  intro s a hlive
  refine ⟨fun h => ⟨fun ha => ?asleep, fun ha hok => ?refused, fun ha hok => ?accepted, fun hst => ?entering, fun hst => ?resting, fun hst => ?awake⟩,
    fun hst => ?entered, fun hst hdue => ⟨Block.restState_wokenUp, ?woken⟩, fun h => ⟨fun hsf => ?run, fun hsf => ?safe, fun hsf => ?latched⟩,
    fun hs hh hdue => ?quiet⟩
  case asleep => exact exec_restReq h (if_pos ha)
  case refused => exact exec_restReq h (Block.restReq_of_refused ha hok)
  case accepted =>
    obtain ⟨hscores, hreqs, hacts, htiles⟩ := Block.halted_enteringRest (b := s.blk)
    exact ⟨_, exec_restReq h (Block.restReq_of_ok ha hok), Block.restState_enteringRest, hscores, hreqs, hacts, fun t => htiles t⟩
  case entering => exact exec_wake h (if_pos hst)
  case resting => exact exec_wake h ((if_neg (by rw [hst]; decide)).trans (if_pos hst))
  case awake =>
    have hentering : s.blk.pw? F.PWR_REST.REST_STATE ≠ restENTERING := by rcases hst with e | e <;> rw [e] <;> decide
    have hrest : s.blk.pw? F.PWR_REST.REST_STATE ≠ restREST := by rcases hst with e | e <;> rw [e] <;> decide
    exact exec_wake h ((if_neg hentering).trans (if_neg hrest))
  case entered => exact exec_live hlive rfl (Block.restEntryDone_of_entering hst rfl)
  case woken => exact exec_rest hlive rfl (Block.wakeDone_of_due hst hdue)
  case run => exact ⟨exec_safeReq h (if_pos hsf), exec_release h (if_neg (by rw [hsf]; decide))⟩
  case safe =>
    exact ⟨exec_safeReq h ((if_neg (by rw [hsf]; decide)).trans (if_pos hsf)), exec_release h (if_pos hsf)⟩
  case latched =>
    simp only [List.mem_cons, List.not_mem_nil, or_false, forall_eq_or_imp, forall_eq]
    exact ⟨exec_safeReq h ((if_neg (by rw [hsf]; decide)).trans (if_neg (by rw [hsf]; decide))), exec_release h (if_neg (by rw [hsf]; decide))⟩
  case quiet =>
    have hb := Block.quietExpire_of_due hs hh hdue
    exact ⟨fun hfew => exec_rest hlive rfl (hb.trans (if_pos hfew)), fun hmany => exec_rest hlive rfl (hb.trans (if_neg (Nat.not_lt.2 hmany)))⟩

end Sys2Proof.Machine
end

section
/-! SUPPORT. A weight load: its start and its abort, its checks, the shards of this package, and its end (R386 to R397). -/
namespace Sys2Proof.Machine

/-! ### Events of the loader (R32) -/

section Event
variable {s : State} {c : Instr} {p : Nat} {f : Block → Block} {b : Block} (hlive : s.live)
  (he : exec c s = .next (s.act fun b => (b.ifRuns p f).rest))
include hlive he

/-- An event of a block whose function runs does what it says. -/
theorem exec_of_runs (hr : s.blk.runs p = true) (hb : f s.blk = b) : exec c s = .next (s.withBlk b.rest) :=
  exec_rest hlive he ((if_pos hr).trans hb)

/-- An event of a block whose page is OFF does nothing. -/
theorem exec_of_off (hr : s.blk.runs p = false) : exec c s = .next (s.withBlk s.blk.rest) :=
  exec_rest hlive he (if_neg (by rw [hr]; decide))

end Event

/-! ### START and ABORT (R387) -/

section Words
variable {s : State} {b : Block} {a : Agent}

/-- The words of WLD_LCMD hold two fields each. -/
theorem fieldsAt_loadCmd (ld : Fin 4) : (fieldsAt pgWld (F.WLD_LCMD.START.word ld)).filter (fun x => decide (x.1.acc ≠ .ro)) =
    [(F.WLD_LCMD.START, ld.val), (F.WLD_LCMD.ABORT, ld.val)] := by
  revert ld; decide

/-- The word that writes one of the fields of WLD_LCMD spells that one and no other. -/
theorem raw_loadCmd (ld : Fin 4) :
    F.WLD_LCMD.START.raw ld (F.WLD_LCMD.START.word ld) (F.WLD_LCMD.START.intoWord ld (F.WLD_LCMD.START.word ld) 1) = 1 ∧
    F.WLD_LCMD.ABORT.raw ld (F.WLD_LCMD.START.word ld) (F.WLD_LCMD.START.intoWord ld (F.WLD_LCMD.START.word ld) 1) = 0 ∧
    F.WLD_LCMD.START.raw ld (F.WLD_LCMD.START.word ld) (F.WLD_LCMD.ABORT.intoWord ld (F.WLD_LCMD.START.word ld) 1) = 0 ∧
    F.WLD_LCMD.ABORT.raw ld (F.WLD_LCMD.START.word ld) (F.WLD_LCMD.ABORT.intoWord ld (F.WLD_LCMD.START.word ld) 1) = 1 := by
  revert ld; decide

theorem word_loadCmd (ld : Fin 4) : F.WLD_LCMD.ABORT.word ld = F.WLD_LCMD.START.word ld ∧ 0x40 ≤ F.WLD_LCMD.START.word ld := by
  revert ld; decide

theorem Block.wordWith_loadCmd {f : Field} {ld : Fin 4} (hf : f.word ld = F.WLD_LCMD.START.word ld) (hw : f.width = 1) :
    b.wordWith pgWld f ld 1 = f.intoWord ld (F.WLD_LCMD.START.word ld) 1 := by
  have hrw : ∀ ld : Fin 4, ∀ x ∈ fieldsAt pgWld (F.WLD_LCMD.START.word ld), x.1.acc ≠ .rw := by decide
  rw [Block.wordWith_of_no_value (hf ▸ hrw ld), hf, hw]
  rfl

theorem Block.fieldsWrite_loadStart (ld : Fin 4) :
    b.fieldsWrite pgWld (F.WLD_LCMD.START.word ld) (b.wordWith pgWld F.WLD_LCMD.START ld 1) a =
      if b.eff pgBoot F.BOOT_STAT.READY = 0 then b.cfgReject pgWld else b.loadStart ld := by
  obtain ⟨hstart, habort, -, -⟩ := raw_loadCmd ld
  rw [Block.wordWith_loadCmd rfl rfl]
  exact Block.fieldsWrite_first_acts (fieldsAt_loadCmd ld) (by decide) (by decide) (by decide) hstart habort rfl

theorem Block.fieldsWrite_loadAbort (ld : Fin 4) :
    b.fieldsWrite pgWld (F.WLD_LCMD.ABORT.word ld) (b.wordWith pgWld F.WLD_LCMD.ABORT ld 1) a = b.loadAbort ld := by
  obtain ⟨-, -, hstart, habort⟩ := raw_loadCmd ld
  obtain ⟨hword, -⟩ := word_loadCmd ld
  rw [Block.wordWith_loadCmd hword rfl, hword]
  exact Block.fieldsWrite_second_acts (fieldsAt_loadCmd ld) (by decide) (by decide) (by decide) hstart habort rfl

section Reached
variable {c : Block} {ld : Fin 4} (h : s.reaches pgWld a)
include h

theorem exec_loadStart (hc : (if s.blk.eff pgBoot F.BOOT_STAT.READY = 0 then s.blk.cfgReject pgWld else s.blk.loadStart ld) = c) :
    exec (.loadStart ld a) s = .next (s.withBlk c.rest) :=
  exec_fieldWrite h rfl (by decide) (word_loadCmd ld).2 (fun e => absurd e.1 (by decide)) ((Block.fieldsWrite_loadStart ld).trans hc)

theorem exec_loadAbort (hc : s.blk.loadAbort ld = c) : exec (.loadAbort ld a) s = .next (s.withBlk c.rest) := by
  obtain ⟨hword, hlow⟩ := word_loadCmd ld
  exact exec_fieldWrite h rfl (by decide) (hword ▸ hlow) (fun e => absurd e.1 (by decide)) ((Block.fieldsWrite_loadAbort ld).trans hc)

end Reached

end Words

section Start
variable {b : Block} {ld : Nat}

/-- The load that START begins in a slot. -/
def Block.freshLoad (b : Block) (ld : Nat) : Load :=
  { desc := match b.localOff (b.eff pgWld F.WLD_LDESC.LOAD_DESC ld) with
      | some off => if b.usable off 64 ∧ off % 64 = 0 then b.mem.read off 64 else []
      | none => []
    policy := b.eff pgWld F.WLD_CFG.MISSING_SHARD_POLICY, recheck := decide (b.eff pgWld F.WLD_CFG.RECHECK = 1)
    retryMax := b.eff pgWld F.WLD_CFG.RETRY_MAX, shardTimeout := b.eff pgWld F.WLD_CFG.SHARD_TIMEOUT
    reportTimeout := b.eff pgWld F.WLD_CFG.REPORT_TIMEOUT, digest := [], shards := [], since := 0 }

/-- The fields of a slot that START clears. -/
def loadCounts : List Field :=
  [F.WLD_LSTAT.STATUS, F.WLD_LSTAT.REPORTED, F.WLD_LOK.SHARDS_OK, F.WLD_LMISS.SHARDS_MISSING, F.WLD_LRET.RETRY_CNT, F.WLD_LRET.DIGEST_BAD_CNT,
    F.WLD_LUNAV.UNAVAIL_CNT]

/-- The package with some fields of a slot cleared. -/
def Block.clearFields (b : Block) (fs : List Field) (ld : Nat) : Block := fs.foldl (fun b f => b.put pgWld f 0 ld) b

theorem Block.loadStart_of_idle (hi : ldIdle (b.ldState ld) = true) (hs : b.safe = false) (hr : b.runs pgWld = true) :
    b.loadStart ld = ((b.setLoad ld (b.freshLoad ld)).clearFields loadCounts ld).setLdState ld ldCHECK :=
  if_neg (by simp [hi, hs, hr])

theorem Block.loadStart_of_refused (h : ldIdle (b.ldState ld) = false ∨ b.safe = true ∨ b.runs pgWld = false) : b.loadStart ld = b :=
  if_pos (by simpa using h)

theorem Block.ldState_setLdState (st : Nat) : (b.setLdState ld st).ldState ld = st % 8 := Block.eff_put_same _ _ _ _ _ rfl

/-- A field that is cleared stays so while others are. -/
theorem Block.eff_clearFields {f : Field} (hf : f.kind = .imm) {fs : List Field} (h : f ∈ fs ∨ b.eff pgWld f ld = 0) :
    (b.clearFields fs ld).eff pgWld f ld = 0 := by
  induction fs generalizing b with
  | nil => exact h.resolve_left List.not_mem_nil
  | cons g fs ih =>
    refine ih (b := b.put pgWld g 0 ld) ?_
    rcases h with hmem | hzero
    · rcases List.mem_cons.1 hmem with rfl | hmem
      · exact .inr (Block.eff_put_same _ _ _ _ _ hf)
      · exact .inl hmem
    · exact .inr (by rw [Block.eff_put, Nat.zero_mod, hzero, ite_self])

/-- The counts of a slot are 0 once a load has begun in it. -/
theorem Block.eff_started {ld : Fin 4} {f : Field} (h : f ∈ loadCounts) :
    ((b.clearFields loadCounts ld).setLdState ld ldCHECK).eff pgWld f ld = 0 := by
  have hother : ∀ f ∈ loadCounts, ∀ ld : Fin 4, f.kind = .imm ∧ f.key ld ≠ F.WLD_LSTAT.STATE.key ld := by decide
  obtain ⟨hkind, hkey⟩ := hother f h ld
  exact (Block.eff_put_of_ne _ _ _ _ _ _ _ _ (.inr hkey)).trans (Block.eff_clearFields hkind (.inl h))

theorem Block.freshLoad_desc {o : Nat} (ho : b.localOff (b.eff pgWld F.WLD_LDESC.LOAD_DESC ld) = some o) (hu : b.usable o 64 = true)
    (hal : o % 64 = 0) : (b.freshLoad ld).desc = b.mem.read o 64 := by
  simp [Block.freshLoad, ho, hu, hal]

theorem Block.clearFields_eq (fs : List Field) : b.clearFields fs ld = { b with pages := (b.clearFields fs ld).pages } :=
  List.foldlRecOn (motive := fun c : Block => c = { b with pages := c.pages }) fs _ rfl fun _ hc _ _ => by rw [hc]; rfl

/-- A load that begins changes registers and its slot, and nothing else. -/
theorem Block.started_eq {l : Load} {c : Block} (hc : c = ((b.setLoad ld l).clearFields loadCounts ld).setLdState ld ldCHECK) :
    c.load ld = l ∧ c.mem = b.mem ∧ c.xfers = b.xfers := by
  rw [Block.clearFields_eq] at hc
  subst hc
  exact ⟨SMap.get_set_same .., rfl, rfl⟩

end Start

/-! ### The checks (R386) -/

section Check
variable {b : Block} {ld : Nat} (hst : b.ldState ld = ldCHECK)
include hst

theorem Block.loadCheckDone_of_failed (h : b.loadStatus ld (b.load ld) ≠ 0) {l : Load} (hl : l = b.load ld) {r : Nat} (hr : r = b.loadStatus ld l)
    {b1 b2 : Block} (h1 : b1 = if r = lsSIG_FAIL then ((b.bump pgWld F.WLD_ERR_CNT.SIG_FAIL_CNT).raise pgWld 4).reportPage pgWld 0x0C01 else b)
    (h2 : b2 = if 3 < r then b1.setLoad ld { l with digest := sha256 (b.signedPart l) } else b1) :
    b.loadCheckDone ld = ((b2.loadFail ld r (decide (3 < r))).raise pgWld 1).reportPage pgWld 0x0C04 := by
  subst hl
  have hpast : (decide (r ≠ lsBAD_DESC) && decide (r ≠ lsSIG_FAIL) && decide (r ≠ lsBAD_PLAN)) = decide (3 < r) := by
    rw [← hr] at h
    rw [Bool.eq_iff_iff]
    simp only [Bool.and_eq_true, decide_eq_true_eq]
    simp only [lsBAD_DESC, lsSIG_FAIL, lsBAD_PLAN]
    omega
  refine (if_neg (not_not.2 hst)).trans ((if_pos h).trans ?_)
  simp only [← hr, hpast, decide_eq_true_eq, ← h1, ← h2]

theorem Block.loadCheckDone_of_passed (h : b.loadStatus ld (b.load ld) = 0) {b1 : Block}
    (h1 : b1 = { (b.setLoad ld { b.load ld with
        digest := sha256 (b.signedPart (b.load ld)), shards := (b.ownShards (b.load ld)).map (fun i => (i, shardNone)) }).setLdState ld ldFETCH with
      conns := (b.loadTargets (b.load ld)).foldl (fun m t => if (SMap.find m t).isSome then m else SMap.set m t b.now) b.conns }) :
    b.loadCheckDone ld = (((b.ownShards (b.load ld)).foldl (fun c i => c.beginAttempt ld i
      (if c.allFrames (c.shardDest (b.load ld) i) (c.shardLen (b.load ld) i) frFROZEN then 3 else if c.chainPos (b.load ld) i = 0 then 0 else 1))
        b1).checkReport ld) := by
  subst h1
  exact (if_neg (not_not.2 hst)).trans (if_neg (not_not.2 h))

end Check

/-! ### A shard on this package (R388 to R390) -/

section NoShard
variable {b : Block} {ld i : Nat} (h : b.shard? ld i = none)
include h

theorem Block.nvmeReadCpl_of_none (off : Nat) (ok : Bool) (bytes : List Byte) :
    b.nvmeReadCpl ld i off ok bytes = if ok then b.bump pgWld F.WLD_REMOTE_REJ.REMOTE_REJ_CNT else b := by
  simp only [Block.nvmeReadCpl, h]

theorem Block.pieceLanded_of_none : b.pieceLanded ld i = b := by simp only [Block.pieceLanded, h]

theorem Block.hashDone_of_none : b.hashDone ld i = b := by simp only [Block.hashDone, h]

theorem Block.shardFreezeDone_of_none : b.shardFreezeDone ld i = b := by simp only [Block.shardFreezeDone, h]

theorem Block.shardTimeout_of_none : b.shardTimeout ld i = b := by simp only [Block.shardTimeout, h]

end NoShard

section Landing
variable {b : Block} {ld i off : Nat} {x : Shard} {bytes : List Byte} (hx : b.shard? ld i = some x) (hp : x.phase = .landing)
include hx hp

theorem Block.nvmeReadCpl_of_error (hsrc : x.src = 0) : b.nvmeReadCpl ld i off false bytes =
    ((b.bump pgWld F.WLD_ERR_CNT.NVME_ERR_CNT).reportPage pgWld 0x0C05).endAttempt ld i true := by
  simp only [Block.nvmeReadCpl, hx]
  exact (if_pos rfl).trans (if_pos ⟨hp, hsrc⟩)

/-- Bytes of a Read that lie within the piece in flight land (R378). -/
theorem Block.nvmeReadCpl_of_within (hsrc : x.src = 0) (hf : x.frames ≠ []) (hlo : x.landed ≤ off)
    (hhi : off + bytes.length ≤ x.landed + b.nextPiece (b.load ld) i x.landed) {at' : Nat} (hat : at' = b.shardDest (b.load ld) i + off) :
    b.nvmeReadCpl ld i off true bytes = (((b.store at' bytes).countWrite at' bytes.length).bumpWrap pgWld F.WLD_ETH_BYTES.ETH_BYTES 0
      bytes.length).setShard ld i { x with got := x.got ++ [(off, bytes.length)], lastLand := b.now } := by
  subst hat
  simp only [Block.nvmeReadCpl, hx]
  exact (if_neg (by decide)).trans (if_neg (by simp [hp, hsrc, hf, hlo, hhi]))

/-- A piece has landed whole from storage (R388). -/
theorem Block.pieceLanded_of_storage (hsrc : x.src = 0) (hf : x.frames ≠ []) {n : Nat} (hn : n = b.nextPiece (b.load ld) i x.landed) (hpos : 0 < n)
    (hgot : n ≤ x.got.foldl (fun m g => m + g.2) 0) : b.pieceLanded ld i = b.landTo ld i (x.landed + n) := by
  subst hn
  simp only [Block.pieceLanded, hx]
  exact (if_neg (not_not.2 hp)).trans ((if_pos hsrc).trans ((if_neg (by simpa using hf)).trans (if_pos ⟨hpos, hgot⟩)))

/-- The predecessor's relay has moved on (R391). -/
theorem Block.pieceLanded_of_relay (hsrc : x.src = 1) {n : Nat}
    (hn : n = min (b.progress (b.load ld) i % 2 ^ 40) (b.shardLen (b.load ld) i)) (hmore : x.landed < n) : b.pieceLanded ld i = b.landTo ld i n := by
  subst hn
  simp only [Block.pieceLanded, hx]
  exact (if_neg (not_not.2 hp)).trans ((if_neg (by rw [hsrc]; decide)).trans ((if_pos hsrc).trans (if_pos hmore)))

theorem Block.shardTimeout_of_late (hshort : x.landed < b.shardLen (b.load ld) i)
    (hlate : x.lastLand + (b.load ld).shardTimeout * 100000000 ≤ b.now) : b.shardTimeout ld i = b.endAttempt ld i true := by
  simp only [Block.shardTimeout, hx]
  exact if_pos ⟨hp, hshort, hlate⟩

/-- A shard that has landed whole, by its digest and its source (R390). -/
theorem Block.hashDone_of_landed (hwhole : x.landed = b.shardLen (b.load ld) i) {good : Prop} [Decidable good]
    (hgood : good = (sha256 (b.mem.read (b.shardDest (b.load ld) i) (b.shardLen (b.load ld) i)) = b.shardDigest (b.load ld) i)) :
    b.hashDone ld i = if good then
        if x.src = 3 then b.shardVerified ld i x
        else (b.setShard ld i { x with phase := .freezing }).askFreeze (.shard ld i x.begun) 1 (b.shardDest (b.load ld) i)
          (b.shardLen (b.load ld) i / 4096)
      else b.digestBad ld i x := by
  subst hgood
  simp only [Block.hashDone, hx]
  refine (if_pos ⟨hp, hwhole⟩).trans ((if_congr ?_ rfl rfl).trans (ite_not ..))
  simp

end Landing

section Verify
variable {b : Block} {ld i : Nat} {x : Shard} (hx : b.shard? ld i = some x)
include hx

theorem Block.hashDone_of_rechecked (hp : x.phase = .recheck)
    (hgood : sha256 (b.mem.read (b.shardDest (b.load ld) i) (b.shardLen (b.load ld) i)) = b.shardDigest (b.load ld) i) :
    b.hashDone ld i = b.shardVerified ld i x := by
  simp only [Block.hashDone, hx]
  exact (if_neg fun e => absurd (hp.symm.trans e.1) (by decide)).trans ((if_pos hp).trans (if_pos (decide_eq_true hgood)))

theorem Block.shardFreezeDone_of_frozen (hp : x.phase = .freezing) (hd : b.takeDone (.shard ld i x.begun) = some 0) {c : Block}
    (hc : c = b.dropDone (.shard ld i x.begun)) : b.shardFreezeDone ld i =
      if (b.load ld).recheck then c.setShard ld i { x with phase := .recheck } else c.shardVerified ld i x := by
  subst hc
  simp only [Block.shardFreezeDone, hx, hd]
  exact if_neg (by simp [hp])

end Verify

/-! ### Member records and the end of a load (R395 to R397) -/

section Report
variable {b : Block} {ld : Nat}

theorem Block.memberRecord_of_here {m : Nat} (hst : b.ldState ld = ldREPORT) (h : b.recordHere (b.load ld) m = true) {l : Load} (hl : l = b.load ld)
    {ms here : List Nat} (hms : ms = b.loadMembers l) (hhere : here = ms.filter (b.recordHere l)) {b1 : Block}
    (h1 : b1 = b.put pgWld F.WLD_LSTAT.REPORTED here.length ld) : b.memberRecord ld m =
      if here.any (fun m => decide (b.byteAt (l.record m + 4) = 3)) then b1.loadFail ld lsMEMBER_FAILED true
      else if here.any (fun m => decide (b.mem.read (l.record m + 8) 32 ≠ l.digest) || decide (b.byteAt (l.record m + 5) ≠ l.policy)) then
        b1.loadFail ld lsMEMBER_MISMATCH true
      else if here.length = ms.length then b1.setLdState ld ldFINAL else b1 := by
  subst hl hms hhere h1
  exact (if_pos h).trans (if_neg (not_not.2 hst))

theorem Block.reportTimeout_of_late (hst : b.ldState ld = ldREPORT) (hlate : (b.load ld).since + (b.load ld).reportTimeout * 100000000 ≤ b.now)
    (hmiss : (b.loadMembers (b.load ld)).all (b.recordHere (b.load ld)) = false) :
    b.reportTimeout ld = (b.loadFail ld lsMEMBER_LOST true).reportPage pgWld 0x0C06 :=
  if_pos ⟨hst, hlate, by rw [hmiss]; rfl⟩

/-- How a load ends once every record is in. -/
theorem Block.loadFinal_of_final (hst : b.ldState ld = ldFINAL) {l : Load} (hl : l = b.load ld) {u : List Nat} (hu : u = b.unionMissing l)
    {gone : Bool} (hgone : gone = (u.any (fun i => decide (b.shardClass l i = 0)) || (!u.isEmpty && decide (l.policy = 1)))) :
    b.loadFinal ld = if gone then b.loadFail ld lsSHARD_MISSING true
      else if b.plcFree l then ((if l.plc = 0 then b else u.foldl (fun b i => b.maskExpert ld l i) b).setLdState ld ldDONE).raise pgWld 0
      else (b.loadFail ld lsPLC_BUSY true).raise pgWld 1 := by
  subst hl hu hgone
  refine (if_neg (not_not.2 hst)).trans (if_congr Iff.rfl rfl ((if_congr ?_ rfl rfl).trans (ite_not ..)))
  simp

end Report

/-- Settles O47: START and ABORT do what their words spell, an event of the loader does nothing while the page is OFF or the shard is none of
the load's, and otherwise is the branch of its operation whose condition holds. -/
theorem loadsRunTheirCourse : Obligations.LoadsRunTheirCourse := by
  unfold Obligations.LoadsRunTheirCourse
  intro s ld m shard off bytes a hlive
  refine ⟨fun h => ⟨fun hr => ?early, fun hr hno => ?refused, fun hr hi hs hrun => ?started, fun hi => ?quiet, fun hi => ?aborted⟩,
    fun hoff => ?off, fun hrun hst => ⟨fun hbad => ?failed, fun hok => ?passed⟩, fun hrun hnone => ?none, fun x hrun hx => ?shard,
    fun hrun hst => ⟨fun hhere => ?record, fun hlate hmiss => ?lost⟩, fun hrun hst => ?final⟩
  case early => exact exec_loadStart h (if_pos hr)
  case refused => exact exec_loadStart h ((if_neg hr).trans (Block.loadStart_of_refused hno))
  case started =>
    obtain ⟨hload, hmem, hxfers⟩ := Block.started_eq (b := s.blk) (ld := ld) (l := s.blk.freshLoad ld) rfl
    refine ⟨_, exec_loadStart h ((if_neg hr).trans (Block.loadStart_of_idle hi hs hrun)), Block.ldState_setLdState ldCHECK, hmem, hxfers, ?_⟩
    rw [hload]
    exact ⟨rfl, rfl, rfl, rfl, fun o ho hu hal => Block.freshLoad_desc ho hu hal, fun f hf => Block.eff_started hf⟩
  case quiet => exact exec_loadAbort h (if_pos hi)
  case aborted => exact exec_loadAbort h (if_neg (by rw [hi]; decide))
  case off =>
    simp only [List.mem_cons, List.not_mem_nil, or_false, forall_eq_or_imp, forall_eq]
    and_intros
    all_goals exact exec_of_off hlive rfl hoff
  case failed => exact exec_of_runs hlive rfl hrun (Block.loadCheckDone_of_failed hst hbad rfl rfl rfl rfl)
  case passed => exact exec_of_runs hlive rfl hrun (Block.loadCheckDone_of_passed hst hok rfl)
  case none =>
    simp only [List.mem_cons, List.not_mem_nil, or_false, forall_eq_or_imp, forall_eq]
    exact ⟨exec_of_runs hlive rfl hrun (Block.nvmeReadCpl_of_none hnone ..), exec_of_runs hlive rfl hrun (Block.nvmeReadCpl_of_none hnone ..),
      exec_of_runs hlive rfl hrun (Block.pieceLanded_of_none hnone), exec_of_runs hlive rfl hrun (Block.hashDone_of_none hnone),
      exec_of_runs hlive rfl hrun (Block.shardFreezeDone_of_none hnone), exec_of_runs hlive rfl hrun (Block.shardTimeout_of_none hnone)⟩
  case shard =>
    have hhash (hp : x.phase = .landing) (hwhole : x.landed = s.blk.shardLen (s.blk.load ld) shard.toNat) :=
      Block.hashDone_of_landed hx hp hwhole rfl
    exact ⟨fun hp hsrc => exec_of_runs hlive rfl hrun (Block.nvmeReadCpl_of_error hx hp hsrc),
      fun hp hsrc hf hlo hhi => exec_of_runs hlive rfl hrun (Block.nvmeReadCpl_of_within hx hp hsrc hf hlo hhi rfl),
      fun hp hsrc hf hpos hgot => exec_of_runs hlive rfl hrun (Block.pieceLanded_of_storage hx hp hsrc hf rfl hpos hgot),
      fun hp hsrc hmore => exec_of_runs hlive rfl hrun (Block.pieceLanded_of_relay hx hp hsrc rfl hmore),
      fun hp hwhole hgood hsrc => exec_of_runs hlive rfl hrun ((hhash hp hwhole).trans ((if_pos hgood).trans (if_neg hsrc))),
      fun hp hwhole hgood hsrc => exec_of_runs hlive rfl hrun ((hhash hp hwhole).trans ((if_pos hgood).trans (if_pos hsrc))),
      fun hp hwhole hbad => exec_of_runs hlive rfl hrun ((hhash hp hwhole).trans (if_neg hbad)),
      fun hp hd => exec_of_runs hlive rfl hrun (Block.shardFreezeDone_of_frozen hx hp hd rfl),
      fun hp hgood => exec_of_runs hlive rfl hrun (Block.hashDone_of_rechecked hx hp hgood),
      fun hp hshort hlate => exec_of_runs hlive rfl hrun (Block.shardTimeout_of_late hx hp hshort hlate)⟩
  case record => exact exec_of_runs hlive rfl hrun (Block.memberRecord_of_here hst hhere rfl rfl rfl rfl)
  case lost => exact exec_of_runs hlive rfl hrun (Block.reportTimeout_of_late hst hlate hmiss)
  case final =>
    have hend := Block.loadFinal_of_final hst rfl rfl rfl
    exact ⟨fun hgone => exec_of_runs hlive rfl hrun (hend.trans (if_pos hgone)),
      fun hgone hbusy => exec_of_runs hlive rfl hrun (hend.trans ((if_neg (by rw [hgone]; decide)).trans (if_neg (by rw [hbusy]; decide)))),
      fun hgone hfree => exec_of_runs hlive rfl hrun (hend.trans ((if_neg (by rw [hgone]; decide)).trans (if_pos hfree)))⟩

end Sys2Proof.Machine
end

section
/-! SUPPORT. Storage queue pairs, responder queue pairs and the Ethernet ports (R377, R404, R516 to R518). -/
namespace Sys2Proof.Machine

/-! ### Manifest keys and connections (R377, R404) -/

section Storage
variable {b : Block} {a : Agent}

/-- The word of WLD_MKEY_LOCK is its one field, which locks the key slots it names. -/
theorem Block.fieldsWrite_mkeyLock {mask : BitVec 4} (h : mask ≠ 0) :
    b.fieldsWrite pgWld 0x280 (b.wordWith pgWld F.WLD_MKEY_LOCK.LOCK 0 mask.toNat) a =
      b.put pgWld F.WLD_MKEY_LOCK.LOCK (b.eff pgWld F.WLD_MKEY_LOCK.LOCK ||| mask.toNat) := by
  have hword : b.wordWith pgWld F.WLD_MKEY_LOCK.LOCK 0 mask.toNat = F.WLD_MKEY_LOCK.LOCK.intoWord 0 0x280 mask.toNat :=
    (Block.wordWith_of_no_value (by decide)).trans (congrArg _ (Nat.mod_eq_of_lt mask.isLt))
  have hne : mask.toNat ≠ 0 := fun e => h (BitVec.eq_of_toNat_eq e)
  have hlock : b.mkeyLock mask.toNat = b.put pgWld F.WLD_MKEY_LOCK.LOCK (b.eff pgWld F.WLD_MKEY_LOCK.LOCK ||| mask.toNat) := by
    rw [Block.mkeyLock, Nat.mod_eq_of_lt mask.isLt]
  rw [hword, ← hlock]
  exact (Block.fieldsWrite_one_act (f := F.WLD_MKEY_LOCK.LOCK) (i := 0) (by decide) rfl (by decide)).trans
    (Block.immWrite_of_act (.inr hne) (by decide) (Field.raw_intoWord (by decide) (by decide) mask.isLt) rfl)

theorem Block.keepAlive_of_connected {t n : Nat} (h : SMap.find b.conns t = some n) :
    b.keepAlive t = ({ b with conns := SMap.set b.conns t b.now } : Block).emit (.event "nvme-keep-alive" [t]) := by
  rw [Block.keepAlive, h]

end Storage

/-! ### Responder queue pairs (R517, R518) -/

section Command
variable {s : State} {a : Agent} {b : Block}

/-- The word of ETH_QP_CMD holds an entry number and the operation. -/
theorem Block.writeWord_qpCmd (h : s.reaches 8 a) (w : Nat) :
    s.blk.writeWord 8 0x88 w a = (if bit w 12 then s.blk.qpOpen (bits w 0 10) else s.blk.qpClose (bits w 0 10)).rest := by
  rw [Block.writeWord, if_neg (Block.reaches_open h (by decide))]
  rfl

theorem exec_qpOpen (h : s.reaches 8 a) (i : Fin 1024) (hb : s.blk.qpOpen i = b) : exec (.qpOpen i a) s = .next (s.withBlk b.rest) := by
  have hentry : bits (2 ^ 12 + i.val) 0 10 = i := by unfold bits; omega
  have hopen : bit (2 ^ 12 + i.val) 12 = true := (Nat.testBit_two_pow_add_eq i 12).trans (by rw [Nat.testBit_lt_two_pow (by omega)]; rfl)
  refine exec_live h.1 rfl ((Block.writeWord_qpCmd h _).trans (congrArg Block.rest ?_))
  rw [hopen, hentry]
  exact hb

theorem exec_qpClose (h : s.reaches 8 a) (i : Fin 1024) (hb : s.blk.qpClose i = b) : exec (.qpClose i a) s = .next (s.withBlk b.rest) := by
  have hentry : bits i.val 0 10 = i := by unfold bits; omega
  have hclose : bit i.val 12 = false := Nat.testBit_lt_two_pow (by omega)
  refine exec_live h.1 rfl ((Block.writeWord_qpCmd h _).trans (congrArg Block.rest ?_))
  rw [hclose, hentry]
  exact hb

end Command

section Table
variable {b : Block} {i : Nat}

/-- An entry below RESP_MAX opens where its fields allow it. -/
theorem Block.qpOpen_of_lt (h : i < b.eff (pgEth 0) F.ETH_QP_RESV.RESP_MAX) {e : List Byte} (he : e = b.qpEntry i) : b.qpOpen i =
    if b.qpEntryOk e then
      b.setQp i { flags := field e 0 1, tenant := field e 2 2 % 4096, rkey := field e 0x0C 4, base := field e 0x10 8, len := field e 0x18 4
                  psn := field e 8 4 % 2 ^ 24, err := false, waiting := [], busy := false }
    else b.cfgReject (pgEth 0) := by
  subst he
  cases hok : b.qpEntryOk (b.qpEntry i) with
  | false => exact if_pos (.inr (by rw [hok]; rfl))
  | true => exact if_neg (by rw [hok]; simpa using h)

end Table

section Request
variable {b : Block} {i rkey : Nat} {r : QpReq} {x : Qp} (hx : SMap.find b.qps i = some x) (herr : x.err = false)
include hx herr

/-- What a request to a queue pair in order does: another PSN is a sequence error, a request that its region or its flags do not allow gets
the NAK, and any other one waits its turn. -/
theorem Block.qpRequest_eq : b.qpRequest i rkey r =
    if r.psn ≠ x.psn then b.emit (.event "rdma-sequence" [i, x.psn])
    else if rkey ≠ x.rkey ∨ x.len < r.va + r.len ∨ !bit x.flags (if r.write then 3 else 4) then b.qpNak i x r.psn
    else (b.setQp i { x with psn := (x.psn + 1) % 2 ^ 24, waiting := x.waiting ++ [r] }).qpStart i := by
  simp only [Block.qpRequest, hx]
  exact if_neg (by simp [herr])

theorem Block.qpRequest_of_refused (hp : r.psn = x.psn)
    (h : rkey ≠ x.rkey ∨ x.len < r.va + r.len ∨ bit x.flags (if r.write then 3 else 4) = false) : b.qpRequest i rkey r = b.qpNak i x r.psn := by
  rw [← Bool.not_eq_true'] at h
  exact (Block.qpRequest_eq hx herr).trans ((if_neg (not_not.2 hp)).trans (if_pos h))

theorem Block.qpRequest_of_allowed (hp : r.psn = x.psn) (hk : rkey = x.rkey) (hl : r.va + r.len ≤ x.len)
    (hf : bit x.flags (if r.write then 3 else 4) = true) : b.qpRequest i rkey r =
      (b.setQp i { x with psn := (x.psn + 1) % 2 ^ 24, waiting := x.waiting ++ [r] }).qpStart i := by
  refine (Block.qpRequest_eq hx herr).trans ((if_neg (not_not.2 hp)).trans (if_neg ?_))
  rintro (hkey | hlong | hflag)
  · exact hkey hk
  · exact absurd hlong (Nat.not_lt.2 hl)
  · simp [hf] at hflag

end Request

section Rdma
variable {s : State} {c : Instr} {f : Block → Block} {i rkey : Nat} {r : QpReq} {x : Qp}

theorem Block.rdmaWrite_eq (b : Block) (psn : BitVec 24) (va : Nat) (bytes : List Byte) : b.rdmaWrite i psn.toNat rkey va bytes =
    b.qpRequest i rkey { psn := psn.toNat, va := va, write := true, len := bytes.length, bytes := bytes } := by
  rw [Block.rdmaWrite, Nat.mod_eq_of_lt psn.isLt]

theorem Block.rdmaRead_eq (b : Block) (psn : BitVec 24) (va len : Nat) : b.rdmaRead i psn.toNat rkey va len =
    b.qpRequest i rkey { psn := psn.toNat, va := va, write := false, len := len, bytes := [] } := by
  rw [Block.rdmaRead, Nat.mod_eq_of_lt psn.isLt]

/-- A command that brings a request to a queue pair, by the request's PSN, key, range and operation. -/
theorem exec_qpRequest (hlive : s.live) (he : exec c s = .next (s.act fun b => (f b).rest)) (hf : f s.blk = s.blk.qpRequest i rkey r)
    (hx : SMap.find s.blk.qps i = some x) (herr : x.err = false) :
    (r.psn ≠ x.psn → exec c s = .next (s.withBlk (s.blk.emit (.event "rdma-sequence" [i, x.psn])).rest)) ∧
    (r.psn = x.psn → rkey ≠ x.rkey ∨ x.len < r.va + r.len ∨ bit x.flags (if r.write then 3 else 4) = false →
      exec c s = .next (s.withBlk (s.blk.qpNak i x r.psn).rest)) ∧
    (r.psn = x.psn → rkey = x.rkey → r.va + r.len ≤ x.len → bit x.flags (if r.write then 3 else 4) = true →
      exec c s = .next (s.withBlk
        ((s.blk.setQp i { x with psn := (x.psn + 1) % 2 ^ 24, waiting := x.waiting ++ [r] }).qpStart i).rest)) :=
  ⟨fun hp => exec_rest hlive he (hf.trans ((Block.qpRequest_eq hx herr).trans (if_pos hp))),
    fun hp hno => exec_rest hlive he (hf.trans (Block.qpRequest_of_refused hx herr hp hno)),
    fun hp hk hl hflag => exec_rest hlive he (hf.trans (Block.qpRequest_of_allowed hx herr hp hk hl hflag))⟩

end Rdma

/-! ### The ports (R516) -/

section Port
variable {b : Block} {p : Nat}

/-- An address asked for is the port's own one and is not 0, said of the address or of its number. -/
theorem ite_ownAddress {α : Type} {n : Nat} (ip : BitVec n) (own : Nat) (answer : Nat → α) (other : α) :
    (if own ≠ 0 ∧ ip.toNat = own then answer own else other) = if ip ≠ 0 ∧ own = ip.toNat then answer ip.toNat else other := by
  have hzero : ip.toNat ≠ 0 ↔ ip ≠ 0 := not_congr (BitVec.toNat_inj (y := 0))
  by_cases h : own = ip.toNat
  · subst h
    simp only [hzero, and_true]
  · exact (if_neg fun e => h e.2.symm).trans (if_neg fun e => h e.2).symm

theorem Block.arp_eq (ip : BitVec 32) : b.arp p ip.toNat =
    if ip ≠ 0 ∧ b.eff (pgEth p) F.ETH_IP4.IP4 = ip.toNat then b.emit (.response "arp-reply" [p, ip.toNat, b.ethMac p]) else b :=
  ite_ownAddress ip _ (fun own => b.emit (.response "arp-reply" [p, own, b.ethMac p])) b

theorem Block.neighbor_eq (ip : BitVec 128) : b.neighbor p ip.toNat =
    if ip ≠ 0 ∧ b.eff (pgEth p) F.ETH_IP6.IP6 = ip.toNat then b.emit (.response "neighbor-advert" [p, ip.toNat, b.ethMac p]) else b :=
  ite_ownAddress ip _ (fun own => b.emit (.response "neighbor-advert" [p, own, b.ethMac p])) b

end Port

/-- Settles O48: the words of LOCK and of ETH_QP_CMD do what they spell, and each request to a queue pair is the branch of `qpRequest` whose
condition holds. -/
theorem ethernetAndQueuePairs : Obligations.EthernetAndQueuePairs := by
  unfold Obligations.EthernetAndQueuePairs
  intro s i q port mask psn rkey va len bytes ip ip6 a hlive
  refine ⟨exec_live hlive rfl rfl, exec_live hlive rfl rfl, fun t ht => exec_live hlive rfl (Block.keepAlive_of_connected ht),
    fun h hmask => ?lock, fun h => ⟨fun hbig => ?refused, fun hlt => ⟨?close, ?opens⟩⟩, fun x hx herr => ?request,
    exec_live hlive rfl (Block.arp_eq ip), exec_live hlive rfl (Block.neighbor_eq ip6), exec_live hlive rfl rfl, exec_live hlive rfl rfl,
    exec_live hlive rfl rfl⟩
  case lock => exact exec_fieldWrite h rfl (by decide) (by decide) (by decide) (Block.fieldsWrite_mkeyLock hmask)
  case refused =>
    simp only [List.mem_cons, List.not_mem_nil, or_false, forall_eq_or_imp, forall_eq]
    exact ⟨exec_qpOpen h i (if_pos (.inl hbig)), exec_qpClose h i (if_pos hbig)⟩
  case close => exact exec_qpClose h i (if_neg (Nat.not_le.2 hlt))
  case opens => exact exec_qpOpen h i (Block.qpOpen_of_lt hlt rfl)
  case request =>
    have hwrite := exec_qpRequest (c := .rdmaWrite i psn rkey va bytes) hlive rfl (Block.rdmaWrite_eq s.blk psn va.toNat bytes) hx herr
    have hread := exec_qpRequest (c := .rdmaRead i psn rkey va len) hlive rfl (Block.rdmaRead_eq s.blk psn va.toNat len.toNat) hx herr
    simp only [List.mem_cons, List.not_mem_nil, or_false, forall_eq_or_imp, forall_eq]
    exact ⟨hwrite, hread⟩

end Sys2Proof.Machine
end

section
/-! SUPPORT. Sideband inputs and outputs, rails and THERMTRIP (R428, R473, R528, R530, R534 to R537). -/
namespace Sys2Proof.Machine

section Pins
variable {s : State} {b : Block} {c : Instr} {i : Nat} {on : Bool}

/-! ### Accepted edges (R534, R535) -/

/-- The edges of an input in the last millisecond, with one that is accepted now. -/
def Block.edgesNow (b : Block) (i : Nat) : List Nat := b.now :: (b.pin i).edges.filter (fun t => decide (b.now < t + 1000000))

/-- The package once an edge of an input is accepted, before the input is treated. -/
def Block.edgeTaken (b : Block) (i : Nat) (on : Bool) : Block := b.setPin i { b.pin i with level := on, edges := b.edgesNow i }

theorem Block.pinEdge_of_same (h : (b.pin i).level = on) : b.pinEdge i on = b := if_pos h

theorem Block.pinEdge_of_few (h : (b.pin i).level ≠ on) (hfew : (b.edgesNow i).length ≤ 20) :
    b.pinEdge i on = (b.edgeTaken i on).treat i (on || b.chatters i) :=
  (if_neg h).trans (congrArg (fun d : Block => d.treat i (on || d.chatters i)) (if_neg (Nat.not_lt.2 hfew)))

theorem Block.pinEdge_of_many (h : (b.pin i).level ≠ on) (hmany : 20 < (b.edgesNow i).length) :
    b.pinEdge i on = ((b.edgeTaken i on).chatterOn i).treat i (on || ((b.edgeTaken i on).chatterOn i).chatters i) :=
  (if_neg h).trans (congrArg (fun d : Block => d.treat i (on || d.chatters i)) (if_pos hmany))

/-- A command that brings an edge of an input does nothing at that level; else it treats the input, which chatters after more than 20 edges. -/
theorem exec_pinEdge (hlive : s.live) (he : exec c s = .next (s.act fun b => b.pinEdge i on)) :
    ((s.blk.pin i).level = on → exec c s = .next (s.withBlk s.blk)) ∧
    ((s.blk.pin i).level ≠ on → (s.blk.edgesNow i).length ≤ 20 →
      exec c s = .next (s.withBlk ((s.blk.edgeTaken i on).treat i (on || s.blk.chatters i)))) ∧
    ((s.blk.pin i).level ≠ on → 20 < (s.blk.edgesNow i).length → exec c s = .next (s.withBlk
      (((s.blk.edgeTaken i on).chatterOn i).treat i (on || ((s.blk.edgeTaken i on).chatterOn i).chatters i)))) :=
  ⟨fun h => exec_live hlive he (Block.pinEdge_of_same h), fun h hfew => exec_live hlive he (Block.pinEdge_of_few h hfew),
    fun h hmany => exec_live hlive he (Block.pinEdge_of_many h hmany)⟩

/-! ### The end of chatter, and stuck pins (R535, R536) -/

theorem Block.chatterClear_of_due (hc : b.chatters i = true) (hl : (b.pin i).level = false) (hdue : (b.pin i).edges.headD 0 + 1000000 ≤ b.now) :
    b.chatterClear i = (b.putBit pgDev F.DEV_SB_CHATTER.CHATTER i false).treat i false :=
  if_pos ⟨hc, by rw [hl]; rfl, hdue⟩

theorem Block.pinStuck_of_late (ht : (b.pin i).treated = true) (hseen : (b.pin i).stuckSeen = false)
    (hlate : (b.pin i).since + 100000000 < b.now) : b.pinStuck i =
      (((b.setPin i { b.pin i with stuckSeen := true }).putBit pgDev F.DEV_SB_STUCK.STUCK i true).raise pgDev 3).reportPage pgDev 0x0003 :=
  if_pos ⟨ht, by rw [hseen]; rfl, hlate⟩

theorem Block.avsResend_eq (lost : Bool) : b.avsResend lost = b.bump pgDev (if lost then F.DEV_AVS.AVS_NACK_CNT else F.DEV_AVS.AVS_CRC_CNT) := by
  cases lost <;> rfl

end Pins

/-- Settles O50: each command finds the branch of its condition; the edges of all four inputs are one operation. -/
theorem sidebandPins : Obligations.SidebandPins := by
  unfold Obligations.SidebandPins
  intro s i n r c on lost hlive
  refine ⟨?edges, ⟨exec_live hlive rfl rfl, fun hc hl hdue => ?chatter, fun ht hseen hlate => ?stuck⟩, ?outputs,
    fun h => exec_rest hlive rfl (if_pos h), fun h => exec_rest hlive rfl (if_neg h), fun h => exec_rest hlive rfl (if_neg h),
    exec_live hlive rfl (Block.avsResend_eq lost)⟩
  case edges =>
    simp only [List.mem_cons, List.not_mem_nil, or_false, forall_eq_or_imp, forall_eq]
    exact ⟨exec_pinEdge hlive (by cases on <;> rfl), exec_pinEdge hlive (by cases on <;> rfl), exec_pinEdge hlive (by cases on <;> rfl)⟩
  case chatter => exact exec_live hlive rfl (Block.chatterClear_of_due hc hl hdue)
  case stuck => exact exec_live hlive rfl (Block.pinStuck_of_late ht hseen hlate)
  case outputs =>
    simp only [List.mem_cons, List.not_mem_nil, or_false, forall_eq_or_imp, forall_eq]
    exact ⟨⟨fun h => exec_live hlive rfl (if_pos h), fun h => exec_live hlive rfl (if_neg h)⟩,
      fun h => exec_live hlive rfl (if_pos h), fun h => exec_live hlive rfl (if_neg h)⟩

end Sys2Proof.Machine
end

section
/-! SUPPORT. The levels of the clusters and the staged fields of the power page: what the throttle reasons and a change of frequency leave of
them; and a step of the rise, against the statement about the governor (R406, R417, R420 to R423, R430). -/
namespace Sys2Proof.Machine

section BesideFreq
variable {b c d : Block} {v i : Nat} {f : Field}

/-- What the throttle reasons and a change of frequency leave alone: the levels that the clusters apply, and the staged fields of the power
page. -/
structure Block.BesideFreq (b c : Block) : Prop where
  g : c.power.g = b.power.g
  shown (f : Field) (i : Nat) : f.kind ≠ .imm → c.shown pgPwr f i = b.shown pgPwr f i

theorem Block.BesideFreq.of_pages (hg : c.power.g = b.power.g) (hpages : c.pages = b.pages) : b.BesideFreq c where
  g := hg
  shown f i _ := by
    have hpage : c.page pgPwr = b.page pgPwr := by rw [Block.page, Block.page, hpages]
    rw [Block.shown_eq, Block.shown_eq, Block.hdr, Block.hdr, hpage]

theorem Block.besideFreq_setPwr {x : Power} (hg : x.g = b.power.g := by rfl) : b.BesideFreq (b.setPwr x) := .of_pages hg rfl

theorem Block.BesideFreq.trans (h : b.BesideFreq c) (h' : c.BesideFreq d) : b.BesideFreq d :=
  ⟨h'.g.trans h.g, fun f i hf => (h'.shown f i hf).trans (h.shown f i hf)⟩

theorem Block.besideFreq_put : b.BesideFreq (b.put pgPwr f v i) := ⟨rfl, fun _ _ hg => Block.shown_put_of_staged hg⟩

theorem Block.besideFreq_showMin : b.BesideFreq b.showMin := Block.besideFreq_put

theorem Block.besideFreq_coreVolt : b.BesideFreq (b.coreVolt v) := .of_pages rfl rfl

theorem Block.besideFreq_raise : b.BesideFreq (b.raise pgPwr v) where
  g := by obtain ⟨ps, o, e, h⟩ := Block.raise_eq (b := b) (p := pgPwr) (i := v); rw [h]
  shown f i _ := by rw [Block.shown_eq, Block.shown_eq, Block.hdr_raise, if_pos rfl, Block.page_raise]

theorem Block.besideFreq_reportPage : b.BesideFreq (b.reportPage pgPwr v) where
  g := rfl
  shown f i _ := by
    have hpage : (b.reportPage pgPwr v).page pgPwr = { b.page pgPwr with hdr := (b.hdr pgPwr).summarise v (codeSev v) } :=
      Block.page_modHdr_same b pgPwr fun h => h.summarise v (codeSev v)
    rw [Block.shown_eq, Block.shown_eq, Block.hdr, hpage]
    rfl

theorem Block.besideFreq_trace {kind code pg isl n : Nat} {part : Option Nat} : b.BesideFreq (b.trace kind code pg isl part n) :=
  .of_pages (by unfold Block.trace; split <;> rfl) (Block.trace_pages ..)

theorem Block.besideFreq_noteReasons : b.BesideFreq b.noteReasons := by
  unfold Block.noteReasons
  simp only []
  split
  · exact Block.besideFreq_setPwr
  · exact (Block.BesideFreq.trans Block.besideFreq_setPwr Block.besideFreq_put).trans Block.besideFreq_trace

theorem Block.besideFreq_leaveBoost : b.BesideFreq b.leaveBoost :=
  ((Block.BesideFreq.trans Block.besideFreq_setPwr Block.besideFreq_put).trans Block.besideFreq_put).trans Block.besideFreq_coreVolt

theorem Block.besideFreq_abortBoost : b.BesideFreq b.abortBoost := by
  have hcounted : b.BesideFreq (((b.leaveBoost.raise pgPwr 5).bump pgPwr F.PWR_FREQ_CNT.FREQ_ABORTS).reportPage pgPwr 0x0306) :=
    ((Block.besideFreq_leaveBoost.trans Block.besideFreq_raise).trans Block.besideFreq_put).trans Block.besideFreq_reportPage
  exact (hcounted.trans Block.besideFreq_setPwr).trans Block.besideFreq_noteReasons

theorem Block.besideFreq_freqCheck : b.BesideFreq b.freqCheck := by
  unfold Block.freqCheck
  simp only []
  split
  · exact Block.besideFreq_setPwr
  · split
    · exact Block.besideFreq_abortBoost
    · exact Block.besideFreq_leaveBoost
    · exact Block.besideFreq_setPwr

end BesideFreq

/-! ### A step of the rise (R406, R417) -/

section Rise
variable {b : Block} {c : Nat}

theorem Block.power_giveLevel (g : Nat) : (b.giveLevel c g).power.g = SMap.put 16 b.power.g c g :=
  List.foldlRecOn (motive := fun d : Block => d.power.g = SMap.put 16 b.power.g c g) _ _ rfl fun _ hd _ _ => hd

/-- A step that is due stores the next level of the cluster. -/
theorem Block.power_gRiseStep (hrises : b.gOf c < b.targetOf c) (hdue : SMap.get 0 b.power.riseRef c + b.rampTime ≤ 16 * b.hearth) :
    (b.gRiseStep c).power.g = SMap.put 16 b.power.g c (b.gOf c + 1) := by
  unfold Block.gRiseStep
  simp only []
  rw [if_pos ⟨hrises, hdue⟩]
  exact ((Block.besideFreq_showMin.trans Block.besideFreq_noteReasons).trans Block.besideFreq_freqCheck).g.trans (Block.power_giveLevel _)

end Rise

/-- Two blocks that one command gives are the same. -/
theorem block_unique_of_exec {s : State} {i : Instr} {b c : Block} (hb : exec i s = .next (s.withBlk b)) (hc : exec i s = .next (s.withBlk c)) :
    b = c := congrArg State.blk (Host.Outcome.next.inj (hb.symm.trans hc))

/-- The package with two entries for cluster 0 in its map of levels, which reads as level 15, and with a step of the rise due. -/
def twiceListed : Block :=
  { blockReset.setPwr { powerReset with g := [(0, 15), (0, 3)] } with tb := { blockReset.tb with replica := 2 ^ 60 } }

/-- The cluster is one level below its target, and RAMP_TIME has passed. -/
theorem twiceListed_due : twiceListed.gOf 0 = 15 ∧ twiceListed.gOf 0 < twiceListed.targetOf 0 ∧
    SMap.get 0 twiceListed.power.riseRef 0 + twiceListed.rampTime ≤ 16 * twiceListed.hearth := by decide

/-- Level 16 is the default, so that storing it takes the first entry off, and the second one shows. -/
theorem gOf_gRiseStep_twiceListed : (twiceListed.gRiseStep 0).gOf 0 = 3 := by
  obtain ⟨-, hrises, hdue⟩ := twiceListed_due
  rw [Block.gOf, Block.power_gRiseStep hrises hdue]
  decide

/-- Refutes O49: its clause about G_RISE_STEP speaks of every map of levels, canonical or not, and where the map lists a cluster twice, the step
to level 16 uncovers the second entry. -/
theorem not_governorLoops : ¬ Obligations.GovernorLoops := by
  unfold Obligations.GovernorLoops
  intro h
  obtain ⟨-, -, ⟨hrise, -⟩, -⟩ := h (State.reset.withBlk twiceListed) 0 0 0 0 0 0 0 0 0 .host rfl
  obtain ⟨hlevel, hrises, hdue⟩ := twiceListed_due
  obtain ⟨b1, hexec, hnext, -⟩ := hrise hrises hdue
  have hmodel : exec (.gRiseStep 0) (State.reset.withBlk twiceListed) = .next ((State.reset.withBlk twiceListed).withBlk (twiceListed.gRiseStep 0)) :=
    exec_live rfl rfl rfl
  have hclaim : (twiceListed.gRiseStep 0).gOf 0 = twiceListed.gOf 0 + 1 := by
    rw [block_unique_of_exec hmodel hexec]
    exact hnext
  rw [gOf_gRiseStep_twiceListed, hlevel] at hclaim
  exact absurd hclaim (by decide)

end Sys2Proof.Machine
end

section
/-! SUPPORT. Temperatures, droop, and boost with its end (R419 to R424, R427). -/
namespace Sys2Proof.Machine

/-! ### A sample of a sensor (R427) -/

section Thermal
variable {s : State} {b : Block} {c : Nat} {t : Int}

/-- A sample that no working sensor gives. -/
def Block.badSample (b : Block) (c : Nat) (t : Int) : Bool :=
  decide (t < 0) || decide (150 < t) || (bit b.power.sampled c && decide (20 < (t - b.pw? F.PWR_CTEMP.TEMP c).natAbs))

theorem Block.badSample_iff : b.badSample c t = true ↔
    t < 0 ∨ 150 < t ∨ (bit b.power.sampled c = true ∧ 20 < (t - b.pw? F.PWR_CTEMP.TEMP c).natAbs) := by
  simp only [Block.badSample, Bool.or_eq_true, Bool.and_eq_true, decide_eq_true_eq, or_assoc]

/-- The package with a sample of a cluster on its page. -/
def Block.sensed (b : Block) (c : Nat) (t : Int) : Block :=
  (b.setPwr { b.power with sampled := setBits b.power.sampled c 1 1 }).put pgPwr F.PWR_CTEMP.TEMP (min 255 t.toNat) c

/-- What a good sample does to the cluster's thermal level. -/
def Block.thermalAdjust (b : Block) (c : Nat) (t : Int) : Block :=
  let b1 := b.sensed c t
  let g := b.pw? F.PWR_CTEMP.G_THERM c
  let target : Int := b.pw? F.PWR_THERM.THERM_TARGET
  if 105 ≤ t then ((b1.put pgPwr F.PWR_CTEMP.G_THERM 0 c).raise pgPwr 1).reportClu c 0x0302
  else if target ≤ t then b1.put pgPwr F.PWR_CTEMP.G_THERM (g - 1) c
  else if t < target - b.pw? F.PWR_THERM.THERM_HYST then b1.put pgPwr F.PWR_CTEMP.G_THERM (min 16 (g + 1)) c
  else b1

/-- What a sample does: a sensor that has failed adjusts nothing, and a bad sample fails it. -/
def Block.thermalStep (b : Block) (c : Nat) (t : Int) : Block :=
  let b1 := b.sensed c t
  if bit b.power.failed c then b1
  else if b.badSample c t then
    ((b1.setPwr { b1.power with failed := setBits b.power.failed c 1 1 }).put pgPwr F.PWR_CTEMP.G_THERM 8 c).reportClu c 0x0308
  else b.thermalAdjust c t

theorem Block.thermalLoop_eq : b.thermalLoop c t = (b.thermalStep c t).showHot.powerChanged := rfl

theorem exec_thermalLoop {c : Fin 24} {r : Block} (hlive : s.live) (hr : s.blk.thermalStep c t = r) :
    exec (.thermalLoop c t) s = .next (s.withBlk r.showHot.powerChanged) :=
  exec_live hlive rfl (Block.thermalLoop_eq.trans (congrArg (fun d : Block => d.showHot.powerChanged) hr))

/-- A good sample of a working sensor adjusts the level. -/
theorem exec_thermalLoop_of_good {c : Fin 24} {r : Block} (hlive : s.live) (hworks : bit s.blk.power.failed c = false)
    (hgood : ¬ (t < 0 ∨ 150 < t ∨ (bit s.blk.power.sampled c = true ∧ 20 < (t - s.blk.pw? F.PWR_CTEMP.TEMP c).natAbs)))
    (hr : s.blk.thermalAdjust c t = r) : exec (.thermalLoop c t) s = .next (s.withBlk r.showHot.powerChanged) :=
  exec_thermalLoop hlive ((if_neg (Bool.not_eq_true _ ▸ hworks)).trans ((if_neg fun h => hgood (Block.badSample_iff.1 h)).trans hr))

end Thermal

/-! ### Boost (R420 to R424) -/

section Boost
variable {b : Block} {t : Nat}

theorem Block.boostEntry_of_due (hf : b.power.freq = .nominal) (hok : b.boostOk = true) (ht : b.power.goodSince = some t)
    (hdue : t + b.pw? F.PWR_X_BOOST.BOOST_DWELL * 10000 ≤ b.now) : b.boostEntry =
      ((b.setPwr { b.power with freq := .entering, freqAt := b.now }).put pgPwr F.PWR_MODE.FREQ_BUSY 1).coreVolt b.vboost := by
  simp only [Block.boostEntry, ht]
  exact if_pos ⟨hf, hok, hdue⟩

theorem Block.voltSettle_of_entering (hf : b.power.freq = .entering) (hok : b.boostOk = true)
    (hdue : b.power.freqAt + b.pw? F.PWR_X_BOOST.VOLT_SETTLE * 1000 ≤ b.now) : b.voltSettle =
      (((b.setPwr { b.power with freq := .boost }).put pgPwr F.PWR_MODE.BOOST_ACTIVE 1).put pgPwr F.PWR_MODE.FREQ_BUSY 0).bump pgPwr
        F.PWR_FREQ_CNT.BOOST_ENTRIES := by
  simp only [Block.voltSettle, hf]
  exact if_pos ⟨hok, hdue⟩

theorem Block.voltSettle_of_leaving (hf : b.power.freq = .leaving) :
    b.voltSettle = (b.setPwr { b.power with freq := .nominal }).put pgPwr F.PWR_MODE.FREQ_BUSY 0 := by
  simp only [Block.voltSettle, hf]

theorem Block.boostExit_of_failed (hf : b.power.freq = .boost) (hok : b.boostOk = false) : b.boostExit = b.leaveBoost :=
  if_pos ⟨hf, by rw [hok]; rfl⟩

theorem Block.freqAbort_of_failed (hf : b.power.freq = .entering) (hok : b.boostOk = false) : b.freqAbort = b.abortBoost :=
  if_pos ⟨hf, by rw [hok]; rfl⟩

/-- An exit shows that the tiles are off the boost clock and that the frequency still changes. -/
theorem Block.leaveBoost_shows : b.leaveBoost.power.freq = .leaving ∧ b.leaveBoost.pw? F.PWR_MODE.BOOST_ACTIVE = 0 ∧
    b.leaveBoost.pw? F.PWR_MODE.FREQ_BUSY = 1 := by
  refine ⟨rfl, ?_, (Block.eff_congr (Block.coreVolt_pages _)).trans (Block.eff_put_same _ _ _ _ _ rfl)⟩
  exact (Block.eff_congr (Block.coreVolt_pages _)).trans ((Block.eff_put_of_ne _ _ _ _ _ _ _ _ (.inr (by decide))).trans
    (Block.eff_put_same _ _ _ _ _ rfl))

theorem Block.freqAbortClear_of_quiet (ht : b.power.quiet = some t) (hdue : max t (b.power.lastDroop.getD 0) + 10000 ≤ b.now) :
    b.freqAbortClear = (b.setPwr { b.power with quiet := none }).noteReasons.freqCheck := by
  simp only [Block.freqAbortClear, ht]
  exact if_pos hdue

theorem Block.boostOk_of_avsFailed (h : b.power.avsFailed = true) : b.boostOk = false := by
  simp [Block.boostOk, h]

end Boost

/-! ### FIXED_FREQ, in a word with a staged field (R28, R420, R422) -/

section Mode
variable {s : State} {b : Block} {a : Agent} {v x : Nat}

theorem fieldsAt_pwrMode : fieldsAt pgPwr 0x50 =
    [(F.PWR_MODE.FIXED_FREQ, 0), (F.PWR_MODE.VEC_GATE, 0), (F.PWR_MODE.BOOST_ACTIVE, 0), (F.PWR_MODE.FREQ_BUSY, 0)] := by decide

theorem key_fixedFreq : F.PWR_MODE.FIXED_FREQ.key 0 = 0x50 * 8 + 0 := rfl
theorem key_vecGate : F.PWR_MODE.VEC_GATE.key 0 = 0x50 * 8 + 1 := rfl

theorem Block.wordWith_fixedFreq (hv : v < 2) :
    b.wordWith pgPwr F.PWR_MODE.FIXED_FREQ 0 v = v + b.readField pgPwr F.PWR_MODE.VEC_GATE 0 * 2 := by
  have hx : b.readField pgPwr F.PWR_MODE.VEC_GATE 0 < 2 := Block.readField_lt
  have hmod : v % 2 ^ F.PWR_MODE.FIXED_FREQ.width = v := Nat.mod_eq_of_lt hv
  have hat : F.PWR_MODE.FIXED_FREQ.word 0 = 0x50 := rfl
  have hword : b.wordWith pgPwr F.PWR_MODE.FIXED_FREQ 0 v = F.PWR_MODE.FIXED_FREQ.intoWord 0 0x50 v +
      F.PWR_MODE.VEC_GATE.intoWord 0 0x50 (b.readField pgPwr F.PWR_MODE.VEC_GATE 0) := by
    simp only [Block.wordWith, hat, fieldsAt_pwrMode, hmod, List.foldl_cons, List.foldl_nil]
    rfl
  rw [hword, Field.intoWord_of_within key_fixedFreq, Field.intoWord_of_within key_vecGate]
  omega

/-- What the word spells for its two writable fields. -/
theorem raw_pwrMode (hv : v < 2) (hx : x < 2) :
    F.PWR_MODE.FIXED_FREQ.raw 0 0x50 (v + x * 2) = v ∧ F.PWR_MODE.VEC_GATE.raw 0 0x50 (v + x * 2) = x := by
  rw [Field.raw_of_within key_fixedFreq (by decide), Field.raw_of_within key_vecGate (by decide)]
  simp only [F.PWR_MODE.FIXED_FREQ, F.PWR_MODE.VEC_GATE]
  omega

theorem Block.valueOk_pwrMode {f : Field} {after : Field → Nat → Nat} (hf : f = F.PWR_MODE.FIXED_FREQ ∨ f = F.PWR_MODE.VEC_GATE)
    (hmin : f.min ≤ v) (hmax : v ≤ f.max) : b.valueOk pgPwr f 0 0x50 v after a = true := by
  have hrule : f ≠ F.PWR_X_MODEL.P_FULL := by rcases hf with rfl | rfl <;> decide
  have hpage : pageKind pgPwr = .pwr := rfl
  exact Block.valueOk_of_free rfl (by simp [Block.rangeOk, hpage, hrule]) hmin hmax

theorem Block.immWrite_fixedFreq {w : Nat} (hraw : F.PWR_MODE.FIXED_FREQ.raw 0 0x50 w = v) (hv : v < 2) :
    b.immWrite pgPwr F.PWR_MODE.FIXED_FREQ 0 0x50 w a = b.fixedFreq v := by
  have hafter : b.afterWord pgPwr 0x50 w F.PWR_MODE.FIXED_FREQ 0 = v :=
    (Block.afterWord_of_imm rfl (Field.cover_of_within key_fixedFreq (by decide))).trans hraw
  have hok : b.wordOk pgPwr 0x50 w F.PWR_MODE.FIXED_FREQ 0 a = true :=
    Block.valueOk_pwrMode (.inl rfl) (Nat.zero_le _) (by rw [hafter]; exact Nat.le_of_lt_succ hv)
  rw [Block.immWrite_rw rfl (by decide) rfl (by decide), if_neg (by simp [hok]), hafter]
  rfl

/-- The frequency is checked against the new FIXED_FREQ before the field beside it is rewritten. -/
theorem Block.fieldsWrite_fixedFreq (hv : v < 2) (hs : b.standing pgPwr [(F.PWR_MODE.VEC_GATE, 0)]) :
    b.fieldsWrite pgPwr 0x50 (b.wordWith pgPwr F.PWR_MODE.FIXED_FREQ 0 v) a = (b.fixedFreq v).rewritten pgPwr [(F.PWR_MODE.VEC_GATE, 0)] := by
  obtain ⟨hlt, hmin, hmax⟩ := hs _ List.mem_cons_self
  have hread : b.readField pgPwr F.PWR_MODE.VEC_GATE 0 = b.shown pgPwr F.PWR_MODE.VEC_GATE 0 := Block.readField_own (by decide) rfl hlt
  have hshown : (b.fixedFreq v).shown pgPwr F.PWR_MODE.VEC_GATE 0 = b.shown pgPwr F.PWR_MODE.VEC_GATE 0 :=
    (Block.besideFreq_put.trans Block.besideFreq_freqCheck).shown _ _ (by decide)
  obtain ⟨hraw, hother⟩ := raw_pwrMode hv hlt
  rw [Block.wordWith_fixedFreq hv, hread, Block.fieldsWrite_beside (by rw [fieldsAt_pwrMode]; rfl) rfl rfl rfl (by decide),
    Block.immWrite_fixedFreq hraw hv]
  refine Block.stagedWrite_standing rfl ?_ (Block.valueOk_pwrMode (.inr rfl) (hshown ▸ hmin) (hshown ▸ hmax))
  exact (Block.afterWord_of_covers (by decide) (Field.cover_of_within key_vecGate (by decide)) (hshown ▸ hlt)).trans (hother.trans hshown.symm)

theorem exec_fixedFreqWrite (u : Bool) (h : s.reaches pgPwr a) (hs : s.blk.standing pgPwr [(F.PWR_MODE.VEC_GATE, 0)]) :
    exec (.fixedFreqWrite u a) s = .next (s.withBlk ((s.blk.fixedFreq (b2n u)).rewritten pgPwr [(F.PWR_MODE.VEC_GATE, 0)]).rest) :=
  exec_fieldWrite h rfl (by decide) (by decide) (by decide) (Block.fieldsWrite_fixedFreq (by cases u <;> decide) hs)

end Mode

/-- Settles O51: a sample meets one of the ranges of R427, each command of the frequency finds the branch of its condition, and a write of
FIXED_FREQ leaves the field beside it as it reads. -/
theorem clocksFollowVoltageAndHeat : Obligations.ClocksFollowVoltageAndHeat := by
  unfold Obligations.ClocksFollowVoltageAndHeat
  intro s c temp v a hlive
  refine ⟨⟨fun hfailed => exec_thermalLoop hlive (if_pos hfailed), fun hworks => ?sample⟩,
    ⟨exec_live hlive rfl rfl, exec_live hlive rfl rfl⟩,
    fun hf hok ⟨t, ht, hdue⟩ => exec_live hlive rfl (Block.boostEntry_of_due hf hok ht hdue),
    fun hf hok hdue => exec_live hlive rfl (Block.voltSettle_of_entering hf hok hdue),
    fun hf => exec_live hlive rfl (Block.voltSettle_of_leaving hf),
    fun hf hok => exec_live hlive rfl (Block.boostExit_of_failed hf hok), fun hf hok => exec_live hlive rfl (Block.freqAbort_of_failed hf hok),
    Block.leaveBoost_shows, fun t ht hdue => exec_live hlive rfl (Block.freqAbortClear_of_quiet ht hdue),
    fun hf hdue => exec_live hlive rfl (if_pos ⟨hf, hdue⟩), Block.boostOk_of_avsFailed, fun h hs => exec_fixedFreqWrite v h hs⟩
  case sample =>
    refine ⟨fun hbad => exec_thermalLoop hlive ((if_neg (Bool.not_eq_true _ ▸ hworks)).trans (if_pos (Block.badSample_iff.2 hbad))),
      fun hgood hhot => exec_thermalLoop_of_good hlive hworks hgood (if_pos hhot),
      fun hgood hcool hover => exec_thermalLoop_of_good hlive hworks hgood ((if_neg (not_le.2 hcool)).trans (if_pos hover)),
      fun hgood hcool hunder hlow => exec_thermalLoop_of_good hlive hworks hgood ?low,
      fun hgood hcool hunder hwithin => exec_thermalLoop_of_good hlive hworks hgood ?within⟩
    case low => exact (if_neg (not_le.2 hcool)).trans ((if_neg (not_le.2 hunder)).trans (if_pos hlow))
    case within => exact (if_neg (not_le.2 hcool)).trans ((if_neg (not_le.2 hunder)).trans (if_neg (not_lt.2 hwithin)))

end Sys2Proof.Machine
end

section
/-! SUPPORT. Commands and the state as a whole: every command but the two reset inputs and the exit from reset acts on the package alone
(R471, R472), and a reset of a package that was just reset changes nothing. -/
namespace Sys2Proof.Machine

/-! ### What a command may do to the state -/

/-- Every command but the two reset inputs and the exit from reset changes the package alone, and by a function that does not see the rest. -/
theorem exec_isAct {c : Instr} (hp : c ≠ .pwrokLow) (hr : c ≠ .resetNLow) (hx : ∀ slot tbm test, c ≠ .packageResetExit slot tbm test) :
    ∃ f : Block → Block, ∀ s, exec c s = .next (s.act f) := by
  cases c with
  | pwrokLow => exact absurd rfl hp
  | resetNLow => exact absurd rfl hr
  | packageResetExit slot tbm test => exact absurd rfl (hx slot tbm test)
  | _ => exact ⟨_, fun _ => rfl⟩

/-- What a command can do to the state: one of the two reset inputs, the exit from reset, or a change of the package. -/
theorem exec_cases (c : Instr) : (∀ s, exec c s = .next s.pwrokLow) ∨ (∀ s, exec c s = .next s.resetLow) ∨
    (∃ slot tbm test, ∀ s, exec c s = .next (s.resetExit slot tbm test)) ∨ ∃ f : Block → Block, ∀ s, exec c s = .next (s.act f) := by
  by_cases hp : c = .pwrokLow
  · exact .inl fun _ => by rw [hp]; rfl
  by_cases hr : c = .resetNLow
  · exact .inr (.inl fun _ => by rw [hr]; rfl)
  by_cases hx : ∀ slot tbm test, c ≠ .packageResetExit slot tbm test
  · exact .inr (.inr (.inr (exec_isAct hp hr hx)))
  · simp only [not_forall, not_not] at hx
    obtain ⟨slot, tbm, test, rfl⟩ := hx
    exact .inr (.inr (.inl ⟨slot, tbm, test, fun _ => rfl⟩))

section Queue
variable {s : State} {q : List Instr}

theorem State.act_withPending (f : Block → Block) : ({ s with pending := q } : State).act f = { s.act f with pending := q } := by
  cases hheld : s.held with
  | true => rw [State.act_of_held hheld]; exact State.act_of_held hheld
  | false => rw [State.act_live hheld]; exact State.act_live hheld

theorem State.resetExit_withPending (slot : Nat) (tbm test : Bool) :
    ({ s with pending := q } : State).resetExit slot tbm test = { s.resetExit slot tbm test with pending := q } := by
  by_cases h : s.held = true ∨ s.blk.now = 0
  · rw [State.resetExit.eq_def s, if_pos h]; exact if_pos h
  · rw [State.resetExit.eq_def s, if_neg h]; exact if_neg h

end Queue

/-! ### A reset of the package (R471) -/

section Reset
variable (b : Block) (power : Bool)

/-- What a reset leaves before the THERMTRIP latch is put back. -/
def Block.wiped : Block :=
  { blockReset with
    out := b.out, fresh := b.fresh, slotId := b.slotId, tbmEn := b.tbmEn, testMode := b.testMode
    pcie := { pcieReset with inReset := b.pcie.inReset }
    boot := { bootReset with fuses := if power then none else b.boot.fuses, burnRevoke := b.boot.burnRevoke, burnSvn := b.boot.burnSvn } }

/-- The THERMTRIP latch, set. -/
def Block.tripped : Block := (b.put pgDev F.DEV_SB_LEVEL.THERMTRIP_OUT 1).put pgDev F.DEV_SB_LEVEL.THERMTRIP_PAD 1

@[simp] theorem Block.wiped_wiped : (b.wiped power).wiped power = b.wiped power := by cases power <;> rfl
@[simp] theorem Block.wiped_tripped : b.tripped.wiped power = b.wiped power := rfl
@[simp] theorem Block.trip_wiped : (b.wiped power).eff pgDev F.DEV_SB_LEVEL.THERMTRIP_OUT = 0 := rfl
@[simp] theorem Block.trip_tripped : b.tripped.eff pgDev F.DEV_SB_LEVEL.THERMTRIP_OUT = 1 :=
  (Block.eff_put_of_ne _ _ _ _ _ _ _ _ (.inr (by decide))).trans (Block.eff_put_same _ _ _ _ _ rfl)

theorem Block.reset_of_power : b.reset true = b.wiped true := rfl
theorem Block.reset_of_trip (h : b.eff pgDev F.DEV_SB_LEVEL.THERMTRIP_OUT = 1) : b.reset false = (b.wiped false).tripped := if_pos h
theorem Block.reset_of_no_trip (h : b.eff pgDev F.DEV_SB_LEVEL.THERMTRIP_OUT ≠ 1) : b.reset false = b.wiped false := if_neg h

/-- A reset wipes the package, and may set the THERMTRIP latch again. -/
theorem Block.reset_cases : b.reset power = b.wiped power ∨ b.reset power = (b.wiped power).tripped := by
  cases power with
  | true => exact .inl (b.reset_of_power)
  | false =>
    by_cases h : b.eff pgDev F.DEV_SB_LEVEL.THERMTRIP_OUT = 1
    · exact .inr (b.reset_of_trip h)
    · exact .inl (b.reset_of_no_trip h)

/-- A second reset of the same kind changes nothing. -/
theorem Block.reset_reset : (b.reset power).reset power = b.reset power := by
  cases power with
  | true => rw [Block.reset_of_power, Block.reset_of_power, Block.wiped_wiped]
  | false =>
    by_cases h : b.eff pgDev F.DEV_SB_LEVEL.THERMTRIP_OUT = 1
    · rw [Block.reset_of_trip b h, Block.reset_of_trip _ (Block.trip_tripped _), Block.wiped_tripped, Block.wiped_wiped]
    · rw [Block.reset_of_no_trip b h, Block.reset_of_no_trip _ (by simp), Block.wiped_wiped]

/-- Rack memory, the tiles, the Scores and the frame states do not outlive a reset. -/
theorem Block.reset_empty : (b.reset power).mem = ⟨[], []⟩ ∧ (b.reset power).tiles = [] ∧ (b.reset power).scores = [] ∧
    (b.reset power).frames = [] := by
  rcases b.reset_cases power with h | h <;> rw [h] <;> exact ⟨rfl, rfl, rfl, rfl⟩

end Reset

/-! ### The reset inputs (R471, R472) -/

section Inputs
variable {s : State} {f : Block → Block}

theorem State.heldReset_pwrokLow : s.pwrokLow.heldReset := fun _ => (Block.reset_reset s.blk true).symm
theorem State.heldReset_resetLow : s.resetLow.heldReset := fun _ => (Block.reset_reset s.blk s.pwrokIsLow).symm

theorem State.heldReset_of_live (h : s.live) : s.heldReset := fun hheld => absurd (h.symm.trans hheld) (by decide)

/-- A change of the package leaves a held package alone. -/
theorem State.heldReset_act (h : s.heldReset) : (s.act f).heldReset := by
  intro hheld
  rw [State.act_held] at hheld
  rw [State.act_of_held hheld]
  exact h hheld

/-- The exit from reset leaves a package that is not held, or changes nothing. -/
theorem State.heldReset_resetExit (h : s.heldReset) (slot : Nat) (tbm test : Bool) : (s.resetExit slot tbm test).heldReset := by
  by_cases hexit : s.held = true ∨ s.blk.now = 0
  · exact State.heldReset_of_live (State.resetExit_live s slot tbm test hexit)
  · rwa [State.resetExit, if_neg hexit]

/-- The queue of waiting commands says nothing about a held package. -/
theorem State.heldReset_withPending {q : List Instr} (h : s.heldReset) : ({ s with pending := q } : State).heldReset := h

/-- Every command keeps a held package as its reset left it. -/
theorem exec_keeps_heldReset {c : Instr} {t : State} (h : s.heldReset) (he : exec c s = .next t) : t.heldReset := by
  rcases exec_cases c with hc | hc | ⟨slot, tbm, test, hc⟩ | ⟨f, hc⟩
  all_goals
    rw [hc, Host.Outcome.next.injEq] at he
    subst he
  · exact State.heldReset_pwrokLow
  · exact State.heldReset_resetLow
  · exact State.heldReset_resetExit h slot tbm test
  · exact State.heldReset_act h

end Inputs

/-! ### The statements -/

/-- Settles O5: the commands keep the invariant, and a step with an empty queue acts on the package as a command does. -/
theorem heldPackageStaysReset : Obligations.HeldPackageStaysReset := by
  unfold Obligations.HeldPackageStaysReset
  intro s t h hstep
  unfold step at hstep
  split at hstep
  case h_1 =>
    rw [Host.Outcome.next.injEq] at hstep
    exact hstep ▸ State.heldReset_act h
  case h_2 => exact exec_keeps_heldReset (State.heldReset_withPending h) hstep

/-- Settles O4: the other commands act on the package, which takes nothing while it is held. -/
theorem heldPackageTakesNoCommand : Obligations.HeldPackageTakesNoCommand := by
  unfold Obligations.HeldPackageTakesNoCommand
  intro c s hheld hp hr hx
  obtain ⟨f, hf⟩ := exec_isAct hp hr hx
  rw [hf, State.act_of_held hheld]

/-- Settles O3, by what a command can do to the state. -/
theorem everyCommandAnswers : Obligations.EveryCommandAnswers := by
  unfold Obligations.EveryCommandAnswers
  intro c s
  rcases exec_cases c with hc | hc | ⟨slot, tbm, test, hc⟩ | ⟨f, hc⟩
  · exact ⟨_, hc s, State.pwrokLow_pending s, fun q => hc _⟩
  · exact ⟨_, hc s, State.resetLow_pending s, fun q => hc _⟩
  · exact ⟨_, hc s, State.resetExit_pending s slot tbm test, fun q => by rw [hc, State.resetExit_withPending]⟩
  · exact ⟨_, hc s, State.act_pending s f, fun q => by rw [hc, State.act_withPending]⟩

/-- Settles O6: a reset wipes the package and is idempotent, and the exit from reset samples the straps alone. -/
theorem resetInputsReset : Obligations.ResetInputsReset := by
  unfold Obligations.ResetInputsReset
  refine ⟨State.heldReset_of_live rfl, fun s => ⟨?pwrok, ?resetN, fun slot tbm test hexit => ?exit⟩⟩
  case pwrok =>
    obtain ⟨hmem, htiles, hscores, hframes⟩ := s.blk.reset_empty true
    exact ⟨s.pwrokLow, rfl, rfl, State.heldReset_pwrokLow, hmem, htiles, hscores, hframes, Block.trip_wiped _ _⟩
  case resetN =>
    obtain ⟨hmem, htiles, hscores, hframes⟩ := s.blk.reset_empty s.pwrokIsLow
    refine ⟨s.resetLow, rfl, Bool.or_true _, State.heldReset_resetLow, hmem, htiles, hscores, hframes, fun hpower htrip => ?_⟩
    rw [State.resetLow_blk, hpower, Block.reset_of_trip _ htrip, Block.trip_tripped]
  case exit =>
    refine ⟨s.resetExit slot.val tbm test, rfl, State.resetExit_live s slot.val tbm test hexit, ?_⟩
    rw [State.resetExit, if_pos hexit]
    exact ⟨Nat.mod_eq_of_lt slot.isLt, rfl, rfl, rfl, rfl⟩

/-- Settles O1: a step on a queue that holds a command is that command. -/
theorem stepRunsTheFrontCommand : Obligations.StepRunsTheFrontCommand := by
  unfold Obligations.StepRunsTheFrontCommand
  intro c cs s hq
  rw [step, hq]

/-- Settles O59, from the laws of the byte memory. -/
theorem memoryReadsBack : Obligations.MemoryReadsBack := by
  unfold Obligations.MemoryReadsBack
  intro m a n id bs h
  exact ⟨Memory.write_wf h, Memory.blit_wf h, Memory.zero_wf h, Memory.scramble_wf h, Memory.read_write h,
    fun _ hi => Memory.byte_write_outside h hi, rfl⟩

end Sys2Proof.Machine
end

section
/-! SUPPORT. The attestation responder: what it answers while it is up, and that it is silent while it is not (R484 to R486). -/
namespace Sys2Proof.Machine

section Spdm
variable {b : Block} {o : Out} {name : String} {bs nonce : List Byte} {slot off len i : Nat} {signed : Bool}

theorem Block.spdmUp_iff : b.spdmUp = true ↔ 4 ≤ b.stage ∧ b.stage ≤ 9 := by simp [Block.spdmUp]

/-! ### A responder that is down -/

section Down
variable (h : b.spdmUp = false)
include h

theorem Block.spdm_of_down : b.spdm o = b := if_neg (by simp [h])
theorem Block.spdmSigned_of_down : b.spdmSigned name bs = b := if_neg (by simp [h])

theorem Block.spdmCertificate_of_down : b.spdmCertificate slot off len = b := by
  unfold Block.spdmCertificate
  split <;> exact Block.spdm_of_down h

theorem Block.spdmChallenge_of_down : b.spdmChallenge slot nonce = b := by
  unfold Block.spdmChallenge
  split
  · exact Block.spdm_of_down h
  · exact Block.spdmSigned_of_down h

theorem Block.spdmMeasurements_of_down : b.spdmMeasurements i signed slot = b := by
  unfold Block.spdmMeasurements
  split
  · exact Block.spdm_of_down h
  · cases signed
    · exact Block.spdm_of_down h
    · exact Block.spdmSigned_of_down h

end Down

/-! ### A responder that is up -/

section Up
variable (h : b.spdmUp = true)
include h

theorem Block.spdm_of_up : b.spdm o = b.emit o := if_pos h

/-- A signed answer holds the bytes that are signed and at most 384 more. -/
theorem Block.spdmSigned_of_up : ∃ sig : List Byte, sig.length ≤ 384 ∧
    b.spdmSigned name bs = ({ b with fresh := b.fresh + 1 } : Block).emit (.blob name (bs ++ sig)) :=
  ⟨(Config.freeBytes b.fresh).take 384, List.length_take_le .., if_pos h⟩

theorem Block.spdmAlgorithms_of_up (meas : BitVec 8) (asym hash : BitVec 32) : b.spdmAlgorithms meas.toNat asym.toNat hash.toNat =
    b.emit (.response "spdm-algorithms"
      [(meas &&& 1).toNat, if meas &&& 1 = 1 then 2 else 0, (asym &&& 4).toNat, (hash &&& 1).toNat]) := by
  have hbit : bit meas.toNat 0 = decide (meas &&& 1 = 1) := by
    rw [bit, Nat.testBit_zero]
    refine decide_eq_decide.2 (Iff.trans ?_ BitVec.toNat_inj)
    rw [BitVec.toNat_and]
    exact (Nat.and_one_is_mod meas.toNat ▸ Iff.rfl)
  rw [Block.spdmAlgorithms, Block.spdm_of_up h, hbit]
  simp only [decide_eq_true_eq, BitVec.toNat_and]
  rfl

theorem Block.spdmCertificate_of_empty (hno : slot ≠ 0 ∨ Config.certChain.length ≤ off) :
    b.spdmCertificate slot off len = b.emit (.response "spdm-error" [1]) := (if_pos hno).trans (Block.spdm_of_up h)

theorem Block.spdmCertificate_of_chain (hoff : off < Config.certChain.length) :
    b.spdmCertificate 0 off len = b.emit (.blob "spdm-certificate" ((Config.certChain.drop off).take len)) :=
  (if_neg (by simpa using hoff)).trans (Block.spdm_of_up h)

theorem Block.spdmChallenge_of_empty (hslot : slot ≠ 0) : b.spdmChallenge slot nonce = b.emit (.response "spdm-error" [1]) :=
  (if_pos hslot).trans (Block.spdm_of_up h)

theorem Block.spdmMeasurements_of_refused (hno : (signed ∧ slot ≠ 0) ∨ (10 < i ∧ i ≠ 0xFF)) :
    b.spdmMeasurements i signed slot = b.emit (.response "spdm-error" [1]) := (if_pos hno).trans (Block.spdm_of_up h)

end Up

/-- What GET_MEASUREMENTS answers for an index: the number of blocks, all of them, or one. -/
def Block.measured (b : Block) (i : Nat) : List Byte :=
  if i = 0 then [BitVec.ofNat 8 10] else if i = 0xFF then (List.range 10).flatMap (fun k => b.measurement (k + 1)) else b.measurement i

theorem Block.spdmMeasurements_unsigned (h : b.spdmUp = true) (hi : i ≤ 10 ∨ i = 0xFF) :
    b.spdmMeasurements i false slot = b.emit (.blob "spdm-measurements" (b.measured i)) :=
  (if_neg (by simp; omega)).trans (Block.spdm_of_up h)

theorem Block.spdmMeasurements_signed (hi : i ≤ 10 ∨ i = 0xFF) :
    b.spdmMeasurements i true 0 = b.spdmSigned "spdm-measurements" (b.measured i) := if_neg (by simp; omega)

theorem Block.measured_of_block (hone : 1 ≤ i) (hten : i ≤ 10) : b.measured i = b.measurement i := by
  rw [Block.measured, if_neg (by omega), if_neg (by omega)]

end Spdm

section Answers
variable {s : State} {i : BitVec 8} {slot : BitVec 4} {bs : List Byte}

/-- The two forms of an answer to GET_MEASUREMENTS, for an index that it serves. -/
theorem exec_getMeasurements (hlive : s.live) (hup : s.blk.spdmUp = true) (hi : i.toNat ≤ 10 ∨ i.toNat = 0xFF)
    (hbs : s.blk.measured i.toNat = bs) :
    exec (.getMeasurements i false slot) s = .next (s.withBlk (s.blk.emit (.blob "spdm-measurements" bs))) ∧
    ∃ sig : List Byte, sig.length ≤ 384 ∧ exec (.getMeasurements i true 0) s =
      .next (s.withBlk (({ s.blk with fresh := s.blk.fresh + 1 } : Block).emit (.blob "spdm-measurements" (bs ++ sig)))) := by
  subst hbs
  obtain ⟨sig, hlen, hsig⟩ := Block.spdmSigned_of_up (name := "spdm-measurements") (bs := s.blk.measured i.toNat) hup
  exact ⟨exec_live hlive rfl (Block.spdmMeasurements_unsigned hup hi),
    sig, hlen, exec_live hlive rfl ((Block.spdmMeasurements_signed hi).trans hsig)⟩

end Answers

/-- Settles O56: down, each request is answered by nothing; up, each finds the branch of its operands. -/
theorem responderAttests : Obligations.ResponderAttests := by
  unfold Obligations.ResponderAttests
  intro s meas i asym hash slot off len nonce signed hlive
  refine ⟨Block.spdmUp_iff, fun hdown => ?down, fun hup => ?up⟩
  case down =>
    simp only [List.mem_cons, List.not_mem_nil, or_false, forall_eq_or_imp, forall_eq]
    exact ⟨exec_live hlive rfl (Block.spdm_of_down hdown), exec_live hlive rfl (Block.spdm_of_down hdown),
      exec_live hlive rfl (Block.spdm_of_down hdown), exec_live hlive rfl (Block.spdm_of_down hdown),
      exec_live hlive rfl (Block.spdmCertificate_of_down hdown), exec_live hlive rfl (Block.spdmChallenge_of_down hdown),
      exec_live hlive rfl (Block.spdmMeasurements_of_down hdown)⟩
  case up =>
    have hslot (h : slot ≠ 0) : slot.toNat ≠ 0 := fun e => h (BitVec.eq_of_toNat_eq e)
    refine ⟨exec_live hlive rfl (Block.spdm_of_up hup), exec_live hlive rfl (Block.spdm_of_up hup),
      exec_live hlive rfl (Block.spdmAlgorithms_of_up hup meas asym hash), exec_live hlive rfl (Block.spdm_of_up hup),
      fun hno => exec_live hlive rfl (Block.spdmCertificate_of_empty hup (hno.imp_left hslot)),
      fun hoff => exec_live hlive rfl (Block.spdmCertificate_of_chain hup hoff),
      fun hne => ⟨exec_live hlive rfl (Block.spdmChallenge_of_empty hup (hslot hne)),
        exec_live hlive rfl (Block.spdmMeasurements_of_refused hup (.inl ⟨rfl, hslot hne⟩))⟩, ?challenge,
      fun hten hff => exec_live hlive rfl (Block.spdmMeasurements_of_refused hup (.inr ⟨hten, fun e => hff (BitVec.eq_of_toNat_eq e)⟩)), ?listed,
      fun hone hten => (exec_getMeasurements hlive hup (.inl hten) (Block.measured_of_block hone hten)).1⟩
    case challenge =>
      obtain ⟨sig, hlen, hsig⟩ := Block.spdmSigned_of_up (name := "spdm-challenge-auth") (bs := sha256 Config.certChain ++ nonce) hup
      exact ⟨sig, hlen, exec_live hlive rfl hsig⟩
    case listed =>
      simp only [List.mem_cons, List.not_mem_nil, or_false, forall_eq_or_imp, forall_eq]
      have hblock (k : BitVec 8) (hone : 1 ≤ k.toNat) (hten : k.toNat ≤ 10) :=
        exec_getMeasurements (slot := slot) hlive hup (.inl hten) (Block.measured_of_block hone hten)
      exact ⟨exec_getMeasurements hlive hup (.inl (by decide)) rfl, hblock 1 (by decide) (by decide), hblock 2 (by decide) (by decide),
        hblock 3 (by decide) (by decide), hblock 4 (by decide) (by decide), hblock 10 (by decide) (by decide),
        exec_getMeasurements hlive hup (.inr (by decide)) rfl⟩

end Sys2Proof.Machine
end

section
/-! SUPPORT. The PCI Express endpoint: accesses of the window, the link, the messages that wait, and the fence (R499 to R509). -/
namespace Sys2Proof.Machine

section Endpoint
variable {s : State} {b : Block} {a : Agent} {off len v speed width : Nat} {bs : List Byte}

/-! ### The endpoint in its reset (R473) -/

section InReset
variable (h : b.pcie.inReset = true)
include h

theorem Block.bar2Read_of_reset : b.bar2Read off len = b := if_pos h
theorem Block.bar2Write_of_reset : b.bar2Write off bs = b := if_pos h
theorem Block.badAccess_of_reset (isRead : Bool) : b.badAccess isRead len = b := if_pos h
theorem Block.msixControl_of_reset (en mask master masked : Bool) : b.msixControl v en mask master masked = b := if_pos h
theorem Block.pcieUp_of_reset : b.pcieUp speed width = b := if_pos (.inl h)

end InReset

/-! ### The window (R433, R479, R503 to R505) -/

section Window
variable (h : b.pcie.inReset = false)
include h

section Recovery
variable (hst : b.stage = 3)
include hst

/-- RECOVERY decodes the window onto the boot buffer. -/
theorem Block.bar2Read_of_recovery : b.bar2Read off len =
    if off + len ≤ 2 ^ 24 then b.emit (.bar2Read (Bytes.read 0 b.boot.push off len)) else b.bar2Ones len :=
  (if_neg (by simp [h])).trans (if_pos (decide_eq_true hst))

theorem Block.bar2Write_of_recovery : b.bar2Write off bs =
    if off + bs.length ≤ 2 ^ 24 then { b with boot := { b.boot with push := Bytes.write 0 b.boot.push off bs } } else b :=
  (if_neg (by simp [h])).trans (if_pos (decide_eq_true hst))

end Recovery

section Running
variable (hst : b.stage ≠ 3)
include hst

theorem Block.bar2Read_of_asleep (ha : b.asleep = true) : b.bar2Read off len = b.bar2Ones len :=
  (if_neg (by simp [h])).trans ((if_neg (by simpa [Block.inRecovery] using hst)).trans (if_pos ha))

theorem Block.bar2Read_of_awake (ha : b.asleep = false) : b.bar2Read off len = (b.newXfer
    { xfer0 (.bar2 (b.barAddr off)) .read with pieces := [{ addr := b.barAddr off, len := len, sram := 0 }], priv := true, page := pgPci }).rest :=
  (if_neg (by simp [h])).trans ((if_neg (by simpa [Block.inRecovery] using hst)).trans (if_neg (by simp [ha])))

theorem Block.bar2Write_of_closed (hno : b.asleep = true ∨ b.safe = true) :
    b.bar2Write off bs = (b.bump pgPci F.PCI_CNT0.WR_DROP_CNT).raise pgPci 0 :=
  (if_neg (by simp [h])).trans ((if_neg (by simpa [Block.inRecovery] using hst)).trans (if_pos hno))

/-- A write of this package's memory waits for the one before it. -/
theorem Block.bar2Write_of_open (ha : b.asleep = false) (hs : b.safe = false) : b.bar2Write off bs =
    if (b.localOff (b.barAddr off)).isSome = true ∧ b.barWriteOpen = true then { b with pciq := b.pciq ++ [(b.barAddr off, bs)] }
    else (b.bar2WriteStart (b.barAddr off) bs).rest :=
  (if_neg (by simp [h])).trans ((if_neg (by simpa [Block.inRecovery] using hst)).trans (if_neg (by simp [ha, hs])))

end Running

/-! ### Bad accesses, messages and the link (R499, R502, R507, R509) -/

theorem Block.badAccess_eq (isRead : Bool) {bad : Block}
    (hbad : bad = ((b.bump pgPci F.PCI_CNT1.BAD_ACC_CNT).raise pgPci 2).reportPage pgPci 0x0E06) :
    b.badAccess isRead len = if isRead then bad.emit (.read .host (List.replicate len 0xFFFFFFFF)) else bad := by
  subst hbad
  exact if_neg (by simp [h])

theorem Block.msixControl_eq (en mask master masked : Bool) : b.msixControl v en mask master masked =
    ({ b with pcie := { b.pcie with msixEn := en, funcMask := mask, busMaster := master, masked := SMap.put false b.pcie.masked v masked } } :
      Block).sendPending := if_neg (by simp [h])

/-- The link runs in FLIT mode at generation 6 alone. -/
theorem Block.pcieUp_of_down (hdown : b.pcie.linkUp = false) (speed : BitVec 4) : b.pcieUp speed.toNat width =
    (((({ b with pcie := { b.pcie with linkUp := true } } : Block).put pgPci F.PCI_LINK.SPEED speed.toNat).put pgPci F.PCI_LINK.WIDTH
      width).put pgPci F.PCI_LINK.FLIT (if speed = 6 then 1 else 0)) := by
  have hflit : b2n (decide (speed.toNat = 6)) = if speed = 6 then 1 else 0 := by
    have hiff : speed.toNat = 6 ↔ speed = 6 := BitVec.toNat_inj (y := 6)
    simp only [b2n, decide_eq_true_eq, hiff]
  rw [← hflit]
  exact if_neg (by simp [h, hdown])

end Window

theorem Block.pcieUp_of_up (hup : b.pcie.linkUp = true) : b.pcieUp speed width = b := if_pos (.inr hup)

/-! ### The fence (R505) -/

/-- The word of PCI_FENCE that writes GO does no more than what GO triggers. -/
theorem Block.fieldsWrite_fenceGo : b.fieldsWrite pgPci 0x48 (b.wordWith pgPci F.PCI_FENCE.GO 0 1) a = b.fenceGo := by
  have hword : b.wordWith pgPci F.PCI_FENCE.GO 0 1 = 1 := Block.wordWith_of_no_value (by decide)
  rw [hword]
  exact (Block.fieldsWrite_one_act (f := F.PCI_FENCE.GO) (i := 0) (by decide) rfl (by decide)).trans
    (Block.immWrite_of_act (raw := 1) (.inr (by decide)) (by decide) (by decide) rfl)

theorem exec_fenceGo {c : Block} (h : s.reaches pgPci a) (hc : s.blk.fenceGo = c) : exec (.fenceGo a) s = .next (s.withBlk c.rest) :=
  exec_fieldWrite h rfl (by decide) (by decide) (by decide) (Block.fieldsWrite_fenceGo.trans hc)

end Endpoint

/-- Settles O57: each access of the host finds the branch of the state of the endpoint, of the package and of the window. -/
theorem hostReachesThePackage : Obligations.HostReachesThePackage := by
  unfold Obligations.HostReachesThePackage
  intro s off len bytes isRead words v en mask master masked speed width a hlive
  refine ⟨fun hreset => ?inReset, fun hopen => ⟨fun hst => ?recovery, fun hst ha => ?readAsleep, fun hst ha => ?readAwake,
    fun hst hno => ?writeClosed, fun hst ha hs => ?writeOpen, ?badRead, ?badWrite, ?msix, fun hdown => ?linkUp, fun hup => ?linkStays⟩,
    fun hup => exec_live hlive rfl (if_neg (by simp [hup])), fun h => ⟨fun hbusy => ?fenceBusy, fun hfree => ?fence⟩⟩
  case inReset =>
    simp only [List.mem_cons, List.not_mem_nil, or_false, forall_eq_or_imp, forall_eq]
    exact ⟨exec_live hlive rfl (Block.bar2Read_of_reset hreset), exec_live hlive rfl (Block.bar2Write_of_reset hreset),
      exec_live hlive rfl (Block.badAccess_of_reset hreset isRead), exec_live hlive rfl (Block.msixControl_of_reset hreset en mask master masked),
      exec_live hlive rfl (Block.pcieUp_of_reset hreset)⟩
  case recovery =>
    have hread := Block.bar2Read_of_recovery (off := off.toNat) (len := len.toNat) hopen hst
    have hwrite := Block.bar2Write_of_recovery (off := off.toNat) (bs := bytes) hopen hst
    exact ⟨fun hin => exec_live hlive rfl (hread.trans (if_pos hin)), fun hout => exec_live hlive rfl (hread.trans (if_neg (Nat.not_le.2 hout))),
      fun hin => exec_live hlive rfl (hwrite.trans (if_pos hin)), fun hout => exec_live hlive rfl (hwrite.trans (if_neg (Nat.not_le.2 hout)))⟩
  case readAsleep => exact exec_live hlive rfl (Block.bar2Read_of_asleep hopen hst ha)
  case readAwake => exact exec_live hlive rfl (Block.bar2Read_of_awake hopen hst ha)
  case writeClosed => exact exec_live hlive rfl (Block.bar2Write_of_closed hopen hst hno)
  case writeOpen =>
    have hwrite := Block.bar2Write_of_open (off := off.toNat) (bs := bytes) hopen hst ha hs
    exact ⟨fun hwaits => exec_live hlive rfl (hwrite.trans (if_pos hwaits)), fun hstarts => exec_live hlive rfl (hwrite.trans (if_neg hstarts))⟩
  case badRead => exact exec_live hlive rfl ((Block.badAccess_eq hopen true rfl).trans (if_pos rfl))
  case badWrite => exact exec_live hlive rfl ((Block.badAccess_eq hopen false rfl).trans (if_neg (by decide)))
  case msix => exact exec_live hlive rfl (Block.msixControl_eq hopen en mask master masked)
  case linkUp => exact exec_live hlive rfl (Block.pcieUp_of_down hopen hdown speed)
  case linkStays => exact exec_live hlive rfl (Block.pcieUp_of_up hup)
  case fenceBusy => exact exec_fenceGo h (if_pos hbusy)
  case fence => exact exec_fenceGo h (if_neg hfree)

end Sys2Proof.Machine
end

section
/-! SUPPORT. Register messages, the I3C port and PLDM: what each request is answered, by the state that it depends on (R510 to R515). -/
namespace Sys2Proof.Machine

/-! ### Register messages (R512) -/

section Messages
variable {b : Block} {p off n : Nat} {ws : List Nat}

/-- What a register message may reach: at least one word and at most sixteen, aligned and within a page. -/
theorem msgOk_iff : msgOk p off n = true ↔ 1 ≤ n ∧ n ≤ 16 ∧ off % 4 = 0 ∧ off + 4 * n ≤ 4096 ∧ p < 4096 := by
  simp [msgOk, and_assoc]

theorem Block.length_readWords : ∀ (n off : Nat) (b : Block), (b.readWords p off n).2.length = n
  | 0, _, _ => rfl
  | n + 1, off, b => congrArg (· + 1) (Block.length_readWords n (off + 4) (b.readWord p off).1)

theorem Block.regRead_of_refused (h : ¬ msgOk p off n = true) : b.regRead p off n = b.emit (.response "register" [2]) := if_pos (by simpa using h)
theorem Block.regRead_of_ok (h : msgOk p off n = true) :
    b.regRead p off n = (b.readWords p off n).1.emit (.response "register" (0 :: (b.readWords p off n).2)) := if_neg (by simp [h])
theorem Block.regWrite_of_refused (h : ¬ msgOk p off ws.length = true) : b.regWrite p off ws = b.emit (.response "register" [2]) :=
  if_pos (by simpa using h)
theorem Block.regWrite_of_ok (h : msgOk p off ws.length = true) : b.regWrite p off ws = (b.writeWords p off ws).emit (.response "register" [0]) :=
  if_neg (by simp [h])

end Messages

/-! ### I3C (R510) -/

section I3c
variable {b : Block} {static addr : Nat}

section Held
variable (h : b.eff pgMgt F.MGT_I3C.ADDR_VALID = 1)
include h

theorem Block.entdaa_of_held : b.entdaa addr = b := if_pos h
theorem Block.setdasa_of_held : b.setdasa static addr = b := if_neg fun hno => by simp [h] at hno
theorem Block.hotJoin_of_held : b.hotJoin = b := if_pos h

end Held

section Free
variable (h : b.eff pgMgt F.MGT_I3C.ADDR_VALID = 0)
include h

theorem Block.entdaa_of_free : b.entdaa addr = b.dynAddr addr := if_neg (by simp [h])
theorem Block.setdasa_of_free : b.setdasa static addr = if static = 0x40 + b.slotId % 4 then b.dynAddr addr else b := by
  simp [Block.setdasa, Block.staticAddr, h]
theorem Block.hotJoin_of_free : b.hotJoin = b.emit (.event "hot-join" []) := if_neg (by simp [h])

end Free

end I3c

/-! ### PLDM types, versions, commands and records (R513) -/

section Pldm
variable {b : Block} {n v : Nat}

theorem Block.pldmVersion_answers (n : Nat) : ∃ l, b.pldmVersion n = b.emit (.response "pldm-version" l) ∧ (n = 5 → l = [0, 0x0101]) := by
  unfold Block.pldmVersion
  split
  · exact ⟨_, rfl, fun _ => rfl⟩
  next h5 =>
    split
    · exact ⟨_, rfl, fun e => absurd e h5⟩
    · exact ⟨_, rfl, fun e => absurd e h5⟩

/-- The commands of a type are listed where the type is one of the three that are served. -/
theorem Block.pldmCommands_answers (n : Nat) :
    ∃ l, b.pldmCommands n = b.emit (.response "pldm-commands" l) ∧ (n = 0 ∨ n = 2 ∨ n = 5 ↔ l.head? = some 0) := by
  unfold Block.pldmCommands
  split
  next h => exact ⟨_, rfl, fun _ => rfl, fun _ => .inl h⟩
  next h0 =>
    split
    next h => exact ⟨_, rfl, fun _ => rfl, fun _ => .inr (.inl h)⟩
    next h2 =>
      split
      next h => exact ⟨_, rfl, fun _ => rfl, fun _ => .inr (.inr h)⟩
      next h5 => exact ⟨_, rfl, fun hserved => by omega, fun hhead => absurd hhead (by decide)⟩

theorem Block.getPdr_answers (n : Nat) : ∃ l, b.getPdr n = b.emit (.response "pldm-pdr" l) := by
  unfold Block.getPdr
  simp only []
  split <;> exact ⟨_, rfl⟩

theorem Block.getSensor_of_some (h : b.numericSensor n = some v) : b.getSensor n = b.emit (.response "pldm-sensor" [0, n, v]) := by
  rw [Block.getSensor, h]; rfl
theorem Block.getSensor_of_none (h : b.numericSensor n = none) : b.getSensor n = b.emit (.response "pldm-sensor" [0x80, n]) := by
  rw [Block.getSensor, h]; rfl
theorem Block.getState_of_some (h : b.stateSensor n = some v) : b.getState n = b.emit (.response "pldm-state" [0, n, v]) := by
  rw [Block.getState, h]; rfl
theorem Block.getState_of_none (h : b.stateSensor n = none) : b.getState n = b.emit (.response "pldm-state" [0x80, n]) := by
  rw [Block.getState, h]; rfl

end Pldm

/-! ### The event queue (R514) -/

section Events
variable {b : Block} {x : Alarm} {l : List Alarm} {ack : Bool}

theorem Block.fcol_pldmShow : b.pldmShow.fcol = b.fcol := by
  unfold Block.pldmShow
  simp only []
  split <;> rfl

/-- The block once the first record is off the queue and the alarms that wait have entered it. -/
def Block.eventTaken (b : Block) : Block := (b.setFcol { b.fcol with pldm := b.fcol.pldm.drop 1, pldmSeq := b.fcol.pldmSeq + 1 }).pldmFill

/-- The alarms that wait enter the queue as far as it has room. -/
theorem Block.fcol_eventTaken (h : b.fcol.pldm = x :: l) : b.eventTaken.fcol.pldmSeq = b.fcol.pldmSeq + 1 ∧
    b.eventTaken.fcol.pldm = l ++ b.fcol.pldmWait.take (64 - l.length) ∧ b.eventTaken.fcol.pldmWait = b.fcol.pldmWait.drop (64 - l.length) := by
  rw [Block.eventTaken, Block.pldmFill, Block.fcol_pldmShow]
  simp [Block.setFcol, h]

theorem Block.pollEvent_of_empty (h : b.fcol.pldm = []) : b.pollEvent ack = b.emit (.response "pldm-event" [0]) := by
  have hstays : ¬ (ack = true ∧ (!b.fcol.pldm.isEmpty) = true) := by simp [h]
  simp only [Block.pollEvent, if_neg hstays]
  rw [h]
  rfl

theorem Block.pollEvent_first (hack : ack = false) (h : b.fcol.pldm = x :: l) :
    b.pollEvent ack = b.emit (.blob "pldm-event" (telRecord b.fcol.pldmSeq 0 x.count x.last x.words)) := by
  have hstays : ¬ (ack = true ∧ (!b.fcol.pldm.isEmpty) = true) := by simp [hack]
  simp only [Block.pollEvent, if_neg hstays]
  rw [h]

/-- An acknowledgement takes the first record off, and an answer follows. -/
theorem Block.pollEvent_acknowledged (hack : ack = true) (h : b.fcol.pldm = x :: l) : ∃ o, b.pollEvent ack = b.eventTaken.emit o := by
  have htaken : ack = true ∧ (!b.fcol.pldm.isEmpty) = true := ⟨hack, by simp [h]⟩
  simp only [Block.pollEvent, if_pos htaken]
  split <;> exact ⟨_, rfl⟩

end Events

/-! ### Updates over PLDM (R515) -/

section Update
variable {b : Block} {off : Nat} {bs : List Byte}

/-- An update is taken while the staging area has a place and the engine is idle. -/
abbrev Block.updFree (b : Block) : Prop := b.eff pgBoot F.BOOT_STG_BASE.STG_BASE ≠ 0 ∧ (b.updState = upIDLE ∨ b.updState = upFAILED)

theorem Block.requestUpdate_of_free (hl : b.updLocked = false) (hf : b.updFree) :
    b.requestUpdate = (b.put pgMgt F.MGT_PLDM.UPD_LOCK 1).emit (.response "pldm-request-update" [0]) :=
  if_pos ⟨hf.1, hf.2, by simp [hl]⟩

theorem Block.requestUpdate_of_refused (h : b.updLocked = true ∨ ¬ b.updFree) :
    b.requestUpdate = b.emit (.response "pldm-request-update" [0x80]) := by
  refine if_neg fun ⟨hbase, hst, hl⟩ => ?_
  rcases h with h | h
  · simp [h] at hl
  · exact h ⟨hbase, hst⟩

section Unlocked
variable (h : b.updLocked = false)
include h

theorem Block.transferComplete_of_unlocked : b.transferComplete = b.emit (.response "pldm-transfer-complete" [0x80]) := if_neg (by simp [h])
theorem Block.firmwareData_of_unlocked : b.firmwareData off bs = b.emit (.response "pldm-firmware-data" [0x80]) := if_pos (by simp [h])
theorem Block.activateFirmware_of_unlocked : b.activateFirmware = b.emit (.response "pldm-activate" [0x80]) := if_neg (by simp [h])
theorem Block.cancelUpdate_of_unlocked : b.cancelUpdate = b.emit (.response "pldm-cancel" [0x80]) := if_neg (by simp [h])

end Unlocked

section Locked
variable (h : b.updLocked = true)
include h

theorem Block.firmwareData_of_locked (hlen : off + bs.length ≤ 12582912) : b.firmwareData off bs =
    (b.privWrite (b.stgBase + off) bs).1.emit
      (.response "pldm-firmware-data" [if (b.privWrite (b.stgBase + off) bs).2 = 0 then 0 else 1]) :=
  (if_neg (by simp [h])).trans (if_neg (Nat.not_lt.2 hlen))

theorem Block.transferComplete_of_locked : b.transferComplete = (b.updVerify.emit (.response "pldm-transfer-complete" [0])).rest := if_pos h

theorem Block.activateFirmware_of_locked (hst : b.updState = upSTAGED) : b.activateFirmware =
    (({ b with upd := { b.upd with autoFlash := true } } : Block).updActivate (presentMask b.upd.image)).emit (.response "pldm-activate" [0]) :=
  if_pos ⟨h, hst⟩

theorem Block.cancelUpdate_of_locked : b.cancelUpdate =
    (if b.updState = upVERIFYING ∨ b.updState = upSTAGED ∨ b.updState = upACTIVATING then b.updAbort else b.unlockUpd).emit
      (.response "pldm-cancel" [0]) := if_pos h

end Locked

end Update

/-- Settles O58: each request is answered by the branch of the state that it depends on. -/
theorem managementIsServed : Obligations.ManagementIsServed := by
  unfold Obligations.ManagementIsServed
  intro s p off count ws t eid tid static addr type handle foff sensor bytes hlive
  have hmsg (n : Nat) : msgOk p.toNat off.toNat n = true ↔
      1 ≤ n ∧ n ≤ 16 ∧ off.toNat % 4 = 0 ∧ off.toNat + 4 * n ≤ 4096 ∧ p.toNat < 4096 := msgOk_iff
  have hwords : (ws.map BitVec.toNat).length = ws.length := List.length_map ..
  refine ⟨fun hbad => exec_live hlive rfl (Block.regRead_of_refused (mt (hmsg _).1 hbad)),
    fun hok => ⟨exec_live hlive rfl (Block.regRead_of_ok ((hmsg _).2 hok)), Block.length_readWords ..⟩,
    fun hbad => exec_live hlive rfl (Block.regWrite_of_refused (hwords ▸ mt (hmsg _).1 hbad)),
    fun hok => exec_live hlive rfl (Block.regWrite_of_ok (hwords ▸ (hmsg _).2 hok)), ?endpoint, fun hheld => ?held, fun hfree => ?free,
    exec_live hlive rfl rfl, exec_live hlive rfl rfl, exec_live hlive rfl rfl, ?version, exec_live hlive rfl rfl, ?commands, ?record,
    fun v hv => exec_live hlive rfl (Block.getSensor_of_some hv), fun hno => exec_live hlive rfl (Block.getSensor_of_none hno),
    fun v hv => exec_live hlive rfl (Block.getState_of_some hv), fun hno => exec_live hlive rfl (Block.getState_of_none hno),
    exec_live hlive rfl rfl, fun hno ack => exec_live hlive rfl (Block.pollEvent_of_empty hno),
    fun x l hq => exec_live hlive rfl (Block.pollEvent_first rfl hq), fun x l hq => ?acknowledged,
    fun hl hf => exec_live hlive rfl (Block.requestUpdate_of_free hl hf), fun hno => exec_live hlive rfl (Block.requestUpdate_of_refused hno),
    exec_live hlive rfl rfl, fun hl => ?unlocked, fun hl => ?locked⟩
  case endpoint =>
    have hzero : t.val = 0 ↔ t = 0 := Fin.val_eq_zero_iff
    exact exec_live hlive rfl (by simp only [Block.setEndpointId, hzero])
  case held =>
    simp only [List.mem_cons, List.not_mem_nil, or_false, forall_eq_or_imp, forall_eq]
    exact ⟨exec_live hlive rfl (Block.entdaa_of_held hheld), exec_live hlive rfl (Block.setdasa_of_held hheld),
      exec_live hlive rfl (Block.hotJoin_of_held hheld)⟩
  case free =>
    exact ⟨exec_live hlive rfl (Block.entdaa_of_free hfree), exec_live hlive rfl (Block.setdasa_of_free hfree),
      exec_live hlive rfl (Block.hotJoin_of_free hfree)⟩
  case version =>
    obtain ⟨l, hl, h5⟩ := Block.pldmVersion_answers (b := s.blk) type.toNat
    exact ⟨l, exec_live hlive rfl hl, fun e => h5 (by rw [e]; rfl)⟩
  case commands =>
    obtain ⟨l, hl, hserved⟩ := Block.pldmCommands_answers (b := s.blk) type.toNat
    have htype (v : BitVec 6) : type.toNat = v.toNat ↔ type = v := BitVec.toNat_inj
    exact ⟨l, exec_live hlive rfl hl, (or_congr (htype 0) (or_congr (htype 2) (htype 5))).symm.trans hserved⟩
  case record =>
    obtain ⟨l, hl⟩ := Block.getPdr_answers (b := s.blk) handle.toNat
    exact ⟨l, exec_live hlive rfl hl⟩
  case acknowledged =>
    obtain ⟨hseq, hqueue, hwait⟩ := Block.fcol_eventTaken hq
    obtain ⟨o, ho⟩ := Block.pollEvent_acknowledged rfl hq
    exact ⟨_, hseq, hqueue, hwait, o, exec_live hlive rfl ho⟩
  case unlocked =>
    exact ⟨exec_live hlive rfl (Block.transferComplete_of_unlocked hl), exec_rest hlive rfl (Block.firmwareData_of_unlocked hl),
      exec_rest hlive rfl (Block.activateFirmware_of_unlocked hl), exec_rest hlive rfl (Block.cancelUpdate_of_unlocked hl)⟩
  case locked =>
    exact ⟨fun hlen => exec_rest hlive rfl (Block.firmwareData_of_locked hl hlen), exec_live hlive rfl (Block.transferComplete_of_locked hl),
      fun hst => exec_rest hlive rfl (Block.activateFirmware_of_locked hl hst), exec_rest hlive rfl (Block.cancelUpdate_of_locked hl)⟩

end Sys2Proof.Machine
end

section
/-! SUPPORT. The fault collector: reports, parity, the history and its control word, summaries, injection and telemetry (R441 to R467). -/
namespace Sys2Proof.Machine

/-! ### Reports and parity (R443, R448) -/

section Reports
variable {b : Block} {tick : Nat} {r : Report} {l : List (Nat × Report)}

/-- FCOL takes the oldest report, if one is on its way. -/
def Block.takeReport (b : Block) : Block :=
  match b.reports with
  | [] => b
  | (tick, r) :: rest => ({ b with reports := rest } : Block).fcolTake tick r (codeSev r.code) false true 2

theorem Block.faultReport_none : b.faultReport none = b.takeReport := rfl
theorem Block.faultReport_some (h : HwFind) : b.faultReport (some h) = (b.hwFault h).takeReport := rfl

theorem Block.takeReport_of_empty (h : b.reports = []) : b.takeReport = b := by rw [Block.takeReport, h]
theorem Block.takeReport_of_cons (h : b.reports = (tick, r) :: l) :
    b.takeReport = ({ b with reports := l } : Block).fcolTake tick r (codeSev r.code) false true 2 := by rw [Block.takeReport, h]

end Reports

/-! ### The word of FLT_HCTL: two fields that act beside a staged one (R28, R447) -/

section Hctl
variable {s : State} {b c : Block} {a : Agent} {w v x : Nat} {f : Field}

theorem fieldsAt_hctl : fieldsAt pgFlt 0x74 = [(F.FLT_HCTL.UNFREEZE, 0), (F.FLT_HCTL.HIST_CORR, 0), (F.FLT_HCTL.CLEAR, 0)] := by decide

theorem key_histCorr : F.FLT_HCTL.HIST_CORR.key 0 = 0x74 * 8 + 1 := rfl

theorem Block.fieldsWrite_hctl : b.fieldsWrite pgFlt 0x74 w a =
    ((b.stagedWrite pgFlt F.FLT_HCTL.HIST_CORR 0 0x74 w true a).immWrite pgFlt F.FLT_HCTL.UNFREEZE 0 0x74 w a).immWrite pgFlt F.FLT_HCTL.CLEAR 0
      0x74 w a := by
  unfold Block.fieldsWrite
  simp only [fieldsAt_hctl]
  rfl

/-- What the word spells for HIST_CORR, whichever field that acts it names. -/
theorem raw_histCorr (hx : x < 2) : F.FLT_HCTL.HIST_CORR.raw 0 0x74 (1 + x * 2) = x ∧ F.FLT_HCTL.HIST_CORR.raw 0 0x74 (4 + x * 2) = x := by
  rw [Field.raw_of_within key_histCorr (by decide), Field.raw_of_within key_histCorr (by decide)]
  simp only [F.FLT_HCTL.HIST_CORR]
  omega

/-- What the word spells for the two fields that act. -/
theorem raw_hctl (w : Nat) : F.FLT_HCTL.UNFREEZE.raw 0 0x74 w = w % 2 ∧ F.FLT_HCTL.CLEAR.raw 0 0x74 w = w / 4 % 2 := by
  rw [Field.raw_of_within (lo := 0) rfl (by decide), Field.raw_of_within (lo := 2) rfl (by decide)]
  exact ⟨congrArg (· % 2) (Nat.div_one w), rfl⟩

section Standing
variable (hs : b.standing pgFlt [(F.FLT_HCTL.HIST_CORR, 0)])
include hs

theorem Block.histCorr_lt : b.shown pgFlt F.FLT_HCTL.HIST_CORR 0 < 2 := (hs _ List.mem_cons_self).1

/-- The word that names a field that acts, HIST_CORR standing as it reads. -/
theorem Block.wordWith_hctl (hf : f = F.FLT_HCTL.UNFREEZE ∧ v = 1 ∨ f = F.FLT_HCTL.CLEAR ∧ v = 4) :
    b.wordWith pgFlt f 0 1 = v + b.shown pgFlt F.FLT_HCTL.HIST_CORR 0 * 2 := by
  have hlt := Block.histCorr_lt hs
  have hread : b.readField pgFlt F.FLT_HCTL.HIST_CORR 0 = b.shown pgFlt F.FLT_HCTL.HIST_CORR 0 := Block.readField_own (by decide) rfl hlt
  have hword : b.wordWith pgFlt f 0 1 = v + F.FLT_HCTL.HIST_CORR.intoWord 0 0x74 (b.readField pgFlt F.FLT_HCTL.HIST_CORR 0) := by
    have hat : f.word 0 = 0x74 := by rcases hf with ⟨rfl, -⟩ | ⟨rfl, -⟩ <;> rfl
    simp only [Block.wordWith, hat, fieldsAt_hctl, List.foldl_cons, List.foldl_nil]
    rcases hf with ⟨rfl, rfl⟩ | ⟨rfl, rfl⟩ <;> rfl
  rw [hword, hread, Field.intoWord_of_within key_histCorr]
  omega

/-- The word rewrites HIST_CORR where the page takes it. -/
theorem Block.stagedWrite_histCorr (hraw : F.FLT_HCTL.HIST_CORR.raw 0 0x74 w = b.shown pgFlt F.FLT_HCTL.HIST_CORR 0) :
    b.stagedWrite pgFlt F.FLT_HCTL.HIST_CORR 0 0x74 w true a = b.rewritten pgFlt [(F.FLT_HCTL.HIST_CORR, 0)] := by
  obtain ⟨hlt, hmin, hmax⟩ := hs _ List.mem_cons_self
  exact Block.stagedWrite_standing rfl
    ((Block.afterWord_of_covers (by decide) (Field.cover_of_within key_histCorr (by decide)) hlt).trans hraw)
    (Block.valueOk_of_free rfl rfl hmin hmax)

theorem Block.fieldsWrite_unfreeze : b.fieldsWrite pgFlt 0x74 (b.wordWith pgFlt F.FLT_HCTL.UNFREEZE 0 1) a =
    (b.rewritten pgFlt [(F.FLT_HCTL.HIST_CORR, 0)]).unfreeze := by
  have hlt := Block.histCorr_lt hs
  rw [Block.fieldsWrite_hctl, Block.wordWith_hctl hs (.inl ⟨rfl, rfl⟩), Block.stagedWrite_histCorr hs (raw_histCorr hlt).1]
  generalize b.shown pgFlt F.FLT_HCTL.HIST_CORR 0 = x at hlt
  have hact : F.FLT_HCTL.UNFREEZE.raw 0 0x74 (1 + x * 2) = 1 := (raw_hctl _).1.trans (by omega)
  have hzero : F.FLT_HCTL.CLEAR.raw 0 0x74 (1 + x * 2) = 0 := (raw_hctl _).2.trans (by omega)
  rw [Block.immWrite_of_zero (f := F.FLT_HCTL.CLEAR) rfl hzero]
  exact Block.immWrite_of_act (.inr one_ne_zero) (by decide) hact rfl

theorem Block.fieldsWrite_histClear : b.fieldsWrite pgFlt 0x74 (b.wordWith pgFlt F.FLT_HCTL.CLEAR 0 1) a =
    (b.rewritten pgFlt [(F.FLT_HCTL.HIST_CORR, 0)]).histClear := by
  have hlt := Block.histCorr_lt hs
  rw [Block.fieldsWrite_hctl, Block.wordWith_hctl hs (.inr ⟨rfl, rfl⟩), Block.stagedWrite_histCorr hs (raw_histCorr hlt).2]
  generalize b.shown pgFlt F.FLT_HCTL.HIST_CORR 0 = x at hlt
  have hzero : F.FLT_HCTL.UNFREEZE.raw 0 0x74 (4 + x * 2) = 0 := (raw_hctl _).1.trans (by omega)
  have hact : F.FLT_HCTL.CLEAR.raw 0 0x74 (4 + x * 2) = 1 := (raw_hctl _).2.trans (by omega)
  rw [Block.immWrite_of_zero (f := F.FLT_HCTL.UNFREEZE) rfl hzero]
  exact Block.immWrite_of_act (.inr one_ne_zero) (by decide) hact rfl

end Standing

end Hctl

/-! ### The empty history (R447) -/

section Empty
variable {b : Block} {i v : Nat}

/-- Another field of the page leaves the history records. -/
theorem Block.record_put {f : Field} (h : f.off + f.stride * 0 < 0x100) (hw : f.lo < 32) :
    (b.put pgFlt f v).flt F.FLT_HIST.RECORD i = b.flt F.FLT_HIST.RECORD i := by
  refine Block.eff_put_of_ne _ _ _ _ _ _ _ _ (.inr ?_)
  simp only [Field.key, F.FLT_HIST.RECORD]
  omega

theorem Block.record_clear (l : List Nat) : (l.foldl (fun c k => c.put pgFlt F.FLT_HIST.RECORD 0 k) b).flt F.FLT_HIST.RECORD i =
    if i ∈ l then 0 else b.flt F.FLT_HIST.RECORD i := by
  induction l generalizing b with
  | nil => rfl
  | cons k l ih =>
    have hkey : F.FLT_HIST.RECORD.key i = F.FLT_HIST.RECORD.key k ↔ i = k := by simp only [Field.key, F.FLT_HIST.RECORD]; omega
    have hput : (b.put pgFlt F.FLT_HIST.RECORD 0 k).flt F.FLT_HIST.RECORD i = if i = k then 0 else b.flt F.FLT_HIST.RECORD i := by
      rw [Block.flt, Block.eff_put]
      simp only [hkey]
      by_cases h : i = k <;> simp [h, F.FLT_HIST.RECORD, Block.flt]
    rw [List.foldl_cons, ih, hput]
    by_cases hl : i ∈ l <;> by_cases h : i = k <;> simp [hl, h]

theorem Block.record_histClear (h : i < 32) : b.histClear.flt F.FLT_HIST.RECORD i = 0 := by
  have hcleared := (Block.record_clear (b := b) (i := i) (List.range 32)).trans (if_pos (List.mem_range.2 h))
  exact (Block.record_put (by decide) (by decide)).trans ((Block.record_put (by decide) (by decide)).trans
    ((Block.record_put (by decide) (by decide)).trans ((Block.record_put (by decide) (by decide)).trans hcleared)))

/-- The state of the history once it is cleared. -/
theorem Block.hstat_histClear : b.histClear.flt F.FLT_HSTAT.NEXT = 0 ∧ b.histClear.flt F.FLT_HSTAT.WRAPPED = 0 ∧
    b.histClear.flt F.FLT_HSTAT.FROZEN = 0 ∧ b.histClear.flt F.FLT_HLOST.HIST_LOST = 0 := by
  simp only [Block.histClear, Block.flt]
  refine ⟨?_, ?_, ?_, Block.eff_put_same _ _ _ _ _ rfl⟩
  all_goals
    simp only [Block.eff_put]
    rfl

end Empty

/-! ### Summaries (R442) -/

section Summaries
variable {s : State} {b : Block} {a : Agent} {q w : Nat}

theorem exec_sumclr {c : Instr} (h : s.reaches pgFlt a) (he : exec c s = .next (s.act fun b => b.writeWord pgFlt 0x064 w a)) {d : Block}
    (hd : (if bit w 31 then s.blk.sumClrAll else s.blk.sumClr (bits w 0 12)) = d) : exec c s = .next (s.withBlk d.rest) := by
  subst hd
  exact exec_live h.1 he ((if_neg (Block.reaches_open h (by decide))).trans (if_neg (by decide)))

/-- The number of a page leaves ALL clear. -/
theorem bits_pageNumber (p : Fin 4096) : bit p.val 31 = false ∧ bits p.val 0 12 = p.val := by
  refine ⟨Nat.testBit_lt_two_pow (p.isLt.trans (by decide)), ?_⟩
  rw [bits, pow_zero, Nat.div_one]
  exact Nat.mod_eq_of_lt p.isLt

/-- What a change of every listed value gives at a key whose default it leaves as it is. -/
theorem SMap.get_mapVals {α : Type} {f : Nat → α → α} {d : α} (k : Nat) (hd : f k d = d) (m : SMap α) :
    SMap.get d (SMap.mapVals f m) k = f k (SMap.get d m k) := by
  induction m with
  | nil => exact hd.symm
  | cons e m ih =>
    show (if k < e.1 then d else if k = e.1 then f e.1 e.2 else SMap.get d (SMap.mapVals f m) k) =
      f k (if k < e.1 then d else if k = e.1 then e.2 else SMap.get d m k)
    split
    · exact hd.symm
    · split
      next h => rw [h]
      next => exact ih

/-- A page with its summary cleared. -/
def PageRegs.sumCleared (r : PageRegs) : PageRegs := { r with hdr := { r.hdr with seen := 0, firstCode := 0 } }

/-- Every summary is cleared, and nothing else of a header. -/
theorem Block.hdr_sumClrAll : b.sumClrAll.hdr q = { b.hdr q with seen := 0, firstCode := 0 } :=
  congrArg PageRegs.hdr (SMap.get_mapVals (d := pageReset q) (f := fun _ => PageRegs.sumCleared) q rfl b.pages)

end Summaries

/-! ### Injection (R456) -/

section Injection
variable {s : State} {b : Block} {a : Agent}

theorem Block.fieldsWrite_injectGo : b.fieldsWrite pgFlt 0x148 (b.wordWith pgFlt F.FLT_INJ2.GO 0 1) a = b.injectGo := by
  have hword : b.wordWith pgFlt F.FLT_INJ2.GO 0 1 = 1 := Block.wordWith_of_no_value (by decide)
  rw [hword]
  exact (Block.fieldsWrite_one_act (f := F.FLT_INJ2.GO) (i := 0) (by decide) rfl (by decide)).trans
    (Block.immWrite_of_act (raw := 1) (.inr (by decide)) (by decide) (by decide) rfl)

theorem exec_injectGo {c : Block} (h : s.reaches pgFlt a) (hc : s.blk.injectGo = c) : exec (.injectGo a) s = .next (s.withBlk c.rest) :=
  exec_fieldWrite h rfl (by decide) (by decide) (by decide) (Block.fieldsWrite_injectGo.trans hc)

end Injection

/-- Settles O53: FCOL takes the oldest report, each register of it does what its field triggers beside the staged one, and the other commands
are the branch of their condition. -/
theorem faultsAreCollected : Obligations.FaultsAreCollected := by
  unfold Obligations.FaultsAreCollected
  intro s hw slotOk p a hlive
  have hreport (c : Block) (hc : s.blk.faultReport hw = c.takeReport) :
      (c.reports = [] → exec (.faultReport hw) s = .next (s.withBlk c.rest)) ∧
      ∀ tick r l, c.reports = (tick, r) :: l → exec (.faultReport hw) s =
        .next (s.withBlk ((({ c with reports := l } : Block).fcolTake tick r (codeSev r.code) false true 2).rest)) :=
    ⟨fun h => exec_rest hlive rfl (hc.trans (Block.takeReport_of_empty h)),
      fun tick r l h => exec_rest hlive rfl (hc.trans (Block.takeReport_of_cons h))⟩
  refine ⟨?report, exec_rest hlive rfl (if_neg (by decide)), exec_rest hlive rfl (if_pos rfl), fun h hs => ⟨?unfreeze, ?clear⟩,
    fun h => ⟨fun hres => ?sumReserved, fun hpage => ?sumPage, ?sumAll, fun hno => ?injectRefused,
      fun hen => ⟨fun hc => ?parity, fun hc => ?inject⟩⟩,
    fun hstorm hdue => exec_live hlive rfl (if_pos ⟨hstorm, hdue⟩), exec_rest hlive rfl rfl⟩
  case report =>
    cases hw with
    | none => exact hreport _ Block.faultReport_none
    | some r => exact hreport _ (Block.faultReport_some r)
  case unfreeze => exact exec_fieldWrite h rfl (by decide) (by decide) (by decide) (Block.fieldsWrite_unfreeze hs)
  case clear =>
    obtain ⟨hnext, hwrapped, hfrozen, hlost⟩ := Block.hstat_histClear (b := s.blk.rewritten pgFlt [(F.FLT_HCTL.HIST_CORR, 0)])
    exact ⟨_, exec_fieldWrite h rfl (by decide) (by decide) (by decide) (Block.fieldsWrite_histClear hs), fun i => Block.record_histClear i.isLt,
      hnext, hwrapped, hfrozen, hlost⟩
  case sumReserved =>
    obtain ⟨hall, hp⟩ := bits_pageNumber p
    exact exec_sumclr h rfl (by rw [hall, hp]; exact if_pos hres)
  case sumPage =>
    obtain ⟨hall, hp⟩ := bits_pageNumber p
    exact exec_sumclr h rfl (by rw [hall, hp]; exact if_neg hpage)
  case sumAll =>
    refine ⟨s.blk.sumClrAll, exec_sumclr h rfl (if_pos (by decide)), rfl, fun q => ?_⟩
    rw [Block.hdr_sumClrAll]
    exact ⟨rfl, rfl, rfl, rfl⟩
  case injectRefused => exact exec_injectGo h (if_pos (by simp [hno]))
  case parity => exact exec_injectGo h ((if_neg (by simp [hen])).trans (if_pos hc))
  case inject => exact exec_injectGo h ((if_neg (by simp [hen])).trans (if_neg hc))

end Sys2Proof.Machine
end

section
/-! SUPPORT. The boot sequence: its stages, what opening islands and links leaves of the boot page, the registers that act, and the burns
(R471 to R483). -/
namespace Sys2Proof.Machine

/-! ### Registers of the boot page whose one field acts (R27) -/

section Acts
variable {s : State} {b c : Block} {a : Agent} {f : Field} {n : Nat}

/-- The word of a register with one writable field that acts does what the field triggers for the value. -/
theorem Block.fieldsWrite_bootAct (hfs : (fieldsAt pgBoot (f.word 0)).filter (fun x => decide (x.1.acc ≠ .ro)) = [(f, 0)])
    (hrw : ∀ x ∈ fieldsAt pgBoot (f.word 0), x.1.acc ≠ .rw) (hf : f.kind = .imm ∧ f.acc ≠ .rw) (hlo : f.word 0 * 8 ≤ f.key 0)
    (hhi : f.key 0 + f.width ≤ f.word 0 * 8 + 32) (hn : n < 2 ^ f.width) (hact : f.acc = .wo ∧ f.width ≠ 1 ∨ n ≠ 0)
    (ht : b.trigger pgBoot f 0 n a = some c) : b.fieldsWrite pgBoot (f.word 0) (b.wordWith pgBoot f 0 n) a = c := by
  have hraw : f.raw 0 (f.word 0) (b.wordWith pgBoot f 0 n) = n := by
    rw [Block.wordWith_of_no_value hrw, Nat.mod_eq_of_lt hn]
    exact Field.raw_intoWord hlo hhi hn
  exact (Block.fieldsWrite_one_act hfs hf.1 hf.2).trans (Block.immWrite_of_act hact (fun e => absurd e.1 (by decide)) hraw ht)

section Reached
variable (h : s.reaches pgBoot a)
include h

theorem exec_bootReset (key : BitVec 16) : exec (.bootReset key a) s = .next (s.withBlk (s.blk.bootResetWrite key.toNat).rest) :=
  exec_fieldWrite h rfl (by decide) (by decide) (by decide) (Block.fieldsWrite_bootAct (f := F.BOOT_RESET.KEY) (by decide) (by decide) (by decide)
    (by decide) (by decide) key.isLt (.inl (by decide)) rfl)

theorem exec_pushGo (hc : s.blk.pushGo = c) : exec (.pushGo a) s = .next (s.withBlk c.rest) :=
  exec_fieldWrite h rfl (by decide) (by decide) (by decide) ((Block.fieldsWrite_bootAct (f := F.BOOT_PUSH_CMD.GO) (by decide) (by decide)
    (by decide) (by decide) (by decide) (by decide) (.inr one_ne_zero) rfl).trans hc)

theorem exec_revokeBurn {mask : BitVec 4} (hmask : mask ≠ 0) :
    exec (.revokeBurn mask a) s = .next (s.withBlk (s.blk.revokeBurn mask.toNat).rest) :=
  exec_fieldWrite h rfl (by decide) (by decide) (by decide) (Block.fieldsWrite_bootAct (f := F.BOOT_REVOKE.REVOKE) (by decide) (by decide)
    (by decide) (by decide) (by decide) mask.isLt (.inr fun e => hmask (BitVec.eq_of_toNat_eq e)) rfl)

theorem exec_svnBurn {svn : BitVec 7} (hc : s.blk.svnBurn svn.toNat = c) : exec (.svnBurn svn a) s = .next (s.withBlk c.rest) :=
  exec_fieldWrite h rfl (by decide) (by decide) (by decide) ((Block.fieldsWrite_bootAct (f := F.BOOT_SVN.SVN_BURN) (by decide) (by decide)
    (by decide) (by decide) (by decide) svn.isLt (.inl (by decide)) rfl).trans hc)

end Reached

end Acts

/-! ### The burns (R483) -/

section Burns
variable {b : Block} {v : Nat}

/-- A burn of revocations is refused where it would leave no valid key. -/
theorem Block.revokeBurn_eq (hv : v < 16) {all : Nat} (hall : all = b.eff pgBoot F.BOOT_FUSE.KEY_REVOKE ||| b.boot.burnRevoke ||| v) :
    b.revokeBurn v = if (List.range 4).any (fun k => bit (b.eff pgBoot F.BOOT_FUSE.KEY_VALID) k && !bit all k) = true
      then { b with boot := { b.boot with burnRevoke := b.boot.burnRevoke ||| v } } else b.cfgReject pgBoot := by
  simp only [hall, Block.revokeBurn, Nat.mod_eq_of_lt hv]

theorem Block.svnBurn_of_ahead (hv : v < 128) (h : b.eff pgBoot F.BOOT_IMG.IMG_SVN < v) : b.svnBurn v = b.cfgReject pgBoot := by
  simp only [Block.svnBurn, Nat.mod_eq_of_lt hv, if_pos h]

theorem Block.svnBurn_of_behind (hv : v < 128) (himg : v ≤ b.eff pgBoot F.BOOT_IMG.IMG_SVN) (hfuse : b.eff pgBoot F.BOOT_FUSE.SVN_FUSE < v) :
    b.svnBurn v = { b with boot := { b.boot with burnSvn := max b.boot.burnSvn v } } := by
  simp only [Block.svnBurn, Nat.mod_eq_of_lt hv, if_neg (Nat.not_lt.2 himg), if_neg (Nat.not_le.2 hfuse)]

end Burns

/-! ### What the islands and the links leave of the boot page (R339, R475) -/

/-- What opening islands and links leaves alone: the boot page and its record, the tiles and rack memory. -/
structure Block.BesideBoot (b c : Block) : Prop where
  page : c.page pgBoot = b.page pgBoot
  boot : c.boot = b.boot
  tiles : c.tiles = b.tiles
  mem : c.mem = b.mem

section BesideBoot
variable {b c d : Block} {p i n v : Nat} {f : Field}

theorem Block.BesideBoot.of_fields (hpages : c.pages = b.pages := by rfl) (hboot : c.boot = b.boot := by rfl) (htiles : c.tiles = b.tiles := by rfl)
    (hmem : c.mem = b.mem := by rfl) : b.BesideBoot c := ⟨by rw [Block.page, Block.page, hpages], hboot, htiles, hmem⟩

theorem Block.BesideBoot.refl : b.BesideBoot b := .of_fields

theorem Block.BesideBoot.trans (h : b.BesideBoot c) (h' : c.BesideBoot d) : b.BesideBoot d :=
  ⟨h'.page.trans h.page, h'.boot.trans h.boot, h'.tiles.trans h.tiles, h'.mem.trans h.mem⟩

theorem Block.BesideBoot.foldl {α : Type} {f : Block → α → Block} (h : ∀ b x, Block.BesideBoot b (f b x)) (l : List α) :
    b.BesideBoot (l.foldl f b) :=
  List.foldlRecOn (motive := fun c => b.BesideBoot c) l f .refl fun c hc x _ => hc.trans (h c x)

theorem Block.BesideBoot.eff (h : b.BesideBoot c) : c.eff pgBoot f i = b.eff pgBoot f i := by rw [Block.eff, Block.eff, h.page]

theorem Block.BesideBoot.stage (h : b.BesideBoot c) : c.stage = b.stage := h.eff

theorem Block.besideBoot_put (hp : pgBoot ≠ p) : b.BesideBoot (b.put p f v i) := ⟨(Block.page_setPage ..).trans (if_neg hp), rfl, rfl, rfl⟩

theorem Block.besideBoot_raise (hp : pgBoot ≠ p) : b.BesideBoot (b.raise p i) where
  page := Block.page_raise_of_ne hp
  boot := by obtain ⟨ps, o, e, h⟩ := Block.raise_eq (b := b) (p := p) (i := i); rw [h]
  tiles := Block.raise_tiles ..
  mem := Block.raise_mem ..

theorem Block.besideBoot_islandUp (on : Bool) : b.BesideBoot (b.islandUp i on) := by
  have hbit : b.BesideBoot (b.putBit pgDev F.DEV_ISL_UP.UP (i % 32) on (i / 32)) := Block.besideBoot_put (by decide)
  unfold Block.islandUp
  simp only []
  split
  · exact hbit.trans .of_fields
  · exact hbit

/-- Islands open, one after the other. -/
def Block.islandsUp (b : Block) (l : List Nat) : Block := l.foldl (fun b i => b.islandUp i true) b

theorem Block.besideBoot_islandsUp (l : List Nat) : b.BesideBoot (b.islandsUp l) := .foldl (fun _ _ => Block.besideBoot_islandUp true) l

theorem pgBoot_ne_pgQuad (q : Nat) : pgBoot ≠ pgQuad q := by unfold pgBoot pgQuad; omega

theorem Block.besideBoot_setLk : b.BesideBoot (b.setLk n f v) := Block.besideBoot_put (pgBoot_ne_pgQuad _)

theorem Block.besideBoot_setLink (x : LinkX) : b.BesideBoot (b.setLink n x) := .of_fields

theorem Block.besideBoot_trace {kind code pg isl detail : Nat} {part : Option Nat} : b.BesideBoot (b.trace kind code pg isl part detail) := by
  unfold Block.trace
  split
  · exact .of_fields
  · exact .refl

theorem Block.besideBoot_enterLink (st : Nat) : b.BesideBoot (b.enterLink n st) :=
  (Block.besideBoot_setLk.trans (Block.besideBoot_setLink _)).trans Block.besideBoot_trace

theorem Block.besideBoot_showLanes (up dis : Nat) : b.BesideBoot (b.showLanes n up dis) :=
  .foldl (fun _ _ => (Block.besideBoot_put (pgBoot_ne_pgQuad _)).trans (Block.besideBoot_put (pgBoot_ne_pgQuad _))) _

theorem Block.besideBoot_linkQuiet : b.BesideBoot (b.linkQuiet n) :=
  ((Block.besideBoot_setLk.trans Block.besideBoot_setLk).trans (Block.besideBoot_setLink _)).trans (Block.besideBoot_showLanes _ _)

theorem Block.besideBoot_linkOff : b.BesideBoot (b.linkOff n) := by
  have hoff := Block.besideBoot_linkQuiet.trans (Block.besideBoot_enterLink (b := b.linkQuiet n) (n := n) lsOFF)
  unfold Block.linkOff
  split
  · exact .refl
  · simp only []
    split
    · exact hoff.trans (Block.besideBoot_raise (pgBoot_ne_pgQuad _))
    · exact hoff

theorem Block.besideBoot_linkDetect : b.BesideBoot (b.linkDetect n) :=
  ((Block.besideBoot_setLk.trans (Block.besideBoot_setLink _)).trans (Block.besideBoot_showLanes _ _)).trans (Block.besideBoot_enterLink _)

theorem Block.besideBoot_linkCommit (quad : Nat) (strictOld : Nat → Nat) : b.BesideBoot (b.linkCommit quad strictOld) := by
  refine .foldl (fun c n => ?_) _
  split
  · exact Block.besideBoot_linkOff
  · split
    · exact Block.besideBoot_linkDetect
    · split
      · exact Block.besideBoot_linkDetect
      · exact .refl

end BesideBoot

/-! ### POR (R475, R482, R483) -/

section Por
variable {b : Block} {f : Fuses}

/-- The fuses as sensed, with those burned since the last POR. -/
def Block.fusedAtPor (b : Block) (f : Fuses) : Fuses :=
  { b.boot.fuses.getD f with keyRevoke := ((b.boot.fuses.getD f).keyRevoke ||| b.boot.burnRevoke) % 16
                             svn := min 64 (max (b.boot.fuses.getD f).svn b.boot.burnSvn) }

/-- The boot page shows the fuses, and ROM_LOAD begins. -/
def Block.fusesShown (b : Block) (f : Fuses) : Block :=
  (((((({ b with boot := { b.boot with fuses := some f } } : Block).put pgBoot F.BOOT_FUSE.KEY_VALID f.keyValid).put pgBoot F.BOOT_FUSE.KEY_REVOKE
    f.keyRevoke).put pgBoot F.BOOT_FUSE.SVN_FUSE f.svn).put pgBoot F.BOOT_FUSE.TEST_FUSE (b2n f.test)).put pgBoot F.BOOT_FUSE.TEST_STRAP
      (b2n b.testMode)).put pgBoot F.BOOT_SERIAL.SERIAL f.serial |>.setStage 1

theorem Block.fusesShown_fields (hsvn : f.svn < 128) : (b.fusesShown f).stage = 1 ∧
    (b.fusesShown f).eff pgBoot F.BOOT_FUSE.KEY_VALID = f.keyValid % 16 ∧
    (b.fusesShown f).eff pgBoot F.BOOT_FUSE.SVN_FUSE = f.svn ∧ (b.fusesShown f).eff pgBoot F.BOOT_FUSE.TEST_STRAP = b2n b.testMode := by
  have hstrap : b2n b.testMode % 2 ^ 1 = b2n b.testMode := by cases b.testMode <;> rfl
  simp only [Block.fusesShown, Block.stage, Block.setStage, Block.eff_put]
  exact ⟨rfl, rfl, Nat.mod_eq_of_lt hsvn, hstrap⟩

@[simp] theorem Block.put_boot {p v i : Nat} {g : Field} : (b.put p g v i).boot = b.boot := rfl

theorem Block.record_fusesShown : (b.fusesShown f).boot.fuses = some f ∧ (b.fusesShown f).mem = b.mem := by
  simp [Block.fusesShown, Block.setStage]

/-- Beside the islands that open, POR does no more than show the fuses. -/
theorem Block.besideBoot_porDone (h : b.stage = 0) : (b.fusesShown (b.fusedAtPor f)).BesideBoot (b.porDone f true) := by
  have hok : ¬ (!true) = true := by decide
  have hpor : b.porDone f true = (b.fusesShown (b.fusedAtPor f)).islandsUp ([399, 400] ++ (if b.pcie.inReset then [] else [398])) :=
    (if_neg (not_not.2 h)).trans (if_neg hok)
  rw [hpor]
  exact Block.besideBoot_islandsUp _

end Por

/-! ### FW_START (R127, R475) -/

section FwStart
variable {b : Block} {g : Nat → Tile} {k : Nat}

/-- What a map that lists consecutive keys reads at one of them. -/
theorem SMap.get_map_range' {α : Type} {d : α} {g : Nat → α} {k : Nat} : ∀ {n first : Nat}, first ≤ k → k < first + n →
    SMap.get d ((List.range' first n).map fun t => (t, g t)) k = g k
  | 0, first, hlo, hhi => by omega
  | n + 1, first, hlo, hhi => by
    show (if k < first then d else if k = first then g first else SMap.get d ((List.range' (first + 1) n).map fun t => (t, g t)) k) = g k
    rw [if_neg (Nat.not_lt.2 hlo)]
    split
    next h => rw [h]
    next h => exact SMap.get_map_range' (by omega) (by omega)

theorem Block.mem_showComponent (c : Component) : (b.showComponent c).mem = b.mem := by
  unfold Block.showComponent
  refine List.foldlRecOn (motive := fun d : Block => d.mem = b.mem) _ _ ?_ fun _ hd _ _ => hd
  simp only []
  split <;> split <;> rfl

/-- The components are loaded, and the tiles zero their memories. -/
def Block.fwLoaded (b : Block) : Block :=
  let b1 := (components b.boot.booted).foldl Block.showComponent b
  let uc := ((component? b.boot.booted 2).map (fun c => c.bytes b.boot.booted)).getD []
  { b1 with tiles := (List.range 288).map (fun t => (t, { b1.tile t with sram := [], acc := [], ucode := uc })) }

/-- The islands open, and training begins. -/
def Block.fwOpened (b : Block) : Block := (b.islandsUp ((List.range 401).filter (fun i => decide (i ≠ 398)))).setStage 5

/-- The links of every quad act on their registers. -/
def Block.fwLinked (b : Block) : Block :=
  (List.range 36).foldl (fun b q => b.linkCommit q (fun pos => b.eff (pgQuad q) F.FAB_LCFG.STRICT_SLOT pos)) b

theorem Block.fwStartDone_of_stage (h : b.stage = 4) : b.fwStartDone = b.fwLoaded.fwOpened.fwLinked := if_neg (not_not.2 h)

theorem Block.mem_fwLoaded : b.fwLoaded.mem = b.mem :=
  List.foldlRecOn (motive := fun d : Block => d.mem = b.mem) _ _ rfl fun _ hd c _ => (Block.mem_showComponent c).trans hd

theorem Block.tile_fwLoaded (h : k < 288) : (b.fwLoaded.tile k).sram = [] ∧ (b.fwLoaded.tile k).acc = [] ∧
    ∀ c, component? b.boot.booted 2 = some c → (b.fwLoaded.tile k).ucode = c.bytes b.boot.booted := by
  have htile := SMap.get_map_range' (d := tileReset) (g := fun t => { ((components b.boot.booted).foldl Block.showComponent b).tile t with
    sram := [], acc := [], ucode := ((component? b.boot.booted 2).map (fun c => c.bytes b.boot.booted)).getD [] }) (Nat.zero_le k)
    ((Nat.zero_add 288).symm ▸ h)
  rw [← List.range_eq_range'] at htile
  rw [Block.tile, Block.fwLoaded, htile]
  exact ⟨rfl, rfl, fun c hc => by rw [hc]; rfl⟩

theorem Block.besideBoot_fwLinked : b.BesideBoot b.fwLinked := .foldl (fun _ _ => Block.besideBoot_linkCommit _ _) _

theorem Block.fwOpened_fields : b.fwOpened.stage = 5 ∧ b.fwOpened.mem = b.mem ∧ b.fwOpened.tiles = b.tiles := by
  have hopen := Block.besideBoot_islandsUp (b := b) ((List.range 401).filter (fun i => decide (i ≠ 398)))
  exact ⟨Block.eff_put_same _ _ _ _ _ rfl, (Block.put_mem ..).trans hopen.mem, (Block.put_tiles ..).trans hopen.tiles⟩

end FwStart

/-! ### Training and memory (R220, R475) -/

section Train
variable {b : Block}

theorem Block.not_outside_training (hlo : 5 ≤ b.stage) (hhi : b.stage < 9) {P : Prop} (hP : ¬ P) : ¬ (b.stage < 5 ∨ 9 ≤ b.stage ∨ P) := by
  rintro (h | h | h)
  · omega
  · omega
  · exact hP h

theorem Block.fabricTrained_of_settled (hlo : 5 ≤ b.stage) (hhi : b.stage < 9) (hno : b.boot.fabTrained = false)
    (hall : ∀ n < 63, b.linkSettled n = true) : b.fabricTrained =
      ({ b with boot := { b.boot with fabTrained := true }, tb := { b.tb with trainedAt := some b.now } } : Block).setStage 7 := by
  have hsettled : (List.range 63).all b.linkSettled = true := List.all_eq_true.2 fun n hn => hall n (List.mem_range.1 hn)
  exact if_neg (Block.not_outside_training hlo hhi (by simp only [hno, hsettled]; decide))

theorem Block.memInitDone_of_trained (htrained : b.boot.memTrained = true) (hno : b.boot.memInit = false) : b.memInitDone =
    { b with boot := { b.boot with memInit := true }, mem := { undef := [], cells := [] }, poison := [], frames := [], rtags := [] } :=
  if_neg (by simp [htrained, hno])

end Train

/-! ### READY (R475 to R477) -/

section Ready
variable {b : Block}

/-- The default vectors of every page, and the power calibration of the fuses. -/
def Block.defaulted (b : Block) : Block :=
  let b1 := allPages.foldl (fun b p => b.modHdr p (fun h => { h with ivec := p })) b
  match b.boot.fuses with
  | some f => (b1.putCmt pgPwr F.PWR_X_MODEL.P_IDLE f.pIdle).putCmt pgPwr F.PWR_X_MODEL.P_FULL f.pFull
  | none => b1

theorem Block.bootFinal_of_due (hlo : 5 ≤ b.stage) (hhi : b.stage < 9) (hmem : b.boot.memInit = true) (hfab : b.boot.fabTrained = true)
    (hsync : b.sync = tbLOCKED ∨ b.sync = tbMASTER) (hgroup : ∃ g < 32, b.groupRetired g = false) : b.bootFinal =
      if b.flt F.FLT_SAFE.SAFE_STATE = sfRUN then b.defaulted.reachReady
      else ({ b.defaulted with boot := { b.defaulted.boot with readyDue := true } } : Block).setStage 8 := by
  refine if_neg (Block.not_outside_training hlo hhi ?_)
  rintro (h | h | h | h)
  · simp [hmem] at h
  · simp [hfab] at h
  · exact hsync.elim h.1 h.2
  · obtain ⟨g, hg, hno⟩ := hgroup
    simp [List.all_eq_true.1 h g (List.mem_range.2 hg)] at hno

theorem Block.reachReady_fields : b.reachReady.eff pgBoot F.BOOT_STAT.READY = 1 ∧ b.reachReady.stage = 9 := by
  have hshown (f : Field) : b.reachReady.eff pgBoot f = _ := Block.eff_raise ..
  rw [Block.stage, hshown, hshown]
  simp only [Block.eff_put]
  exact ⟨rfl, rfl⟩

theorem Block.bootLate_of_due (hready : b.eff pgBoot F.BOOT_STAT.READY ≠ 1) (hno : b.boot.late = false)
    (hdue : b.boot.start + 4000000000 ≤ b.now) :
    b.bootLate = ({ b with boot := { b.boot with late := true } } : Block).reportPage pgBoot 0x0D03 := by
  refine if_neg ?_
  rintro (h | h | h)
  · exact hready h
  · simp [hno] at h
  · omega

end Ready

/-- Settles O54: each stage of the boot is the branch of its condition; opening islands and links leaves the boot page, the tiles and rack
memory as they were loaded. -/
theorem packageBoots : Obligations.PackageBoots := by
  unfold Obligations.PackageBoots
  intro s f image failed temp key mask svn a hlive
  refine ⟨fun h => ⟨fun hkey => ?reset, fun hkey => ?noReset⟩,
    fun hst => ⟨exec_live hlive rfl ((if_neg (not_not.2 hst)).trans (if_pos rfl)), ?por⟩,
    fun hst => ⟨exec_live hlive rfl (if_neg (not_not.2 hst)), exec_live hlive rfl (if_neg (not_not.2 hst))⟩,
    fun hst => exec_live hlive rfl (if_neg (not_not.2 hst)),
    fun h => ⟨fun hst => exec_pushGo h (if_pos hst), fun hst => exec_pushGo h (if_neg (not_not.2 hst))⟩,
    fun hst => ?fwStart,
    fun hlo hhi => ⟨fun hno => ?memTrain, fun hno hall => exec_live hlive rfl (Block.fabricTrained_of_settled hlo hhi hno hall)⟩,
    fun htrained hno => exec_live hlive rfl (Block.memInitDone_of_trained htrained hno), fun hlo hhi hmem hfab hsync hgroup => ?final,
    Block.reachReady_fields, fun hready hno hdue => exec_live hlive rfl (Block.bootLate_of_due hready hno hdue),
    fun h => ⟨fun hmask => ?revoke, fun hsvn => exec_svnBurn h (Block.svnBurn_of_ahead svn.isLt hsvn),
      fun himg hfuse => exec_svnBurn h (Block.svnBurn_of_behind svn.isLt himg hfuse)⟩⟩
  case reset => rw [exec_bootReset h, Block.bootResetWrite, if_pos (by rw [hkey]; rfl)]
  case noReset =>
    have hother : ¬ key.toNat % 2 ^ 16 = 0xC0DE := fun e => hkey (BitVec.eq_of_toNat_eq ((Nat.mod_eq_of_lt key.isLt).symm.trans e))
    rw [exec_bootReset h, Block.bootResetWrite, if_neg hother]
  case por =>
    have hbeside := Block.besideBoot_porDone (f := f) hst
    have hlt : (s.blk.fusedAtPor f).svn < 128 := by simp only [Block.fusedAtPor]; omega
    obtain ⟨hstage, hvalid, hsvn, hstrap⟩ := Block.fusesShown_fields (b := s.blk) hlt
    obtain ⟨hfuses, hmem⟩ := Block.record_fusesShown (b := s.blk) (f := s.blk.fusedAtPor f)
    exact ⟨_, s.blk.fusedAtPor f, exec_live hlive rfl rfl, hbeside.stage.trans hstage, (congrArg Boot.fuses hbeside.boot).trans hfuses, rfl, rfl,
      hbeside.eff.trans hvalid, hbeside.eff.trans hsvn, hbeside.eff.trans hstrap, hbeside.mem.trans hmem⟩
  case fwStart =>
    have hlinked := Block.besideBoot_fwLinked (b := s.blk.fwLoaded.fwOpened)
    obtain ⟨hstage, hmem, htiles⟩ := Block.fwOpened_fields (b := s.blk.fwLoaded)
    have hexec : exec .fwStartDone s = .next (s.withBlk s.blk.fwLoaded.fwOpened.fwLinked) := exec_live hlive rfl (Block.fwStartDone_of_stage hst)
    refine ⟨_, hexec, hlinked.stage.trans hstage, (hlinked.mem.trans hmem).trans Block.mem_fwLoaded, fun t => ?_⟩
    rw [Block.tile_congr (hlinked.tiles.trans htiles)]
    exact Block.tile_fwLoaded t.isLt
  case memTrain => exact exec_rest hlive rfl (if_neg (Block.not_outside_training hlo hhi (by simp [hno])))
  case final =>
    have hfinal := Block.bootFinal_of_due hlo hhi hmem hfab hsync hgroup
    exact ⟨fun hrun => exec_rest hlive rfl (hfinal.trans (if_pos hrun)), fun hsafe => exec_rest hlive rfl (hfinal.trans (if_neg hsafe))⟩
  case revoke =>
    rw [exec_revokeBurn h hmask, Block.revokeBurn_eq mask.isLt rfl]

end Sys2Proof.Machine
end

section
/-! SUPPORT. A write of ACTIVATE with the reserved bit of ACT_MASK set, against the statement about updates (R487, R496). -/
namespace Sys2Proof.Machine

/-- The package right after reset, with an update over PLDM under way. -/
def lockedState : State := State.reset.withBlk (blockReset.put pgMgt F.MGT_PLDM.UPD_LOCK 1)

/-- ACT_MASK (R496). -/
def Block.actMask (b : Block) : Nat := b.eff pgBoot F.BOOT_UPD_CMD.ACT_MASK

/-- The host's writes reach the boot page, and the update engine takes commands of PLDM alone. -/
theorem lockedState_closed : lockedState.reaches pgBoot .host ∧ ¬ (Agent.host = .pldm ∨ lockedState.blk.updLocked = false) := by decide

/-- The package drops the reserved bit. -/
theorem actMask_writeWord : (lockedState.blk.writeWord pgBoot 0x088 (2 + 256 * 1) .host).actMask = 0 := by decide

/-- The refusal that the statement gives stores it. -/
theorem actMask_put : ((lockedState.blk.put pgBoot F.BOOT_UPD_CMD.ACT_MASK 1).cfgReject pgBoot).rest.actMask = 1 := by decide

/-- Refutes O55: its clause about ACTIVATE while PLDM holds the update stores ACT_MASK as it is written, but bit 0 of the field is reserved and
reads 0 after the write. -/
theorem not_updatesActivateInOrder : ¬ Obligations.UpdatesActivateInOrder := by
  unfold Obligations.UpdatesActivateInOrder
  intro h
  obtain ⟨hreach, hclosed⟩ := lockedState_closed
  obtain ⟨hwrites, -⟩ := h lockedState 1 0 0 true .host rfl
  obtain ⟨-, hactivate, -⟩ := hwrites hreach
  have hclaim : exec (.updActivate 1 .host) lockedState =
      .next (lockedState.withBlk ((lockedState.blk.put pgBoot F.BOOT_UPD_CMD.ACT_MASK 1).cfgReject pgBoot).rest) := hactivate hclosed
  have hmodel : exec (.updActivate 1 .host) lockedState =
      .next (lockedState.withBlk (lockedState.blk.writeWord pgBoot 0x088 (2 + 256 * 1) .host)) := exec_live rfl rfl rfl
  have hmask : 0 = 1 := actMask_writeWord.symm.trans ((congrArg Block.actMask (block_unique_of_exec hmodel hclaim)).trans actMask_put)
  exact absurd hmask (by decide)

end Sys2Proof.Machine
end
